-- ==== Sys2Proof/Word.lean ====
section
/-!
DEFINITION. The word types of the MX512: bytes, object words, and the keyed lists (canonical sparse
maps) that the state is held in. Everything computed from them stands under Machine/.
-/

namespace Sys2Proof

/-- A byte of a message, a record or a memory (00_scope.md R13). -/
abbrev Byte := BitVec 8

/-- A 32-bit word: counters, frame numbers, details of events. -/
abbrev Word := BitVec 32

/-- A sparse map: pairs of a key and a value, keys strictly rising. -/
abbrev SMap (α : Type) := List (Nat × α)

end Sys2Proof
end

