-- ==== Sys2Proof/Syntax.lean ====
section
/-!
DEFINITION. The commands of the MX512, one constructor of `Instr` for each row of spec/opcode_table.json, and the
types of their operands. Every command carries `t`, the instant of the step in ns since power-on (notes/assumptions/1).
-/

namespace Sys2Proof

/-- An endpoint of KPP: a UDP source address and port, or the CAN bus as a whole (02 R46). -/
inductive Endpoint where
  | udp (addr : BitVec 32) (port : BitVec 16)
  | can
  deriving DecidableEq, Repr

/-- A KPP message without its opcode: the 12-byte header of 02 (fields in order) and the payload received. -/
structure KppMsg where
  version : Byte := 1
  seq : BitVec 16 := 0
  handle : BitVec 16 := 0
  status : Byte := 0
  itemCount : Byte := 0
  payloadLength : BitVec 16 := 0
  device : BitVec 16 := 0
  payload : List Byte := []
  deriving DecidableEq, Repr

/-- The calibration measurement of one slot (07 R176): every TDC reads `u1` and `u2`, but for the ones listed as (TDC, u1, u2). -/
structure TdcCal where
  u1 : Nat
  u2 : Nat
  others : List (Nat × Nat × Nat) := []
  deriving DecidableEq, Repr

/-- The EM_ISNS reading of one port's pulse in mV (04 R110): peak and the 100 ns baseline before it. A port not listed reads 0. -/
structure Sense where
  port : Nat
  peak : Nat
  base : Nat
  deriving DecidableEq, Repr

/-- A CAN FD frame: its identifier, of 29 bits where it is extended, and its data (02 R36, R37). -/
structure CanFrame where
  extended : Bool
  id : Nat
  data : List Byte
  deriving DecidableEq, Repr

/-- What the SFDP tables of the boot flash say (20 R443): a Basic Flash Parameter Table of JESD216B or later, an xSPI profile 1.0
table, and 1-4-4 reads. -/
structure NorFlash where
  sfdp : Bool
  xspi : Bool
  fast144 : Bool
  deriving DecidableEq, Repr

/-- One SPI NOR image slot as a load finds it (20 R444, R445): header fields, and the outcome of the three cryptographic checks.
DESIGN CHOICE: notes/assumptions/12. -/
structure ImageSlot where
  magic : BitVec 32
  formatVersion : BitVec 16
  targetId : BitVec 16
  stepping : Byte
  securityVersion : Byte
  firmwareVersion : BitVec 32
  payloadLength : Nat
  entryOffset : Nat
  payloadHash : List Byte
  keyHashOk : Bool
  signatureOk : Bool
  payloadOk : Bool
  deriving DecidableEq, Repr

/-- Who reads or writes the DRAM (10 R243, R264). -/
inductive MemUser where
  | prefetch | tarnWrite | ring | readout | scrub | cuCode | cuOther | cellRecord
  deriving DecidableEq, Repr

/-- A back-channel message after its K28.5 (12 R300): 8 payload bytes and the CRC-8 received. -/
structure BackMsg where
  payload : List Byte
  crc : Byte
  deriving DecidableEq, Repr

/-- The three conversions of each housekeeping channel in a round (19 R424); channels 3 and 4 as NTC codes. A channel not listed reads 0. -/
structure RoundIn where
  ch : List (Int × Int × Int)
  deriving DecidableEq, Repr

/-- What a calibration step measures (21 R457, R461). -/
structure CalMeas where
  rext : Nat
  vcal : Nat
  outOfRange : List Nat
  deriving DecidableEq, Repr

/-- A WCU sample as the converter sees it (15 R353): microvolts above the baseline and the comparator output. -/
structure WcuSample where
  uV : Int
  comp : Bool
  deriving DecidableEq, Repr

/-- A trigger source of the WCU that is no command (15 R355, R356): the channels whose comparators were `high` at any time in this
1 GHz cycle and those that were in the cycle `before` it; a port's fire edge; an edge of a TSIN. -/
inductive WcuSource where
  | pattern (high before : List Nat)
  | laser (port : Nat)
  | tsin (input : Nat) (falling : Bool)
  deriving DecidableEq, Repr

/-- One ONFI target as identified at reset (18 R410); `entries` the journal entries it holds before the first with a wrong CRC-32, all of
them where it is none, and `pages` for an incident its pages before the first erased or uncorrectable one (R416). -/
structure FlashTarget where
  present : Bool
  paramOk : Bool
  pageBytes : Nat
  spareBytes : Nat
  blocks : Nat
  pagesPerBlock : Nat
  ddr2Mode : Nat
  ddr3Mode : Nat
  asyncMode : Nat
  factoryBad : List Nat
  entries : Option Nat := none
  pages : List (Nat × Nat) := []
  deriving DecidableEq, Repr

/-- The mirror burst of one axis (05 R122): the eight a and eight b codes, and which of the 16 samples, 0 to 15 in the order
a, b, a, b, carry the over-range flag (R123). -/
structure Burst where
  a : List Nat
  b : List Nat
  overRange : List Nat
  deriving DecidableEq, Repr

/-- A gPTP Sync or Follow_Up (17 R386): the fields the servo uses. -/
structure SyncMsg where
  domain : Nat
  seqId : Nat
  twoStep : Bool
  logInterval : Int
  deriving DecidableEq, Repr

/-- A Follow_Up: the precise origin and correction in ns, and the cumulative scaled rate offset in 2^-41. -/
structure FollowUpMsg where
  domain : Nat
  seqId : Nat
  originNs : Int
  correctionNs : Int
  rateOffset41 : Int
  deriving DecidableEq, Repr

/-- The commands: one constructor per row of spec/opcode_table.json. DESIGN CHOICE: notes/assumptions/1. -/
inductive Instr where
  | kppRead (t : Nat) (ep : Endpoint) (m : KppMsg)
  | kppWrite (t : Nat) (ep : Endpoint) (m : KppMsg)
  | kppReadStaged (t : Nat) (ep : Endpoint) (m : KppMsg)
  | kppBegin (t : Nat) (ep : Endpoint) (m : KppMsg) (choice : BitVec 16)
  | kppCommit (t : Nat) (ep : Endpoint) (m : KppMsg)
  | commitValidationComplete (t : Nat)
  | kppRollback (t : Nat) (ep : Endpoint) (m : KppMsg)
  | kppSubscribe (t : Nat) (ep : Endpoint) (m : KppMsg)
  | kppUnsubscribe (t : Nat) (ep : Endpoint) (m : KppMsg)
  | shortMessage (t : Nat) (ep : Endpoint) (bytes : List Byte)
  | canSegmentReceive (t : Nat) (frame : CanFrame)
  | canSegmentTimeout (t : Nat)
  | transactionExpiry (t : Nat)
  | eventSend (t : Nat)
  | storeParameters (t : Nat) (v : Word)
  | restoreDefaults (t : Nat) (v : Word)
  | storePlan (t : Nat) (v : Word)
  | storeComplete (t : Nat) (readBackOk : Bool)
  | mramRecordWrite (t : Nat) (recType : Nat) (readBackOk : Bool)
  | startupPlanValidation (t : Nat)
  | frameBoundary (t : Nat)
  | columnStart (t : Nat)
  | prefetchComplete (t : Nat)
  | prefetchLate (t : Nat)
  | shotSlotStart (t : Nat) (cal : TdcCal)
  | fireEdge (t : Nat) (senses : List Sense)
  | ledgerBooking (t : Nat) (corrected : Nat) (uncorrectable : Bool)
  | idleTdcCalibration (t : Nat) (cal : TdcCal)
  | comparatorEdge (t ps ch taps : Nat)
  | referenceEdge (t ps ref taps : Nat)
  | referenceWindowClose (t ref : Nat)
  | eventHandover (t ch : Nat)
  | coincidenceRelease (t ch : Nat)
  | saturationAssert (t ch : Nat)
  | saturationRelease (t ch : Nat)
  | markEnd (t ch : Nat)
  | stuckSlot (t ch : Nat)
  | placementPoint (t : Nat)
  | parkedEventsApply (t : Nat)
  | poolSwap (t : Nat)
  | prxChannelSlot (t engine : Nat)
  | bufferRelease (t : Nat)
  | tarnRecordWrite (t : Nat)
  | columnBlockQueue (t : Nat)
  | h4ColumnCopy (t : Nat)
  | ethStreamDatagram (t : Nat)
  | turnaroundStart (t : Nat)
  | tarnBufferSwap (t : Nat)
  | diagnosticShot (t : Nat) (senses : List Sense)
  | testPulseStart (t : Nat)
  | testPulseCheck (t : Nat)
  | testPulseEnd (t : Nat)
  | testDueTimer (t : Nat)
  | commitCutoff (t : Nat)
  | driftCalibrationStep (t : Nat) (m : CalMeas)
  | checkpointWriteStart (t : Nat)
  | checkpointWriteComplete (t : Nat)
  | checkpointDeadline (t : Nat)
  | bscPeriodStart (t : Nat)
  | bscBurstComplete (t axis : Nat) (burst : Burst)
  | bscProductComplete (t axis corrected : Nat) (uncorrectable : Bool)
  | bscRestart (t : Nat) (v : Word)
  | ledgerBucketAdvance (t window : Nat)
  | ledgerSweep (t corrected : Nat) (uncorrectable mismatch : Bool)
  | clockMonitorFail (t : Nat)
  | gateReadbackEdge (t port : Nat)
  | emitEnFbChange (t : Nat) (level : Bool)
  | feedbackStuck (t : Nat)
  | supplyNotOn (t : Nat)
  | rearmPinEdge (t : Nat)
  | rearmRequest (t : Nat) (v : Byte)
  | emissionStop (t : Nat) (v : Word)
  | portClear (t : Nat) (v : Word)
  | thresholdOffsetClear (t : Nat) (v : Word)
  | mcxReady (t : Nat)
  | bootFillComplete (t : Nat)
  | memoryRead (t : Nat) (user : MemUser) (line : Nat) (flips : List (Nat × BitVec 13))
  | correctionWriteback (t line : Nat)
  | memoryWrite (t : Nat) (user : MemUser) (line : Nat) (bytes : List (Nat × Byte))
  | scrubTick (t : Nat) (flips : List (Nat × BitVec 13))
  | watchEntryExpiry (t : Nat)
  | remapCopyComplete (t : Nat)
  | remapTableStore (t : Nat) (readBackOk : Bool)
  | remapClear (t : Nat) (v : Word)
  | blockPeriod (t port : Nat)
  | markerPeriod (t port : Nat)
  | statusMessage (t port : Nat) (m : BackMsg)
  | eqReport (t port : Nat) (m : BackMsg)
  | alignReport (t port : Nat) (m : BackMsg)
  | retrainMessage (t port : Nat) (m : BackMsg)
  | backChannelError (t port : Nat)
  | backChannelLoss (t port : Nat)
  | phaseLimit (t port : Nat)
  | equalizeLimit (t port : Nat)
  | alignLimit (t port : Nat)
  | trainingAttemptStart (t port : Nat)
  | portPllLock (t port : Nat)
  | laneRateWrite (t port : Nat) (v : Byte)
  | portEnableWrite (t port : Nat) (v : Byte)
  | retrain4Lanes (t port : Nat)
  | retrainPresentWidth (t port : Nat)
  | leaseRenewal (t unit : Nat) (epoch : Word)
  | leaseRelease (t unit : Nat) (epoch : Word)
  | leaseExpiry (t : Nat)
  | fenceTimerExpiry (t unit : Nat)
  | leaseGrant (t : Nat)
  | offerTimeout (t : Nat)
  | autonomyWindowEnd (t : Nat)
  | takeoverComplete (t : Nat)
  | heartbeat (t unit : Nat)
  | heartbeatLoss (t unit : Nat)
  | standbyImageCheck (t : Nat) (ok : Bool)
  | standbyReloadComplete (t unit : Nat) (ok : Bool)
  | switchover (t : Nat) (v : Word)
  | firmwareLoad (t unit : Nat) (flash : NorFlash) (slots : ImageSlot × ImageSlot)
  | verifyImage (t : Nat)
  | programImage (t : Nat)
  | activateTrial (t : Nat)
  | confirmImage (t : Nat)
  | updateComplete (t : Nat) (image : ImageSlot) (readBackOk : Bool)
  | fuseAdvance (t : Nat) (v : Word)
  | attestRequest (t : Nat) (v : Word)
  | attestComplete (t : Nat)
  | syncReceive (t : Nat) (m : SyncMsg)
  | followUpReceive (t : Nat) (m : FollowUpMsg)
  | announceReceive (t domain : Nat) (gm : BitVec 64)
  | pdelayReqReceive (t seqId : Nat)
  | pdelayReqSend (t : Nat)
  | pdelayRespReceive (t seqId : Nat) (peerRx peerTx : Int)
  | syncReceiptTimeout (t : Nat)
  | holdoverLimit (t : Nat)
  | localTimeSet (t : Nat) (value : List Byte)
  | tsinEdge (t input : Nat) (falling : Bool)
  | fmeasGateEnd (t input count : Nat)
  | wcuArm (t : Nat)
  | wcuStop (t : Nat)
  | forceTrigger (t : Nat) (v : Word)
  | wcuTrigger (t : Nat) (source : WcuSource)
  | postfillComplete (t : Nat) (samples : List (Nat × List WcuSample))
  | segmentRecordComplete (t : Nat) (samples : List (Nat × List WcuSample))
  | wcuRearm (t : Nat)
  | skewCalibrate (t : Nat) (v : Word)
  | skewCalibrationComplete (t : Nat) (trims : List (Nat × List Byte))
  | monConversion (t conv : Nat) (uV : Int) (vrefUV : Nat)
  | muxSettleEnd (t : Nat)
  | sequenceTrigger (t : Nat) (v : Word)
  | slotConfigWrite (t offset : Nat) (bytes : List Byte)
  | vrefExtCheck (t : Nat) (mV : Nat)
  | referenceSettle (t : Nat)
  | springRound (t : Nat) (r : RoundIn)
  | canWakePattern (t : Nat)
  | wakeTimerExpiry (t : Nat)
  | vsysUndervoltage (t : Nat)
  | powerOn (t : Nat) (crystal32 : Bool)
  | sleepCommand (t : Nat) (v : Word)
  | resetCommand (t : Nat) (v : Word)
  | railSample (t mV : Nat) (pmicPg : Bool)
  | railConfirmTimeout (t : Nat)
  | railRestartDelay (t : Nat)
  | resetRelease (t : Nat) (devnum : BitVec 9) (safeCfg : Bool)
  | shutdownStepComplete (t : Nat)
  | recorderTrigger (t : Nat) (v : Word)
  | ringUnitWrite (t : Nat)
  | pageProgramComplete (t : Nat) (ok : Bool)
  | blockEraseComplete (t target block : Nat) (ok : Bool)
  | incidentStored (t : Nat)
  | flashIdentify (t vnandMV : Nat) (targets : List FlashTarget)
  | journalReplay (t : Nat)
  | refreshRead (t target block : Nat) (corrections : List Nat) (uncorrectable : Nat)
  | wearLevelMove (t : Nat)
  | incidentProtect (t : Nat) (number : BitVec 31)
  | incidentUnprotect (t : Nat) (number : BitVec 31)
  | incidentDelete (t : Nat) (number : Word)
  | flashFormat (t : Nat) (v : Word)
  | bootCalibration (t : Nat) (m : CalMeas)
  | calibrateNow (t : Nat) (v : Word)
  | skewMeasure (t : Nat) (v : Word)
  | skewMeasureBurst (t : Nat) (strobeSum : Int) (times : List (Nat × Nat × Int))
  | clockMonitorRecovery (t : Nat)
  | checkpointTimer (t : Nat)
  | driftCalibrationTimer (t : Nat) (m : CalMeas)
  | preferredClaimTimeout (t : Nat)
  deriving DecidableEq, Repr

end Sys2Proof
end

