-- ==== Sys2Proof/Decode.lean ====
section
/-!
DEFINITION. The word form of a command. spec/opcode_table.json gives no row of this block any bits, so no word spells
a command. What a KPP message or a CAN segment spells is read in Machine/Operands.lean.
-/

namespace Sys2Proof

/-- The command that `w` spells by the table's bits: no row of the table has bits, so none. -/
def decodeTableWord (_nbits _w : Nat) : Option Instr := none

end Sys2Proof
end

