-- ==== Sys2Proof/Config.lean ====
section
/-!
DEFINITION. What a part or its makers fix and the spec does not state: free values, with no body, so that
no proof can see one (notes/assumptions 10 and 12).
-/

namespace Sys2Proof.Config

/-- Free values of the machine, one for each reading of the counter `State.freeCount`. DESIGN CHOICE: notes/assumptions/10. -/
opaque freeNat : Nat → Nat

/-- Byte `i` of the HSS signature of a message under a signature index (18 R409, 20 R450): the private key never leaves the part, so nothing states the bytes.
DESIGN CHOICE: notes/assumptions/12. -/
opaque signatureByte (index : Nat) (message : List Byte) (i : Nat) : Byte

end Sys2Proof.Config
end

