-- ==== Sys2Proof/Machine/Bits.lean ====
section
/-!
DEFINITION. Byte order, bit fields, saturating counters, CRCs and keyed lists: the helpers every unit uses.
Integers come first and are narrowed to bits at the end (00 R13, R16).
-/

namespace Sys2Proof.Machine

/-! ### Little-endian fields (00 R13) -/

/-- The `n` bytes of `v`, least significant first (00 R13). -/
def le : Nat → Nat → List Byte
  | 0, _ => []
  | n + 1, v => BitVec.ofNat 8 v :: le n (v / 256)

/-- The value of bytes sent least significant first (00 R13). -/
def ofLe : List Byte → Nat
  | [] => 0
  | b :: bs => b.toNat + 256 * ofLe bs

/-- `v` reduced to `bits` bits. -/
def wrap (bits v : Nat) : Nat := v % 2 ^ bits

/-- The two's complement reading of the low `bits` bits of `v`. -/
def signed (bits v : Nat) : Int :=
  let w := wrap bits v
  if w < 2 ^ (bits - 1) then (w : Int) else (w : Int) - (2 ^ bits : Nat)

/-- The two's complement encoding of `i` in `bits` bits. -/
def unsigned (bits : Nat) (i : Int) : Nat := (i % ((2 ^ bits : Nat) : Int)).toNat

/-- An integer as `n` bytes of two's complement (00 R13). -/
def leInt (n : Nat) (i : Int) : List Byte := le n (unsigned (8 * n) i)

/-- Bits [hi:lo] of `v` (00 R16). -/
def field (v hi lo : Nat) : Nat := (v / 2 ^ lo) % 2 ^ (hi + 1 - lo)

/-- Bit `i` of `v` (00 R16). -/
def bitOf (v i : Nat) : Bool := v.testBit i

def bNat (b : Bool) : Nat := if b then 1 else 0

/-- `n` bytes at offset `o`; bytes past the end read zero. -/
def bytesAt (bs : List Byte) (o n : Nat) : List Byte :=
  let got := (bs.drop o).take n
  got ++ List.replicate (n - got.length) 0

/-- The little-endian unsigned field of `n` bytes at offset `o`. -/
def uAt (bs : List Byte) (o n : Nat) : Nat := ofLe (bytesAt bs o n)

/-- The little-endian two's complement field of `n` bytes at offset `o`. -/
def iAt (bs : List Byte) (o n : Nat) : Int := signed (8 * n) (uAt bs o n)

/-- Bit `i` of a bit map: byte i ÷ 8, bit i mod 8. -/
def mapBit (bs : List Byte) (i : Nat) : Bool := bitOf (uAt bs (i / 8) 1) (i % 8)

/-- A bit map of `n` bytes with the bits of `f` set. -/
def bitMap (n : Nat) (f : Nat → Bool) : List Byte :=
  (List.range n).map fun b =>
    BitVec.ofNat 8 (((List.range 8).map fun i => if f (8 * b + i) then 2 ^ i else 0).sum)

/-- `bs` with `new` written at offset `o`; bytes between the end and `o` become zero (02 R43). -/
def overlay (bs : List Byte) (o : Nat) (new : List Byte) : List Byte :=
  let head := bs.take o
  head ++ List.replicate (o - head.length) 0 ++ new ++ bs.drop (o + new.length)

/-- A list padded with `x` to length `n`, or cut to it. -/
def fit {α : Type} (n : Nat) (x : α) (l : List α) : List α :=
  l.take n ++ List.replicate (n - l.length) x

/-! ### Counters -/

/-- A U32 counter that saturates at 0xFFFF_FFFF. -/
def sat32 (w : Word) (n : Nat := 1) : Word := BitVec.ofNat 32 (min (w.toNat + n) 0xFFFFFFFF)

/-- A U64 counter that wraps. -/
def wrap64 (w : BitVec 64) (n : Nat := 1) : BitVec 64 := w + BitVec.ofNat 64 n

def clampNat (lo hi v : Nat) : Nat := max lo (min hi v)

def clampInt (lo hi v : Int) : Int := max lo (min hi v)

/-- ceil(a ÷ b). -/
def ceilDiv (a b : Nat) : Nat := (a + b - 1) / b

/-- floor(√n), by bisection over `fuel` bits. -/
def isqrtGo : Nat → Nat → Nat → Nat
  | 0, _, r => r
  | k + 1, n, r => if (r + 2 ^ k) * (r + 2 ^ k) ≤ n then isqrtGo k n (r + 2 ^ k) else isqrtGo k n r

/-- floor(√n). -/
def isqrt (n : Nat) : Nat := isqrtGo (n.log2 / 2 + 1) n 0

/-- The largest k ≤ hi for which `p` holds, with `p` true up to some point and false beyond it, found in `fuel` halvings; `lo` if none above it. -/
def bisect (p : Nat → Bool) : Nat → Nat → Nat → Nat
  | 0, lo, _ => lo
  | f + 1, lo, hi =>
    if hi ≤ lo then lo
    else
      let mid := (lo + hi + 1) / 2
      if p mid then bisect p f mid hi else bisect p f lo (mid - 1)

/-! ### Lists -/

def setAt {α : Type} (l : List α) (i : Nat) (x : α) : List α := l.set i x

def updAt {α : Type} (l : List α) (i : Nat) (f : α → α) : List α := l.modify i f

/-- `f` applied to every entry with its number. -/
def mapIdx {α β : Type} (l : List α) (f : Nat → α → β) : List β := l.mapIdx f

/-- The greatest value of a list; 0 for the empty list. -/
def maxOf (l : List Nat) : Nat := l.foldl max 0

def sumOf (l : List Nat) : Nat := l.foldl (· + ·) 0

def sumInt (l : List Int) : Int := l.foldl (· + ·) 0

def count {α : Type} (p : α → Bool) (l : List α) : Nat := (l.filter p).length

/-- Entries in rising order. -/
def insertSorted (x : Nat) : List Nat → List Nat
  | [] => [x]
  | y :: ys => if x ≤ y then x :: y :: ys else y :: insertSorted x ys

def sortNat (l : List Nat) : List Nat := l.foldr insertSorted []

/-- `x` in a rising list without repeats. -/
def insertSet (x : Nat) : List Nat → List Nat
  | [] => [x]
  | y :: ys => if x = y then y :: ys else if x < y then x :: y :: ys else y :: insertSet x ys

/-- The median of three (16 R424, 19 R424). -/
def median3 (a b c : Int) : Int := max (min a b) (min (max a b) c)

/-! ### Keyed lists: keys strictly rising -/

def mget {α : Type} : SMap α → Nat → Option α
  | [], _ => none
  | (k, v) :: m, x => if x = k then some v else if x < k then none else mget m x

def mset {α : Type} : SMap α → Nat → α → SMap α
  | [], x, v => [(x, v)]
  | (k, w) :: m, x, v =>
    if x = k then (k, v) :: m else if x < k then (x, v) :: (k, w) :: m else (k, w) :: mset m x v

def mdel {α : Type} : SMap α → Nat → SMap α
  | [], _ => []
  | (k, w) :: m, x => if x = k then m else if x < k then (k, w) :: m else (k, w) :: mdel m x

/-- Counts held sparsely: a key not listed holds 0. -/
def mcount (m : SMap Nat) (k : Nat) : Nat := (mget m k).getD 0

/-- A sparse count, kept canonical: 0 is not listed. -/
def mput (m : SMap Nat) (k v : Nat) : SMap Nat := if v = 0 then mdel m k else mset m k v

def madd (m : SMap Nat) (k d : Nat) : SMap Nat := mput m k (mcount m k + d)

/-- `m` with every entry of `top` laid over it. -/
def layOver {α : Type} (m top : SMap α) : SMap α := top.foldl (fun acc e => mset acc e.1 e.2) m

/-- Keys strictly rising. -/
def rising {α : Type} : SMap α → Bool
  | [] => true
  | [_] => true
  | (k, _) :: (k', v) :: m => k < k' && rising ((k', v) :: m)

/-! ### Cyclic redundancy codes -/

/-- One bit of the reflected CRC-32, polynomial 0xEDB8_8320 (12 R290). -/
def crc32Bit (c : BitVec 32) : BitVec 32 :=
  if c.getLsbD 0 then (c >>> 1) ^^^ 0xEDB88320#32 else c >>> 1

def crc32Byte (c : BitVec 32) (b : Byte) : BitVec 32 :=
  let c := c ^^^ b.setWidth 32
  crc32Bit (crc32Bit (crc32Bit (crc32Bit (crc32Bit (crc32Bit (crc32Bit (crc32Bit c)))))))

/-- CRC-32 of IEEE 802.3 over bytes (12 R290). -/
def crc32 (bs : List Byte) : Word := (bs.foldl crc32Byte 0xFFFFFFFF#32) ^^^ 0xFFFFFFFF#32

def crc8Bit (c : Byte) : Byte := if c.getLsbD 7 then (c <<< 1) ^^^ 0x07#8 else c <<< 1

/-- The CRC-8 of the back channel: x⁸ + x² + x + 1, initial value 0xFF, most significant bit first (12 R300). -/
def crc8 (bs : List Byte) : Byte :=
  bs.foldl (fun c b =>
    crc8Bit (crc8Bit (crc8Bit (crc8Bit (crc8Bit (crc8Bit (crc8Bit (crc8Bit (c ^^^ b))))))))) 0xFF#8

end Sys2Proof.Machine
end

