-- ==== Sys2Proof/Machine/State.lean ====
section
/-!
DEFINITION. The state of the MX512 as plain data, one structure for each unit of the manual, the two reasons a
step can stop, and the state right after the reset release that follows a power-on (`State.reset`).
Object values are held as the bytes of their wire encoding, least significant first (00_scope.md R13).
-/

namespace Sys2Proof.Machine

/-- Why a step stops the machine. -/
inductive Fault where
  /-- Raised by MEMORY_READ, MEMORY_WRITE and CORRECTION_WRITEBACK of a line beyond the 2 GiB of DRAM, which no address names (10 R243). Safe. -/
  | addressHole (address : Nat)
  deriving DecidableEq, Repr

/-- Why a command is refused. -/
inductive Refusal where
  /-- Raised by a dispatch arm whose meaning is not written. Safe. -/
  | notModelled (mnemonic : String)
  deriving DecidableEq, Repr

/-- The ordering variants (00 R1). -/
inductive Variant where
  | f | s | l
  deriving DecidableEq, Repr

/-- Object values by key, index × 256 + sub-index; an object not listed has its default (00 R12). -/
abbrev ObjMap := SMap (List Byte)

/-- The values of the RWT objects of a plan (03 R67); an object not listed has its default. -/
abbrev Plan := ObjMap

/-- A TIME80 value (00): seconds and nanoseconds. -/
structure Time80 where
  sec : Nat := 0
  ns : Nat := 0
  deriving DecidableEq, Repr

/-- What a command sent on the outputs of the block (notes/assumptions/3). -/
inductive Output where
  /-- a KPP message to an endpoint (02 R35, R36) -/
  | kpp (ep : Endpoint) (bytes : List Byte)
  /-- a CAN FD frame (02 R37) -/
  | can (id : Nat) (bytes : List Byte)
  /-- a stream datagram (11 R282): source address and port, destination address and port -/
  | datagram (src : BitVec 32) (srcPort : BitVec 16) (addr : BitVec 32) (port : BitVec 16) (bytes : List Byte)
  /-- a 66-bit block on a lane (12 R289): control or data header, and the 64 bits sent -/
  | block (port lane : Nat) (control : Bool) (bits : BitVec 64)
  /-- a gPTP message: 0 Pdelay_Req, 1 Pdelay_Resp, 2 Pdelay_Resp_Follow_Up, with its sequence and time stamp in ns (17 R386) -/
  | gptp (kind seqId : Nat) (stamp : Int)
  /-- a fire pulse of a port (04 R104): code, width in 0.125 ns, delay in 1/64 ns after slot offset 16 + d -/
  | fire (port code width8 skew : Nat)
  /-- 4 KiB units of the boot flash erased, by address (20 R443) -/
  | norErase (units : List Nat)
  /-- pages of the boot flash programmed, by address (20 R443) -/
  | norProgram (pages : List (Nat × List Byte))
  deriving DecidableEq, Repr

/-! ### Object dictionary, KPP and transactions (02) -/

/-- An event record (02, 24 bytes on the wire) with the cycle of its detection (23 R492). -/
structure EventRec where
  seq : Word
  time : Time80
  code : Nat
  sub : Nat
  detail : Word
  cycle : Nat
  deriving DecidableEq, Repr

/-- A kept response (02 R47). -/
structure Kept where
  seq : BitVec 16
  op : Byte
  resp : List Byte
  deriving DecidableEq, Repr

/-- The kept entries of one endpoint, newest first (02 R47). -/
structure KeptEp where
  ep : Endpoint
  entries : List Kept
  deriving DecidableEq, Repr

/-- A partly received CAN message (02 R37, R38). -/
structure CanAsm where
  bytes : List Byte
  next : Nat
  lastAt : Nat
  deriving DecidableEq, Repr

/-- An event that waits for a holder of the lease (14 R351, 19 R442). -/
structure Deferred where
  time : Time80
  code : Nat
  sub : Nat
  detail : Word
  cycle : Nat
  deriving DecidableEq, Repr

structure Kpp where
  kept : List KeptEp := []
  can : Option CanAsm := none
  held : List (Endpoint × List Byte × BitVec 16) := []
  waiting : List (Endpoint × List Byte × BitVec 16) := []
  dests : List Endpoint := []
  evSeq : Word := 0
  ring : List EventRec := []
  txq : List EventRec := []
  notSent : Word := 0
  deferred : List Deferred := []
  duplicates : Word := 0
  malformed : Word := 0
  dropped : Word := 0
  misaddressed : Word := 0
  nonexistent : Word := 0
  absentUnit : Word := 0
  accessCode : Word := 0
  txnAccess : Word := 0
  deriving DecidableEq, Repr

inductive TxnState where
  | idle | opened | validating
  deriving DecidableEq, Repr

/-- An accepted commit (02 R57): the plan, its epoch and first frame, and the request and response kept with it. -/
structure Commit where
  plan : Plan
  epoch : BitVec 16
  firstFrame : Word
  ep : Endpoint
  req : List Byte
  resp : List Byte
  deriving DecidableEq, Repr

/-- The transaction (02 R48 to R59): `extents` lists the staged byte intervals [a, b) of each staged BLOB or STR object. -/
structure Txn where
  state : TxnState := .idle
  handle : BitVec 16 := 0
  lastLost : Option (BitVec 16) := none
  staged : ObjMap := []
  extents : SMap (List (Nat × Nat)) := []
  deadline : Nat := 0
  validating : Option (Endpoint × List Byte) := none
  epoch : BitVec 16 := 0
  pending : List Commit := []
  inForce : Option Commit := none
  lastReason : Byte := 0
  lastObject : Nat := 0
  commits : Word := 0
  rejects : Word := 0
  expiries : Word := 0
  deriving DecidableEq, Repr

/-! ### MRAM and stores (02 R62, R63; 03 R75; 21 R464) -/

/-- One slot of an MRAM record type: never written, a wrong CRC-32, or a record with its Sequence (21 R464).
DESIGN CHOICE: notes/assumptions/8. -/
inductive Slot (α : Type) where
  | blank
  | corrupt
  | good (seq : Word) (body : α)
  deriving DecidableEq, Repr

/-- The two slots of a record type. DESIGN CHOICE: notes/assumptions/8. -/
structure Slots (α : Type) where
  a : Slot α := .blank
  b : Slot α := .blank
  deriving DecidableEq, Repr

/-- A store or restore in progress (02 R62, R63; 03 R75). -/
inductive StoreJob where
  | params (body : ObjMap)
  | empty
  | plan (body : ObjMap)
  deriving DecidableEq, Repr

/-- A remap table entry (10 R261): the line, the spare line that holds it, and whether the copy is done. -/
structure RemapEntry where
  line : Nat
  chan : Nat
  spare : Nat
  deriving DecidableEq, Repr

/-- DESIGN CHOICE: notes/assumptions/8. -/
structure Mram where
  params : Slots ObjMap := { a := .good 0 [] }
  plan : Slots ObjMap := {}
  remap : Slots (List RemapEntry) := {}
  trims : Slots (List Int) := {}
  limit : Slots Nat := {}
  factoryGood : Nat := 2
  writes : Word := 0
  job : Option StoreJob := none
  status : Byte := 0
  recordLost : Bool := false
  writing : List Nat := []
  deriving DecidableEq, Repr

/-! ### The column pipeline (01, 03) -/

/-- One cell of a column as the column is armed (01 R24): its row, channel and port, and what the prefetch gave. -/
structure CellCtx where
  row : Nat
  channel : Nat
  port : Nat
  measured : Bool
  reduction : Nat
  feedback : Nat
  settling : Bool
  reduced : Bool
  stale : Bool
  preds : List Nat
  deriving DecidableEq, Repr

/-- A cross-fade step of a column (09 R218): old and new bank, m and M. -/
structure FadeStep where
  old : Nat
  new : Nat
  m : Nat
  total : Nat
  deriving DecidableEq, Repr

/-- A column on its way through the pipeline: prepared, firing or in extraction. `sk` is the instant S_k once it has started, `regs` holds the TDA settings loaded with it (07 R189), `fired` the ports that drove a fire edge in each of its slots (08 R201). -/
structure ColCtx where
  plan : Plan
  frame : Word
  epoch : BitVec 16
  gridGen : BitVec 16
  visit : Nat
  column : Nat
  start : Nat
  sk : Nat := 0
  late : Bool
  predict : Bool
  cells : List CellCtx
  codes : List Nat := []
  dithers : List Nat := []
  masked : List Nat := []
  fade : Option FadeStep := none
  bank : Nat := 0
  probe : Bool := false
  posSet : Nat := 0
  regs : ObjMap := []
  fired : SMap (List Nat) := []
  deriving DecidableEq, Repr

/-- Frame and column in progress: `armed` the next column, `cur` the one whose slots run, `tail` one whose slots ended before its Pool swap, `ext` the one in extraction, `done` the one whose results wait for the Tarn and the formatter; `probeAt` the visit that carries the frame's code probe. -/
structure Pipe where
  running : Bool := false
  started : Bool := false
  plan : Option Plan := none
  firstAt : Nat := 0
  timing : Plan := []
  frame : Word := 0
  frameStart : Nat := 0
  stamp : Time80 := {}
  blank : Bool := false
  predict : Bool := false
  gridGen : BitVec 16 := 0
  gridFrames : Nat := 0
  lastH4 : Bool := false
  visit : Nat := 0
  inColumn : Bool := false
  slot : Nat := 0
  inSlot : Bool := false
  slotStart : Nat := 0
  dither : Nat := 0
  lit : Bool := false
  inTurn : Bool := false
  turnStart : Nat := 0
  turnCorr : Int := 0
  swapDone : Bool := false
  diagDone : Bool := false
  cutoffDone : Bool := false
  probeAt : Option Nat := none
  lastColumn : Nat := 0
  prefetch : Option (Nat × Nat) := none
  armed : Option ColCtx := none
  cur : Option ColCtx := none
  tail : Option ColCtx := none
  ext : Option ColCtx := none
  done : Option ColCtx := none
  doneTarn : Bool := true
  doneQueued : Bool := true
  startupStatus : Byte := 0
  startupReason : Byte := 0
  deriving DecidableEq, Repr

/-! ### Emitter Drive Unit (04) -/

structure PortState where
  shadow : Nat := 0
  active : Nat := 0
  masked : Bool := false
  maskPending : Bool := false
  clearPending : Bool := false
  used : Bool := false
  status : Nat := 0
  openIn : Nat := 0
  shortIn : Nat := 0
  openDiag : Nat := 0
  shortDiag : Nat := 0
  sensePeak : Nat := 0
  latched : Nat := 0
  deriving DecidableEq, Repr

structure Edu where
  ports : List PortState := List.replicate 128 {}
  diagFired : Word := 0
  diagSkipped : Word := 0
  faults : Word := 0
  width : Nat := 32
  diagEnable : Bool := true
  deriving DecidableEq, Repr

/-! ### Beam Steering Controller (05) -/

inductive BscState where
  | off | softStart | tracking | transition | parking | parked
  deriving DecidableEq, Repr

/-- A frame as the BSC times it (05 R130): its start, number (below 0 for the notional frames before frame 0), plan, and turnaround in ns. -/
structure FrameBase where
  start : Nat
  number : Int
  plan : Plan
  turn : Nat
  deriving DecidableEq, Repr

/-- A soft start or ramp transition (05 R136 to R138): the envelope's half-span at `t0` falls to 0 until `t1`, both axes
move until `t2`, and under a sweeping target the envelope rises from `rise` on, all at the acceleration `accel` of its start;
`rest` where the mirror rested before it, `loads` while new coefficients wait for its move. DESIGN CHOICE: notes/assumptions/83. -/
structure Motion where
  target : Plan
  accel : Nat
  t0 : Nat
  t1 : Nat
  t2 : Nat
  half : Nat
  fromA : Int
  toA : Int
  fromB : Int
  toB : Int
  rise : Option Nat
  loads : Bool
  rest : Bool
  deriving DecidableEq, Repr

structure Axis where
  states : List Int := List.replicate 8 0
  u : Int := 0
  uNext : Int := 0
  y : Int := 0
  yhat : Int := 0
  yhatValid : Bool := false
  ref : Int := 0
  refStep : Int := 0
  ys : List Int := []
  rs : List Int := []
  innovRun : Nat := 0
  missRun : Nat := 0
  burstDone : Bool := false
  productDone : Bool := false
  tried : Bool := false
  count : Nat := 0
  coeffs : List Byte := []
  deriving DecidableEq, Repr

/-- The controller: `was` the motion before the present one with the instant it gave way, `due` a plan whose coefficients the
next period loads (R127), `seam` the epoch of the coming commit with the verdict of R135 on it, once judged. -/
structure Bsc where
  state : BscState := .off
  axes : Nat := 1
  ax0 : Axis := {}
  ax1 : Axis := {}
  motion : Option Motion := none
  was : Option (Motion × Nat) := none
  due : Option Plan := none
  seam : Option (BitVec 16 × Bool) := none
  base : Option FrameBase := none
  before : Option FrameBase := none
  periodStart : Nat := 0
  loopOn : Bool := false
  running : Bool := false
  fault : Byte := 0
  miss : Bool := false
  misses : Word := 0
  saturations : Word := 0
  clamps : Word := 0
  clampedInFrame : Bool := false
  overRange : Word := 0
  corrected : Word := 0
  blankFrames : Word := 0
  deriving DecidableEq, Repr

/-! ### Receive Front End (06) -/

structure Chan where
  fb : Nat := 0
  fbShadow : Nat := 0
  thr : Nat := 0
  thrShadow : Nat := 0
  offset : Nat := 0
  clearPending : Bool := false
  sat : Bool := false
  seen : Bool := false
  marked : Bool := false
  releasedAt : Nat := 0
  stuckRun : Nat := 0
  stuckSlot : Bool := false
  masked : Bool := false
  maskNext : Bool := false
  maskedFrame : Bool := false
  deriving DecidableEq, Repr

structure Group where
  code : Nat := 0
  settleEnd : Nat := 0
  biasMon : Nat := 0
  gainMon : Nat := 0
  biasOut : Nat := 0
  biasIn : Nat := 0
  biasRaised : Bool := false
  gainOut : Nat := 0
  gainIn : Nat := 0
  gainRaised : Bool := false
  deriving DecidableEq, Repr

structure Rfe where
  chans : List Chan := List.replicate 512 {}
  groups : List Group := List.replicate 32 {}
  biasTemp : Int := 0
  fallback : List Nat := []
  muxStep : Nat := 0
  muxWait : Bool := true
  muxAt : Nat := 0
  satEvents : Word := 0
  stuckCount : Word := 0
  blindCount : Word := 0
  settlingCells : Word := 0
  blindedLast : List Nat := []
  deriving DecidableEq, Repr

/-! ### Time digitizer array (07) -/

structure Tdc where
  meas : List (Nat × Nat) := []
  badRun : Nat := 0
  held : Bool := false
  deriving DecidableEq, Repr

/-- An accepted edge of a channel on its way to the HAC (07 R182, R185): its raw time, its instant in ps and the earliest one of
its handover, where it belongs, the tags of the RFE mark, the pair verdict, whether the TDA hands it on (R186), and tau once the
reference window has closed. -/
structure TimedEvent where
  traw : Int
  atPs : Nat
  readyPs : Nat
  visit : Nat
  slot : Nat
  sat : Bool
  outside : Bool
  paired : Bool
  handsOn : Bool
  tau : Option Int
  deriving DecidableEq, Repr

structure TdaChan where
  last : Option Int := none
  events : List TimedEvent := []
  pileUp : Word := 0
  deriving DecidableEq, Repr

structure RefChan where
  last : Option Int := none
  tref : Option Int := none
  closed : Bool := false
  misses : Word := 0
  frameCounted : Nat := 0
  frameMissed : Nat := 0
  frameFound : Bool := false
  lost : Bool := false
  measured : Nat := 0
  firstSeen : Bool := false
  offset : Int := 0
  deriving DecidableEq, Repr

/-- The array; `idleAt` the instant of the last calibration outside the slots (07 R178). -/
structure Tda where
  idleAt : Option Nat := none
  tdcs : List Tdc := List.replicate 520 {}
  chans : SMap TdaChan := []
  refs : List RefChan := List.replicate 8 {}
  calFails : Word := 0
  pileUp : Word := 0
  outside : BitVec 64 := 0
  events : BitVec 64 := 0
  deriving DecidableEq, Repr

/-! ### Histogram accumulator and Pool (08) -/

/-- A window descriptor (08 R205). -/
structure Win where
  valid : Bool := false
  source : Nat := 0
  start : Nat := 0
  deriving DecidableEq, Repr

/-- One Pool buffer of a bank (08 R193): bins not listed hold 0. -/
structure Buf where
  coarse : SMap Nat := []
  zoom0 : SMap Nat := []
  zoom1 : SMap Nat := []
  zoom2 : SMap Nat := []
  wins : List Win := [{}, {}, {}]
  tags : SMap Nat := []
  corrected : Bool := false
  saturated : Bool := false
  pairRejects : Nat := 0
  coincRejects : Nat := 0
  deriving DecidableEq, Repr

/-- An event in the HAC (07 R185): channel, column and slot, tau, tags and the instant of its edge. -/
structure HacEvent where
  ch : Nat
  visit : Nat
  slot : Nat
  tau : Nat
  sat : Bool
  outside : Bool
  atPs : Nat
  deriving DecidableEq, Repr

/-- HAC counters of one frame (08 R211). -/
structure HacFrame where
  correctedCells : Word := 0
  coarse : Word := 0
  confirmed : Word := 0
  moved : Word := 0
  kept : Word := 0
  noCandidate : Word := 0
  deriving DecidableEq, Repr

structure Hac where
  acc : SMap Buf := []
  tail : SMap Buf := []
  ext : SMap Buf := []
  placedAt : Option Nat := none
  parked : List HacEvent := []
  held : List HacEvent := []
  slotEvents : List HacEvent := []
  probeBins : List (Nat × Nat × Nat) := []
  last : List Byte := List.replicate 8 0
  accumulated : BitVec 64 := 0
  pairRejects : BitVec 64 := 0
  coincRejects : BitVec 64 := 0
  zoomOutside : BitVec 64 := 0
  unlit : BitVec 64 := 0
  parkedCount : Word := 0
  counterSats : Word := 0
  run : HacFrame := {}
  shown : HacFrame := {}
  deriving DecidableEq, Repr

/-! ### Peak and Return Extractor (09) -/

/-- A reported point (09 R233, 11 R272) without its column words. -/
structure Point where
  range : Nat
  intensity : Nat
  confidence : Nat
  flags : Nat
  deriving DecidableEq, Repr

/-- A survivor as the Tarn stores it (09 R239): stored tau, refined flag, confidence, range word. -/
structure Survivor where
  tau : Nat
  refined : Bool
  confidence : Nat
  rangeWord : Nat
  deriving DecidableEq, Repr

/-- What the PRX hands on for one measured cell; `hist` is its entry in a histogram block where it is exported (11 R273). -/
structure CellOut where
  row : Nat
  points : List Point
  survivors : List Survivor
  amplitude : Nat
  saturated : Bool
  mu16 : Int
  sigma16 : Nat
  cellFlags : Nat
  nc : Nat
  nz : Nat
  hist : List Byte
  deriving DecidableEq, Repr

structure PrxFrame where
  returns : Word := 0
  nullCells : Word := 0
  veilCells : Word := 0
  veilDiscarded : Word := 0
  weather : Word := 0
  interference : Word := 0
  refined : Word := 0
  predicted : Word := 0
  kept : Word := 0
  fallbacks : Word := 0
  deriving DecidableEq, Repr

/-- A cross-fade in progress (09 R218). -/
structure Fade where
  old : Nat
  new : Nat
  total : Nat
  started : Nat
  finished : Nat
  deriving DecidableEq, Repr

structure Prx where
  fade : Option Fade := none
  done : SMap Nat := []
  cells : List CellOut := []
  outCells : List CellOut := []
  mu : SMap Nat := []
  sigma : SMap Nat := []
  clampCount : Word := 0
  run : PrxFrame := {}
  ready : Option PrxFrame := none
  shown : PrxFrame := {}
  deriving DecidableEq, Repr

/-! ### Memory controller and Tarn (10) -/

structure WatchEntry where
  line : Nat
  entered : Nat
  count : Nat
  deriving DecidableEq, Repr

/-- A degraded page (10 R263): cause 1 data or 2 capacity, and the lines written in full since. -/
structure Degraded where
  page : Nat
  cause : Nat
  rewritten : List Nat := []
  deriving DecidableEq, Repr

structure Mcx where
  ready : Bool := false
  bootFill : Bool := false
  data : List Host.Cell := []
  check : SMap (BitVec 5) := []
  written : List Nat := []
  watch : List WatchEntry := []
  remap : List RemapEntry := []
  copies : List Nat := []
  writebacks : List (Nat × List (Nat × Byte)) := []
  degraded : List Degraded := []
  holding : Nat := 0
  lines : SMap (List Byte) := []
  corrected : BitVec 64 := 0
  uncorrectable : Word := 0
  votes : Word := 0
  stamps : Word := 0
  dropped : Word := 0
  scrubPos : Nat := 0
  scrubAt : Nat := 0
  scrubPasses : Word := 0
  watchOverflow : Word := 0
  neverWritten : Bool := false
  neverWrittenCount : Word := 0
  clearAtReset : Bool := false
  userBytes : List (BitVec 64) := List.replicate 6 0
  second : Nat := 0
  secondBytes : List Nat := List.replicate 6 0
  lastSecond : List Nat := List.replicate 6 0
  deriving DecidableEq, Repr

/-! ### Output Formatter (11) -/

/-- A unit in a transmit store (11 R269). -/
structure OutUnit where
  kind : Nat
  seq : Word
  frame : Word
  bytes : List Byte
  deriving DecidableEq, Repr

structure OutPort where
  seq : Word := 0
  sent : BitVec 64 := 0
  dropped : Word := 0
  highWater : Word := 0
  queue : List OutUnit := []
  store : Nat := 0
  carries : Bool := false
  gap : Bool := false
  numbered : Word := 0
  frameDropped : Word := 0
  frameBytes : Nat := 0
  dropRaised : Bool := false
  waitHeader : Bool := false
  second : Nat := 0
  secondBytes : Nat := 0
  lastBytes : Nat := 0
  deriving DecidableEq, Repr

/-- The reduced stream (11 R282, R283): the settings of the frame, the datagrams ready, the datagram being filled, and the token bucket in 1/1,000 bit. -/
structure Eth where
  enable : Bool := false
  addr : BitVec 32 := 0
  port : BitVec 16 := 0
  rowStep : Nat := 4
  colStep : Nat := 4
  divider : Nat := 1
  select : Nat := 7
  limit : Nat := 400
  seq : Word := 0
  frame : Word := 0
  epoch : BitVec 16 := 0
  fill : List (List Byte) := []
  ready : List (List Byte) := []
  tokens : Nat := 524288000
  tokenTime : Nat := 0
  sent : Word := 0
  dropped : Word := 0
  deriving DecidableEq, Repr

structure Out where
  a : OutPort := {}
  b : OutPort := {}
  eth : Eth := {}
  deriving DecidableEq, Repr

/-! ### Druelo link (12) -/

/-- What a state limit changed at `at_` (12 R306): a Retrain in the same instant takes it back. -/
structure LinkTry where
  at_ : Nat
  width : Nat
  lanes : Nat
  blind : Nat
  phaseFails : Word
  equalFails : Word
  alignFails : Word
  deriving DecidableEq, Repr

structure Link where
  state : Nat := 0
  width : Nat := 4
  lanes : Nat := 15
  pll : Bool := false
  spaceFrom : Option Nat := none
  attemptAt : Nat := 0
  stateAt : Nat := 0
  statusRun : Nat := 0
  lowRun : Nat := 0
  missRun : Nat := 0
  blind : Nat := 0
  phase : Nat := 0
  equal : Nat := 0
  lock : Nat := 0
  rxState : Nat := 0
  credit : Word := 0
  dataBlocks : Nat := 0
  lockAt : Nat := 0
  periods : Nat := 0
  blockCount : Nat := 0
  trainCount : Nat := 0
  lastMsg : Nat := 0
  lost : Bool := false
  tried : Option LinkTry := none
  pos : Nat := 0
  wire : Option OutUnit := none
  abort : Option Word := none
  scram : List (BitVec 58) := []
  attempts : Word := 0
  phaseFails : Word := 0
  equalFails : Word := 0
  alignFails : Word := 0
  losses : Word := 0
  exits : Word := 0
  lastCause : Nat := 0
  errors : Word := 0
  stallNs : Nat := 0
  stallFrom : Option Nat := none
  eqReports : List Byte := List.replicate 32 0
  deskew : List Byte := List.replicate 4 255
  deriving DecidableEq, Repr

/-! ### Emission Guard (13) -/

inductive GuardState where
  | tripped | armed | testing
  deriving DecidableEq, Repr

structure TripEntry where
  time : Time80
  cause : Nat
  frame : Word
  deriving DecidableEq, Repr

/-- One ledger window (13 R310): the current bucket and the 32 before it, newest first, bin by bin in 1/16 nJ, and the running totals. -/
structure LedgerWin where
  bucket : Nat := 0
  buckets : List (SMap Nat) := [[]]
  total : SMap Nat := []
  deriving DecidableEq, Repr

/-- A pulse that left its ball and is not booked yet (13 R312): its fire instant, port, column of the booking, 1/16 nJ. -/
structure Booking where
  at_ : Nat
  port : Nat
  column : Nat
  columns : Nat
  allBins : Bool
  e16 : Nat
  deriving DecidableEq, Repr

/-- The guard: `flash` the sources of one instant detected at `flashAt` (13 R317), `onSeen` once EMIT_EN_FB was high since
EMIT_EN rose (R322), `pinFrom` the earliest instant of the next pin edge (R326), `decided` the ports the decision for the slot
`decidedFor` has covered (R315), `rearmed` the instant of the last accepted re-arm with the count before it (R331). -/
structure Emg where
  state : GuardState := .tripped
  lastCause : Nat := 1
  sources : Nat := 4
  flash : Nat := 0
  flashAt : Nat := 0
  source : Bool := false
  emitEn : Bool := false
  fb : Bool := false
  fellAt : Nat := 0
  roseAt : Nat := 0
  onSeen : Bool := false
  notOnRaised : Bool := false
  checked : Bool := false
  held : Bool := true
  pinFrom : Nat := 10015000
  rearmed : Option (Nat × Word) := none
  windows : List Nat := [20, 3500, 1000000]
  wins : List LedgerWin := [{}, {}, {}]
  bookings : List Booking := []
  gated : List Nat := []
  decided : List Nat := []
  decidedFor : Option Nat := none
  gateRaised : Bool := false
  releasedAt : Nat := 0
  testFrom : Nat := 0
  history : List TripEntry := [{ time := {}, cause := 1, frame := 0 }]
  peakRun : List (Nat × Nat) := [(0, 0), (0, 0), (0, 0)]
  peak : List (Nat × Nat) := [(0, 0), (0, 0), (0, 0)]
  trips : Word := 0
  gatedPulses : BitVec 64 := 0
  passed : Word := 0
  aborted : Word := 0
  failures : Word := 0
  accepted : Word := 0
  ignored : Word := 0
  ledgerCorrected : Word := 0
  deriving DecidableEq, Repr

/-! ### Control units and lease (14) -/

inductive LeaseState where
  | held | guard | offerStandby | offerOpen | none
  deriving DecidableEq, Repr

inductive UnitState where
  | ready | loading | failed | heldInReset
  deriving DecidableEq, Repr

/-- A control unit: `reload` while a standby reload runs (R342), `loaded` the verdict of its image load so far, `beats` the heartbeats in a row since a loss. -/
structure CtrlUnit where
  state : UnitState := .loading
  reload : Bool := false
  loaded : Option Bool := none
  fails : Nat := 0
  readyAt : Nat := 0
  fenced : Bool := false
  lastHeartbeat : Nat := 0
  beats : Nat := 0
  lost : Bool := false
  deriving DecidableEq, Repr

/-- A checkpoint slot (14 R344): the header's frame number, lease epoch and body length, and the firmware state of the body, with the blocks
the recorder management has scheduled for refresh; `good` while its CRC-32 is correct. -/
structure Checkpoint where
  good : Bool := false
  frame : Word := 0
  lease : Word := 0
  length : Nat := 0
  dests : List Endpoint := []
  kept : List Endpoint := []
  rwp : ObjMap := []
  storing : Bool := false
  integ : Int := 0
  servo : Int := 0
  forced : List Nat := []
  temps : List Int := []
  times : List Nat := []
  limit : Nat := 0
  refresh : List Nat := []
  deriving DecidableEq, Repr

/-- The lease arbiter, the units and the checkpoint: `former` the last holder, `claimed` whether any unit has held the lease since the reset, `verified` the instant the preferred unit's image was verified, `cause` the cause of the last expiry, `writing` the slot of the checkpoint under way with its frame number. -/
structure Cu where
  lease : LeaseState := .offerStandby
  epoch : Word := 0
  holder : Option Nat := none
  former : Option Nat := none
  claimed : Bool := false
  lastRenewal : Nat := 0
  priorRenewal : Nat := 0
  formerRenewal : Nat := 0
  expiredAt : Nat := 0
  grantedAt : Nat := 0
  verified : Option Nat := none
  autonomyEnd : Option Nat := none
  takingOver : Bool := false
  late : Bool := false
  cause : Nat := 0
  a : CtrlUnit := {}
  b : CtrlUnit := {}
  slot0 : Checkpoint := {}
  slot1 : Checkpoint := {}
  lastSlot : Nat := 1
  writing : Option (Nat × Word) := none
  ckAt : Nat := 0
  ckTurn : Option Word := none
  ckFrame : Word := 0
  ckCount : Word := 0
  ckFailures : Word := 0
  ckLost : Bool := false
  ckUsed : Word := 0
  mailboxLosses : Word := 0
  takeovers : Word := 0
  lateTakeovers : Word := 0
  lastTime : Word := 0
  lastCause : Nat := 0
  checkFails : Word := 0
  reloads : Word := 0
  busErrors : Word := 0
  deriving DecidableEq, Repr

/-! ### Waveform Capture Unit (15) -/

inductive WcuState where
  | idle | armed | postFill | capturing | rearming | done | calibrating
  deriving DecidableEq, Repr

/-- The capture settings read at Arm (15 R359). -/
structure WcuSet where
  pairs : Nat := 0
  channels : List Nat := List.replicate 16 0
  mode : Nat := 0
  post : Nat := 65528
  segLen : Nat := 1024
  segPre : Nat := 64
  trig : Nat := 0
  firePort : Nat := 0
  tsin : Nat := 0
  terms : List Byte := []
  deriving DecidableEq, Repr

/-- What the records of a trigger take at its instant `at64`, in 1/64 ns (15 R354): `sample` the trigger sample, counted from the
instant `grid` of offset 16 ns in the last shot slot begun, slot `lastSlot` of the `slots` of `slotLen` ns in its column; `fbs` the
feedback index of each pair's channel. -/
structure WcuHead where
  time : Time80
  frame : Word
  visit : Nat
  slot : Nat
  source : Nat
  phase : Option Int
  at64 : Nat
  grid : Nat
  sample : Int
  lastSlot : Nat
  slotLen : Nat
  slots : Nat
  fbs : List Nat
  deriving DecidableEq, Repr

/-- Counters and stamps as they were before a trigger (15 R363). -/
structure WcuPrior where
  triggers : Word
  missed : Word
  stamps : List (Time80 × Nat)
  stampOverflow : Word
  deriving DecidableEq, Repr

/-- The capture unit: `lastTrig` the cycle of the last trigger, `prior` what it found where it was accepted or missed; `calAt` when
skew calibration started, with frames running or not. -/
structure Wcu where
  state : WcuState := .idle
  set : WcuSet := {}
  armedAt : Nat := 0
  head : Option WcuHead := none
  lastTrig : Option Nat := none
  prior : Option WcuPrior := none
  stopped : Bool := false
  records : SMap (List (List Byte)) := []
  missed : Word := 0
  stamps : List (Time80 × Nat) := []
  ignored : Word := 0
  stampOverflow : Word := 0
  overRange : Word := 0
  triggers : Word := 0
  calStatus : Nat := 0
  calAt : Nat := 0
  calFrames : Bool := false
  deriving DecidableEq, Repr

/-! ### Monitor converter and thermal supervision (16) -/

/-- A slot: `samples` and `fir` newest first with their over-range marks, `taken` samples since the last output, `outputs` since the restart, the first of them at `firstAt`, `fresh` until an output is compared after a restart. -/
structure MonSlot where
  samples : List (Nat × Bool) := []
  fir : List (Nat × Bool) := []
  taken : Nat := 0
  outputs : Nat := 0
  firstAt : Nat := 0
  result : Nat := 0
  outBand : Bool := false
  fresh : Bool := true
  seqDone : Bool := true
  deriving DecidableEq, Repr

/-- The monitor converter: `run` checks of VREF_EXT in range, the last at `checkAt`; `convAt` the instant of each converter's last
conversion; `settledAt` the instant the reference became usable; `overrunNow` the overruns counted at the instant `overrunAt`. -/
structure Mon where
  settled : Bool := false
  settledAt : Nat := 0
  select : Nat := 0
  run : Nat := 0
  checkAt : Option Nat := none
  convAt : List Nat := [0, 0, 0, 0]
  slots : List MonSlot := List.replicate 16 {}
  recovery : SMap Nat := []
  lastSlot : List Nat := [15, 15, 15, 15]
  seqRunning : Bool := false
  seqQueued : Bool := false
  seqOverrun : Bool := false
  overruns : Word := 0
  overrunAt : Nat := 0
  overrunNow : Nat := 0
  overRange : Word := 0
  discarded : Word := 0
  deriving DecidableEq, Repr

/-- A thermal condition (16 R378): asserted, and the run being counted. -/
structure Cond where
  on : Bool := false
  run : Nat := 0
  deriving DecidableEq, Repr

structure Thermal where
  dieFilt : Int := 0
  roundValue : Int := 0
  diode : Int := 0
  bandgap : Int := 0
  ring : Int := 0
  broken : Bool := false
  goodRun : Nat := 0
  conds : List Cond := [{}, {}, {}, {}]
  unknown : Bool := false
  deriving DecidableEq, Repr

/-! ### Network and Time Unit (17) -/

inductive SyncState where
  | free | acquiring | locked | holdover
  deriving DecidableEq, Repr

/-- A frequency measurement: `since` the local clock, in ns, at the start of its gate. DEDUCED: notes/assumptions/61. -/
structure Fmeas where
  since : Nat := 0
  valid : Bool := false
  overRange : Bool := false
  count : Nat := 0
  mHz : Nat := 0
  deriving DecidableEq, Repr

structure Tsin where
  fifo : List (Time80 × Bool) := []
  lost : Word := 0
  lastAt : Option Nat := none
  deriving DecidableEq, Repr

/-- The NTU: `sentAt` the instant of its last Pdelay_Req. -/
structure Ntu where
  clock : Nat := 0
  servo : Int := 0
  integ : Int := 0
  sync : SyncState := .free
  goodRun : Nat := 0
  badRun : Nat := 0
  offset : Int := 0
  sawSync : Option (Nat × Int × Int) := none
  lastSyncAt : Nat := 0
  intervalNs : Nat := 125000000
  holdoverAt : Nat := 0
  linkDelay : Nat := 0
  asCapable : Bool := false
  reqSeq : Nat := 0
  sentAt : Option Nat := none
  reqAt : Option Int := none
  lostResp : Nat := 0
  prevPeer : Option (Int × Int) := none
  ratioNum : Int := 1
  ratioDen : Int := 1
  gm : BitVec 64 := 0
  steps : Word := 0
  accepted : Word := 0
  ignoredSyncs : Word := 0
  tsins : List Tsin := List.replicate 8 {}
  fmeas : List Fmeas := List.replicate 4 {}
  phaseError : Int := 0
  phaseLocked : Bool := false
  phaseGood : Nat := 0
  phaseBad : Nat := 0
  probes : Word := 0
  suspects : Word := 0
  history : List Bool := []
  conflict : Bool := false
  conflictCode : Nat := 65535
  clearRun : Nat := 0
  deriving DecidableEq, Repr

/-! ### Event Recorder (18) -/

inductive IncState where
  | queued | writing | stored | recovered
  deriving DecidableEq, Repr

/-- A unit in the ring or on its way there: kind 0 header, 1 points, 2 histograms, 9 a unit lost under 18 R403; `last` the last of its frame. -/
structure RingUnit where
  seg : Nat
  frame : Word
  kind : Nat
  seq : Word
  bytes : List Byte
  last : Bool := false
  deriving DecidableEq, Repr

/-- An incident (18 R405 to R408): `written` payload bytes have passed program status since the instant `writeFrom`, `blocks` hold its pages, `segs` are the ring segments it locks. -/
structure Incident where
  number : Nat
  state : IncState
  opened : Bool
  closedAt : Option Nat := none
  isProtected : Bool := false
  dataLost : Bool := false
  flags : Nat := 0
  source : Nat
  port : Nat
  time : Time80
  epoch : BitVec 16
  trigFrame : Word
  firstFrame : Word
  lastFrame : Word
  endFrame : Word
  post : Nat
  preBytes : Nat
  gapUnits : Nat := 0
  merged : Nat := 0
  payload : List RingUnit := []
  written : Nat := 0
  signature : List Byte := []
  hash : List Byte := []
  blocks : List Nat := []
  segs : List Nat := []
  writeFrom : Nat := 0
  deriving DecidableEq, Repr

/-- A flash block (18 R413, R414): key target × 2²⁴ + block; a block not listed is free and never erased. -/
structure FlashBlock where
  erases : Nat := 0
  bad : Bool := false
  factoryBad : Bool := false
  free : Bool := true
  erasing : Bool := false
  refresh : Bool := false
  deriving DecidableEq, Repr

/-- Journal entries (18 R416): the allocation of a block to an incident, and an incident's commit. -/
inductive JournalEntry where
  | allocate (incident block : Nat)
  | commit (incident : Nat)
  deriving DecidableEq, Repr

/-- The recorder: `identified` and `replayed` since the last reset (R410, R416); `finishing` and `finishErase` the page and the blocks
in progress when the interlock closed (R417); `refreshAt` the last refresh read (R415). -/
structure Evr where
  armed : Bool := false
  ring : List RingUnit := []
  feed : List RingUnit := []
  segment : Nat := 0
  segFill : Nat := 0
  order : List Nat := List.range 48
  excluded : List Nat := []
  budget : Nat := 0
  reduced : Bool := false
  preMs : Nat := 0
  trigAt : Option Nat := none
  incidents : List Incident := []
  last : Nat := 0
  heldTo : Option Word := none
  merged : Word := 0
  lostTriggers : Word := 0
  stallUnits : Word := 0
  stalled : Option Word := none
  targets : List FlashTarget := []
  used : Nat := 0
  iface : Nat := 0
  pageBytes : Nat := 0
  pagesPerBlock : Nat := 0
  blocks : SMap FlashBlock := []
  journal : List JournalEntry := []
  identified : Bool := false
  replayed : Bool := false
  maxRate : Nat := 400
  interlock : Bool := false
  interlockRun : Nat := 0
  interlockNs : Nat := 0
  interlockFrom : Option Nat := none
  finishing : Bool := false
  finishErase : List Nat := []
  factoryBad : Word := 0
  grownBad : Word := 0
  corrected : BitVec 64 := 0
  uncorrectable : Word := 0
  refreshed : Word := 0
  refreshAt : Option Nat := none
  noSpace : Bool := false
  deriving DecidableEq, Repr

/-! ### The Spring (19) -/

inductive SpringState where
  | sleep | sequencing | running | shuttingDown | coldHold | thermalHold | faultHold
  deriving DecidableEq, Repr

/-- The Spring: runs of rounds are counted per channel (`outRun` channels 6 to 12, `inRun` rounds with all in), the last round at
`roundAt`; `rail` is the rail being raised (5 once all are confirmed), last sampled at `sampleAt`; `shutStep` the step of R437
under way since `shutAt`, `shutTo` where it ends (0 Sleep, 1 ThermalHold, 2 Sequencing). -/
structure Spring where
  state : SpringState := .running
  cause : Nat := 1
  wakeSource : Nat := 3
  resets : Word := 0
  rounds : Word := 0
  roundAt : Option Nat := none
  raw : List Int := List.replicate 16 0
  filt : List Int := List.replicate 16 0
  filled : Bool := false
  regs : ObjMap := []
  chanOut : Nat := 0
  outRun : List Nat := List.replicate 7 0
  inRun : Nat := 0
  ntcBad : List Nat := [0, 0]
  ntcGood : List Nat := [0, 0]
  ntcBroken : Nat := 0
  canWake : Bool := false
  powerWake : Bool := false
  timerWake : Bool := false
  sleepAt : Nat := 0
  wakeRun : Nat := 0
  lowRounds : Nat := 0
  faultLow : Nat := 0
  faultHigh : Nat := 0
  rail : Nat := 5
  railRun : Nat := 0
  railAt : Nat := 0
  sampleAt : Option Nat := none
  pmicEn : Nat := 31
  powerGood : Bool := true
  nextCause : Nat := 2
  restartWait : Bool := false
  faultTimes : List Nat := []
  faults : List Deferred := []
  vsysWait : Bool := false
  vsysGood : Nat := 0
  overRun : Nat := 0
  hardRun : Nat := 0
  lowVsysRun : Nat := 0
  overHold : Bool := false
  holdGood : Nat := 0
  shutStep : Nat := 0
  shutAt : Nat := 0
  shutTo : Nat := 0
  shutRun : Nat := 0
  interlock : Bool := false
  interlocks : Word := 0
  railFaults : Word := 0
  overMs : Word := 0
  coldSince : Nat := 0
  coldMs : Word := 0
  crystal32 : Bool := false
  wakeAt : Nat := 0
  startTimes : List Nat := [0, 0, 0]
  deriving DecidableEq, Repr

/-! ### Firmware, identity and attestation (20) -/

structure BootRecord where
  seq : Word
  preferred : Nat
  trial : Nat
  deriving DecidableEq, Repr

inductive UpdateJob where
  | verify | program | trial
  deriving DecidableEq, Repr

/-- How the boot loader reads its flash (20 R443). -/
inductive NorMode where
  | octal | quad | fast
  deriving DecidableEq, Repr

/-- `programmed` holds what the part itself programmed into an image slot; `noImage` that no slot verified at the choice of R447;
`nor` the read mode of the flash identified last, none where it has no valid SFDP or nothing has been identified. -/
structure Firmware where
  nor : Option NorMode := none
  boot0 : Option BootRecord := none
  boot1 : Option BootRecord := none
  chosen : Bool := false
  noImage : Bool := false
  running : Nat := 0
  imageState : Nat := 0
  version : Word := 0
  security : Nat := 0
  payloadHash : List Byte := List.replicate 32 0
  slotStatus : List Byte := List.replicate 16 0
  fuse : Nat := 0
  vendorHash : List Byte := List.replicate 32 0
  job : Option UpdateJob := none
  jobImage : List Byte := []
  update : Nat := 0
  programmed : SMap (List Byte) := []
  deviceId : List Byte := List.replicate 16 0
  certificate : List Byte := []
  publicKey : List Byte := List.replicate 60 0
  attest : Nat := 0
  evidence : List Byte := []
  nextIndex : Nat := 0
  lowRaised : Bool := false
  exhaustedRaised : Bool := false
  deriving DecidableEq, Repr

/-! ### Calibration (21) -/

/-- Calibration: `temps` and `times` per group, `forced` the groups made due by CalibrateNow, `staleBits` the bits of StaleChannels, `staleGroups` and `staleFrame` what the present frame fixed (R462); the SkewMeasure sums are per channel × 4 + index. -/
structure Cal where
  count : Word := 0
  last : Time80 := {}
  reference : Nat := 2
  rext : Nat := 0
  vcal : Nat := 0
  temps : List Int := List.replicate 32 0
  times : List Nat := List.replicate 32 0
  forced : List Nat := []
  staleBits : List Nat := []
  staleGroups : List Nat := []
  staleFrame : List Nat := []
  bootRan : Bool := false
  bootNoRef : Bool := false
  failures : Word := 0
  stepAt : Nat := 0
  skewStatus : Nat := 0
  skewBurst : Nat := 0
  skewAt : Nat := 0
  strobe : List Int := [0, 0, 0, 0]
  sums : SMap (Nat × Int) := []
  onDie : SMap Int := []
  deriving DecidableEq, Repr

/-! ### The part -/

/-- Settings sampled at reset that hold until the next (02 R64, 05 R120, 13 R325, 17 R392, 22 R472). DESIGN CHOICE: notes/assumptions/5. -/
structure Latched where
  variant : Variant := .f
  device : Nat := 0
  strap : Nat := 0
  canIdMode : Nat := 0
  net : ObjMap := []
  mac : BitVec 48 := 0
  deriving DecidableEq, Repr

/-- The state of the block. `now`, `out`, `pending` and `freeCount` are the model's own: the greatest instant seen (DESIGN
CHOICE: notes/assumptions/1), what the last command sent (3), the commands that wait, first in, first out (2, 77), and the
number of free values taken (10). -/
structure State where
  now : Nat := 0
  out : List Output := []
  pending : List Instr := []
  freeCount : Nat := 0
  part : Latched := {}
  rw : ObjMap := []
  rwp : ObjMap := []
  kpp : Kpp := {}
  txn : Txn := {}
  mram : Mram := {}
  pipe : Pipe := {}
  edu : Edu := {}
  bsc : Bsc := {}
  rfe : Rfe := {}
  tda : Tda := {}
  hac : Hac := {}
  prx : Prx := {}
  mcx : Mcx := {}
  fmt : Out := {}
  linkA : Link := {}
  linkB : Link := {}
  emg : Emg := {}
  cu : Cu := {}
  wcu : Wcu := {}
  mon : Mon := {}
  thermal : Thermal := {}
  ntu : Ntu := {}
  evr : Evr := {}
  spring : Spring := {}
  fw : Firmware := {}
  cal : Cal := {}
  deriving DecidableEq, Repr

/-- The part right after the reset release that follows a power-on: every field at the reset value the spec gives, else at the value notes/assumptions 4 to 9 name.
DESIGN CHOICE: notes/assumptions/4, 5, 8. -/
def State.reset : State := {}

end Sys2Proof.Machine
end

