-- ==== Sys2Proof/Machine/Catalog.lean ====
section
/-!
DEFINITION. The object dictionary (00 R12, 23 R489): one row for each object of the unit tables with its type, access
code, default and greatest length, then the rule a written value goes through, the ranges a staged value must lie in,
and the objects a variant lacks.
-/

namespace Sys2Proof.Machine

/-- Object types (00, table Object types). `q2` is a Qm.n in 2 bytes. -/
inductive ObjType where
  | bool | u8 | u16 | u32 | u64 | i8 | i16 | i32 | q2 | time80 | str | blob
  deriving DecidableEq, Repr

/-- Access codes (00, table Access codes). -/
inductive Access where
  | ro | rw | rwt | rwp | wo | rc
  deriving DecidableEq, Repr

/-- One object. -/
structure ObjRow where
  key : Nat
  type : ObjType
  access : Access
  dflt : List Byte
  maxLen : Nat
  deriving DecidableEq, Repr

/-- Type codes of value items (02). -/
def ObjType.code : ObjType → Nat
  | .bool => 1 | .u8 => 2 | .u16 => 3 | .u32 => 4 | .u64 => 5 | .i8 => 6 | .i16 => 7 | .i32 => 8
  | .q2 => 9 | .time80 => 11 | .str => 12 | .blob => 13

/-- The length of a fixed-size type; none for STR and BLOB (00). -/
def ObjType.size : ObjType → Option Nat
  | .bool => some 1 | .u8 => some 1 | .i8 => some 1 | .u16 => some 2 | .i16 => some 2 | .q2 => some 2
  | .u32 => some 4 | .i32 => some 4 | .u64 => some 8 | .time80 => some 10 | .str => none | .blob => none

/-- A row of fixed size with default `v`. -/
def rowN (key : Nat) (type : ObjType) (access : Access) (v : Int) : ObjRow :=
  let n := type.size.getD 0
  { key, type, access, dflt := leInt n v, maxLen := n }

/-- A BLOB row. -/
def rowB (key : Nat) (access : Access) (dflt : List Byte) (maxLen : Nat) : ObjRow :=
  { key, type := .blob, access, dflt, maxLen }

def zeros (n : Nat) : List Byte := List.replicate n 0

/-- `n` copies of an entry. -/
def many (n : Nat) (e : List Byte) : List Byte := (List.replicate n e).flatten

/-- Row r on port r ÷ 4 and channel r (03 R71). -/
def defaultRowMap : List Byte := (List.range 512).flatMap fun r => le 2 (r / 4 * 512 + r)

/-- Port p on reference channel p ÷ 16 (07 R174). -/
def defaultRefAssign : List Byte := (List.range 128).map fun p => BitVec.ofNat 8 (p / 16)

/-- Taps h[5] to h[9] = 2, 6, 8, 6, 2, shift 3, delay 7 (09 R217). -/
def defaultBank : List Byte := zeros 10 ++ [2, 0, 6, 0, 8, 0, 6, 0, 2, 0] ++ zeros 12 ++ [3, 7]

/-- Slot 0 of 16 R372 with the window 0 to 16,383; the other slots idle (16 R381). -/
def defaultSlotConfig : List Byte := [0x40, 0xA3, 0x10, 0, 0, 0, 0xFF, 0x3F] ++ zeros 120

/-- 384 limits of 1 nJ and their CRC-32 (13 R314). -/
def defaultAelTable : List Byte :=
  let t := many 384 (le 4 1)
  t ++ le 4 (crc32 t).toNat

def rows1000 : List ObjRow := [
  rowN 0x100003 .u32 .ro 65535,
  rowN 0x100006 .u16 .rwp 65535,
  rowN 0x100007 .u16 .ro 0,
  rowN 0x100008 .u16 .ro 0]

def rows1100 : List ObjRow := [
  rowN 0x110001 .u16 .ro 47812,
  rowN 0x110002 .u8 .rwp 0,
  rowN 0x110003 .u16 .rwp 50,
  rowN 0x110004 .u16 .ro 1472,
  rowN 0x110005 .u16 .ro 2048,
  rowN 0x110006 .u32 .rc 0,
  rowN 0x110007 .u32 .rc 0,
  rowN 0x110008 .u32 .rc 0,
  rowN 0x110009 .u32 .rc 0,
  rowN 0x11000A .u8 .ro 0,
  rowN 0x110020 .u32 .wo 0,
  rowN 0x110021 .u32 .wo 0,
  rowN 0x110022 .u8 .ro 0,
  rowN 0x110023 .bool .ro 0]

def rows1200 : List ObjRow := [
  rowN 0x120001 .u8 .ro 0,
  rowN 0x120002 .u32 .ro 0,
  rowN 0x120003 .u16 .ro 0,
  rowN 0x120004 .u16 .ro 0,
  rowN 0x120005 .u32 .ro 0,
  rowN 0x120006 .bool .ro 0,
  rowN 0x120007 .u32 .ro 0,
  rowN 0x120008 .u32 .ro 196608,
  rowN 0x120009 .u8 .ro 0,
  rowN 0x12000A .u32 .ro 0,
  rowN 0x12000B .u32 .ro 5000,
  rowN 0x12000C .u32 .ro 0,
  rowN 0x12000D .u32 .ro 0,
  rowN 0x12000E .u32 .ro 0,
  rowN 0x12000F .u8 .ro 0]

def rows1300 : List ObjRow := [
  rowN 0x130001 .u32 .ro 0,
  rowN 0x130002 .u32 .ro 0,
  rowN 0x130003 .u32 .ro 0,
  rowN 0x130004 .u32 .ro 0,
  rowN 0x130010 .u32 .ro 0,
  rowN 0x130011 .u32 .rc 0,
  rowB 0x130012 .ro [] 768,
  rowN 0x130013 .u8 .ro 0]

def rows2000 : List ObjRow := [
  rowN 0x200001 .u16 .rwt 512,
  rowN 0x200002 .u16 .rwt 512,
  rowN 0x200003 .u16 .rwt 2500,
  rowN 0x200004 .u16 .rwt 2000,
  rowN 0x200005 .u8 .rwt 24,
  rowN 0x200006 .u8 .rwt 8,
  rowN 0x200007 .u8 .rwt 3,
  rowN 0x200008 .u8 .rwt 1,
  rowN 0x200009 .u16 .rwt 960,
  rowN 0x20000A .u16 .rwt 65535,
  rowN 0x20000B .u8 .rwt 0,
  rowN 0x20000C .i32 .rwt (-130900),
  rowN 0x20000D .i32 .rwt 130900,
  rowN 0x20000E .u8 .rwt 2,
  rowN 0x20000F .i32 .rwt 0,
  rowN 0x200010 .u8 .rwt 0,
  rowN 0x200011 .u8 .rwt 0,
  rowN 0x200020 .u32 .ro 38000000,
  rowN 0x200021 .u32 .ro 7421875,
  rowN 0x200022 .u16 .ro 3024,
  rowN 0x200023 .u16 .ro 0,
  rowN 0x200024 .bool .ro 0,
  rowN 0x200030 .u32 .wo 0,
  rowN 0x200031 .u8 .ro 0,
  rowN 0x200032 .u8 .ro 0]

def rows2100 : List ObjRow := [
  rowN 0x210001 .u8 .rwt 1,
  rowN 0x210002 .u8 .rwt 2,
  rowN 0x210003 .u8 .rwt 3,
  rowN 0x210004 .u8 .rwt 1,
  rowN 0x210005 .u8 .rwt 1,
  rowN 0x210006 .u8 .rwt 1,
  rowN 0x210007 .u8 .rwt 1,
  rowN 0x210008 .u8 .rwt 1,
  rowN 0x210009 .u8 .rwt 0,
  rowN 0x21000A .u8 .rwt 0]

def rows2200 : List ObjRow := [
  rowB 0x220001 .rwt defaultRowMap 1024]

def rows2201 : List ObjRow := [
  rowB 0x220101 .rwt [] 32768]

def rows2202 : List ObjRow := [
  rowB 0x220201 .rwt (zeros 256) 256]

def rows2203 : List ObjRow := [
  rowB 0x220301 .rwt [] 128]

def rows3000 : List ObjRow := [
  rowN 0x300001 .u8 .ro 128,
  rowN 0x300002 .u8 .rwt 32,
  rowN 0x300003 .bool .rwt 1,
  rowB 0x300004 .rwt (List.replicate 16 0xFF#8) 16,
  rowN 0x300005 .u16 .rwt 3000,
  rowN 0x300006 .u8 .rwt 24,
  rowN 0x300007 .u8 .rwt 4,
  rowN 0x300008 .u8 .rwt 24,
  rowN 0x300009 .u16 .rwt 750,
  rowN 0x30000A .u8 .rwt 8,
  rowB 0x300010 .rwp (zeros 128) 128,
  rowN 0x300011 .q2 .rwp 4096,
  rowB 0x300012 .rwp (zeros 8448) 8448,
  rowN 0x300013 .u8 .rwp 25,
  rowN 0x300014 .u8 .rwp 160,
  rowN 0x300015 .u16 .rwp 50,
  rowB 0x300020 .ro (zeros 128) 128,
  rowN 0x300021 .u32 .wo 0,
  rowN 0x300022 .u32 .ro 0,
  rowN 0x300023 .u32 .ro 0,
  rowN 0x300024 .u32 .rc 0,
  rowB 0x300025 .ro (zeros 256) 256,
  rowB 0x300026 .ro (zeros 256) 256]

def rows3400_0 : List ObjRow := [
  rowN 0x340001 .u8 .rwp 1,
  rowN 0x340002 .u16 .ro 10000,
  rowN 0x340003 .u8 .ro 0,
  rowN 0x340004 .u32 .rwp 2000,
  rowN 0x340005 .i32 .rwp 0,
  rowN 0x340010 .u8 .rwp 0,
  rowN 0x340011 .u8 .rwp 1,
  rowN 0x340012 .i32 .rwp 0,
  rowN 0x340013 .i32 .rwp 0,
  rowN 0x340014 .u32 .rwp 200000,
  rowN 0x340015 .u32 .rwp 12000,
  rowN 0x340016 .u32 .rwp 8000,
  rowN 0x340017 .u8 .rwt 0,
  rowB 0x340018 .rwt (zeros 880) 880,
  rowN 0x340019 .u32 .rwp 500000,
  rowN 0x34001A .u32 .rwp 2000,
  rowN 0x34001B .i32 .rwp 0,
  rowN 0x34001C .u32 .rwp 65536,
  rowN 0x34001D .i32 .ro 0,
  rowN 0x34001E .i32 .ro 0,
  rowN 0x340020 .u8 .rwp 2,
  rowN 0x340021 .u8 .rwp 3,
  rowN 0x340022 .i32 .rwp 0,
  rowN 0x340023 .i32 .rwp 0,
  rowN 0x340024 .u32 .rwp 200000,
  rowN 0x340025 .u32 .rwp 12000,
  rowN 0x340026 .u32 .rwp 8000,
  rowN 0x340027 .u8 .rwt 0,
  rowB 0x340028 .rwt (zeros 880) 880,
  rowN 0x340029 .u32 .rwp 500000,
  rowN 0x34002A .u32 .rwp 2000,
  rowN 0x34002B .i32 .rwp 0,
  rowN 0x34002C .u32 .rwp 65536,
  rowN 0x34002D .i32 .ro 0,
  rowN 0x34002E .i32 .ro 0,
  rowN 0x340030 .bool .rc 0,
  rowN 0x340031 .u32 .ro 0,
  rowN 0x340032 .u32 .ro 0,
  rowN 0x340033 .u32 .ro 0,
  rowN 0x340034 .u8 .ro 0]

def rows3400_1 : List ObjRow := [
  rowN 0x340035 .u32 .wo 0,
  rowN 0x340036 .u32 .ro 0,
  rowN 0x340037 .u32 .ro 0,
  rowN 0x340038 .u32 .ro 0]

def rows3400 : List ObjRow := rows3400_0 ++ rows3400_1

def rows3800 : List ObjRow := [
  rowN 0x380001 .u16 .ro 512,
  rowB 0x380002 .rwt (List.replicate 32 0x02#8) 32,
  rowN 0x380003 .u8 .rwt 0,
  rowN 0x380004 .u8 .rwt 3,
  rowN 0x380005 .u16 .rwt 3600,
  rowN 0x380006 .u16 .rwt 300,
  rowB 0x380007 .rwt (many 512 (le 2 40)) 1024,
  rowB 0x380008 .rwt (List.replicate 64 0xFF#8) 64,
  rowN 0x380009 .bool .rwt 1,
  rowN 0x38000A .u8 .rwt 32,
  rowN 0x38000B .u8 .rwt 8,
  rowB 0x38000C .ro (zeros 1024) 1024,
  rowN 0x38000D .u32 .wo 0,
  rowB 0x380010 .rwt (zeros 1088) 1088,
  rowB 0x380011 .rwt (many 32 (le 2 200)) 64,
  rowN 0x380012 .u8 .rwp 4,
  rowN 0x380013 .u16 .rwp 64,
  rowN 0x380014 .u8 .rwp 0,
  rowB 0x380015 .ro (zeros 64) 64,
  rowN 0x380016 .i16 .ro 0,
  rowN 0x380017 .u32 .rwp 4294967295,
  rowB 0x380020 .rwp (many 64 (le 1 20)) 64,
  rowB 0x380021 .ro (zeros 64) 64,
  rowB 0x380022 .ro (zeros 64) 64,
  rowN 0x380023 .q2 .rwp 4096,
  rowN 0x380024 .i16 .rwp 0,
  rowN 0x380025 .u16 .rwp 200,
  rowN 0x380026 .u16 .rwp 0,
  rowN 0x380027 .u16 .rwp 16383,
  rowN 0x380030 .u32 .ro 0,
  rowN 0x380031 .u32 .ro 0,
  rowN 0x380032 .u32 .rc 0,
  rowN 0x380033 .u32 .ro 0,
  rowB 0x380034 .ro (zeros 64) 64]

def rows3C00 : List ObjRow := [
  rowN 0x3C0001 .u16 .ro 520,
  rowN 0x3C0002 .u32 .ro 15625,
  rowN 0x3C0003 .u16 .ro 256,
  rowB 0x3C0010 .rwt defaultRefAssign 128,
  rowN 0x3C0011 .u8 .rwp 255,
  rowB 0x3C0012 .rwp (many 8 (le 2 0)) 16,
  rowN 0x3C0013 .u16 .rwp 128,
  rowB 0x3C0014 .rwp (many 8 (le 2 100)) 16,
  rowB 0x3C0015 .ro (zeros 16) 16,
  rowB 0x3C0016 .ro (zeros 16) 16,
  rowB 0x3C0020 .rwp (zeros 4096) 4096,
  rowN 0x3C0021 .u16 .ro 64,
  rowN 0x3C0022 .u16 .ro 176,
  rowN 0x3C0023 .u16 .ro 48,
  rowB 0x3C0030 .ro (zeros 1040) 1040,
  rowN 0x3C0031 .u32 .ro 0,
  rowB 0x3C0032 .ro (zeros 65) 65,
  rowB 0x3C0033 .ro (zeros 32) 32,
  rowN 0x3C0040 .u32 .rc 0,
  rowB 0x3C0041 .ro (zeros 2048) 2048,
  rowN 0x3C0042 .u64 .ro 0,
  rowN 0x3C0043 .u64 .ro 0]

def rows4000 : List ObjRow := [
  rowN 0x400001 .u16 .ro 512,
  rowN 0x400002 .u32 .ro 3502080,
  rowN 0x400003 .u16 .ro 0,
  rowN 0x400004 .u8 .ro 0,
  rowN 0x400010 .bool .rwt 0,
  rowN 0x400011 .u8 .rwt 1,
  rowN 0x400012 .u8 .rwt 2,
  rowN 0x400013 .u16 .rwt 24,
  rowN 0x400014 .u8 .rwt 32,
  rowN 0x400015 .bool .rwt 1,
  rowB 0x400020 .ro (zeros 8) 518,
  rowN 0x400030 .u64 .ro 0,
  rowN 0x400031 .u64 .ro 0,
  rowN 0x400032 .u64 .ro 0,
  rowN 0x400033 .u64 .ro 0,
  rowN 0x400034 .u64 .ro 0,
  rowN 0x400035 .u32 .ro 0,
  rowN 0x400036 .u32 .rc 0,
  rowN 0x400037 .u32 .ro 0,
  rowN 0x400040 .u32 .ro 0,
  rowN 0x400041 .u32 .ro 0,
  rowN 0x400042 .u32 .ro 0,
  rowN 0x400043 .u32 .ro 0,
  rowN 0x400044 .u32 .ro 0]

def rows4400 : List ObjRow := [
  rowN 0x440001 .u8 .ro 16,
  rowN 0x440002 .u16 .ro 2048,
  rowN 0x440010 .u8 .rwt 0,
  rowN 0x440011 .u8 .rwt 16,
  rowB 0x440012 .rwt defaultBank 34,
  rowB 0x440013 .rwt defaultBank 34,
  rowN 0x440014 .u8 .ro 1,
  rowN 0x440015 .u16 .ro 0,
  rowN 0x440020 .u16 .rwt 16,
  rowN 0x440021 .u8 .rwt 20,
  rowN 0x440022 .u8 .rwt 32,
  rowN 0x440023 .u8 .rwt 4,
  rowN 0x440024 .u8 .rwt 3,
  rowN 0x440025 .u8 .rwt 64,
  rowN 0x440026 .u16 .rwt 48,
  rowN 0x440027 .u8 .rwt 16,
  rowN 0x440030 .u8 .rwt 8,
  rowN 0x440031 .u16 .rwt 16,
  rowN 0x440032 .u16 .rwt 12,
  rowN 0x440033 .u16 .rwt 200,
  rowN 0x440034 .u16 .rwt 12,
  rowN 0x440038 .i32 .rwp 0,
  rowN 0x440039 .i16 .rwp 0,
  rowN 0x440040 .u32 .ro 0,
  rowN 0x440041 .u32 .ro 0,
  rowN 0x440042 .u32 .ro 0,
  rowN 0x440043 .u32 .ro 0,
  rowN 0x440044 .u32 .ro 0,
  rowN 0x440045 .u32 .ro 0,
  rowN 0x440046 .u32 .ro 0,
  rowN 0x440047 .u32 .ro 0,
  rowN 0x440048 .u32 .ro 0,
  rowN 0x440049 .u32 .ro 0,
  rowN 0x44004A .u32 .rc 0,
  rowB 0x44004B .ro (zeros 1024) 1024,
  rowB 0x44004C .ro (zeros 1024) 1024]

def rows4800 : List ObjRow := [
  rowN 0x480001 .u64 .ro 2147483648,
  rowN 0x480002 .u8 .ro 64,
  rowN 0x480003 .bool .ro 0,
  rowN 0x480004 .bool .ro 0,
  rowN 0x480005 .u8 .ro 1,
  rowN 0x480006 .u8 .ro 0,
  rowN 0x480007 .u16 .ro 0,
  rowN 0x480008 .u16 .ro 0,
  rowN 0x480009 .u32 .ro 0,
  rowB 0x48000A .ro [] 4096,
  rowN 0x480010 .u64 .ro 0,
  rowN 0x480011 .u32 .ro 0,
  rowN 0x480012 .u32 .ro 0,
  rowN 0x480013 .u32 .ro 0,
  rowN 0x480014 .u32 .ro 0,
  rowN 0x480015 .u16 .rwp 2048,
  rowN 0x480016 .u32 .ro 0,
  rowN 0x480017 .u32 .ro 0,
  rowN 0x480018 .u16 .ro 0,
  rowN 0x480019 .u32 .ro 0,
  rowN 0x48001A .u8 .ro 0,
  rowB 0x48001B .ro (zeros 256) 256,
  rowN 0x48001C .u32 .wo 0,
  rowN 0x480020 .bool .rc 0,
  rowN 0x480021 .u32 .ro 0,
  rowN 0x480022 .u32 .ro 0,
  rowN 0x480023 .u32 .ro 0,
  rowN 0x480030 .u32 .rw 0,
  rowB 0x480031 .ro (zeros 64) 64,
  rowB 0x480040 .ro (zeros 48) 48,
  rowB 0x480041 .ro (zeros 24) 24]

def rows4C00_0 : List ObjRow := [
  rowN 0x4C0001 .u8 .ro 1,
  rowN 0x4C0002 .u32 .ro 4194304,
  rowN 0x4C0003 .u32 .ro 0,
  rowN 0x4C0004 .u32 .ro 0,
  rowN 0x4C0005 .u64 .ro 0,
  rowN 0x4C0006 .u64 .ro 0,
  rowN 0x4C0007 .u32 .ro 0,
  rowN 0x4C0008 .u32 .ro 0,
  rowN 0x4C0009 .u32 .rc 0,
  rowN 0x4C000A .u32 .rc 0,
  rowN 0x4C000B .u32 .ro 0,
  rowN 0x4C000C .u32 .ro 0,
  rowN 0x4C0010 .bool .rwp 0,
  rowN 0x4C0011 .u32 .rwp 0,
  rowN 0x4C0012 .u16 .rwp 47813,
  rowN 0x4C0013 .u8 .rwp 4,
  rowN 0x4C0014 .u8 .rwp 4,
  rowN 0x4C0015 .u8 .rwp 1,
  rowN 0x4C0016 .u8 .rwp 7,
  rowN 0x4C0017 .u16 .rwp 400,
  rowN 0x4C0018 .u32 .ro 0,
  rowN 0x4C0019 .u32 .ro 0,
  rowN 0x4C0040 .u8 .rwp 5,
  rowN 0x4C0041 .bool .rwp 1,
  rowN 0x4C0042 .u8 .ro 0,
  rowN 0x4C0043 .u8 .ro 15,
  rowN 0x4C0044 .u32 .wo 0,
  rowN 0x4C0045 .u32 .ro 0,
  rowN 0x4C0046 .u32 .ro 0,
  rowN 0x4C0047 .u32 .ro 0,
  rowN 0x4C0048 .u32 .ro 0,
  rowN 0x4C0049 .u32 .ro 0,
  rowN 0x4C004A .u32 .ro 0,
  rowN 0x4C004B .u8 .ro 0,
  rowN 0x4C004C .u32 .ro 0,
  rowN 0x4C004D .u32 .ro 0,
  rowN 0x4C004E .u32 .ro 0,
  rowB 0x4C004F .ro (zeros 32) 32,
  rowB 0x4C0050 .ro (List.replicate 4 0xFF#8) 4,
  rowN 0x4C0051 .u8 .ro 0]

def rows4C00_1 : List ObjRow := [
  rowN 0x4C0060 .u8 .rwp 5,
  rowN 0x4C0061 .bool .rwp 1,
  rowN 0x4C0062 .u8 .ro 0,
  rowN 0x4C0063 .u8 .ro 15,
  rowN 0x4C0064 .u32 .wo 0,
  rowN 0x4C0065 .u32 .ro 0,
  rowN 0x4C0066 .u32 .ro 0,
  rowN 0x4C0067 .u32 .ro 0,
  rowN 0x4C0068 .u32 .ro 0,
  rowN 0x4C0069 .u32 .ro 0,
  rowN 0x4C006A .u32 .ro 0,
  rowN 0x4C006B .u8 .ro 0,
  rowN 0x4C006C .u32 .ro 0,
  rowN 0x4C006D .u32 .ro 0,
  rowN 0x4C006E .u32 .ro 0,
  rowB 0x4C006F .ro (zeros 32) 32,
  rowB 0x4C0070 .ro (List.replicate 4 0xFF#8) 4,
  rowN 0x4C0071 .u8 .ro 0]

def rows4C00 : List ObjRow := rows4C00_0 ++ rows4C00_1

def rows5000 : List ObjRow := [
  rowN 0x500001 .u8 .ro 16,
  rowN 0x500002 .u16 .ro 2500,
  rowN 0x500003 .u32 .ro 262144,
  rowN 0x500004 .u8 .ro 0,
  rowN 0x500005 .u32 .wo 0,
  rowN 0x500006 .u32 .wo 0,
  rowN 0x500010 .u16 .rw 0,
  rowB 0x500011 .rw (zeros 16) 16,
  rowN 0x500012 .u8 .rw 0,
  rowN 0x500013 .u32 .rw 65528,
  rowN 0x500014 .u16 .rw 1024,
  rowN 0x500015 .u16 .rw 64,
  rowN 0x500016 .u8 .rw 0,
  rowN 0x500017 .u8 .rw 0,
  rowN 0x500018 .u8 .rw 0,
  rowB 0x500020 .rw (zeros 512) 512,
  rowB 0x500021 .rwp (zeros 192) 192,
  rowN 0x500022 .u32 .wo 0,
  rowN 0x500023 .u8 .ro 0,
  rowN 0x500028 .u8 .rw 0,
  rowB 0x500029 .ro [] 262144,
  rowN 0x50002A .u16 .ro 0,
  rowN 0x500030 .u32 .ro 0,
  rowB 0x500031 .rc [] 192,
  rowN 0x500032 .u32 .ro 0,
  rowN 0x500033 .u32 .ro 0,
  rowN 0x500034 .u32 .ro 0,
  rowN 0x500035 .u32 .ro 0]

def rows5400 : List ObjRow := [
  rowN 0x540001 .u8 .ro 4,
  rowN 0x540002 .u8 .rwp 0,
  rowN 0x540003 .bool .ro 0,
  rowN 0x540004 .u16 .rwp 1250,
  rowB 0x540010 .rwp defaultSlotConfig 128,
  rowB 0x540011 .ro (zeros 32) 32,
  rowN 0x540012 .u32 .wo 0,
  rowN 0x540013 .u8 .rwp 0,
  rowN 0x540014 .u8 .ro 0,
  rowN 0x540015 .u32 .rc 0,
  rowN 0x540016 .u16 .ro 0,
  rowN 0x540017 .u16 .ro 0,
  rowN 0x540018 .u32 .ro 0,
  rowN 0x540019 .u32 .ro 0,
  rowN 0x540040 .i16 .ro 0,
  rowN 0x540041 .i16 .ro 0,
  rowN 0x540042 .i16 .ro 0,
  rowN 0x540043 .i16 .ro 0,
  rowN 0x540044 .i16 .ro 0,
  rowB 0x540045 .rwp (zeros 4) 4,
  rowN 0x540046 .bool .ro 0,
  rowN 0x540047 .u8 .ro 0,
  rowB 0x540048 .ro (leInt 2 1840 ++ leInt 2 2000 ++ leInt 2 (-640) ++ leInt 2 (-720)) 8,
  rowN 0x540049 .u8 .ro 48]

def rows5800 : List ObjRow := [
  rowN 0x580001 .u8 .ro 0,
  rowN 0x580002 .u8 .ro 1,
  rowN 0x580003 .u16 .ro 0,
  rowN 0x580004 .u8 .ro 0,
  rowN 0x580005 .bool .ro 0,
  rowB 0x580006 .rwp (le 4 20 ++ le 4 3500 ++ le 4 1000000) 12,
  rowB 0x580007 .ro (le 4 20 ++ le 4 3500 ++ le 4 1000000) 12,
  rowB 0x580008 .rwt defaultAelTable 1540,
  rowN 0x580009 .u32 .ro 1032,
  rowN 0x580010 .bool .wo 0,
  rowN 0x580011 .u32 .wo 0,
  rowN 0x580020 .u16 .rw 0,
  rowB 0x580021 .ro (zeros 24) 24,
  rowB 0x580022 .ro (zeros 18) 18,
  rowN 0x580030 .u32 .ro 0,
  rowN 0x580031 .u64 .ro 0,
  rowN 0x580032 .u32 .ro 0,
  rowN 0x580033 .u32 .ro 0,
  rowN 0x580034 .u32 .ro 0,
  rowN 0x580035 .u32 .ro 0,
  rowN 0x580036 .u32 .ro 0,
  rowN 0x580037 .u32 .ro 0,
  rowB 0x580038 .ro [] 128]

def rows5C00 : List ObjRow := [
  rowN 0x5C0001 .u8 .ro 255,
  rowN 0x5C0002 .u8 .rwp 0,
  rowN 0x5C0003 .u32 .ro 0,
  rowN 0x5C0004 .u8 .ro 2,
  rowN 0x5C0005 .u8 .ro 1,
  rowN 0x5C0006 .u32 .rwp 1000,
  rowN 0x5C0007 .u32 .ro 0,
  rowN 0x5C0008 .u16 .ro 4000,
  rowN 0x5C0009 .u16 .ro 1000,
  rowN 0x5C000A .u16 .ro 3000,
  rowN 0x5C000B .u16 .ro 1000,
  rowN 0x5C000C .u16 .ro 30,
  rowN 0x5C0010 .u32 .ro 0,
  rowN 0x5C0011 .u32 .ro 0,
  rowN 0x5C0012 .u32 .ro 0,
  rowN 0x5C0013 .bool .rc 0,
  rowN 0x5C0014 .u32 .ro 0,
  rowN 0x5C0020 .u32 .wo 0,
  rowN 0x5C0021 .bool .ro 0,
  rowN 0x5C0022 .u32 .ro 0,
  rowN 0x5C0030 .u32 .ro 0,
  rowN 0x5C0031 .u32 .ro 0,
  rowN 0x5C0032 .u32 .ro 0,
  rowN 0x5C0033 .u8 .ro 0,
  rowN 0x5C0034 .u32 .ro 0,
  rowN 0x5C0035 .u32 .ro 0,
  rowN 0x5C0037 .u32 .ro 0]

def rows6000_0 : List ObjRow := [
  rowN 0x600001 .time80 .ro 0,
  rowN 0x600002 .time80 .wo 0,
  rowN 0x600003 .i32 .rwp 0,
  rowN 0x600004 .i32 .ro 0,
  rowN 0x600005 .i32 .ro 0,
  rowN 0x600006 .u8 .ro 0,
  rowN 0x600007 .i32 .ro 0,
  rowN 0x600008 .u32 .ro 0,
  rowN 0x600009 .u64 .ro 0,
  rowN 0x60000A .u8 .rwp 0,
  rowN 0x60000B .u16 .rwp 0,
  rowN 0x60000C .u16 .rwp 0,
  rowN 0x60000D .u32 .rwp 100000,
  rowN 0x60000E .u32 .rwp 500,
  rowN 0x60000F .u32 .rwp 10000,
  rowN 0x600010 .u32 .ro 0,
  rowN 0x600011 .u32 .ro 0,
  rowN 0x600012 .u32 .ro 0,
  rowN 0x600013 .bool .ro 0,
  rowN 0x600020 .u32 .rwp 4294967295,
  rowN 0x600021 .u32 .rwp 4294901760,
  rowN 0x600022 .u32 .rwp 0,
  rowN 0x600023 .u64 .ro 0,
  rowN 0x600024 .u8 .rwp 3,
  rowN 0x600025 .bool .rwp 1,
  rowN 0x600026 .u8 .rwp 0,
  rowN 0x600027 .u8 .rwp 0,
  rowN 0x600030 .u16 .rwp 21845,
  rowN 0x600031 .u8 .rw 0,
  rowB 0x600032 .rc [] 384,
  rowB 0x600033 .ro (zeros 32) 32,
  rowB 0x600038 .rwp (zeros 16) 16,
  rowB 0x600039 .ro (zeros 64) 64,
  rowN 0x600040 .u8 .rwt 0,
  rowN 0x600041 .u32 .rwt 0,
  rowN 0x600042 .u32 .rwt 20000,
  rowN 0x600043 .i32 .ro 0,
  rowN 0x600044 .bool .ro 0,
  rowN 0x600050 .u8 .rwp 25,
  rowN 0x600051 .u16 .rwp 8]

def rows6000_1 : List ObjRow := [
  rowN 0x600052 .bool .ro 0,
  rowN 0x600053 .u16 .ro 65535,
  rowN 0x600054 .u32 .ro 0,
  rowN 0x600055 .u32 .ro 0]

def rows6000 : List ObjRow := rows6000_0 ++ rows6000_1

def rows6400_0 : List ObjRow := [
  rowN 0x640001 .u8 .ro 0,
  rowN 0x640002 .u64 .ro 1610612736,
  rowN 0x640003 .u8 .ro 0,
  rowN 0x640004 .u32 .ro 0,
  rowN 0x640005 .bool .ro 0,
  rowN 0x640006 .u8 .rwt 25,
  rowN 0x640007 .u16 .rwp 5,
  rowN 0x640008 .u8 .rwp 0,
  rowN 0x640009 .u32 .wo 0,
  rowN 0x64000A .u16 .rwp 0,
  rowN 0x640010 .u8 .ro 0,
  rowN 0x640011 .u32 .ro 0,
  rowN 0x640012 .u32 .ro 0,
  rowN 0x640013 .u32 .ro 0,
  rowN 0x640014 .u32 .ro 600,
  rowN 0x640015 .u32 .ro 0,
  rowN 0x640020 .u8 .ro 0,
  rowN 0x640021 .u8 .ro 0,
  rowN 0x640022 .u16 .rwp 400,
  rowN 0x640023 .u64 .ro 0,
  rowN 0x640024 .u64 .ro 0,
  rowN 0x640025 .u32 .ro 0,
  rowN 0x640026 .u32 .ro 0,
  rowN 0x640027 .u32 .ro 0,
  rowN 0x640028 .u64 .ro 0,
  rowN 0x640029 .u32 .ro 0,
  rowN 0x64002A .u16 .rwp 168,
  rowN 0x64002B .u8 .rwp 40,
  rowN 0x64002C .u32 .ro 0,
  rowN 0x64002D .u32 .wo 0,
  rowN 0x640030 .u8 .rwp 1,
  rowN 0x640031 .i16 .rwp (-480),
  rowN 0x640032 .i16 .rwp 1520,
  rowN 0x640033 .bool .ro 0,
  rowN 0x640034 .u32 .ro 0,
  rowB 0x640040 .ro [] 8192,
  rowN 0x640041 .u32 .rw 0,
  rowN 0x640042 .u8 .rw 0,
  rowB 0x640043 .ro [] 4294967296,
  rowN 0x640044 .u32 .wo 0]

def rows6400_1 : List ObjRow := [
  rowN 0x640045 .u32 .wo 0]

def rows6400 : List ObjRow := rows6400_0 ++ rows6400_1

def rows6800 : List ObjRow := [
  rowN 0x680001 .u8 .ro 2,
  rowN 0x680002 .u8 .ro 1,
  rowN 0x680003 .u8 .ro 3,
  rowN 0x680004 .u32 .ro 0,
  rowN 0x680005 .u32 .ro 0,
  rowB 0x680010 .ro (zeros 32) 32,
  rowB 0x680011 .ro (zeros 32) 32,
  rowB 0x680012 .rwp (many 16 (le 1 2)) 16,
  rowN 0x680013 .u16 .ro 0,
  rowB 0x680018 .rwp (many 2 (le 2 3435)) 4,
  rowB 0x680019 .rwp (many 2 (le 4 10000)) 8,
  rowB 0x68001A .rwp (many 2 (le 4 10000)) 8,
  rowN 0x68001B .u8 .ro 0,
  rowN 0x680020 .u32 .wo 0,
  rowN 0x680021 .u32 .wo 0,
  rowN 0x680022 .u8 .rwp 11,
  rowN 0x680023 .u32 .rwp 0,
  rowN 0x680024 .u16 .rwp 0,
  rowN 0x680025 .u16 .rwp 5000,
  rowN 0x680026 .bool .ro 0,
  rowN 0x680027 .i16 .ro 0,
  rowN 0x680030 .bool .ro 0,
  rowN 0x680031 .u32 .ro 0,
  rowN 0x680032 .u32 .ro 0,
  rowN 0x680033 .u8 .ro 0,
  rowN 0x680034 .u32 .ro 0,
  rowN 0x680035 .u32 .ro 0,
  rowB 0x680036 .ro (zeros 12) 12]

def rows6C00 : List ObjRow := [
  rowN 0x6C0001 .u32 .ro 0,
  rowN 0x6C0002 .time80 .ro 0,
  rowN 0x6C0003 .u8 .ro 2,
  rowN 0x6C0004 .u32 .ro 0,
  rowN 0x6C0005 .u16 .rwp 0,
  rowN 0x6C0006 .u16 .ro 0,
  rowN 0x6C0007 .u8 .ro 0,
  rowN 0x6C0008 .u16 .rwp 160,
  rowN 0x6C0009 .u32 .rwp 3600,
  rowN 0x6C000A .u32 .wo 0,
  rowB 0x6C000B .ro (zeros 64) 64,
  rowB 0x6C000C .ro (zeros 128) 128,
  rowN 0x6C000D .u32 .ro 0,
  rowB 0x6C000E .ro (zeros 64) 64,
  rowN 0x6C000F .u32 .ro 0,
  rowN 0x6C0010 .u32 .wo 0,
  rowN 0x6C0011 .u8 .ro 0,
  rowB 0x6C0012 .rwp (zeros 1024) 1024,
  rowB 0x6C0013 .ro (zeros 4096) 4096,
  rowB 0x6C0020 .ro (zeros 64) 64,
  rowN 0x6C0021 .u32 .ro 0]

def rows7000 : List ObjRow := [
  rowN 0x700001 .u8 .ro 0,
  rowN 0x700002 .u8 .ro 0,
  rowN 0x700003 .u32 .ro 0,
  rowN 0x700004 .u8 .ro 0,
  rowB 0x700005 .ro (zeros 32) 32,
  rowB 0x700006 .ro (zeros 16) 16,
  rowB 0x700007 .ro (zeros 32) 32,
  rowN 0x700008 .u8 .ro 0,
  rowB 0x700009 .ro (zeros 32) 32,
  rowB 0x700010 .rw [] 1048576,
  rowN 0x700011 .u32 .wo 0,
  rowN 0x700012 .u8 .ro 0,
  rowN 0x700013 .u32 .wo 0,
  rowB 0x700020 .ro (zeros 16) 16,
  rowB 0x700021 .ro [] 4096,
  rowB 0x700022 .ro (zeros 60) 60,
  rowB 0x700023 .rw (zeros 32) 32,
  rowN 0x700024 .u32 .wo 0,
  rowN 0x700025 .u8 .ro 0,
  rowB 0x700026 .ro [] 5204,
  rowN 0x700027 .u32 .ro 0,
  rowN 0x700028 .u32 .ro 0,
  rowN 0x700029 .u32 .ro 0]

/-- The objects of an index (23 R489). -/
def rowsOf (index : Nat) : List ObjRow :=
  match index with
  | 0x1000 => rows1000
  | 0x1100 => rows1100
  | 0x1200 => rows1200
  | 0x1300 => rows1300
  | 0x2000 => rows2000
  | 0x2100 => rows2100
  | 0x2200 => rows2200
  | 0x2201 => rows2201
  | 0x2202 => rows2202
  | 0x2203 => rows2203
  | 0x3000 => rows3000
  | 0x3400 => rows3400
  | 0x3800 => rows3800
  | 0x3C00 => rows3C00
  | 0x4000 => rows4000
  | 0x4400 => rows4400
  | 0x4800 => rows4800
  | 0x4C00 => rows4C00
  | 0x5000 => rows5000
  | 0x5400 => rows5400
  | 0x5800 => rows5800
  | 0x5C00 => rows5C00
  | 0x6000 => rows6000
  | 0x6400 => rows6400
  | 0x6800 => rows6800
  | 0x6C00 => rows6C00
  | 0x7000 => rows7000
  | _ => []

/-- The object of a key (index × 256 + sub-index), if it exists (00 R5, 23 R489). -/
def objRow (key : Nat) : Option ObjRow := (rowsOf (key / 256)).find? fun r => r.key == key

/-! ### What a written value becomes -/

/-- What one field of a value becomes when it is written: reserved bits read zero (00 R16), values outside a stated
range are clamped, or the values the table does not list are stored as another. -/
inductive FixRule where
  | bits (m : Nat)
  | range (lo hi : Int)
  | upTo (hi : Nat) (also : List Nat) (other : Nat)
  | orOff (lo hi : Nat)
  deriving DecidableEq, Repr

/-- A field at offset `o` of each run of `stride` bytes, `n` bytes long. -/
structure FieldFix where
  stride : Nat
  o : Nat
  n : Nat
  fix : FixRule
  deriving DecidableEq, Repr

def FixRule.apply (n : Nat) (bs : List Byte) : FixRule → List Byte
  | .bits m => le n (ofLe bs &&& m)
  | .range lo hi =>
    let v : Int := if lo < 0 then signed (8 * n) (ofLe bs) else (ofLe bs : Int)
    leInt n (clampInt lo hi v)
  | .upTo hi also other =>
    let v := ofLe bs
    if v ≤ hi ∨ v ∈ also then bs else le n other
  | .orOff lo hi =>
    let v := ofLe bs
    if v = 0 then bs else le n (clampNat lo hi v)

/-- `bs` with the fix of every field that the write of `len` bytes at `off` touches applied. DEDUCED: notes/assumptions/75. -/
def FieldFix.apply (f : FieldFix) (off len : Nat) (bs : List Byte) : List Byte :=
  (List.range (bs.length / f.stride)).foldl (fun acc i =>
    let p := i * f.stride + f.o
    if p < off + len ∧ off < p + f.n then overlay acc p (f.fix.apply f.n (bytesAt acc p f.n)) else acc) bs

/-- One scalar field of `n` bytes. -/
def sc (n : Nat) (fix : FixRule) : List FieldFix := [{ stride := n, o := 0, n, fix }]

/-- Entries of `n` bytes. -/
def en (n : Nat) (fix : FixRule) : List FieldFix := sc n fix

/-- DEDUCED: notes/assumptions/75. -/
def fixes : SMap (List FieldFix) := [
  (0x100006, sc 2 (.upTo 511 [0xFFFF] 0xFFFF)), (0x110002, sc 1 (.upTo 1 [] 1)), (0x110003, sc 2 (.range 5 1000)),
  (0x220201, en 2 (.bits 0x3FF)),
  (0x300013, sc 1 (.range 5 95)), (0x300014, sc 1 (.range 105 250)), (0x300015, sc 2 (.range 10 500)),
  (0x340001, sc 1 (.upTo 2 [] 2)), (0x340004, sc 4 (.range 100 100000)), (0x340005, sc 4 (.range (-100000) 100000)),
  (0x340017, sc 1 (.upTo 8 [] 8)),
  (0x340018, [{ stride := 8, o := 4, n := 1, fix := .bits 0x1F }, { stride := 8, o := 5, n := 3, fix := .bits 0 }]),
  (0x34001C, sc 4 (.range 1 0xFFFFFFFF)),
  (0x340027, sc 1 (.upTo 8 [] 8)),
  (0x340028, [{ stride := 8, o := 4, n := 1, fix := .bits 0x1F }, { stride := 8, o := 5, n := 3, fix := .bits 0 }]),
  (0x34002C, sc 4 (.range 1 0xFFFFFFFF))] ++ [
  (0x380002, en 1 (.bits 3)), (0x380007, en 2 (.bits 0x3FF)), (0x380010, en 2 (.bits 0xFFF)),
  (0x380013, sc 2 (.range 1 4095)), (0x380014, sc 1 (.upTo 2 [] 0)), (0x380020, en 1 (.range 1 255)),
  (0x3C0010, en 1 (.bits 0x87)), (0x3C0012, en 2 (.range 0 2560)), (0x3C0013, sc 2 (.range 16 512)),
  (0x3C0014, en 2 (.range 10 1000)), (0x3C0020, en 2 (.range (-2048) 2047)),
  (0x440012, [{ stride := 34, o := 32, n := 1, fix := .bits 15 }, { stride := 34, o := 33, n := 1, fix := .bits 15 }]),
  (0x440013, [{ stride := 34, o := 32, n := 1, fix := .bits 15 }, { stride := 34, o := 33, n := 1, fix := .bits 15 }]),
  (0x440038, sc 4 (.range (-100000) 100000)), (0x440039, sc 2 (.range (-2048) 2047)),
  (0x480015, sc 2 (.range 512 65535)), (0x480030, sc 4 (.bits 0xFFFFFF)),
  (0x4C0013, sc 1 (.range 1 255)), (0x4C0014, sc 1 (.range 1 255)), (0x4C0015, sc 1 (.range 1 255)),
  (0x4C0016, sc 1 (.bits 15)), (0x4C0017, sc 2 (.range 10 900)), (0x4C0040, sc 1 (.range 0 5)),
  (0x4C0060, sc 1 (.range 0 5))] ++ [
  (0x500011, en 1 (.bits 0x1F)), (0x500012, sc 1 (.range 0 1)), (0x500013, sc 4 (.range 1 131056)),
  (0x500014, sc 2 (.range 64 32768)), (0x500015, sc 2 (.range 0 1024)), (0x500016, sc 1 (.bits 0x3F)),
  (0x500017, sc 1 (.bits 0x7F)), (0x500018, sc 1 (.bits 15)),
  (0x500021, [{ stride := 12, o := 10, n := 2, fix := .bits 0 }]), (0x500028, sc 1 (.range 0 15)),
  (0x540002, sc 1 (.range 0 2)), (0x540004, sc 2 (.range 1000 1250)),
  (0x540010, [{ stride := 8, o := 1, n := 1, fix := .bits 0xF7 }]), (0x540013, sc 1 (.bits 0x1F)),
  (0x540045, en 2 (.range (-1600) 1600)), (0x580020, sc 2 (.bits 0x1FFF)),
  (0x5C0002, sc 1 (.upTo 1 [] 0)), (0x5C0006, sc 4 (.range 100 10000)),
  (0x600003, sc 4 (.range (-2147484) 2147484)), (0x60000A, sc 1 (.range 0 127)), (0x60000B, sc 2 (.range 0 2000)),
  (0x60000C, sc 2 (.range 0 2000)), (0x60000D, sc 4 (.range 1000 1000000000)), (0x60000E, sc 4 (.range 50 100000)),
  (0x60000F, sc 4 (.range 1000 3600000)), (0x600024, sc 1 (.range 1 3)), (0x600026, sc 1 (.range 0 1)),
  (0x600027, sc 1 (.range 0 2)), (0x600031, sc 1 (.range 0 7)),
  (0x600038, [{ stride := 4, o := 0, n := 1, fix := .bits 0x8F }, { stride := 4, o := 1, n := 1, fix := .bits 0 },
    { stride := 4, o := 2, n := 2, fix := .range 1 1000 }]),
  (0x600050, sc 1 (.orOff 5 255)), (0x600051, sc 2 (.range 1 512))] ++ [
  (0x640007, sc 2 (.bits 0x3F)), (0x640008, sc 1 (.range 0 7)), (0x640022, sc 2 (.range 40 400)),
  (0x64002A, sc 2 (.range 24 8760)), (0x64002B, sc 1 (.range 8 64)), (0x640030, sc 1 (.upTo 0 [1, 2] 1)),
  (0x680012, en 1 (.range 0 7)), (0x680018, en 2 (.range 1000 10000)), (0x680019, en 4 (.range 100 1000000)),
  (0x68001A, en 4 (.range 100 1000000)), (0x680022, sc 1 (.bits 15)), (0x680024, sc 2 (.orOff 16 60000)),
  (0x680025, sc 2 (.range 0 30000)),
  (0x6C0005, sc 2 (.orOff 1000 2500)), (0x6C0008, sc 2 (.range 16 800)), (0x6C0009, sc 4 (.range 60 86400)),
  (0x6C0012, en 2 (.range (-1024) 1023))]

/-- What is stored when the object of `row` takes the bytes `bs`, of which the write touched `len` at `off` (00 R14, R16, R493; 02 R43).
DEDUCED: notes/assumptions/75. -/
def storedValue (row : ObjRow) (off len : Nat) (bs : List Byte) : List Byte :=
  match row.type with
  | .bool => if ofLe bs = 0 then [0] else [1]
  | .time80 =>
    let ns := uAt bs 6 4 % 2 ^ 30
    le 6 (uAt bs 0 6 + ns / 1000000000) ++ le 4 (ns % 1000000000)
  | _ => ((mget fixes row.key).getD []).foldl (fun acc f => f.apply off len acc) bs

/-! ### Ranges a staged unit object must lie in (04 R118, 06 R171, 08 R211, 09 R241, 17 R394, 18 R421) -/

/-- One range: the entries of `n` bytes lie between `lo` and `hi`. -/
structure StagedRange where
  n : Nat
  lo : Nat
  hi : Nat
  deriving DecidableEq, Repr

def stagedRanges : SMap StagedRange := [
  (0x300002, ⟨1, 8, 128⟩), (0x300006, ⟨1, 0, 96⟩), (0x300007, ⟨1, 0, 96⟩), (0x300008, ⟨1, 0, 96⟩),
  (0x30000A, ⟨1, 0, 96⟩), (0x380003, ⟨1, 0, 3⟩), (0x380004, ⟨1, 0, 3⟩), (0x380011, ⟨2, 0, 2000⟩),
  (0x400011, ⟨1, 1, 8⟩), (0x400012, ⟨1, 1, 8⟩), (0x400013, ⟨2, 8, 4095⟩),
  (0x440010, ⟨1, 0, 1⟩), (0x440020, ⟨2, 1, 4095⟩), (0x440021, ⟨1, 4, 255⟩), (0x440022, ⟨1, 4, 255⟩),
  (0x440023, ⟨1, 1, 32⟩), (0x440024, ⟨1, 1, 31⟩), (0x440026, ⟨2, 8, 4095⟩), (0x440027, ⟨1, 1, 127⟩),
  (0x440030, ⟨1, 1, 255⟩), (0x440031, ⟨2, 0, 614⟩), (0x440032, ⟨2, 1, 614⟩), (0x440033, ⟨2, 1, 4096⟩),
  (0x440034, ⟨2, 1, 4096⟩), (0x600040, ⟨1, 0, 1⟩), (0x600042, ⟨4, 0, 50000⟩), (0x640006, ⟨1, 1, 255⟩)]

/-- Every whole entry of `bs` lies in the range. -/
def StagedRange.holds (r : StagedRange) (bs : List Byte) : Bool :=
  (List.range (bs.length / r.n)).all fun i =>
    let v := uAt bs (i * r.n) r.n
    r.lo ≤ v && v ≤ r.hi

/-! ### Variants (00 R1 to R3, 23 R489) -/

/-- FeatureMask (00 R3). -/
def Variant.featureMask : Variant → Nat
  | .f => 0xFFFF
  | .s => 0xBDFF
  | .l => 0xBCFF

/-- DESIGN CHOICE: notes/assumptions/4. -/
def Variant.hasRecorder : Variant → Bool
  | .f => true | .s => false | .l => false

/-- DESIGN CHOICE: notes/assumptions/4. -/
def Variant.hasPortB : Variant → Bool
  | .f => true | .s => true | .l => false

/-- The object belongs to a unit that the variant lacks (00 R6, 23 R489). DESIGN CHOICE: notes/assumptions/4. -/
def absentUnit (v : Variant) (key : Nat) : Bool :=
  let index := key / 256
  let sub := key % 256
  if index = 0x5000 ∨ index = 0x6400 then !v.hasRecorder
  else if index = 0x4C00 then
    !v.hasPortB && ((0x60 ≤ sub && sub ≤ 0x71) || sub == 4 || sub == 6 || sub == 8 || sub == 10 || sub == 12)
  else false

/-- Keys of the objects of an access code, in rising order. -/
def keysWith (a : Access) : List Nat :=
  ([0x1000, 0x1100, 0x1200, 0x1300, 0x2000, 0x2100, 0x2200, 0x2201, 0x2202, 0x2203, 0x3000, 0x3400, 0x3800, 0x3C00,
    0x4000, 0x4400, 0x4800, 0x4C00, 0x5000, 0x5400, 0x5800, 0x5C00, 0x6000, 0x6400, 0x6800, 0x6C00, 0x7000].flatMap
    rowsOf).filterMap fun r => if r.access == a then some r.key else none

end Sys2Proof.Machine
end

