-- ==== Sys2Proof/Machine/Ops.lean ====
section
/-!
DEFINITION. The named operations over the state: the values of objects, time, what a command sends, diagnostic events,
the triggers of the recorder that events and trips start, the two-slot MRAM, and the frame of a command.
-/

namespace Sys2Proof.Machine

/-! ### Values of objects (00 R12) -/

def defaultOf (key : Nat) : List Byte :=
  match objRow key with
  | some r => r.dflt
  | none => []

/-- The value of an object under a set of values laid over the defaults (00 R12). -/
def valueIn (m : ObjMap) (key : Nat) : List Byte := (mget m key).getD (defaultOf key)

def planN (p : Plan) (key : Nat) : Nat := ofLe (valueIn p key)

def planI (p : Plan) (key : Nat) : Int :=
  let b := valueIn p key
  signed (8 * b.length) (ofLe b)

/-- The plan whose values the RWT objects read: the one in force, or the defaults (03 R76). -/
def State.plan (s : State) : Plan := s.pipe.plan.getD []

/-- The bytes of an RWP or RW object; those of 0x6800 live in the Spring (19 R439). -/
def State.reg (s : State) (key : Nat) : List Byte :=
  if key / 256 = 0x6800 then valueIn s.spring.regs key
  else (mget s.rwp key).getD ((mget s.rw key).getD (defaultOf key))

def State.regN (s : State) (key : Nat) : Nat := ofLe (s.reg key)

def State.regI (s : State) (key : Nat) : Int :=
  let b := s.reg key
  signed (8 * b.length) (ofLe b)

/-- Stores an RWP or RW value. -/
def State.setReg (s : State) (key : Nat) (access : Access) (v : List Byte) : State :=
  if key / 256 = 0x6800 then { s with spring := { s.spring with regs := mset s.spring.regs key v } }
  else if access = .rwp then { s with rwp := mset s.rwp key v }
  else { s with rw := mset s.rw key v }

/-! ### Time (17 R383, R384; notes/assumptions/1) -/

/-- RateInForce (17 R384). -/
def State.rate (s : State) : Int := clampInt (-2147484) 2147484 (s.regI 0x600003 + s.ntu.servo)

/-- The wrap of the local clock: 2⁴⁸ s in units of 2⁻³² ns (17 R383). -/
def clockWrap : Nat := 2 ^ 48 * 1000000000 * 2 ^ 32

/-- The state at instant `t` with nothing sent yet: the local clock has run on at its rate (17 R383). Time never goes back.
DESIGN CHOICE: notes/assumptions/1, 3. -/
def State.atTime (s : State) (t : Nat) : State :=
  let now := max s.now t
  let dt := now - s.now
  let step := dt * ((2 ^ 32 : Nat) + s.rate).toNat
  { s with now, out := [], ntu := { s.ntu with clock := (s.ntu.clock + step) % clockWrap } }

/-- Local time in whole ns. -/
def State.clockNs (s : State) : Nat := s.ntu.clock / 2 ^ 32

def time80 (ns : Nat) : Time80 := { sec := ns / 1000000000 % 2 ^ 48, ns := ns % 1000000000 }

def Time80.total (t : Time80) : Nat := t.sec * 1000000000 + t.ns

def Time80.bytes (t : Time80) : List Byte := le 6 t.sec ++ le 4 t.ns

/-- The local clock as TIME80 (17 R383). -/
def State.localTime (s : State) : Time80 := time80 s.clockNs

/-- The local clock in 2⁻³² ns at an instant of the past, run back at the present rate. DESIGN CHOICE: notes/assumptions/13. -/
def State.clockAt (s : State) (t : Nat) : Nat :=
  let back := (s.now - t) * ((2 ^ 32 : Nat) + s.rate).toNat
  (s.ntu.clock + clockWrap - back % clockWrap) % clockWrap

def State.localTimeAt (s : State) (t : Nat) : Time80 := time80 (s.clockAt t / 2 ^ 32)

/-! ### What a command sends (notes/assumptions/3) -/

/-- DESIGN CHOICE: notes/assumptions/3. -/
def State.send (s : State) (o : Output) : State := { s with out := s.out ++ [o] }

/-- The next CAN FD data length that holds `n` bytes (02 R37). -/
def canLength (n : Nat) : Nat :=
  if n ≤ 8 then n else if n ≤ 12 then 12 else if n ≤ 16 then 16 else if n ≤ 20 then 20
  else if n ≤ 24 then 24 else if n ≤ 32 then 32 else if n ≤ 48 then 48 else 64

/-- The segments of a message (02 R37), 63 bytes to a segment, `i` the first one's counter; the last is padded. -/
def canSegmentsFrom (fuel : Nat) (i : Nat) (bs : List Byte) : List (List Byte) :=
  match fuel with
  | 0 => []
  | fuel + 1 =>
    let first := if i = 0 then 128 else 0
    if bs.length ≤ 63 then
      let seg := BitVec.ofNat 8 (first + 64 + i) :: bs
      [seg ++ List.replicate (canLength seg.length - seg.length) 0]
    else (BitVec.ofNat 8 (first + i) :: bs.take 63) :: canSegmentsFrom fuel (i + 1) (bs.drop 63)

def canSegments (bs : List Byte) : List (List Byte) := canSegmentsFrom 34 0 bs

/-- The identifiers are those of 11-bit mode: CanIdMode 0 and a device number below 128 (02 R36). -/
def State.canStandard (s : State) : Bool := s.part.canIdMode == 0 && decide (s.part.device < 128)

/-- The response identifier (02 R36). -/
def State.canResponseId (s : State) : Nat :=
  if s.canStandard then 0x600 + s.part.device else 0x10600000 + s.part.device

/-- The request identifier: whether it is a 29-bit one, and its value (02 R36). -/
def State.canRequestId (s : State) : Bool × Nat :=
  if s.canStandard then (false, 0x580 + s.part.device) else (true, 0x10580000 + s.part.device)

/-- A KPP message to an endpoint (02 R35 to R37). -/
def State.sendKpp (s : State) (ep : Endpoint) (bytes : List Byte) : State :=
  match ep with
  | .udp _ _ => s.send (.kpp ep bytes)
  | .can => (canSegments bytes).foldl (fun s seg => s.send (.can s.canResponseId seg)) s

/-! ### Free values (notes/assumptions/10) -/

/-- The next free value; the counter moves on. DESIGN CHOICE: notes/assumptions/10. -/
def State.free (s : State) : Nat × State := (Config.freeNat s.freeCount, { s with freeCount := s.freeCount + 1 })

/-! ### Diagnostic events (02 R60, R61; 23 R491, R492; 14 R351; 19 R442) -/

/-- An event record in order of EventSequence (02). -/
def EventRec.bytes (e : EventRec) : List Byte :=
  le 4 e.seq.toNat ++ e.time.bytes ++ le 2 e.code ++ le 2 (e.code / 1024 * 1024) ++ le 1 e.sub ++ [0] ++
    le 4 e.detail.toNat

/-- `e` among records of one cycle in ascending order of event code (23 R492). DEDUCED: notes/assumptions/22. -/
def insertByCode (e : EventRec) : List EventRec → List EventRec
  | [] => [e]
  | x :: xs => if e.code < x.code then e :: x :: xs else x :: insertByCode e xs

/-- Records numbered from `n` on. -/
def renumber (n : Word) : List EventRec → List EventRec
  | [] => []
  | e :: es => { e with seq := n } :: renumber (n + 1) es

/-- The new records `fresh` queued for transmission while the queue holds fewer than 64 (02 R61): the queue and how many were not.
DEDUCED: notes/assumptions/22. -/
def queueEvents (q fresh : List EventRec) : List EventRec × Nat :=
  let room := 64 - q.length
  (q ++ fresh.take room, fresh.length - room)

/-- A record of an event detected at `time`, in ring, queue and count (02 R61, 23 R492). DEDUCED: notes/assumptions/22. -/
def Kpp.record (k : Kpp) (cycle : Nat) (time : Time80) (code sub : Nat) (detail : Word) : Kpp :=
  -- records of this cycle that have not left yet, at the end of the ring
  let fresh := fun (r : EventRec) => r.cycle == cycle && (k.dests.isEmpty || k.txq.any fun q => q.seq == r.seq)
  let same := (k.ring.reverse.takeWhile fresh).reverse
  let older := k.ring.take (k.ring.length - same.length)
  let e : EventRec := { seq := 0, time, code, sub, detail, cycle }
  let block := renumber (k.evSeq + 1 - BitVec.ofNat 32 same.length) (insertByCode e same)
  let ring := older ++ block
  let kept := k.txq.filter fun q => !(same.any fun r => r.seq == q.seq)
  let (txq, lost) := queueEvents kept (if k.dests.isEmpty then [] else block)
  { k with evSeq := k.evSeq + 1, ring := ring.drop (ring.length - 32), txq, notSent := sat32 k.notSent lost }

/-- A record of this cycle taken back: what it told of did not happen in the end (16 R373). -/
def Kpp.retract (k : Kpp) (cycle code : Nat) : Kpp :=
  let gone := fun (r : EventRec) => r.cycle == cycle && r.code == code
  if !k.ring.any gone then k
  else
    let fresh := fun (r : EventRec) => r.cycle == cycle
    let same := (k.ring.filter fresh).filter fun r => !gone r
    let ring := k.ring.filter fun r => !fresh r
    let block := renumber (k.evSeq - BitVec.ofNat 32 same.length) same
    let queued := count (fun r => fresh r && !gone r) k.txq
    { k with evSeq := k.evSeq - 1, ring := ring ++ block, txq := (k.txq.filter fun r => !fresh r) ++ block.take queued }

/-- Events of absent units are never raised (23 R492). -/
def eventAbsent (v : Variant) (code sub : Nat) : Bool :=
  let index := code / 1024 * 1024
  ((index == 0x5000 || index == 0x6400) && !v.hasRecorder) || (index == 0x4C00 && sub == 0x62 && !v.hasPortB)

/-- An event goes into the records, or waits for a holder of the lease (14 R351, 19 R442). DEDUCED: notes/assumptions/23. -/
def State.record (s : State) (code sub : Nat) (detail : Word) : State :=
  let index := code / 1024 * 1024
  if eventAbsent s.part.variant code sub then s
  else if (index = 0x5C00 ∨ index = 0x6800) ∧ s.cu.holder = none then
    { s with kpp := { s.kpp with
        deferred := s.kpp.deferred ++ [{ time := s.localTime, code, sub, detail, cycle := s.now }] } }
  else { s with kpp := s.kpp.record s.now s.localTime code sub detail }

/-! ### Recorder triggers (18 R402 to R406) -/

/-- a comes after b in modular order (00 R17). -/
def wordAfter (a b : Word) : Bool := 0 < (a - b).toNat && (a - b).toNat < 2 ^ 31

def RingUnit.size (u : RingUnit) : Nat := u.bytes.length

def unitBytes (us : List RingUnit) : Nat := sumOf (us.map RingUnit.size)

/-- The units from the earliest frame header on that the budget allows (18 R402): kind 0 is a frame header. -/
def preTrigger (budget : Nat) : List RingUnit → List RingUnit
  | [] => []
  | u :: us => if u.kind = 0 ∧ unitBytes (u :: us) ≤ budget then u :: us else preTrigger budget us

def Evr.queued (e : Evr) : Nat := count (fun i => i.state == .queued) e.incidents

def updateIncident (n : Nat) (f : Incident → Incident) (l : List Incident) : List Incident :=
  l.map fun i => if i.number = n then f i else i

/-- The incident whose window runs; one closed in this very cycle is still open for a trigger (18 R405, R420). -/
def Evr.openIncident (e : Evr) (now : Nat) : Option Incident :=
  e.incidents.find? fun i => i.opened || i.closedAt == some now

/-- The open incident's window closes with the last unit of its last frame (18 R406). -/
def Evr.closeWindow (e : Evr) (frame : Word) (now : Nat) : Evr :=
  match e.incidents.find? fun i => i.opened && !wordAfter i.endFrame frame with
  | none => e
  | some i =>
    { e with
      heldTo := some frame
      incidents := updateIncident i.number (fun i => { i with opened := false, closedAt := some now, lastFrame := frame })
        e.incidents }

/-- Sets a bit of the header Flags (18 R408). -/
def Incident.flag (i : Incident) (b : Nat) : Incident := { i with flags := i.flags ||| 2 ^ b }

/-- The epoch of the plan in force. -/
def State.epochInForce (s : State) : BitVec 16 := s.txn.epoch

/-- A new incident at a trigger (18 R404 to R407). -/
def State.newIncident (s : State) (source : Nat) : State :=
  let e := s.evr
  let avail := match e.heldTo with
    | some f => e.ring.filter fun u => wordAfter u.frame f
    | none => e.ring
  let pre := preTrigger e.budget avail
  let frame := s.pipe.frame
  let post := planN s.plan 0x640006
  let busy := e.incidents.any fun i => i.state == .writing
  let short := decide (unitBytes avail < e.budget)
  let port := if planN s.plan 0x210008 = 3 then 0 else planN s.plan 0x200010
  let number := e.last + 1
  let lost := count (fun u => u.kind == 9) pre
  let i : Incident :=
    { number, state := if busy then .queued else .writing, writeFrom := s.now, opened := true, source, port,
      time := s.localTime, epoch := s.epochInForce, trigFrame := frame
      firstFrame := (pre.head?.map RingUnit.frame).getD frame, lastFrame := frame
      endFrame := frame + BitVec.ofNat 32 post, post, preBytes := unitBytes pre, payload := pre.filter fun u => u.kind != 9
      flags := (if short then 1 else 0) + (if lost = 0 then 0 else 4) + (if e.reduced then 32 else 0), gapUnits := lost
      segs := ((pre.filter fun u => u.kind != 9).map RingUnit.seg).foldl (fun l x => insertSet x l) [] }
  { s with evr := { e with last := number, incidents := e.incidents ++ [i] } }

/-- A trigger of a source bit (18 R404, R405), where the Recorder axis is armed and the source is enabled. DEDUCED: notes/assumptions/60. -/
def State.trigger (s : State) (source : Nat) : State :=
  if !s.part.variant.hasRecorder || !s.evr.armed || !bitOf (s.regN 0x640007) source then s
  else if s.evr.trigAt = some s.now then
    -- one trigger per cycle, named by its lowest bit
    let e := s.evr
    let patch := fun (r : EventRec) => if r.code = 0x6401 ∧ r.cycle = s.now ∧ source < field r.detail.toNat 26 24 then
        { r with detail := BitVec.ofNat 32 (field r.detail.toNat 23 0 + source * 2 ^ 24) } else r
    { s with
      evr := { e with incidents := e.incidents.map fun i =>
        if i.opened ∧ i.time = s.localTime ∧ i.number = e.last then { i with source := min i.source source } else i }
      kpp := { s.kpp with ring := s.kpp.ring.map patch, txq := s.kpp.txq.map patch } }
  else
    let s := { s with evr := { s.evr with trigAt := some s.now } }
    match s.evr.openIncident s.now with
    | some i =>
      let e := s.evr
      let ext := !bitOf i.flags 1
      let f := fun (i : Incident) =>
        let i := { i with merged := i.merged + 1 }
        if ext then { i.flag 1 with endFrame := i.endFrame + BitVec.ofNat 32 i.post, opened := true, closedAt := none } else i
      { s with evr := { e with merged := sat32 e.merged, incidents := updateIncident i.number f e.incidents } }
    | none =>
      if s.evr.queued < 4 then
        let s := s.newIncident source
        s.record 0x6401 0x15 (BitVec.ofNat 32 (s.evr.last % 2 ^ 24 + source * 2 ^ 24))
      else
        let s := { s with evr := { s.evr with lostTriggers := sat32 s.evr.lostTriggers } }
        s.record 0x6403 0x12 (BitVec.ofNat 32 source)

/-- An event as a unit raises it: recorded, and a trigger of the recorder where it is one (18 R404 bits 3 to 5). -/
def State.raise (s : State) (code sub : Nat) (detail : Nat) : State :=
  if eventAbsent s.part.variant code sub then s
  else
    let s := s.record code sub (BitVec.ofNat 32 detail)
    let s := if code = 0x3401 then s.trigger 3 else s
    let s := if code = 0x5C02 then s.trigger 4 else s
    let watched := s.regN 0x64000A
    if watched ≠ 0 ∧ watched = code then s.trigger 5 else s

/-- Raises where a condition holds. -/
def State.raiseIf (s : State) (c : Bool) (code sub detail : Nat) : State := if c then s.raise code sub detail else s

/-! ### Two-slot MRAM records (02 R62, 21 R464) -/

/-- The Sequence of a slot's record, where its CRC-32 is correct. -/
def Slot.seqOf {α : Type} : Slot α → Option Word
  | .good n _ => some n
  | _ => none

def Slot.bodyOf {α : Type} : Slot α → Option α
  | .good _ b => some b
  | _ => none

/-- The slot in force: 0 or 1, the correct one with the newer Sequence; none if neither is correct (21 R464). -/
def Slots.inForce {α : Type} (x : Slots α) : Option Nat :=
  match x.a.seqOf, x.b.seqOf with
  | none, none => none
  | some _, none => some 0
  | none, some _ => some 1
  | some m, some n => if wordAfter n m then some 1 else some 0

def Slots.body {α : Type} (x : Slots α) : Option α :=
  match x.inForce with
  | some 0 => x.a.bodyOf
  | some _ => x.b.bodyOf
  | none => none

def Slots.seq {α : Type} (x : Slots α) : Word :=
  match x.inForce with
  | some 0 => x.a.seqOf.getD 0
  | some _ => x.b.seqOf.getD 0
  | none => 0

/-- Neither slot was ever written (03 R76). -/
def Slots.empty {α : Type} (x : Slots α) : Bool :=
  match x.a, x.b with
  | .blank, .blank => true
  | _, _ => false

/-- Neither slot is correct: a record was lost (02 R63). -/
def Slots.lost {α : Type} (x : Slots α) : Bool := x.inForce.isNone

/-- A record written into the slot that is not in force, read back correctly or not (02 R62, 21 R464). -/
def Slots.write {α : Type} (x : Slots α) (body : α) (ok : Bool) : Slots α :=
  let rec_ : Slot α := if ok then .good (x.seq + 1) body else .corrupt
  match x.inForce with
  | some 0 => { x with b := rec_ }
  | _ => { x with a := rec_ }

/-! ### The unit that acts (14 R337, R338) -/

def Cu.unit (c : Cu) (u : Nat) : CtrlUnit := if u = 0 then c.a else c.b

/-- The firmware functions run while a unit holds the lease and no takeover is under way (14 R346, 17 R389).
DEDUCED: notes/assumptions/59. -/
def State.serving (s : State) : Bool := s.cu.holder.isSome && !s.cu.takingOver

/-- Writes of the unit leave it: it holds the lease and its fence is open (14 R337, R338). DESIGN CHOICE: notes/assumptions/77. -/
def State.unitActs (s : State) : Bool :=
  match s.cu.holder with
  | some h => s.serving && !(s.cu.unit h).fenced
  | none => false

/-! ### Conversions of the MON (16 R366) -/

/-- A sample of an input: OVR counts, and the two conversions of that input after one carry Recovery. -/
def Mon.converted (m : Mon) (input : Nat) (ovr : Bool) : Mon :=
  { m with
    recovery := mput m.recovery input (if ovr then 2 else mcount m.recovery input - 1)
    overRange := if ovr then sat32 m.overRange else m.overRange }

/-! ### The frame of a command -/

/-- The units of the state, by name. -/
inductive UnitId where
  | rw | rwp | kpp | txn | mram | pipe | edu | bsc | rfe | tda | hac | prx | mcx | fmt | linkA | linkB | emg | cu
  | wcu | mon | thermal | ntu | evr | spring | fw | cal | part
  deriving DecidableEq, Repr

/-- `s` with unit `u` as it is in `old`. -/
def State.keep (s old : State) (u : UnitId) : State :=
  match u with
  | .rw => { s with rw := old.rw }
  | .rwp => { s with rwp := old.rwp }
  | .kpp => { s with kpp := old.kpp }
  | .txn => { s with txn := old.txn }
  | .mram => { s with mram := old.mram }
  | .pipe => { s with pipe := old.pipe }
  | .edu => { s with edu := old.edu }
  | .bsc => { s with bsc := old.bsc }
  | .rfe => { s with rfe := old.rfe }
  | .tda => { s with tda := old.tda }
  | .hac => { s with hac := old.hac }
  | .prx => { s with prx := old.prx }
  | .mcx => { s with mcx := old.mcx }
  | .fmt => { s with fmt := old.fmt }
  | .linkA => { s with linkA := old.linkA }
  | .linkB => { s with linkB := old.linkB }
  | .emg => { s with emg := old.emg }
  | .cu => { s with cu := old.cu }
  | .wcu => { s with wcu := old.wcu }
  | .mon => { s with mon := old.mon }
  | .thermal => { s with thermal := old.thermal }
  | .ntu => { s with ntu := old.ntu }
  | .evr => { s with evr := old.evr }
  | .spring => { s with spring := old.spring }
  | .fw => { s with fw := old.fw }
  | .cal => { s with cal := old.cal }
  | .part => { s with part := old.part }

/-- A command's step: at instant `t`, `f` on the state; the units in `frame` are the ones the command's rules leave alone, and no command touches the queue.
DESIGN CHOICE: notes/assumptions/1. -/
def run (t : Nat) (frame : List UnitId) (f : State → State) (s : State) : Host.Outcome State Fault Refusal :=
  let s0 := s.atTime t
  let s1 := frame.foldl (fun acc u => acc.keep s0 u) (f s0)
  .next { s1 with pending := s.pending, now := s0.now }

/-- The main domain is out of reset: Running, or in the steps of an orderly shutdown before its reset (19 R427, R437). -/
def State.mainOn (s : State) : Bool :=
  s.spring.state == .running || (s.spring.state == .shuttingDown && s.spring.shutStep < 5)

/-- A command of the main domain: with the domain in reset it finds nothing to act on. -/
def runMain (t : Nat) (frame : List UnitId) (f : State → State) (s : State) : Host.Outcome State Fault Refusal :=
  run t frame (fun s => if s.mainOn then f s else s) s

/-- A write of a register, or another access of the acting unit to the shared resources: discarded without effect where
no unit acts (14 R337, R338). -/
def runUnit (t : Nat) (frame : List UnitId) (f : State → State) : State → Host.Outcome State Fault Refusal :=
  runMain t frame fun s => if s.unitActs then f s else s

end Sys2Proof.Machine
end

