-- ==== Sys2Proof/Machine/Operands.lean ====
section
/-!
DEFINITION. The operand forms: the items of KPP messages and CAN segments (02 R37 to R44), and the plan's values as the
formulas of the manual name them (03 R69 to R74, 04, 06 to 09).
-/

namespace Sys2Proof.Machine

/-! ### KPP items (02) -/

structure ReadItem where
  key : Nat
  offset : Nat
  deriving DecidableEq, Repr

structure ValueItem where
  key : Nat
  type : Nat
  offset : Nat
  value : List Byte
  deriving DecidableEq, Repr

/-- The key an item's Index and SubIndex name. -/
def itemKey (bs : List Byte) : Nat := uAt bs 0 2 * 256 + uAt bs 2 1

/-- A payload of read items, exactly consumed (02, Read items). -/
def parseReads : Nat → List Byte → Option (List ReadItem)
  | 0, bs => if bs.isEmpty then some [] else none
  | n + 1, bs =>
    if bs.length < 8 then none
    else
      match parseReads n (bs.drop 8) with
      | some l => some ({ key := itemKey bs, offset := uAt bs 4 4 } :: l)
      | none => none

/-- A payload of value items, exactly consumed (02, Value items). -/
def parseValues : Nat → List Byte → Option (List ValueItem)
  | 0, bs => if bs.isEmpty then some [] else none
  | n + 1, bs =>
    let len := uAt bs 8 2
    if bs.length < 10 + len then none
    else
      match parseValues n (bs.drop (10 + len)) with
      | some l => some ({ key := itemKey bs, type := uAt bs 3 1, offset := uAt bs 4 4,
                          value := (bs.drop 10).take len } :: l)
      | none => none

/-- A value item on the wire (02, Value items). -/
def ValueItem.bytes (v : ValueItem) : List Byte :=
  le 2 (v.key / 256) ++ le 1 v.key ++ le 1 v.type ++ le 4 v.offset ++ le 2 v.value.length ++ v.value

def ReadItem.bytes (r : ReadItem) : List Byte := le 2 (r.key / 256) ++ le 1 r.key ++ [0] ++ le 4 r.offset

/-- The 12-byte header of a message of the device, and its payload (02, KPP message header). -/
def kppBytes (op : Byte) (seq handle : BitVec 16) (status : Nat) (items device : Nat) (payload : List Byte) : List Byte :=
  [1, op] ++ le 2 seq.toNat ++ le 2 handle.toNat ++ le 1 status ++ le 1 items ++ le 2 payload.length ++ le 2 device ++
    payload

/-- A request as received: its 12-byte header and its payload (02). -/
def KppMsg.bytes (m : KppMsg) (op : Byte) : List Byte :=
  [m.version, op] ++ le 2 m.seq.toNat ++ le 2 m.handle.toNat ++ [m.status, m.itemCount] ++ le 2 m.payloadLength.toNat ++
    le 2 m.device.toNat ++ m.payload

/-- The message in 12 or more bytes, with its opcode (02, KPP message header). -/
def KppMsg.ofBytes (bs : List Byte) : Byte × KppMsg :=
  (BitVec.ofNat 8 (uAt bs 1 1),
   { version := BitVec.ofNat 8 (uAt bs 0 1), seq := BitVec.ofNat 16 (uAt bs 2 2), handle := BitVec.ofNat 16 (uAt bs 4 2)
     status := BitVec.ofNat 8 (uAt bs 6 1), itemCount := BitVec.ofNat 8 (uAt bs 7 1)
     payloadLength := BitVec.ofNat 16 (uAt bs 8 2), device := BitVec.ofNat 16 (uAt bs 10 2), payload := bs.drop 12 })

/-- The largest KPP message of an endpoint's transport (02 R35, R37). -/
def Endpoint.limit : Endpoint → Nat
  | .udp _ _ => 1472
  | .can => 2048

/-- The checks of a value item on an existing object (02 R44); an object that does not exist is not checked. -/
def ValueItem.wellFormed (v : ValueItem) : Bool :=
  match objRow v.key with
  | none => true
  | some r =>
    v.type == r.type.code &&
      match r.type.size with
      | some n => v.value.length == n && v.offset == 0
      | none => v.offset + v.value.length ≤ r.maxLen

/-! ### The plan (03 R68 to R74) -/

namespace Plan

def rows (p : Plan) : Nat := planN p 0x200001
def columns (p : Plan) : Nat := planN p 0x200002
def frameRate (p : Plan) : Nat := planN p 0x200003
/-- Turnaround in µs. -/
def turnaround (p : Plan) : Nat := planN p 0x200004
def shots (p : Plan) : Nat := planN p 0x200005
def coarseShots (p : Plan) : Nat := planN p 0x200006
def zoomWindows (p : Plan) : Nat := planN p 0x200007
def binWidth (p : Plan) : Nat := planN p 0x200008
def oliariCode (p : Plan) : Nat := planN p 0x20000A
def scanStart (p : Plan) : Int := planI p 0x20000C
def scanEnd (p : Plan) : Int := planI p 0x20000D
def interlace (p : Plan) : Nat := planN p 0x20000E
def interlaceStep (p : Plan) : Int := planI p 0x20000F
def pointPort (p : Plan) : Nat := planN p 0x200010
def histPort (p : Plan) : Nat := planN p 0x200011
def steering (p : Plan) : Nat := planN p 0x210001
def hist (p : Plan) : Nat := planN p 0x210002
def returns (p : Plan) : Nat := planN p 0x210003
def interference (p : Plan) : Nat := planN p 0x210004
def adaptivePower (p : Plan) : Bool := planN p 0x210005 == 1
def adaptiveGain (p : Plan) : Bool := planN p 0x210006 == 1
def weather (p : Plan) : Nat := planN p 0x210007
def output (p : Plan) : Nat := planN p 0x210008
def single (p : Plan) : Bool := planN p 0x210009 == 1
def recorder (p : Plan) : Bool := planN p 0x21000A == 1
def pulseWidth (p : Plan) : Nat := planN p 0x300002

/-- Frame period P in ns (03 R69). -/
def period (p : Plan) : Nat := 100000000000 / p.frameRate

/-- Active time A in ns (03 R69). -/
def active (p : Plan) : Nat := p.period - 1000 * p.turnaround

/-- S_k in ns: floor(k × A ÷ Columns) (01 R18). -/
def columnStart (p : Plan) (k : Nat) : Nat := k * p.active / p.columns

/-- Shot window W in ns (03 R69). -/
def window (p : Plan) : Nat := 1024 * 2 ^ p.binWidth

/-- Dither span D in ns: 0 under I0 (03 R69). -/
def dither (p : Plan) : Nat := if p.interference = 0 then 0 else planN p 0x200009

/-- Shot slot L in ns (03 R69). -/
def slot (p : Plan) : Nat := p.window + p.dither + 16

/-- Length of a coarse bin in event-time LSB of 15.625 ps: 32, 64 or 128 (03 R68). -/
def binLsb (p : Plan) : Nat := 32 * 2 ^ p.binWidth

/-- The port of row r (03 R71). -/
def portOf (p : Plan) (r : Nat) : Nat := uAt (valueIn p 0x220001) (2 * r) 2 / 512

/-- The channel of row r (03 R71). -/
def channelOf (p : Plan) (r : Nat) : Nat := uAt (valueIn p 0x220001) (2 * r) 2 % 512

/-- Port e fires in step s of the emitter sequence (03 R72). -/
def stepHas (p : Plan) (s e : Nat) : Bool := mapBit ((valueIn p 0x220101).drop (16 * s)) e

/-- c_max, the code of 0 dBp of port e (03 R73). -/
def maxCode (p : Plan) (e : Nat) : Nat := uAt (valueIn p 0x220201) (2 * e) 2 % 1024

/-- The rectangles of the region of interest: first row, last row, first column, last column (03 R74). -/
def rois (p : Plan) : List (Nat × Nat × Nat × Nat) :=
  let b := valueIn p 0x220301
  (List.range (b.length / 8)).map fun i => (uAt b (8 * i) 2, uAt b (8 * i + 2) 2, uAt b (8 * i + 4) 2, uAt b (8 * i + 6) 2)

def inRoi (p : Plan) (r c : Nat) : Bool := p.rois.any fun q => q.1 ≤ r && r ≤ q.2.1 && q.2.2.1 ≤ c && c ≤ q.2.2.2

/-- The cell is measured: under S3 only where its port is in the column's step (03 R80). -/
def measured (p : Plan) (r c : Nat) : Bool := p.steering != 3 || p.stepHas c (p.portOf r)

/-- The mirror sweeps: S1 and S2 (01 R19). -/
def sweeps (p : Plan) : Bool := p.steering == 1 || p.steering == 2

/-- The column of visit index k in frame n (01 R19). -/
def columnAt (p : Plan) (frame k : Nat) : Nat :=
  if p.sweeps && frame % 2 == 1 then p.columns - 1 - k else k

/-- Uses the Tarn: H3, P1 or G1 (03 R85). -/
def usesTarn (p : Plan) : Bool := p.hist == 3 || p.adaptivePower || p.adaptiveGain

/-- The PRX runs: not under H4 (03 R82). -/
def runsPrx (p : Plan) : Bool := p.hist != 4

/-- Coarse plus zoom histograms: H2 or H3. -/
def zooms (p : Plan) : Bool := p.hist == 2 || p.hist == 3

/-- Position sets the Tarn keeps (10 R250). -/
def recordSets (p : Plan) : Nat :=
  if p.steering = 2 ∧ p.rows * p.columns * p.interlace ≤ 262144 then p.interlace else 1

/-- The position set a frame reads and writes (10 R250). -/
def setOf (p : Plan) (frame : Nat) : Nat := if 1 < p.recordSets then frame % p.interlace else 0

/-- Second-axis position in frame n (03 R79). -/
def position (p : Plan) (frame : Nat) : Nat := if p.steering = 2 then frame % p.interlace else 0

/-- Pulse-pair spacing s in zoom bins of 62.5 ps (08 R199). -/
def pairSpacing (p : Plan) : Nat := 32 + planN p 0x20000B

/-- Slot j fires: under I2 the odd slots are dark (03 R78). -/
def slotLit (p : Plan) (j : Nat) : Bool := p.interference != 2 || j % 2 == 0

/-- The number of silent slots of a probe column (17 R395). -/
def silentSlots (p : Plan) : Nat := min 8 (p.shots / 2)

/-- Slot j of a probe column is silent: one of the last Q slots that would be lit (17 R395). -/
def silentSlot (p : Plan) (j : Nat) : Bool :=
  p.slotLit j && count p.slotLit ((List.range (p.shots - j)).map (· + j)) ≤ p.silentSlots

/-- Slot j is a zoom slot (08 R200). -/
def zoomSlot (p : Plan) (j : Nat) : Bool := p.zooms && p.coarseShots ≤ j

/-- Code stepped or held values that name the grid (03 R86). -/
def grid (p : Plan) : List (List Byte) :=
  [0x200001, 0x200002, 0x210001, 0x20000C, 0x20000D, 0x220001].map (valueIn p) ++
    (if p.steering = 2 then [0x20000E, 0x20000F].map (valueIn p) else []) ++
    (if p.steering = 3 then [valueIn p 0x220101] else [])

end Plan

end Sys2Proof.Machine
end

