-- ==== Sys2Proof/Machine/Energy.lean ====
section
/-!
DEFINITION. Setpoint codes, energy estimates, direction bins and limits, as the EDU, the EMG and the plan compiler
share them (04 R99 to R109, 13 R309 to R316).
-/

namespace Sys2Proof.Machine

/-- code(c_max, r), r quarter-decibel steps below the plan maximum (04 R100). -/
def reducedCode (cmax r : Nat) : Nat := cmax - (r * 1023 + 96) / 192

/-- The diagnostic code and the S4 ceiling: 10 % of plan power, −20 dBp (04 R112, 13 R316). -/
def lowCode (cmax : Nat) : Nat := cmax - 426

/-- Entry i of the energy table of port e, nJ at 4.0 ns (04 R109). -/
def energyEntry (table : List Byte) (e i : Nat) : Nat := uAt table (66 * e + 2 * i) 2

/-- The interpolation of 13 R311 before division: numerator in nJ × 32 × (c_hi − c_lo), and c_hi − c_lo. -/
def energyNum (table : List Byte) (e c w8 : Nat) : Int × Nat :=
  let lo := if c ≥ 992 then 31 else c / 32
  let cLo := 32 * lo
  let cHi := if c ≥ 992 then 1023 else cLo + 32
  let a := energyEntry table e lo
  let b := energyEntry table e (lo + 1)
  (((a * (cHi - cLo) : Nat) + ((b : Int) - a) * ((c - cLo : Nat) : Int)) * (w8 : Int), cHi - cLo)

/-- The booked estimate e16 in 1/16 nJ, rounded up (13 R311). -/
def e16 (table : List Byte) (e c w8 : Nat) : Nat :=
  let (num, d) := energyNum table e c w8
  ceilDiv (num * 16).toNat (d * 32)

/-- The exact estimate of 04 R109 in units of 1/31,744 nJ, a common denominator of every interval of the table. -/
def energyExact (table : List Byte) (e c w8 : Nat) : Nat :=
  let (num, d) := energyNum table e c w8
  (num * ((992 / d : Nat) : Int)).toNat

/-- The column group of a column (03 R91, 13 R309). -/
def groupOf (columns c : Nat) : Nat := c * 64 / columns

/-- The bins a pulse of port e in column c is booked to (13 R309). -/
def binsOf (p : Plan) (e c : Nat) : List Nat :=
  if p.sweeps then [64 * e + groupOf p.columns c] else (List.range 64).map fun g => 64 * e + g

/-- Λ_i(e) in nJ (13 R314). -/
def aelLimit (table : List Byte) (e i : Nat) : Nat := uAt table (12 * e + 4 * i) 4

/-- A table the compiler and the EMG use: 1,540 bytes, a correct CRC-32, no limit of 0 (13 R314). -/
def aelTableOk (t : List Byte) : Bool :=
  t.length == 1540 && (crc32 (t.take 1536)).toNat == uAt t 1536 4 &&
    (List.range 384).all fun i => uAt t (4 * i) 4 != 0

/-- Port e is used in a frame of the plan: enabled, and named by a row of the grid (04 R98). -/
def Plan.used (p : Plan) (e : Nat) : Bool :=
  mapBit (valueIn p 0x300004) e && (List.range (min p.rows 512)).any fun r => p.portOf r == e

/-- The ceiling the EMG holds a port's active code to (13 R316). -/
def codeCeiling (p : Plan) (e : Nat) : Nat :=
  if p.steering = 4 then lowCode (p.maxCode e) else p.maxCode e

end Sys2Proof.Machine
end

