-- ==== Sys2Proof/Machine/Compile.lean ====
section
/-!
DEFINITION. The plan compiler (03 R77 to R96): the reasons a plan gives for rejection, the one a COMMIT names, and the
warning of an accepted plan. Comparisons are on integers, fractions multiplied out (03 R87 text, R88 to R93).
-/

namespace Sys2Proof.Machine

/-- A reason code with an object it names (03 R95). -/
abbrev Reason := Nat × Nat

/-- The reason where a condition is violated. -/
def reject (bad : Bool) (code key : Nat) : List Reason := if bad then [(code, key)] else []

def outside (v lo hi : Nat) : Bool := v < lo || hi < v

/-- 0x01 CellLimit (03 R88). -/
def cellLimit (p : Plan) : List Reason :=
  reject (outside p.rows 1 512) 1 0x200001 ++ reject (outside p.columns 1 2048) 1 0x200002 ++
    reject (p.rows * p.columns > 262144) 1 0x200001

/-- 0x02 ShotBudget (03 R89). Where a value out of its range leaves L or A without meaning, only the range is named.
DEDUCED: notes/assumptions/33. -/
def shotBudget (p : Plan) : List Reason :=
  let meaningful := p.frameRate ≠ 0 ∧ p.binWidth ≤ 2
  let active : Int := (p.period : Int) - 1000 * (p.turnaround : Int)
  reject (outside p.frameRate 100 3000) 2 0x200003 ++
    reject (outside p.turnaround 2000 10000 || p.turnaround % 100 != 0) 2 0x200004 ++
    reject (outside p.shots 4 255) 2 0x200005 ++ reject (p.binWidth > 2) 2 0x200008 ++
    reject (planN p 0x200009 > 960) 2 0x200009 ++
    reject (decide meaningful && decide (active < ((p.shots * p.slot * p.columns : Nat) : Int))) 2 0x200002

/-- The largest number of channels of rows 0 to Rows − 1 on one PRX engine (03 R90). -/
def engineLoad (p : Plan) : Nat :=
  let chans := (List.range (min p.rows 512)).map p.channelOf
  maxOf ((List.range 16).map fun e => count (fun c => c / 32 == e) chans)

/-- 0x03 PeakBudget (03 R90). -/
def peakBudget (p : Plan) : List Reason :=
  reject (p.runsPrx && decide (9 * p.active < engineLoad p * 2048 * 10 * p.columns)) 3 0x200001

/-! ### Emission budget (03 R91, 13 R310, 17 R394) -/

/-- Pulses of a bin over one period of the schedule: the first position of each column, the lit slots of a column, their spacing, and the period. -/
structure Schedule where
  starts : List Nat
  shots : Nat
  spacing : Nat
  period : Nat
  diags : List Nat
  deriving DecidableEq, Repr

/-- Pulses at or before `t` within one period. -/
def Schedule.within (x : Schedule) (t : Nat) : Nat :=
  sumOf (x.starts.map fun a => if t < a then 0 else min x.shots ((t - a) / x.spacing + 1))

/-- Pulses at or before `t` of the schedule repeated for ever. -/
def Schedule.upTo (x : Schedule) (t : Nat) : Nat :=
  t / x.period * (x.starts.length * x.shots) + x.within (t % x.period)

/-- Diagnostic shots at or before `t`. -/
def Schedule.diagsUpTo (x : Schedule) (t : Nat) : Nat :=
  t / x.period * x.diags.length + count (fun d => d ≤ t % x.period) x.diags

/-- Pulses and diagnostic shots that a window of `span` ns can hold when it starts `y` + `dither` after the schedule's start: a pulse may stand up to `dither` after its position (03 R91). -/
def Schedule.windowAt (x : Schedule) (span dither y : Nat) : Nat × Nat :=
  let y := y + x.period
  let y' := y + dither
  (x.upTo (y + span + dither) - x.upTo (y - 1), x.diagsUpTo (y' + span) - x.diagsUpTo (y' - 1))

/-- The positions a largest window can start at: a pulse's latest place, or a diagnostic shot. -/
def Schedule.candidates (x : Schedule) (dither : Nat) : List Nat :=
  (x.starts.flatMap fun a => (List.range x.shots).map fun j => a + j * x.spacing) ++
    x.diags.map fun d => (d + x.period - dither % x.period) % x.period

/-- Every count of pulses and diagnostic shots a largest window can hold. -/
def Schedule.counts (x : Schedule) (span dither : Nat) : List (Nat × Nat) :=
  (x.candidates dither).foldl (fun acc y =>
    let w := x.windowAt span dither y
    if acc.any fun v => v.1 ≥ w.1 && v.2 ≥ w.2 then acc
    else w :: acc.filter fun v => !(v.1 ≤ w.1 && v.2 ≤ w.2)) []

/-- The frame length the projection uses: every turnaround shortened by PhaseSlewMax under FramePhaseMode 1 (17 R394). -/
def projectedFrame (p : Plan) : Nat :=
  if planN p 0x600040 = 1 then p.period - planN p 0x600042 else p.period

/-- The schedule of a bin: `frames` frames, in frame f the columns `cols f`, and the diagnostic shots where `diag f`. -/
def scheduleOf (p : Plan) (frames : Nat) (inBin : Nat → Nat → Bool) (diag : Nat → Bool) : Schedule :=
  let frame := projectedFrame p
  let step := if p.interference = 2 then 2 else 1
  let starts := (List.range frames).flatMap fun f =>
    (List.range p.columns).filterMap fun k =>
      if inBin f (p.columnAt f k) then some (f * frame + p.columnStart k + 16) else none
  { starts, shots := ceilDiv p.shots step, spacing := step * p.slot, period := frames * frame,
    diags := if planN p 0x300003 = 0 then [] else
      (List.range frames).filterMap fun f => if diag f then some (f * frame + p.active + 300000) else none }

/-- Ports and their schedules: one per column group under S1 and S2, one per port under S3, one for all under S4 (03 R91, 13 R309). -/
def schedules (p : Plan) (ports : List Nat) : List (List Nat × Schedule) :=
  if p.sweeps then
    (List.range 64).map fun g =>
      (ports, scheduleOf p 2 (fun _ c => groupOf p.columns c == g)
        (fun f => groupOf p.columns (p.columnAt f (p.columns - 1)) == g))
  else if p.steering = 3 then
    ports.map fun e => ([e], scheduleOf p 1 (fun _ c => p.stepHas c e) (fun _ => true))
  else [(ports, scheduleOf p 1 (fun _ _ => true) (fun _ => true))]

/-- Energies of a port in the plan, in 1/31,744 nJ: a lit slot and a diagnostic shot (03 R91). -/
def projectedEnergies (p : Plan) (energy : List Byte) (e : Nat) : Nat × Nat :=
  let cmax := p.maxCode e
  let code := if p.steering = 4 then lowCode cmax else cmax
  let pulses := if p.interference = 2 then 2 else 1
  (pulses * energyExact energy e code p.pulseWidth, energyExact energy e (lowCode cmax) 72)

/-- Every projection stays below its limit (03 R91); `windows` are T_i in µs. -/
def emissionOk (p : Plan) (energy ael : List Byte) (windows : List Nat) : Bool :=
  let lit := ((List.range 128).filter p.used).map fun e => (e, projectedEnergies p energy e)
  let ports := (lit.filter fun x => !(x.2.1 == 0 && x.2.2 == 0)).map Prod.fst
  ports.isEmpty || (schedules p ports).all fun x =>
    (List.range 3).all fun i =>
      let counts := x.2.counts (33 * (windows.getD i 0 * 1000) / 32) p.dither
      x.1.all fun e =>
        let (a, d) := projectedEnergies p energy e
        counts.all fun n => n.1 * a + n.2 * d < aelLimit ael e i * 31744

/-- 0x04 EmissionBudget (03 R91): not checked with an AelTable that fails 13 R314. -/
def emissionBudget (p : Plan) (energy : List Byte) (windows : List Nat) : List Reason :=
  let meaningful := p.frameRate != 0 && p.columns != 0 && p.binWidth ≤ 2 && 1000 * p.turnaround < p.period
  let ael := valueIn p 0x580008
  reject (meaningful && aelTableOk ael && !emissionOk p energy ael windows) 4 0x220201

/-! ### 0x05 ModeConflict (03 R68, R70, R77, R78; 04 R105; 08 R197, R199; 09 R215; 13 R314; 17 R394) -/

/-- Axis values that are not encoded (03 R70). -/
def axisValues (p : Plan) : List Reason :=
  reject (outside p.steering 1 4) 5 0x210001 ++ reject (outside p.hist 1 4) 5 0x210002 ++
    reject (p.returns > 3) 5 0x210003 ++ reject (p.interference > 2) 5 0x210004 ++
    reject (planN p 0x210005 > 1) 5 0x210005 ++ reject (planN p 0x210006 > 1) 5 0x210006 ++
    reject (p.weather > 2) 5 0x210007 ++ reject (outside p.output 1 3) 5 0x210008 ++
    reject (planN p 0x210009 > 1) 5 0x210009 ++ reject (planN p 0x21000A > 1) 5 0x21000A

/-- Unit objects outside their range or failing their own check (03 R95). -/
def unitRanges (p : Plan) : List Reason :=
  (stagedRanges.flatMap fun r => reject (!r.2.holds (valueIn p r.1)) 5 r.1) ++
    reject (planN p 0x380004 < planN p 0x380003) 5 0x380004 ++
    reject ((valueIn p 0x440012).length != 34) 5 0x440012 ++ reject ((valueIn p 0x440013).length != 34) 5 0x440013 ++
    reject (!aelTableOk (valueIn p 0x580008)) 5 0x580008 ++
    reject (p.frameRate != 0 && p.period ≤ planN p 0x600041) 5 0x600041

/-- The compatibility of the axes (03 R77, R78, 04 R105), with `axes` mirror axes configured. -/
def modeConflict (p : Plan) (axes : Nat) : List Reason :=
  let pairs := p.interference == 2
  let s := p.pairSpacing
  axisValues p ++ unitRanges p ++
    reject (p.zoomWindows > 3) 5 0x200007 ++ reject (planN p 0x20000B > 63) 5 0x20000B ++
    reject (511 < p.oliariCode && p.oliariCode != 0xFFFF) 5 0x20000A ++
    reject (p.pointPort > 1) 5 0x200010 ++ reject (p.histPort > 2) 5 0x200011 ++
    reject ((p.steering == 1 || p.steering == 4) && axes < 1) 5 0x210001 ++
    reject (p.steering == 2 && axes < 2) 5 0x210001 ++
    reject (p.steering == 2 && (outside p.interlace 2 8 ||
      (p.usesTarn && decide (262144 < p.rows * p.columns * p.interlace)))) 5 0x20000E ++
    reject (p.steering == 3 && (valueIn p 0x220101).length != 16 * p.columns) 5 0x200002 ++
    reject (p.zooms && outside p.zoomWindows 1 3) 5 0x200007 ++
    reject (p.zooms && (p.coarseShots == 0 || p.shots ≤ p.coarseShots)) 5 0x200006 ++
    reject (p.hist == 4 && (p.adaptivePower || p.adaptiveGain || p.weather == 1 || p.weather == 2 || p.output != 3 || p.recorder)) 5
      0x210002 ++
    reject (pairs && (p.shots < 8 || p.shots % 2 != 0)) 5 0x200005 ++
    reject (pairs && p.zooms && p.coarseShots % 2 != 0) 5 0x200006 ++
    reject (pairs && p.zooms && 64 ≤ s + 1) 5 0x20000B ++
    reject (pairs && s < 2 * p.pulseWidth + 16) 5 0x20000B

/-- 0x06 MirrorEnvelope (03 R92, 17 R394): limits in µrad, mrad/s and rad/s² of each axis. -/
def mirrorEnvelope (p : Plan) (lim0 lim1 : Nat × Nat × Nat) : List Reason :=
  let a := p.active
  let t := 1000 * p.turnaround
  let slew := if planN p 0x600040 = 1 then planN p 0x600042 else 0
  let tShort := t - slew
  let tLong := t + slew
  let delta := (p.scanEnd - p.scanStart).natAbs
  let far := max p.scanStart.natAbs p.scanEnd.natAbs
  let d2 := (p.interlace - 1) * p.interlaceStep.natAbs
  let first := decide (lim0.1 * 4 * a < 4 * a * far + delta * tLong) || decide (lim0.2.1 * a < delta * 1000000) ||
    decide (lim0.2.2 * a * tShort < 2 * delta * 1000000000000)
  let second := decide (2 * lim1.1 < d2) || decide (lim1.2.1 * tShort < 2 * d2 * 1000000) ||
    decide (lim1.2.2 * tShort * tShort < 4 * d2 * 1000000000000)
  reject (p.sweeps && first) 6 0x20000C ++ reject (p.steering == 2 && second) 6 0x20000E ++
    reject (p.steering == 4 && lim0.1 < p.scanStart.natAbs) 6 0x20000C

/-! ### Link budget (03 R93, 12 R288) -/

/-- Lane rate in Mbit/s (12 R288). -/
def laneMbps (code : Nat) : Nat := [2500, 5000, 8000, 10000, 12500, 16000].getD (min code 5) 16000

/-- Cells of column c that are measured, or exported as histograms (03 R80, R82). -/
def measuredCells (p : Plan) (c : Nat) : Nat := count (fun r => p.measured r c) (List.range (min p.rows 512))

def exportedCells (p : Plan) (c : Nat) : Nat :=
  let all := p.output == 3 && p.rois.isEmpty
  if p.output = 1 then 0
  else count (fun r => p.measured r c && (all || p.inRoi r c)) (List.range (min p.rows 512))

/-- Histogram bytes of an exported cell (03 R93). -/
def cellHistBytes (p : Plan) : Nat := 3072 + if p.hist = 2 then 96 * p.zoomWindows else 0

/-- Point bytes of a frame (03 R93). -/
def pointBytes (p : Plan) : Nat :=
  sumOf ((List.range p.columns).map (measuredCells p)) * 16 * (if p.returns = 3 then 3 else 1)

/-- Bytes per frame on a port in frames of a parity (03 R93). -/
def portBytes (p : Plan) (port frame : Nat) : Nat :=
  (if p.output ≠ 3 ∧ p.pointPort = port then pointBytes p else 0) +
    cellHistBytes p * sumOf ((List.range p.columns).map fun k =>
      if p.histPort = port ∨ (p.histPort = 2 ∧ k % 2 = port) then exportedCells p (p.columnAt frame k) else 0)

/-- Rate of `bytes` a frame with the factor 1.01, in units of 10⁻⁴ bit/s (03 R93). -/
def linkRate (p : Plan) (bytes : Nat) : Nat := bytes * 8 * p.frameRate * 101

/-- The port is over its payload at the lane-rate code. -/
def portOver (p : Plan) (port code : Nat) : Bool :=
  let bytes := max (portBytes p port 0) (portBytes p port 1)
  decide (4 * laneMbps code * 1000000 * 64 * 16383 * 10000 < linkRate p bytes * 66 * 16384)

def pointsOn (p : Plan) (port : Nat) : Bool := p.output != 3 && p.pointPort == port

def histsOn (p : Plan) (port : Nat) : Bool := p.output != 1 && (p.histPort == port || p.histPort == 2)

/-- 0x07 LinkBudget (03 R93), for the ports present. -/
def linkBudget (p : Plan) (hasB : Bool) (codeA codeB : Nat) : List Reason :=
  let one := fun port code =>
    let bad := portOver p port code
    reject (bad && pointsOn p port) 7 0x200010 ++ reject (bad && histsOn p port) 7 0x200011
  one 0 codeA ++ if hasB then one 1 codeB else []

/-! ### The other reasons -/

/-- A bank is in use at the moment of a validation (09 R219). -/
def bankInUse (s : State) (bank : Nat) : Bool :=
  let selects := fun (p : Plan) => p.runsPrx && planN p 0x440010 == bank
  (match s.pipe.plan with | some p => selects p | none => false) || s.txn.pending.any (fun c => selects c.plan) ||
    s.prx.fade.isSome

/-- A commit of `new` after `old` starts a cross-fade (09 R218). -/
def startsFade (old new : Plan) : Bool :=
  old.runsPrx && new.runsPrx && planN old 0x440010 != planN new 0x440010 && planN new 0x440011 != 0

/-- A cross-fade is due at the FirstFrame of a pending commit (09 R219). -/
def fadeDue (s : State) : Bool :=
  let plans := s.pipe.plan.toList ++ s.txn.pending.map Commit.plan
  (plans.zip (plans.drop 1)).any fun x => startsFade x.1 x.2

/-- 0x08 CrossFadeBusy (09 R220). -/
def crossFadeBusy (s : State) (base : Plan) (staged : ObjMap) : List Reason :=
  let busy := s.prx.fade.isSome || fadeDue s
  let loads := fun bank key => reject ((mget staged key).isSome && (bankInUse s bank || fadeDue s)) 8 key
  loads 0 0x440012 ++ loads 1 0x440013 ++
    match mget staged 0x440010 with
    | some v => reject (busy && v != valueIn base 0x440010) 8 0x440010
    | none => []

/-- 0x09 UnitAbsent (00 R10, 03 R77). -/
def unitAbsent (p : Plan) (v : Variant) : List Reason :=
  reject (p.recorder && !v.hasRecorder) 9 0x21000A ++ reject (pointsOn p 1 && !v.hasPortB) 9 0x200010 ++
    reject (histsOn p 1 && !v.hasPortB) 9 0x200011

/-- The Tarn is ready: boot fill complete and at most 256 pages of either buffer degraded (03 R85). -/
def tarnReady (s : State) : Bool :=
  let inBuffer := fun (b : Nat) => count (fun (d : Degraded) => d.page / 4096 == b) s.mcx.degraded
  s.mcx.bootFill && inBuffer 0 ≤ 256 && inBuffer 1 ≤ 256

/-- 0x0A TarnUnavailable (03 R85). -/
def tarnUnavailable (p : Plan) (ready : Bool) : List Reason :=
  reject (!ready && p.hist == 3) 0xA 0x210002 ++ reject (!ready && p.adaptivePower) 0xA 0x210005 ++
    reject (!ready && p.adaptiveGain) 0xA 0x210006

/-- The effective code of a plan (08 R197). -/
def effectiveCode (s : State) (p : Plan) : Nat := if p.oliariCode = 0xFFFF then s.part.device else p.oliariCode

/-- 0x0C TableCheck (03 R95). -/
def tableCheck (p : Plan) : List Reason :=
  let chans := (List.range (min p.rows 512)).map p.channelOf
  let seq := valueIn p 0x220101
  let roi := valueIn p 0x220301
  let badRect := fun (q : Nat × Nat × Nat × Nat) =>
    q.2.1 < q.1 || q.2.2.2 < q.2.2.1 || p.rows ≤ q.2.1 || p.columns ≤ q.2.2.2
  let emptyStep := p.steering == 3 &&
    (List.range (seq.length / 16)).any fun c => ((seq.drop (16 * c)).take 16).all fun b => b == 0
  reject ((valueIn p 0x220001).length != 1024 || decide (¬ chans.Nodup)) 0xC 0x220001 ++
    reject (seq.length % 16 != 0 || emptyStep) 0xC 0x220101 ++
    reject ((valueIn p 0x220201).length != 256) 0xC 0x220201 ++
    reject (roi.length % 8 != 0 || (p.output != 1 && p.rois.any badRect) || (p.output == 2 && p.rois.isEmpty)) 0xC
      0x220301

/-! ### Validation (02 R55, R56) -/

/-- Limits of a mirror axis: µrad, mrad/s, rad/s² (05 R146). -/
def State.axisLimits (s : State) (axis : Nat) : Nat × Nat × Nat :=
  let k := 0x340014 + 16 * axis
  (s.regN k, s.regN (k + 1), s.regN (k + 2))

/-- Every reason for which the values staged over `base` are rejected (03 R95). -/
def reasons (s : State) (base : Plan) (staged : ObjMap) : List Reason :=
  let p := layOver base staged
  cellLimit p ++ shotBudget p ++ peakBudget p ++ emissionBudget p (s.reg 0x300012) s.emg.windows ++
    modeConflict p s.bsc.axes ++ mirrorEnvelope p (s.axisLimits 0) (s.axisLimits 1) ++
    linkBudget p s.part.variant.hasPortB (s.regN 0x4C0040) (s.regN 0x4C0060) ++ crossFadeBusy s base staged ++
    unitAbsent p s.part.variant ++ tarnUnavailable p (tarnReady s) ++
    reject (s.ntu.conflict && effectiveCode s p == s.ntu.conflictCode) 0xB 0x20000A ++ tableCheck p

/-- The lowest code, and under it the lowest object (02 R56). -/
def lowestReason : List Reason → Option Reason
  | [] => none
  | r :: rs =>
    match lowestReason rs with
    | none => some r
    | some q => if r.1 < q.1 ∨ (r.1 = q.1 ∧ r.2 ≤ q.2) then some r else some q

/-- The verdict of the compiler: none where the plan is accepted (02 R55). -/
def validate (s : State) (base : Plan) (staged : ObjMap) : Option Reason := lowestReason (reasons s base staged)

/-- The warning of an accepted plan: 0x0E where pulses below 3 ns fire without diagnostic shots (03 R96, 04 R115). -/
def warningOf (p : Plan) : Nat :=
  if p.pulseWidth < 24 ∧ planN p 0x300003 = 0 ∧ ((List.range 128).any p.used) then 0x0E else 0

end Sys2Proof.Machine
end

