-- ==== Sys2Proof/Machine/Emg.lean ====
section
/-!
DEFINITION. The Emission Guard (13): the ledger and its gate, trips and their sources, EMIT_EN and its feedback, test
pulses and the re-arm.
-/

namespace Sys2Proof.Machine

/-! ### The ledger (13 R309 to R312) -/

/-- β_i in ns: T_i ÷ 32 (13 R310). -/
def bucketNs (windowUs : Nat) : Nat := windowUs * 125 / 4

/-- L_i(b) in 1/16 nJ, saturated (13 R310, R312). -/
def LedgerWin.value (w : LedgerWin) (b : Nat) : Nat := min (mcount w.total b) 0xFFFFFFFF

/-- A booking of `e` 1/16 nJ to bin `b` in the bucket `i` before the current one, if the window still holds it (13 R310, R312). -/
def LedgerWin.book (w : LedgerWin) (i b e : Nat) : LedgerWin :=
  if 33 ≤ i then w
  else
    let all := w.buckets ++ List.replicate (i + 1 - w.buckets.length) []
    { w with buckets := updAt all i fun m => madd m b e, total := madd w.total b e }

/-- One bucket on: the oldest of 33 leaves the window (13 R310). -/
def LedgerWin.advance (w : LedgerWin) : LedgerWin :=
  let all := ([] : SMap Nat) :: w.buckets
  let gone := all.drop 33
  let total := gone.foldl (fun t m => m.foldl (fun t x => mput t x.1 (mcount t x.1 - x.2)) t) w.total
  { bucket := w.bucket + 1, buckets := all.take 33, total }

def LedgerWin.advanceBy : Nat → LedgerWin → LedgerWin
  | 0, w => w
  | n + 1, w => LedgerWin.advanceBy n w.advance

/-- Window i after its time base has reached bucket `k`; more than 33 buckets on, nothing is left (13 R310). -/
def LedgerWin.reach (w : LedgerWin) (k : Nat) : LedgerWin :=
  if k ≤ w.bucket then w
  else if k - w.bucket ≤ 33 then LedgerWin.advanceBy (k - w.bucket) w
  else { bucket := k, buckets := [[]], total := [] }

/-- L ÷ (16 Λ) in 1/65,536 (13 R332, LedgerPeak). -/
def peakRatio (l limit : Nat) : Nat := if limit = 0 then 0 else min (l * 65536 / (16 * limit)) 0xFFFFFFFF

/-- The greater of two peaks; of equal ones the lower bin. DEDUCED: notes/assumptions/39. -/
def higherPeak (a b : Nat × Nat) : Nat × Nat := if b.2 > a.2 ∨ (b.2 = a.2 ∧ b.1 < a.1) then b else a

/-- The bins of a booking that waits (13 R309). -/
def Booking.bins (b : Booking) : List Nat :=
  if b.allBins then (List.range 64).map fun g => 64 * b.port + g else [64 * b.port + groupOf b.columns b.column]

/-- The bucket of window i that holds the instant x (13 R310). -/
def Emg.bucketAt (g : Emg) (i x : Nat) : Nat := (x - g.releasedAt) / bucketNs (g.windows.getD i 20)

/-- The windows as they stand at an instant (13 R310). -/
def Emg.reachAt (g : Emg) (x : Nat) : Emg := { g with wins := mapIdx g.wins fun i w => w.reach (g.bucketAt i x) }

/-- A window with a booking in the bucket `k` of its fire instant (13 R312). -/
def LedgerWin.bookIn (w : LedgerWin) (k : Nat) (b : Booking) : LedgerWin :=
  let w := w.reach k
  b.bins.foldl (fun w x => w.book (w.bucket - k) x b.e16) w

/-- The ledger with a booking made (13 R309, R312), its peaks followed. -/
def Emg.book (g : Emg) (ael : List Byte) (b : Booking) : Emg :=
  let wins := mapIdx g.wins fun i w => w.bookIn (g.bucketAt i b.at_) b
  let peakRun := mapIdx g.peakRun fun i old =>
    b.bins.foldl (fun acc x => higherPeak acc (x, peakRatio ((wins.getD i {}).value x) (aelLimit ael (x / 64) i))) old
  { g with wins, peakRun }

/-- The ledger with every pulse that has left its ball (01 R28, 13 R312). -/
def Emg.settled (g : Emg) (ael : List Byte) : Emg :=
  { g.bookings.foldl (fun g b => g.book ael b) g with bookings := [] }

/-- A pulse of a port that leaves its ball at `at_`, to be booked (13 R312). DEDUCED: notes/assumptions/40. -/
def bookingOf (p : Plan) (at_ port column e16 : Nat) : Booking :=
  { at_, port, column, columns := p.columns, allBins := !p.sweeps, e16 }

/-! ### Trips (13 R317) -/

/-- Sources that stay active as long as their condition lasts: 2, 3, 4, 5, 8, 10 (13 R317). DEDUCED: notes/assumptions/38. -/
def isCondition (k : Nat) : Bool := k == 2 || k == 3 || k == 4 || k == 5 || k == 8 || k == 10

def Emg.sourceActive (g : Emg) (k : Nat) : Bool := bitOf g.sources k

/-- TripSources at an instant: the conditions that last, and the detections of that very cycle (13 R317). -/
def Emg.sourcesAt (g : Emg) (now : Nat) : Nat := g.sources ||| (if g.flashAt = now then g.flash else 0)

/-- Source `k` active: a condition until it ends, a detection in the cycle `now` alone (13 R317). -/
def Emg.arise (g : Emg) (k now : Nat) : Emg :=
  if isCondition k then { g with sources := g.sources ||| 2 ^ k }
  else { g with flashAt := now, flash := (if g.flashAt = now then g.flash else 0) ||| 2 ^ k }

/-- The state with EMIT_EN low; the instant of its fall is kept (13 R321). -/
def Emg.emitOff (g : Emg) (now : Nat) : Emg := if g.emitEn then { g with emitEn := false, fellAt := now } else g

/-- The state with EMIT_EN high (13 R321). -/
def Emg.emitOn (g : Emg) (now : Nat) : Emg := { g with emitEn := true, roseAt := now, onSeen := g.fb, notOnRaised := false }

/-- The newest 8 entries of TripHistory with one more (13 R317). -/
def addTrip (h : List TripEntry) (e : TripEntry) : List TripEntry :=
  let h := h ++ [e]
  h.drop (h.length - 8)

/-- The frame in progress, 0 when none has started since reset (13 R317). -/
def State.frameNow (s : State) : Word := if s.pipe.started then s.pipe.frame else 0

/-- A re-arm accepted in the very cycle in which a trip source arises is refused after all: the source comes first (13 R331). -/
def State.refuseRearm (s : State) (k : Nat) : State :=
  match s.emg.rearmed with
  | some (at_, n) =>
    if at_ = s.now ∧ s.emg.state = .armed then
      let g := { s.emg with
        state := .tripped, emitEn := false, accepted := n, ignored := sat32 s.emg.ignored, rearmed := none }
      { s with emg := g, kpp := s.kpp.retract s.now 0x5805 }.raise 0x5806 0x36 ((g.arise k s.now).sourcesAt s.now)
    else s
  | none => s

/-- A trip condition of source `k` arises (13 R317, R324): recorded, and the guard enters Tripped; `abort` where a test it cuts short counts as aborted. -/
def State.tripWith (s : State) (k : Nat) (abort : Bool) : State :=
  let s := s.refuseRearm k
  let g := s.emg
  let entering := g.state != .tripped
  let g := g.arise k s.now
  let g := { g with history := addTrip g.history { time := s.localTime, cause := k, frame := s.frameNow } }
  let g := if entering then
      { (g.emitOff s.now) with
        state := .tripped, lastCause := k, trips := sat32 g.trips, held := true
        aborted := if g.state == .testing && abort then sat32 g.aborted else g.aborted }
    else g
  let s := { s with emg := g }
  let s := if entering then s.trigger 2 else s
  s.raise 0x5801 0x02 k

/-- A condition or a detection of source `k`: a condition already active does not arise again. DEDUCED: notes/assumptions/38. -/
def State.trip (s : State) (k : Nat) : State :=
  if isCondition k && s.emg.sourceActive k then s else s.tripWith k true

/-- Source `k` becomes inactive (13 R317). -/
def State.clearSource (s : State) (k : Nat) : State :=
  if s.emg.sourceActive k then { s with emg := { s.emg with sources := s.emg.sources - 2 ^ k } } else s

/-- Source `k` follows its condition. -/
def State.setSource (s : State) (k : Nat) (active : Bool) : State := if active then s.trip k else s.clearSource k

/-- The outputs carry pulses: Armed (13 R319). -/
def State.emissionOn (s : State) : Bool := s.emg.state == .armed

/-! ### The ledger decision (13 R315) -/

/-- The first bin and window, in that order, whose limit a pulse of `e` 1/16 nJ would reach (13 R315). -/
def gateCause (g : Emg) (ael : List Byte) (port : Nat) (bins : List Nat) (e : Nat) : Option (Nat × Nat) :=
  (bins.flatMap fun b => (List.range 3).map fun i => (b, i)).find? fun x =>
    !decide ((g.wins.getD x.2 {}).value x.1 + e < 16 * aelLimit ael port x.2)

/-- The ledger a decision at an instant rests on: every pulse fired before it is in (01 R28, 13 R310, R315). -/
def State.ledgerNow (s : State) (p : Plan) : Emg := (s.emg.settled (valueIn p 0x580008)).reachAt s.now

/-- The decision for the pulses (port, 1/16 nJ) of the slot at `slotAt` in column `c`, `each` of them to a port (13 R315): the
gated ports, and the event of the frame's first gate. A port the slot's decision has covered is not decided again. -/
def State.decideGate (s : State) (p : Plan) (c : Nat) (pulses : List (Nat × Nat)) (each slotAt : Nat) : State :=
  if !s.emissionOn then { s with emg := { s.emg with gated := [], decided := [], decidedFor := none } }
  else
    let again := s.emg.decidedFor == some slotAt
    let old := if again then s.emg.decided else []
    let fresh := pulses.filter fun x => !old.contains x.1
    let ledger := s.ledgerNow p
    let causes := fresh.filterMap fun x =>
      (gateCause ledger (valueIn p 0x580008) x.1 (binsOf p x.1 c) x.2).map fun y => (x.1, y)
    let g := { s.emg with
      gated := (if again then s.emg.gated else []) ++ causes.map Prod.fst
      decided := old ++ fresh.map Prod.fst, decidedFor := some slotAt
      gatedPulses := wrap64 s.emg.gatedPulses (each * causes.length) }
    -- ports stand in ascending order, so the first cause has the lowest bin
    match causes.head?, g.gateRaised with
    | some x, false => { s with emg := { g with gateRaised := true } }.raise 0x5802 0x31 (x.2.1 + x.2.2 * 8192)
    | _, _ => { s with emg := g }

/-- The energy of one pulse or pair of a port in a slot, at its active code (13 R311). DEDUCED: notes/assumptions/40. -/
def State.shotEnergy (s : State) (p : Plan) (port : Nat) : Nat :=
  let e := e16 (s.reg 0x300012) port (s.edu.ports.getD port {}).active p.pulseWidth
  if p.interference = 2 then 2 * e else e

/-- A port that fires in a lit slot of column c where it is not masked: used, and in the step under S3 (04 R97, R98, 03 R80). -/
def PortState.fires (q : PortState) (masked : Bool) (p : Plan) (c port : Nat) : Bool :=
  q.used && !masked && (p.steering != 3 || p.stepHas c port)

/-- A port that would fire in a lit slot of column c, as the last latch left it. -/
def State.wouldFire (s : State) (p : Plan) (c port : Nat) : Bool :=
  let q := s.edu.ports.getD port {}
  q.fires q.masked p c port

/-- Masked once the next latch has taken effect (04 R113, R116, R117). -/
def PortState.maskedNext (q : PortState) : Bool := q.maskPending || (q.masked && !q.clearPending)

/-- The pulses of these ports, with their energies. -/
def State.pulsesOf (s : State) (p : Plan) (ports : List Nat) : List (Nat × Nat) := ports.map fun e => (e, s.shotEnergy p e)

/-- The pulses of a lit slot in column c. -/
def State.slotPulses (s : State) (p : Plan) (c : Nat) : List (Nat × Nat) :=
  s.pulsesOf p ((List.range 128).filter (s.wouldFire p c))

/-- The pulses of the next slot in column c, after its latch (13 R315). -/
def State.nextPulses (s : State) (p : Plan) (c : Nat) : List (Nat × Nat) :=
  s.pulsesOf p ((List.range 128).filter fun e =>
    let q := s.edu.ports.getD e {}
    q.fires q.maskedNext p c e)

/-! ### Commands -/

/-- The decision for the slot that starts at `slotAt` in the column of `c`, for the ports that fire as the EDU stands (13 R315). -/
def State.decideSlot (s : State) (p : Plan) (c slotAt : Nat) : State :=
  s.decideGate p c (s.slotPulses p c) (if p.interference = 2 then 2 else 1) slotAt

/-- What no command of the EMG touches. -/
def emgFrame : List UnitId :=
  [.rw, .rwp, .txn, .mram, .pipe, .edu, .bsc, .rfe, .tda, .hac, .prx, .mcx, .fmt, .linkA, .linkB, .cu, .wcu, .mon,
   .thermal, .ntu, .spring, .fw, .cal, .part]

/-- SEC-DED outcomes of ledger reads (13 R318). -/
def State.ledgerReads (s : State) (corrected : Nat) (uncorrectable : Bool) : State :=
  let s := { s with emg := { s.emg with ledgerCorrected := sat32 s.emg.ledgerCorrected corrected } }
  if uncorrectable then s.trip 7 else s

/-- The slot after the present one in its column fires, so a decision is due for it (13 R315, 03 R78, 17 R395).
DEDUCED: notes/assumptions/39. -/
def State.nextSlotDecision (s : State) : State :=
  match s.pipe.cur with
  | some c =>
    let j := s.pipe.slot + 1
    let silent := c.probe && c.plan.silentSlot j
    if s.pipe.inColumn && !s.pipe.inTurn && j < c.plan.shots && c.plan.slotLit j && !silent then
      s.decideGate c.plan c.column (s.nextPulses c.plan c.column) (if c.plan.interference = 2 then 2 else 1) (s.pipe.slotStart + c.plan.slot)
    else s
  | none => s

/-- LEDGER_BOOKING (13 R311, R312, R315, R318): the pulses that left their balls are booked, and the next slot is decided.
DEDUCED: notes/assumptions/39. -/
def execLedgerBooking (t corrected : Nat) (uncorrectable : Bool) : State → Host.Outcome State Fault Refusal :=
  runMain t emgFrame fun s =>
    if s.emg.bookings.isEmpty then s
    else
      let ael := valueIn s.plan 0x580008
      let s := { s with emg := s.emg.settled ael }
      let s := s.ledgerReads corrected uncorrectable
      s.nextSlotDecision

/-- LEDGER_BUCKET_ADVANCE (13 R310): the time base of a window reaches its present bucket. -/
def execLedgerBucketAdvance (t window : Nat) : State → Host.Outcome State Fault Refusal :=
  runMain t (.kpp :: .evr :: emgFrame) fun s =>
    { s with emg := { s.emg with wins := updAt s.emg.wins window fun w => w.reach (s.emg.bucketAt window s.now) } }

/-- LEDGER_SWEEP (13 R318): running totals against bucket sums, every 10 ms. -/
def execLedgerSweep (t corrected : Nat) (uncorrectable mismatch : Bool) : State → Host.Outcome State Fault Refusal :=
  runMain t emgFrame fun s =>
    let s := s.ledgerReads corrected uncorrectable
    if mismatch && !uncorrectable then s.trip 7 else s

/-- CLOCK_MONITOR_FAIL (13 R317 cause 8). -/
def execClockMonitorFail (t : Nat) : State → Host.Outcome State Fault Refusal :=
  runMain t emgFrame fun s => s.trip 8

/-- CLOCK_MONITOR_RECOVERY (13 R317): source 8 becomes inactive. -/
def execClockMonitorRecovery (t : Nat) : State → Host.Outcome State Fault Refusal :=
  runMain t (.kpp :: .evr :: emgFrame) fun s => s.clearSource 8

/-- A gated output: Tripped, Testing, or ledger-gated for the slot (13 R319). -/
def State.outputGated (s : State) (port : Nat) : Bool := !s.emissionOn || s.emg.gated.contains port

/-- GATE_READBACK_EDGE (13 R319, R317 cause 9): an edge on an output that is gated. -/
def execGateReadbackEdge (t port : Nat) : State → Host.Outcome State Fault Refusal :=
  runMain t emgFrame fun s => if s.outputGated port then s.trip 9 else s

/-- The verdict of a test (13 R323): passed once EMIT_EN_FB is low, failed if it has not fallen 20 µs after EMIT_EN. -/
def State.checkTest (s : State) : State :=
  if s.emg.state != .testing || s.emg.checked then s
  else if !s.emg.fb then { s with emg := { s.emg with checked := true, passed := sat32 s.emg.passed } }
  else if s.now < s.emg.fellAt + 20000 then s
  else
    let s := { s with emg := { s.emg with failures := sat32 s.emg.failures } }
    let s := s.tripWith 5 false
    s.raise 0x5803 0x34 0

/-- EMIT_EN_FB changes its level (13 R322, R323): source 5 ends when it falls, and arises when it rises more than 20 µs after
EMIT_EN went low (R317); a fall within 20 µs passes a test, a later one comes after its failure. DEDUCED: notes/assumptions/38. -/
def State.feedback (s : State) (level : Bool) : State :=
  let s := if !level && decide (s.emg.fellAt + 20000 < s.now) then s.checkTest else s
  let s := { s with emg := { s.emg with fb := level, onSeen := s.emg.onSeen || (level && s.emg.emitEn) } }
  if !level then (s.clearSource 5).checkTest
  else if !s.emg.emitEn && decide (20000 < s.now - s.emg.fellAt) then s.trip 5 else s

/-- EMIT_EN_FB_CHANGE (13 R321, R322): the level is followed in reset as well. -/
def execEmitEnFbChange (t : Nat) (level : Bool) : State → Host.Outcome State Fault Refusal :=
  run t emgFrame fun s => if s.mainOn then s.feedback level else { s with emg := { s.emg with fb := level } }

/-- FEEDBACK_STUCK (13 R322): EMIT_EN_FB still high more than 20 µs after EMIT_EN fell. -/
def execFeedbackStuck (t : Nat) : State → Host.Outcome State Fault Refusal :=
  runMain t emgFrame fun s =>
    if !s.emg.emitEn && s.emg.fb && s.emg.state != .testing && decide (20000 < s.now - s.emg.fellAt) then s.trip 5 else s

/-- SUPPLY_NOT_ON (13 R322): once per rise of EMIT_EN, where EMIT_EN_FB has stayed low for 1,000 µs after it; not a trip. -/
def execSupplyNotOn (t : Nat) : State → Host.Outcome State Fault Refusal :=
  runMain t emgFrame fun s =>
    if s.emg.emitEn && !s.emg.fb && !s.emg.onSeen && !s.emg.notOnRaised && decide (1000000 ≤ s.now - s.emg.roseAt) then
      { s with emg := { s.emg with notOnRaised := true } }.raise 0x5804 0x05 0
    else s

/-- The hold-off of 13 R328: 33 × T₂ ÷ 32 after reset release, in ns. -/
def Emg.holdOff (g : Emg) : Nat := 33 * bucketNs (g.windows.getD 2 1000000)

/-- An edge of the selected source (13 R328). -/
def State.rearmEdge (s : State) : State :=
  let g := s.emg
  let held := decide (s.now - g.releasedAt < g.holdOff)
  if g.state == .tripped && g.sourcesAt s.now == 0 && !held then
    let g := { (g.emitOn s.now) with
      state := .armed, accepted := sat32 g.accepted, testFrom := s.now, rearmed := some (s.now, g.accepted) }
    { s with emg := g }.raise 0x5805 0x01 (bNat g.source)
  else
    { s with emg := { g with ignored := sat32 g.ignored } }.raise 0x5806 0x36 (g.sourcesAt s.now + 65536 * bNat held)

/-- REARM_PIN_EDGE (13 R325, R326): ignored unless the pin is the selected source. The next edge takes 10,000 low and 16 high
samples, 1 µs apart; the first of all is sampled at reset release. -/
def execRearmPinEdge (t : Nat) : State → Host.Outcome State Fault Refusal :=
  runMain t emgFrame fun s =>
    if s.now < s.emg.pinFrom then s
    else
      let s := { s with emg := { s.emg with pinFrom := s.now + 10016000 } }
      if s.emg.source then s else s.rearmEdge

/-- A write to RearmRequest (13 R325, R327). -/
def State.rearmRequest (s : State) (v : Nat) : State :=
  if !s.emg.source then { s with emg := { s.emg with ignored := sat32 s.emg.ignored } }
  else
    let one := v != 0
    let edge := one && !s.emg.held
    let s := { s with emg := { s.emg with held := one } }
    if edge then s.rearmEdge else s

/-- REARM_REQUEST (13 R327). -/
def execRearmRequest (t : Nat) (v : Byte) : State → Host.Outcome State Fault Refusal :=
  runUnit t emgFrame fun s => s.rearmRequest v.toNat

/-- A write to EmissionStop (13 R317 cause 11). -/
def State.emissionStop (s : State) (v : Nat) : State := if v = 0x4553 then s.trip 11 else s

/-- EMISSION_STOP (13 R332): 0x0000_4553 trips; other values have no effect. -/
def execEmissionStop (t : Nat) (v : Word) : State → Host.Outcome State Fault Refusal :=
  runUnit t emgFrame fun s => s.emissionStop v.toNat

/-! ### Test pulses (13 R323, R324) -/

/-- A test is due at an instant: Armed, and 1 s past the last test's start or the last accepted re-arm. -/
def Emg.testIsDue (g : Emg) (at_ : Nat) : Bool := g.state == .armed && g.testFrom + 1000000000 ≤ at_

/-- EMIT_EN falls for a test (13 R323). -/
def Emg.startTest (g : Emg) (at_ : Nat) : Emg :=
  { (g.emitOff at_) with state := .testing, checked := false, testFrom := at_ }

/-- TEST_PULSE_START (13 R323): 500 µs into a turnaround in which a test is due, and no later than the 550 µs at which it ends. -/
def execTestPulseStart (t : Nat) : State → Host.Outcome State Fault Refusal :=
  runMain t (.kpp :: .evr :: emgFrame) fun s =>
    let at_ := s.pipe.turnStart + 500000
    if s.pipe.inTurn && s.emg.testIsDue at_ && decide (at_ ≤ s.now) && decide (s.now < at_ + 50000) then
      { s with emg := s.emg.startTest at_ }
    else s

/-- TEST_DUE_TIMER (13 R323): with no plan in force or no frames running, tests fall due on the EMG's own timer. -/
def execTestDueTimer (t : Nat) : State → Host.Outcome State Fault Refusal :=
  runMain t (.kpp :: .evr :: emgFrame) fun s =>
    if !s.pipe.running && s.emg.testIsDue s.now then { s with emg := s.emg.startTest s.now } else s

/-- TEST_PULSE_CHECK (13 R323). -/
def execTestPulseCheck (t : Nat) : State → Host.Outcome State Fault Refusal :=
  runMain t emgFrame fun s => s.checkTest

/-- TEST_PULSE_END (13 R323): 50 µs after the fall, EMIT_EN rises again. -/
def execTestPulseEnd (t : Nat) : State → Host.Outcome State Fault Refusal :=
  runMain t emgFrame fun s =>
    let at_ := s.emg.fellAt + 50000
    if s.emg.state == .testing && decide (at_ ≤ s.now) then
      let s := s.checkTest
      if s.emg.state == .testing then { s with emg := { (s.emg.emitOn at_) with state := .armed } } else s
    else s

/-- The EMG at a frame boundary (13 R315, R332): a new frame's first gate, LedgerPeak of the frame that ended, and the peaks
of the new one under its own limits. DEDUCED: notes/assumptions/39. -/
def Emg.frameBoundary (g : Emg) (ael : List Byte) : Emg :=
  let start := mapIdx g.wins fun i w =>
    w.total.foldl (fun acc x => higherPeak acc (x.1, peakRatio (w.value x.1) (aelLimit ael (x.1 / 64) i))) (0, 0)
  { g with gateRaised := false, peak := g.peakRun, peakRun := start }

end Sys2Proof.Machine
end

