-- ==== Sys2Proof/Machine/Mcx.lean ====
section
/-!
DEFINITION. The memory controller (10): bytes of the DRAM and their check bits, line reads and writes with everything they
count and raise, scrubbing, the watch list, remapping, degraded pages and the boot fill.
-/

namespace Sys2Proof.Machine

/-! ### Bytes of the DRAM, in the canonical form of `Host.Cell` lists: addresses rising, no byte equal to 0 -/

/-- An unlisted byte reads 0 (10 R247, R248). DESIGN CHOICE: notes/assumptions/15. -/
def memGet : List Host.Cell → Nat → Byte
  | [], _ => 0
  | (a, v) :: m, x => if x = a then v else if x < a then 0 else memGet m x

def memErase : List Host.Cell → Nat → List Host.Cell
  | [], _ => []
  | (a, v) :: m, x => if x = a then m else if x < a then (a, v) :: m else (a, v) :: memErase m x

def memInsert : List Host.Cell → Nat → Byte → List Host.Cell
  | [], x, b => [(x, b)]
  | (a, v) :: m, x, b =>
    if x = a then (a, b) :: m else if x < a then (x, b) :: (a, v) :: m else (a, v) :: memInsert m x b

/-- A write of one byte; 0 is not listed. DESIGN CHOICE: notes/assumptions/15. -/
def memPut (m : List Host.Cell) (x : Nat) (b : Byte) : List Host.Cell :=
  if b = 0 then memErase m x else memInsert m x b

/-- Bytes `bs` at consecutive addresses from `x` on. -/
def memPutAll (m : List Host.Cell) (x : Nat) : List Byte → List Host.Cell
  | [] => m
  | b :: bs => memPutAll (memPut m x b) (x + 1) bs

/-- Addresses from `lo` on. -/
def memAbove (lo : Nat) : List Host.Cell → Bool
  | [] => true
  | (a, v) :: m => lo ≤ a && v != 0 && memAbove (a + 1) m

/-- The canonical form. -/
def memWf (m : List Host.Cell) : Bool := memAbove 0 m

/-- Bytes `n` from address `x` on. -/
def memRead (m : List Host.Cell) (x n : Nat) : List Byte := (List.range n).map fun i => memGet m (x + i)

/-! ### Check bits of one byte (10 R244, R245) -/

/-- c0 to c4 of a byte. -/
def checkBits (d : Byte) : BitVec 5 :=
  let b := fun i => d.getLsbD i
  let c0 := xor (xor (xor (xor (b 0) (b 1)) (b 3)) (b 4)) (b 6)
  let c1 := xor (xor (xor (xor (b 0) (b 2)) (b 3)) (b 5)) (b 6)
  let c2 := xor (xor (xor (b 1) (b 2)) (b 3)) (b 7)
  let c3 := xor (xor (xor (b 4) (b 5)) (b 6)) (b 7)
  let c4 := xor (xor (xor (xor (xor (xor (xor (xor (xor (xor (xor (b 0) (b 1)) (b 2)) (b 3)) (b 4)) (b 5)) (b 6)) (b 7)) c0) c1) c2) c3
  BitVec.ofNat 5 (bNat c0 + 2 * bNat c1 + 4 * bNat c2 + 8 * bNat c3 + 16 * bNat c4)

inductive ByteRead where
  | clean | corrected | bad
  deriving DecidableEq, Repr

/-- The data bit at a position 1 to 12 of R245; none for a check bit. -/
def dataBitAt (pos : Nat) : Option Nat :=
  if pos = 3 then some 0 else if 5 ≤ pos ∧ pos ≤ 7 then some (pos - 4) else if 9 ≤ pos then some (pos - 5) else none

/-- One byte with its stored check bits, decoded (10 R245). -/
def decodeByte (d : Byte) (c : BitVec 5) : Byte × ByteRead :=
  let diff := (c ^^^ checkBits d).toNat
  let s := diff % 16
  -- all 13 received bits: even by c4 when data and checks agree
  let q := xor (xor (xor (xor (xor (bitOf diff 4) (bitOf diff 0)) (bitOf diff 1)) (bitOf diff 2)) (bitOf diff 3)) false
  if s = 0 then (d, if q then .corrected else .clean)
  else if s ≤ 12 && q then
    (match dataBitAt s with
      | some i => d ^^^ BitVec.ofNat 8 (2 ^ i)
      | none => d, .corrected)
  else (d, .bad)

/-! ### Lines and pages -/

def pageOfLine (line : Nat) : Nat := line / 64

/-- Where a line lies: in user space, or in the spare that holds it (10 R261). The 64 spares stand after the user lines.
DEDUCED: notes/assumptions/16. -/
def Mcx.physical (m : Mcx) (line : Nat) : Nat :=
  match m.remap.reverse.find? fun e => e.line == line with
  | some e => 33554432 + 32 * e.chan + e.spare
  | none => line

def Mcx.isWritten (m : Mcx) (page : Nat) : Bool := m.written.contains page

/-- Stored check bits of the byte at address `a`: `check` holds how they differ from those of the stored data.
DESIGN CHOICE: notes/assumptions/15. -/
def Mcx.storedCheck (m : Mcx) (a : Nat) : BitVec 5 := checkBits (memGet m.data a) ^^^ (mget m.check a).getD 0

/-- Flips of stored bits: d0 to d7, then c0 to c4. -/
def Mcx.flip (m : Mcx) (a : Nat) (mask : BitVec 13) : Mcx :=
  let c := m.storedCheck a ^^^ BitVec.ofNat 5 (mask.toNat / 256)
  let d := memGet m.data a ^^^ BitVec.ofNat 8 (mask.toNat % 256)
  let dev := c ^^^ checkBits d
  { m with data := memPut m.data a d, check := if dev = 0 then mdel m.check a else mset m.check a dev }

/-- A write of whole bytes with their check bits (10 R246). -/
def Mcx.store (m : Mcx) (a : Nat) (b : Byte) : Mcx :=
  { m with data := memPut m.data a b, check := mdel m.check a }

/-- Decoded bytes of a line, the numbers of the corrected ones, and whether one was uncorrectable. DEDUCED: notes/assumptions/41. -/
def Mcx.decodeLine (m : Mcx) (line : Nat) : List Byte × List Nat × Bool :=
  let base := 64 * m.physical line
  let got := (List.range 64).map fun i => decodeByte (memGet m.data (base + i)) (m.storedCheck (base + i))
  (got.map Prod.fst, (List.range 64).filter fun i => (got.getD i (0, .clean)).2 == .corrected,
   got.any fun x => x.2 == .bad)

/-- The class of a user (10 R264), 0 to 5. -/
def memClass : MemUser → Nat
  | .prefetch => 0 | .tarnWrite => 1 | .ring => 2 | .readout => 3 | .scrub => 4 | .cuCode => 5 | .cuOther => 5
  | .cellRecord => 5

/-- Seconds since reset release (10 R260). DEDUCED: notes/assumptions/31. -/
def State.uptime (s : State) : Nat := (s.now - s.emg.releasedAt) / 1000000000

/-- The bandwidth counters brought to the present second (10 R267). -/
def Mcx.atSecond (m : Mcx) (sec : Nat) : Mcx :=
  if sec = m.second then m
  else { m with second := sec, secondBytes := List.replicate 6 0
                lastSecond := if sec = m.second + 1 then m.secondBytes else List.replicate 6 0 }

/-- Bytes moved for a class (10 R264, UserBytes). -/
def State.moved (s : State) (user : MemUser) (n : Nat) : State :=
  let m := s.mcx.atSecond s.uptime
  { s with mcx := { m with userBytes := updAt m.userBytes (memClass user) fun w => wrap64 w n
                           secondBytes := updAt m.secondBytes (memClass user) (· + n) } }

/-! ### Degraded pages and readiness (10 R257, R262, R263) -/

/-- Pages of a Tarn buffer that are degraded. -/
def Mcx.degradedIn (m : Mcx) (buffer : Nat) : Nat := count (fun d => d.page / 4096 == buffer) m.degraded

/-- TarnReady (10 R257). -/
def Mcx.tarnReady (m : Mcx) : Bool := m.bootFill && m.degradedIn 0 ≤ 256 && m.degradedIn 1 ≤ 256

/-- A change of the degraded pages, with the event of a TarnReady that falls (10 R257). -/
def State.degradedNow (s : State) (l : List Degraded) : State :=
  let before := s.mcx.tarnReady
  let s := { s with mcx := { s.mcx with degraded := l } }
  s.raiseIf (before && !s.mcx.tarnReady) 0x4804 0x03 0

/-- A page degraded with a cause, 1 data or 2 capacity (10 R262, R263). -/
def State.degrade (s : State) (page cause : Nat) : State :=
  match s.mcx.degraded.find? fun d => d.page == page with
  | none =>
    let s := s.raise 0x4803 0x0A (page + cause * 2 ^ 30)
    s.degradedNow (s.mcx.degraded ++ [{ page, cause, rewritten := [] }])
  | some _ =>
    let f := fun (d : Degraded) =>
      if d.page ≠ page then d
      else if cause = 1 then { d with rewritten := [] }
      else { d with cause := 2 }
    s.degradedNow (s.mcx.degraded.map f)

/-- A full write of a line counts toward the end of its page's degradation with cause data (10 R263). -/
def State.lineRewritten (s : State) (line : Nat) : State :=
  let page := pageOfLine line
  let l := s.mcx.degraded.map fun d => if d.page = page then { d with rewritten := insertSet line d.rewritten } else d
  s.degradedNow (l.filter fun d => !(d.page == page && d.cause == 1 && d.rewritten.length == 64))

/-! ### The watch list (10 R260, R261) -/

/-- An entry older than 86,400 s. -/
def WatchEntry.expired (w : WatchEntry) (now : Nat) : Bool := 86400 < now - w.entered

/-- The entry with the oldest entry time; of equal ones the first. -/
def oldestEntry : List WatchEntry → Option WatchEntry
  | [] => none
  | w :: ws =>
    match oldestEntry ws with
    | none => some w
    | some v => if v.entered < w.entered then some v else some w

/-- A third further correction: remapped where the table has a free entry, else the page is degraded and the line stays
on the list (10 R260, R261, R263). -/
def State.hardFault (s : State) (line : Nat) : State :=
  if s.mcx.copies.contains line then s
  else if s.mcx.remap.length + s.mcx.copies.length < 64 then
    { s with mcx := { s.mcx with copies := s.mcx.copies ++ [line] } }
  else s.degrade (pageOfLine line) 2

/-- A correction of a line meets the watch list (10 R260). -/
def State.watchLine (s : State) (line : Nat) : State :=
  let now := s.uptime
  let live := s.mcx.watch.filter fun w => !(w.line == line && w.expired now)
  match live.find? fun w => w.line == line with
  | some w =>
    let watch := live.map fun v => if v.line = line then { v with count := v.count + 1 } else v
    let s := { s with mcx := { s.mcx with watch } }
    if 3 ≤ w.count + 1 then s.hardFault line else s
  | none =>
    let full := 256 ≤ live.length
    let kept := if full then live.filter fun w => !w.expired now else live
    let gone := if 256 ≤ kept.length then oldestEntry kept else none
    let kept : List WatchEntry := match gone with
      | some v => kept.filter fun w => w.line != v.line
      | none => kept
    { s with mcx := { s.mcx with
        watch := kept ++ [({ line, entered := now, count := 0 } : WatchEntry)]
        watchOverflow := sat32 s.mcx.watchOverflow (bNat gone.isSome) } }

/-! ### Reading and writing a line -/

/-- What an uncorrectable line counts, raises and degrades (10 R262). -/
def State.badLine (s : State) (line : Nat) : State :=
  let s := { s with mcx := { s.mcx with uncorrectable := sat32 s.mcx.uncorrectable } }
  (s.raise 0x4801 0x11 (pageOfLine line)).degrade (pageOfLine line) 1

/-- What a line with corrected bytes counts and watches, with the bytes that wait to be written back (10 R245, R258, R260). -/
def State.fixedLine (s : State) (line : Nat) (back : List (Nat × List (Nat × Byte))) : State :=
  { s with mcx := { s.mcx with corrected := wrap64 s.mcx.corrected, writebacks := back } }.watchLine line

/-- A read of a line by a user, with the bits that have flipped in it since (10 R245, R248, R258, R262). Before the
controller is ready there is no access (10 R257). DESIGN CHOICE: notes/assumptions/14. DEDUCED: notes/assumptions/41, 42. -/
def State.readLine (s : State) (user : MemUser) (line : Nat) (flips : List (Nat × BitVec 13)) :
    List Byte × Bool × State :=
  if !s.mcx.ready then (List.replicate 64 0, false, s)
  else if !s.mcx.isWritten (pageOfLine line) then
    (List.replicate 64 0, false, { s with mcx := { s.mcx with
      neverWritten := true, neverWrittenCount := sat32 s.mcx.neverWrittenCount } })
  else
    let base := 64 * s.mcx.physical line
    let s := { s with mcx := flips.foldl (fun (m : Mcx) (f : Nat × BitVec 13) => m.flip (base + f.1 % 64) f.2) s.mcx }
    let s := s.moved user 64
    let (bytes, fixed, bad) := s.mcx.decodeLine line
    let others := s.mcx.writebacks.filter fun (w : Nat × List (Nat × Byte)) => w.1 != line
    let s := if bad then s.badLine line else s
    let back := if bad then s.mcx.writebacks else others ++ [(line, fixed.map fun i => (i, bytes.getD i 0))]
    (bytes, bad, if fixed.isEmpty then s else s.fixedLine line back)

/-- The rest of a page that has never been written becomes zero with correct check bits (10 R247). -/
def Mcx.firstWrite (m : Mcx) (page : Nat) : Mcx :=
  if m.isWritten page then m
  else
    let lo := 4096 * page
    let spare := fun (a : Nat) => m.remap.any fun e =>
      pageOfLine e.line == page && a / 64 == 33554432 + 32 * e.chan + e.spare
    let out := fun (a : Nat) => (a < lo || lo + 4096 ≤ a) && !spare a
    { m with data := m.data.filter fun c => out c.1, check := m.check.filter fun c => out c.1
             written := insertSet page m.written }

/-- A write of bytes of a line by a user (10 R246, R247, R258, R263); none before the controller is ready (10 R257). -/
def State.writeLine (s : State) (user : MemUser) (line : Nat) (bytes : List (Nat × Byte)) : State :=
  if !s.mcx.ready then s else
  let m := s.mcx.firstWrite (pageOfLine line)
  let base := 64 * m.physical line
  let m := bytes.foldl (fun m b => m.store (base + b.1 % 64) b.2) m
  let overtaken := m.writebacks.any fun w => w.1 == line
  let m := { m with writebacks := m.writebacks.filter fun w => w.1 != line
                    dropped := sat32 m.dropped (bNat overtaken) }
  let s := { s with mcx := m }
  let s := s.moved user bytes.length
  if (List.range 64).all fun i => bytes.any fun b => b.1 == i then s.lineRewritten line else s

/-- A write of a whole line. -/
def State.writeWhole (s : State) (user : MemUser) (line : Nat) (bytes : List Byte) : State :=
  s.writeLine user line ((List.range 64).map fun i => (i, bytes.getD i 0))

/-- Bytes of a line's part of `bs` stored from byte address `a` on. -/
def linePart (a : Nat) (bs : List Byte) (line : Nat) : List (Nat × Byte) :=
  (List.range 64).filterMap fun i =>
    if a ≤ 64 * line + i then (bs[64 * line + i - a]?).map fun b => (i, b) else none

/-- A write of bytes at consecutive addresses from `a` on, line by line. -/
def State.writeBytes (s : State) (user : MemUser) (a : Nat) (bs : List Byte) : State :=
  (List.range ((a % 64 + bs.length + 63) / 64)).foldl (fun s k =>
    s.writeLine user (a / 64 + k) (linePart a bs (a / 64 + k))) s

/-- The lines a user reaches, by the region map (10 R243): the Tarn for its engines and the boot fill, working memory
for the control units, the staging area for the recorder and its management, the ring for the recorder, every assigned
region for the scrubber. A command outside its user's regions makes no access. DESIGN CHOICE: notes/assumptions/16. -/
def State.reaches (s : State) (user : MemUser) (line : Nat) : Bool :=
  let tarn := decide (line < 524288)
  let work := decide (524288 ≤ line) && decide (line < 1572864)
  let staging := decide (1572864 ≤ line) && decide (line < 2621440) && s.part.variant.hasRecorder
  let ring := decide (8388608 ≤ line) && s.part.variant.hasRecorder
  match user with
  | .prefetch | .tarnWrite | .cellRecord => tarn
  | .ring => ring
  | .readout => staging || ring
  | .scrub => line < 2621440 || 8388608 ≤ line
  | .cuCode => work
  | .cuOther => (tarn && !s.mcx.bootFill) || work || staging

/-! ### Commands -/

/-- A command on a line of the DRAM; no address beyond 0x7FFF_FFFF exists (10 R243). DEDUCED: notes/assumptions/16. -/
def runLine (t line : Nat) (frame : List UnitId) (f : State → State) (s : State) : Host.Outcome State Fault Refusal :=
  if line < 33554432 then runMain t frame f s else .fault (.addressHole (64 * line))

/-- What the MCX alone does not touch. -/
def mcxFrame : List UnitId :=
  [.rw, .rwp, .txn, .pipe, .edu, .bsc, .rfe, .tda, .hac, .prx, .fmt, .linkA, .linkB, .emg, .cu, .wcu, .mon, .thermal,
   .ntu, .spring, .fw, .cal, .part]

/-- MCX_READY (10 R257): the controller is ready, with the remap table of MRAM loaded. -/
def execMcxReady (t : Nat) : State → Host.Outcome State Fault Refusal :=
  runMain t (.kpp :: .mram :: .evr :: mcxFrame) fun s =>
    if s.mcx.ready then s
    else { s with mcx := { s.mcx with ready := true, remap := s.mram.remap.body.getD [], scrubAt := s.now } }

/-- BOOT_FILL_COMPLETE (10 R257): both Tarn buffers hold zero in full. -/
def execBootFillComplete (t : Nat) : State → Host.Outcome State Fault Refusal :=
  runMain t (.mram :: mcxFrame) fun s =>
    if !s.mcx.ready || s.mcx.bootFill || s.cu.holder = none then s
    else
      let m := s.mcx
      let top := 2 * 16777216
      let spare := fun (a : Nat) => m.remap.any fun e =>
        e.line < 524288 && a / 64 == 33554432 + 32 * e.chan + e.spare
      let keepIt := fun (a : Nat) => top ≤ a && !spare a
      let written := List.range 8192 ++ m.written.filter fun p => 8192 ≤ p
      let m := { m with
        bootFill := true, written
        data := m.data.filter fun c => keepIt c.1, check := m.check.filter fun c => keepIt c.1
        writebacks := m.writebacks.filter fun w => 524288 ≤ w.1
        dropped := sat32 m.dropped (count (fun w => w.1 < 524288) m.writebacks) }
      let s := { s with mcx := m }
      let s := s.moved .cuOther (2 * 16777216)
      s.degradedNow (s.mcx.degraded.filter fun d => !(d.page < 8192 && d.cause == 1))

/-- CORRECTION_WRITEBACK (10 R258): the bytes of the line the read corrected, alone. -/
def execCorrectionWriteback (t line : Nat) : State → Host.Outcome State Fault Refusal :=
  runLine t line (.kpp :: .mram :: .evr :: mcxFrame) fun s =>
    match s.mcx.writebacks.find? fun w => w.1 == line with
    | none => s
    | some w =>
      let base := 64 * s.mcx.physical line
      let m := w.2.foldl (fun m b => m.store (base + b.1 % 64) b.2) s.mcx
      let m := { m with writebacks := m.writebacks.filter fun v => v.1 != line }
      { s with mcx := m }.moved .scrub w.2.length

/-- The line the scrubber reads next from position `pos` on: a written page's, else a spare in use, as (position, line)
(10 R259). A spare that stands for a line of a page never written is passed over with its page (10 R248).
DEDUCED: notes/assumptions/16, 42. -/
def Mcx.scrubFrom (m : Mcx) (pos : Nat) : Option (Nat × Nat) :=
  let page := m.written.find? fun p => pos ≤ 64 * p + 63
  match page with
  | some p => if pos < 33554432 then some (max pos (64 * p), max pos (64 * p)) else none
  | none =>
    let held := m.remap.filter fun e => m.isWritten (pageOfLine e.line)
    let spares := held.map fun e => (33554432 + 32 * e.chan + e.spare, e.line)
    let open_ := spares.filter fun x => pos ≤ x.1
    open_.foldl (fun acc x => match acc with
      | none => some x
      | some y => if x.1 < y.1 then some x else some y) none

/-- SCRUB_TICK (10 R259): one line is read every ScrubInterval, a tick before that reads none; past the last line a
pass is complete. DEDUCED: notes/assumptions/42. -/
def execScrubTick (t : Nat) (flips : List (Nat × BitVec 13)) : State → Host.Outcome State Fault Refusal :=
  runMain t (.mram :: mcxFrame) fun s =>
    let wait := s.regN 0x480015
    if !s.mcx.ready || decide (s.now < s.mcx.scrubAt + wait) then s
    else
      let s := { s with mcx := { s.mcx with scrubAt := s.now - (s.now - s.mcx.scrubAt) % wait } }
      let go := fun (s : State) (x : Nat × Nat) =>
        let (_, _, s) := s.readLine .scrub x.2 flips
        let s := { s with mcx := { s.mcx with scrubPos := x.1 + 1 } }
        match s.mcx.scrubFrom s.mcx.scrubPos with
        | some _ => s
        | none => { s with mcx := { s.mcx with scrubPos := 0, scrubPasses := sat32 s.mcx.scrubPasses } }
      match s.mcx.scrubFrom s.mcx.scrubPos with
      | some x => go s x
      | none =>
        match s.mcx.scrubFrom 0 with
        | some x => go s x
        | none => s

/-- WATCH_ENTRY_EXPIRY (10 R260): entries older than 86,400 s leave the list. -/
def execWatchEntryExpiry (t : Nat) : State → Host.Outcome State Fault Refusal :=
  runMain t (.kpp :: .mram :: .evr :: mcxFrame) fun s =>
    { s with mcx := { s.mcx with watch := s.mcx.watch.filter fun w => !w.expired s.uptime } }

/-- A free spare, on the channel other than the line's where it has one (10 R261). DEDUCED: notes/assumptions/16. -/
def Mcx.freeSpare (m : Mcx) (line : Nat) : Option (Nat × Nat) :=
  let own := line % 2
  let free := fun ch => (List.range 32).filterMap fun i =>
    if m.remap.any fun e => e.chan == ch && e.spare == i then none else some (ch, i)
  (free (1 - own) ++ free own).head?

/-- REMAP_COPY_COMPLETE (10 R261): the first line in order of hard fault stands in its spare. DEDUCED: notes/assumptions/43. -/
def execRemapCopyComplete (t : Nat) : State → Host.Outcome State Fault Refusal :=
  runMain t (.mram :: mcxFrame) fun s =>
    match s.mcx.copies with
    | [] => s
    | line :: rest =>
      match s.mcx.freeSpare line with
      | none => { s with mcx := { s.mcx with copies := rest } }
      | some x =>
        let (bytes, _, _) := s.mcx.decodeLine line
        let m := { s.mcx with copies := rest, remap := s.mcx.remap ++ [{ line, chan := x.1, spare := x.2 }]
                              watch := s.mcx.watch.filter fun w => w.line != line }
        let base := 64 * (33554432 + 32 * x.1 + x.2)
        let m := (List.range 64).foldl (fun m i => m.store (base + i) (bytes.getD i 0)) m
        let s := { s with mcx := m }
        let s := s.moved .scrub 128
        s.raise 0x4802 0x1B line

/-- REMAP_CLEAR (10 R261): from the next reset on the table is empty; other values have no effect. -/
def State.remapClear (s : State) (v : Nat) : State :=
  if v = 0x5243 then { s with mcx := { s.mcx with clearAtReset := true } } else s

def execRemapClear (t : Nat) (v : Word) : State → Host.Outcome State Fault Refusal :=
  runUnit t (.kpp :: .mram :: .evr :: mcxFrame) fun s => s.remapClear v.toNat

end Sys2Proof.Machine
end

