-- ==== Sys2Proof/Machine/Rfe.lean ====
section
/-!
DEFINITION. The receive front end (06): channels in use, feedback and thresholds per column, marks, stuck slots and
masking, and the bias of the excitation groups.
-/

namespace Sys2Proof.Machine

/-- Rows of the grid. -/
def Plan.rowList (p : Plan) : List Nat := List.range (min p.rows 512)

/-- The row of the grid that a channel serves (03 R71). -/
def Plan.rowOf (p : Plan) (ch : Nat) : Option Nat := p.rowList.find? fun r => p.channelOf r == ch

/-- Bit n of ChannelEnable (06 R150). -/
def Plan.channelEnabled (p : Plan) (ch : Nat) : Bool := mapBit (valueIn p 0x380008) ch

/-- A channel in use (06 R150). -/
def Plan.inUse (p : Plan) (ch : Nat) : Bool := p.channelEnabled ch && (p.rowOf ch).isSome

/-- The channel is in use in the frame in progress. -/
def State.chanInUse (s : State) (ch : Nat) : Bool :=
  match s.pipe.plan with
  | some p => p.inUse ch
  | none => false

def State.chan (s : State) (ch : Nat) : Chan := s.rfe.chans.getD ch {}

def State.setChan (s : State) (ch : Nat) (c : Chan) : State :=
  { s with rfe := { s.rfe with chans := setAt s.rfe.chans ch c } }

/-- A shot slot runs at the present instant (01 R22). -/
def State.inShotSlot (s : State) : Bool :=
  match s.pipe.cur with
  | some c => s.pipe.inColumn && s.pipe.inSlot && s.now < s.pipe.slotStart + c.plan.slot
  | none => false

/-- The comparator blank of offsets 0 to 16 ns (06 R151). -/
def State.inBlank (s : State) : Bool := s.inShotSlot && s.now < s.pipe.slotStart + 16

/-! ### Saturation and marks (06 R151, R158) -/

/-- An edge of this very clock cycle takes the tags of a mark that asserts in it (07 R185, R190). -/
def TimedEvent.tag (e : TimedEvent) (now : Nat) (sat : Bool) : TimedEvent :=
  if e.atPs / 1000 = now then { e with sat := e.sat || sat, outside := true } else e

/-- The events of a mark's channel, saturated, and of its two neighbours. -/
def Tda.tagCycle (a : Tda) (ch now : Nat) : Tda :=
  { a with chans := a.chans.map fun x =>
      if x.1 = ch ∨ x.1 + 1 = ch ∨ x.1 = ch + 1 then
        (x.1, { x.2 with events := x.2.events.map fun e => e.tag now (x.1 == ch) })
      else x }

/-- An assertion is seen: it counts, and the channel is marked. -/
def State.assertMark (s : State) (ch : Nat) : State :=
  let s := s.setChan ch { s.chan ch with seen := true, marked := true }
  { s with tda := s.tda.tagCycle ch s.now
           rfe := { s.rfe with satEvents := sat32 s.rfe.satEvents } }

/-- Detectors that are asserted when the blank ends are taken to assert there (06 R151). -/
def State.endBlank (s : State) : State :=
  if s.inBlank then s
  else
    let late := (List.range 512).filter fun n => (s.chan n).sat && !(s.chan n).seen && s.chanInUse n
    late.foldl State.assertMark s

/-- The saturation mark of a channel: while asserted, and for 30 ns after the release (06 R158). -/
def State.satMark (s : State) (ch : Nat) : Bool :=
  let c := s.chan ch
  c.marked && (c.seen || decide (s.now < c.releasedAt + 30))

/-- The recovery mark of a channel: a neighbour's mark (06 R158). -/
def State.recoveryMark (s : State) (ch : Nat) : Bool :=
  (ch != 0 && s.satMark (ch - 1)) || (ch != 511 && s.satMark (ch + 1))

/-- What only the RFE's commands leave alone. -/
def rfeFrame : List UnitId :=
  [.rw, .rwp, .kpp, .txn, .mram, .pipe, .edu, .bsc, .tda, .hac, .prx, .mcx, .fmt, .linkA, .linkB, .emg, .cu, .wcu,
   .mon, .thermal, .ntu, .evr, .spring, .fw, .cal, .part]

/-- SATURATION_ASSERT (06 R151, R158). -/
def execSaturationAssert (t ch : Nat) : State → Host.Outcome State Fault Refusal :=
  runMain t (rfeFrame.filter fun u => u != .tda) fun s =>
    let s := s.endBlank
    if (s.chan ch).sat then s
    else
      let s := s.setChan ch { s.chan ch with sat := true }
      if s.inBlank || !s.chanInUse ch then s else s.assertMark ch

/-- SATURATION_RELEASE (06 R149, R158): the 30 ns of the mark begin. -/
def execSaturationRelease (t ch : Nat) : State → Host.Outcome State Fault Refusal :=
  runMain t rfeFrame fun s =>
    let s := s.endBlank
    let c := s.chan ch
    s.setChan ch { c with sat := false, seen := false, releasedAt := if c.seen then s.now else c.releasedAt }

/-- MARK_END (06 R158): 30 ns after the last release. -/
def execMarkEnd (t ch : Nat) : State → Host.Outcome State Fault Refusal :=
  runMain t rfeFrame fun s =>
    let s := s.endBlank
    let c := s.chan ch
    if c.seen || s.now < c.releasedAt + 30 then s else s.setChan ch { c with marked := false }

/-! ### Stuck slots and masking (06 R157, R159, R160) -/

/-- A channel masked for the rest of its column. -/
def State.maskChannel (s : State) (ch : Nat) : State :=
  let p := s.plan
  let c := s.chan ch
  let offset := if planN p 0x380009 = 1 then min 1023 (c.offset + planN p 0x38000A) else c.offset
  let s := s.setChan ch { c with maskNext := true, maskedFrame := true, offset }
  let note := fun (x : ColCtx) => { x with masked := insertSet ch x.masked }
  { s with rfe := { s.rfe with blindCount := sat32 s.rfe.blindCount }
           pipe := { s.pipe with cur := s.pipe.cur.map note } }

/-- STUCK_SLOT (06 R159, R160): the comparator has been high for more than 64 ns since offset 16 ns; counted once a slot, and the
16th in a row masks the channel from the next slot on. -/
def execStuckSlot (t ch : Nat) : State → Host.Outcome State Fault Refusal :=
  runMain t [.rw, .rwp, .kpp, .txn, .mram, .edu, .bsc, .tda, .hac, .prx, .mcx, .fmt, .linkA, .linkB, .emg, .cu, .wcu,
    .mon, .thermal, .ntu, .evr, .spring, .fw, .cal, .part] fun s =>
    let s := s.endBlank
    let c := s.chan ch
    if !s.chanInUse ch || !s.inShotSlot || decide (s.now ≤ s.pipe.slotStart + 80) || c.stuckSlot then s
    else
      let s := s.setChan ch { c with stuckSlot := true, stuckRun := c.stuckRun + 1 }
      let s := { s with rfe := { s.rfe with stuckCount := sat32 s.rfe.stuckCount } }
      if c.stuckRun + 1 = 16 && !c.masked && !c.maskNext then s.maskChannel ch else s

/-- Channels at the start of a slot (06 R151, R160): `first` in slot 0 of a column. -/
def Chan.slotStart (c : Chan) (first : Bool) (now : Nat) : Chan :=
  let c := if c.seen then { c with seen := false, releasedAt := now } else c
  if first then { c with stuckRun := 0, stuckSlot := false, masked := false, maskNext := false }
  else { c with stuckRun := if c.stuckSlot then c.stuckRun else 0, stuckSlot := false, masked := c.masked || c.maskNext }

/-- A write to ThresholdOffsetClear (06 R157). -/
def State.thresholdClear (s : State) (v : Nat) : State :=
  if v < 512 then s.setChan v { s.chan v with clearPending := true }
  else if v = 0xFFFF then
    { s with rfe := { s.rfe with chans := s.rfe.chans.map fun c => { c with clearPending := true } } }
  else s

/-- THRESHOLD_OFFSET_CLEAR (06 R157). -/
def execThresholdOffsetClear (t : Nat) (v : Word) : State → Host.Outcome State Fault Refusal :=
  runUnit t rfeFrame fun s => s.thresholdClear v.toNat

/-! ### What a column loads (06 R152, R155, R156) -/

/-- GroupFeedback entry of a channel's group (06 R152). -/
def Plan.groupFeedback (p : Plan) (ch : Nat) : Nat := uAt (valueIn p 0x380002) (ch / 16) 1 % 4

/-- The shadow registers of every channel for a column of `p`: `index` gives the feedback index of a channel in use (06 R150, R155, R156). -/
def Rfe.load (r : Rfe) (p : Plan) (index : Nat → Nat) : Rfe :=
  let table := valueIn p 0x380007
  { r with chans := mapIdx r.chans fun n c =>
      let c := if c.clearPending then { c with offset := 0, clearPending := false } else c
      let inUse := p.inUse n
      { c with fbShadow := if inUse then index n else 0
               thrShadow := min 1023 (uAt table (2 * n) 2 % 1024 + c.offset) } }

/-- The broadcast latch of slot 0 (06 R155). -/
def Rfe.latch (r : Rfe) : Rfe :=
  { r with chans := r.chans.map fun c => { c with fb := c.fbShadow, thr := c.thrShadow } }

/-- The RFE at a frame boundary, after a frame of `p` (06 R157, R160). -/
def Rfe.frameEnd (r : Rfe) (p : Plan) : Rfe :=
  let decay := if planN p 0x380009 = 1 then planN p 0x38000B else 0
  { r with
    blindedLast := (List.range 512).filter fun n => (r.chans.getD n {}).maskedFrame
    chans := r.chans.map fun c =>
      { c with offset := if c.maskedFrame then c.offset else c.offset - decay, maskedFrame := false } }

/-! ### Excitation groups (06 R161 to R166) -/

/-- The target code of group g at temperature t in 0.0625 °C (06 R162). -/
def biasTarget (table : List Byte) (g : Nat) (t : Int) : Nat :=
  let b := fun i => uAt table (34 * g + 2 * i) 2 % 4096
  let x := t + 640
  if x ≤ 0 then b 0
  else if 2560 ≤ x then b 16
  else
    let i := (x / 160).toNat
    let fr := x - 160 * (i : Int)
    ((b i : Int) + (((b (i + 1) : Int) - (b i : Int)) * fr + 80) / 160).toNat

/-- The temperature of the bias and, where the selected NTC is broken, its number (06 R163). -/
def State.biasTemperature (s : State) : Int × Option Nat :=
  let src := s.regN 0x380014
  if src = 0 then (s.thermal.dieFilt, none)
  else if bitOf s.spring.ntcBroken (src - 1) then (s.thermal.dieFilt, some src)
  else (s.spring.filt.getD (2 + src) 0, none)

/-- BiasTempFallback, once per failure of an NTC (06 R163). -/
def State.biasFallback (s : State) (broken : Option Nat) : State :=
  let known := s.rfe.fallback.filter fun n => bitOf s.spring.ntcBroken (n - 1)
  match broken with
  | some n =>
    if known.contains n then { s with rfe := { s.rfe with fallback := known } }
    else { s with rfe := { s.rfe with fallback := insertSet n known } }.raise 0x3803 0x14 n
  | none => { s with rfe := { s.rfe with fallback := known } }

/-- A group whose code becomes `code` (06 R165). -/
def Group.change (g : Group) (code now settle : Nat) : Group :=
  if code = g.code then g else { g with code, settleEnd := max g.settleEnd (now + 1000 * settle) }

/-- Every group moved at `at_` to what `next` gives from its present code and its target. -/
def State.biasMove (s : State) (p : Plan) (at_ : Nat) (next : Nat → Nat → Nat) : State :=
  let (t, broken) := s.biasTemperature
  let table := valueIn p 0x380010
  let settle := valueIn p 0x380011
  let groups := mapIdx s.rfe.groups fun i g =>
    g.change (next g.code (biasTarget table i t)) at_ (uAt settle (2 * i) 2)
  { s with rfe := { s.rfe with groups, biasTemp := t } }.biasFallback broken

/-- The bias update of a turnaround (06 R164). -/
def State.biasUpdate (s : State) (p : Plan) (at_ : Nat) : State :=
  let dead := s.regN 0x380012
  let step := s.regN 0x380013
  s.biasMove p at_ fun code target =>
    if target < code then (if dead ≤ code - target then code - min step (code - target) else code)
    else if dead ≤ target - code then code + min step (target - code) else code

/-- The start-up setting in one step (06 R166). -/
def State.biasStartup (s : State) (p : Plan) : State := s.biasMove p s.now fun _ target => target

/-- A channel's group settles at instant `start` (06 R165). -/
def State.settling (s : State) (ch start : Nat) : Bool := start < (s.rfe.groups.getD (ch / 16) {}).settleEnd

end Sys2Proof.Machine
end

