-- ==== Sys2Proof/Machine/Tda.lean ====
section
/-!
DEFINITION. The time digitizer array (07): calibration of the interpolators, raw time, the reference correction, dead time
and the window test.
-/

namespace Sys2Proof.Machine

/-! ### Calibration (07 R176 to R179) -/

/-- The measurement of TDC m. -/
def measureOf (x : Sys2Proof.TdcCal) (m : Nat) : Nat × Nat :=
  match x.others.find? fun y => y.1 == m with
  | some y => y.2
  | none => (x.u1, x.u2)

/-- P and u0 of a measurement where it is valid (07 R176). -/
def validMeasure (u1 u2 : Nat) : Option (Nat × Nat) :=
  if u1 + 64 ≤ u2 ∧ u2 ≤ u1 + 176 ∧ u2 ≤ 2 * u1 ∧ 2 * u1 ≤ u2 + 48 then some (u2 - u1, 2 * u1 - u2) else none

/-- A TDC after a measurement: the last 8 valid ones are kept; 64 invalid ones in a row hold the sums (07 R177, R179). -/
def Tdc.measure (x : Tdc) (u1 u2 : Nat) : Tdc :=
  match validMeasure u1 u2 with
  | some v =>
    let l := x.meas ++ [v]
    { meas := l.drop (l.length - 8), badRun := 0, held := false }
  | none => { x with badRun := x.badRun + 1, held := x.held || x.badRun + 1 == 64 }

/-- A calibration of every TDC (07 R176, R178), with the events of those that reach 64 invalid measurements. -/
def State.calibrate (s : State) (x : Sys2Proof.TdcCal) : State :=
  let before := s.tda.tdcs
  let tdcs := mapIdx before fun m y => y.measure (measureOf x m).1 (measureOf x m).2
  let bad := (List.range 520).filter fun m => (validMeasure (measureOf x m).1 (measureOf x m).2).isNone
  let s := { s with tda := { s.tda with tdcs, calFails := sat32 s.tda.calFails bad.length } }
  let fresh := bad.filter fun m => (before.getD m {}).badRun == 63
  fresh.foldl (fun s m => s.raise 0x3C01 0x32 m) s

def Tdc.k (x : Tdc) : Nat := x.meas.length
def Tdc.pSum (x : Tdc) : Nat := sumOf (x.meas.map Prod.fst)
def Tdc.uSum (x : Tdc) : Nat := sumOf (x.meas.map Prod.snd)

/-- Raw time in LSB from slot offset 16 (07 R175, R177). -/
def Tdc.rawTime (x : Tdc) (n taps : Nat) : Int :=
  let phi : Int :=
    if x.k = 0 then 0
    else clampInt 0 64 ((128 * ((x.k * taps : Nat) - (x.uSum : Int)) + x.pSum) / (2 * (x.pSum : Int)))
  64 * (n : Int) - phi

/-- The first counter edge at or after an instant in ps, counted from slot offset 16 (07 R175). -/
def counterEdge (atPs slotStart : Nat) : Nat := ceilDiv (atPs - (slotStart + 16) * 1000) 1000

/-- An edge 256 LSB or more after the last accepted one (07 R187). -/
def outOfDeadTime (last : Option Int) (traw : Int) : Bool :=
  match last with
  | some l => 256 ≤ traw - l
  | none => true

/-! ### Reference channels (07 R174, R180 to R183) -/

/-- The reference channel of a port (07 R174). -/
def Plan.refOf (p : Plan) (port : Nat) : Option Nat :=
  let b := uAt (valueIn p 0x3C0010) port 1
  if 128 ≤ b then none else some (b % 8)

def ColCtx.refEnabled (c : ColCtx) (i : Nat) : Bool := bitOf (planN c.regs 0x3C0011) i
def ColCtx.refDelay (c : ColCtx) (i : Nat) : Int := (uAt (valueIn c.regs 0x3C0012) (2 * i) 2 : Nat)
def ColCtx.refWindow (c : ColCtx) : Int := (planN c.regs 0x3C0013 : Nat)

/-- ChannelSkew of a channel at a feedback index (07 R182). -/
def ColCtx.skew (c : ColCtx) (ch f : Nat) : Int := iAt (valueIn c.regs 0x3C0020) (8 * ch + 2 * f) 2

/-- The cell of a channel in a column. -/
def ColCtx.cellOf (c : ColCtx) (ch : Nat) : Option CellCtx := c.cells.find? fun x => x.channel == ch

/-- Settings of the TDA that act from the first column loaded after a write (07 R189). -/
def State.tdaRegs (s : State) : ObjMap :=
  [0x3C0011, 0x3C0012, 0x3C0013, 0x3C0020].filterMap fun k => (mget s.rwp k).map fun v => (k, v)

/-- The dither of the present slot in LSB: D of 07 R180. -/
def State.fireLsb (s : State) : Int := 64 * (s.pipe.dither : Int)

/-- A port of the reference channel drove its fire edge in the present slot (07 R181). -/
def ColCtx.refFired (c : ColCtx) (slot i : Nat) : Bool :=
  ((mget c.fired slot).getD []).any fun e => c.plan.refOf e == some i

/-- t_ref of a reference channel in the present slot (07 R180). -/
def State.tRef (s : State) (c : ColCtx) (i : Nat) : Int :=
  ((s.tda.refs.getD i {}).tref).getD (s.fireLsb + c.refDelay i)

/-- The event time of a raw time on a channel of the column in progress (07 R182). DEDUCED: notes/assumptions/44. -/
def State.eventTime (s : State) (c : ColCtx) (x : CellCtx) (traw : Int) : Int :=
  let base := match c.plan.refOf x.port with
    | some i => s.tRef c i - c.refDelay i
    | none => s.fireLsb
  traw - base - c.skew x.channel x.feedback

/-- The window bound E (07 R184). -/
def Plan.bound (p : Plan) : Int := (2048 * p.binLsb : Nat)

/-- An event whose time is known: outside the window it is counted and dropped (07 R184); inside, what is not handed on goes no further (R186, R177). -/
def Tda.settle (a : Tda) (ch : Nat) (bound : Int) (e : TimedEvent) (tau : Int) : Tda :=
  let x := (mget a.chans ch).getD {}
  if tau < 0 ∨ bound ≤ tau then { a with outside := wrap64 a.outside }
  else if !e.handsOn then a
  else { a with chans := mset a.chans ch { x with events := x.events ++ [{ e with tau := some tau }] } }

/-- The window of the reference channel of a cell is still open, so its events wait (07 R185). DEDUCED: notes/assumptions/44. -/
def State.waitsForRef (s : State) (c : ColCtx) (x : CellCtx) : Bool :=
  match c.plan.refOf x.port with
  | some i => c.refEnabled i && s.pipe.lit && !(s.tda.refs.getD i {}).closed
  | none => false

/-- Events of a channel that waited for their reference are timed now (07 R182, R184). -/
def State.timeWaiting (s : State) (c : ColCtx) (x : CellCtx) : State :=
  match mget s.tda.chans x.channel with
  | none => s
  | some q =>
    let known := q.events.filter fun e => e.tau.isSome
    let open_ := q.events.filter fun e => e.tau.isNone
    let a := { s.tda with chans := mset s.tda.chans x.channel { q with events := known } }
    let a := open_.foldl (fun a e => a.settle x.channel c.plan.bound e (s.eventTime c x e.traw)) a
    { s with tda := a }

/-- Every waiting event of the cells of a reference channel, or of all of them. -/
def State.timeRef (s : State) (c : ColCtx) (i : Option Nat) : State :=
  (c.cells.filter fun x => i.isNone || c.plan.refOf x.port == i).foldl (fun s x => s.timeWaiting c x) s

/-- The last instant of the reference window of a channel in the present slot, in whole ns (07 R180). DEDUCED: notes/assumptions/44. -/
def State.refWindowEnd (s : State) (c : ColCtx) (i : Nat) : Nat :=
  s.pipe.slotStart + 16 + ((s.fireLsb + c.refDelay i + c.refWindow) / 64).toNat

/-- The reference window of a channel closes (07 R180, R181): a missing edge counts, and the events that waited are timed. -/
def State.closeRef (s : State) (c : ColCtx) (i : Nat) : State :=
  let r := s.tda.refs.getD i {}
  let fired := c.refFired s.pipe.slot i
  let counts := fired && c.refEnabled i
  let miss := counts && r.tref.isNone
  let r := { r with
    closed := true
    misses := if miss then sat32 r.misses else r.misses
    frameCounted := r.frameCounted + bNat counts
    frameMissed := r.frameMissed + bNat miss
    measured := if fired && !r.firstSeen then 0xFFFF else r.measured }
  { s with tda := { s.tda with refs := setAt s.tda.refs i r } }.timeRef c (some i)

/-- The windows of the slot in progress that are open still close with it. -/
def State.closeRefs (s : State) (c : ColCtx) : State :=
  if !s.pipe.inSlot || !s.pipe.lit then s
  else (List.range 8).foldl (fun s i => if (s.tda.refs.getD i {}).closed then s else s.closeRef c i) s

/-- The TDA at the start of a slot: what still waits is timed, then the references and dead times start afresh (07 R180, R187). -/
def State.tdaSlotStart (s : State) : State :=
  let s := match s.pipe.cur with
    | some c => (s.closeRefs c).timeRef c none
    | none => s
  { s with tda := { s.tda with
      chans := s.tda.chans.map fun x => (x.1, { x.2 with last := none })
      refs := s.tda.refs.map fun r => { r with last := none, tref := none, closed := false, firstSeen := false } } }

/-- ReferenceLost at the end of a frame (07 R181). -/
def State.tdaFrameEnd (s : State) : State :=
  let all := s.tda.refs
  let missed := fun (r : RefChan) => r.frameCounted != 0 && r.frameMissed == r.frameCounted
  let refs := all.map fun r =>
    { r with frameCounted := 0, frameMissed := 0, frameFound := false
             lost := if r.frameFound then false else missed r || r.lost }
  let fresh := (List.range 8).filter fun i => let r := all.getD i {}; missed r && !r.lost
  fresh.foldl (fun s i => s.raise 0x3C02 0x33 i) { s with tda := { s.tda with refs } }

/-! ### Commands -/

/-- What the TDA's commands leave alone. -/
def tdaFrame : List UnitId :=
  [.rw, .rwp, .txn, .mram, .pipe, .edu, .bsc, .hac, .prx, .mcx, .fmt, .linkA, .linkB, .emg, .cu, .wcu, .mon, .thermal,
   .ntu, .spring, .fw, .cal, .part]

/-- A calibration outside the slots is due: they are 4,000 ns apart (07 R178). -/
def Tda.idleDue (a : Tda) (now : Nat) : Bool :=
  match a.idleAt with
  | some x => decide (x + 4000 ≤ now)
  | none => true

/-- IDLE_TDC_CALIBRATION (07 R178). -/
def execIdleTdcCalibration (t : Nat) (x : Sys2Proof.TdcCal) : State → Host.Outcome State Fault Refusal :=
  runMain t (.rfe :: tdaFrame) fun s =>
    if s.inShotSlot || !s.tda.idleDue s.now then s
    else { s with tda := { s.tda with idleAt := some s.now } }.calibrate x

/-- The earliest handover of an edge (07 R185; 08 R202): the reference window of its slot has closed, and under I2 the verdict of
the pair detector is there. -/
def State.readyPs (s : State) (c : ColCtx) (x : CellCtx) (atPs : Nat) : Nat :=
  let window := match c.plan.refOf x.port with
    | some i => if s.pipe.lit then 1000 * s.refWindowEnd c i else 0
    | none => 0
  max window (if c.plan.interference = 2 then atPs + 6000 else 0)

/-- Pair verdicts: an edge `d` ps after an earlier one makes that one paired (08 R202). -/
def partner (spacing d : Nat) : Bool := (spacing - 1) * 125 ≤ 2 * d && 2 * d ≤ (spacing + 1) * 125

/-- Events whose partner edge falls at `atPs`. -/
def pairUp (spacing atPs : Nat) (l : List TimedEvent) : List TimedEvent :=
  l.map fun e => if e.atPs < atPs && partner spacing (atPs - e.atPs) then { e with paired := true } else e

/-- COMPARATOR_EDGE (06 R149, R151; 07 R175, R182 to R187; 08 R202). -/
def execComparatorEdge (t ps ch taps : Nat) : State → Host.Outcome State Fault Refusal :=
  runMain t (.kpp :: .evr :: tdaFrame) fun s =>
    let s := s.endBlank
    let atPs := s.now * 1000 + ps % 1000
    if !s.chanInUse ch then s
    else
      let q := (mget s.tda.chans ch).getD {}
      -- the pair detector taps the comparator ahead of the blank
      let q := if s.plan.interference = 2 then { q with events := pairUp s.plan.pairSpacing atPs q.events } else q
      let s := if q.events.isEmpty then s else { s with tda := { s.tda with chans := mset s.tda.chans ch q } }
      match s.pipe.cur with
      | none => s
      | some c =>
        let rc := s.chan ch
        match c.cellOf ch with
        | none => s
        | some x =>
          if !s.inShotSlot || s.inBlank || rc.masked then s
          else
            let tdc := s.tda.tdcs.getD ch {}
            let traw := tdc.rawTime (counterEdge atPs s.pipe.slotStart) taps
            if !outOfDeadTime q.last traw then
              { s with tda := { s.tda with
                  pileUp := sat32 s.tda.pileUp
                  chans := mset s.tda.chans ch { q with pileUp := sat32 q.pileUp } } }
            else
              let sat := s.satMark ch
              let e : TimedEvent :=
                { traw, atPs, readyPs := s.readyPs c x atPs, visit := c.visit, slot := s.pipe.slot, sat, outside := sat || s.recoveryMark ch
                  paired := false, handsOn := c.plan.slotLit s.pipe.slot && tdc.k != 0, tau := none }
              let q := { q with last := some traw }
              let a := { s.tda with chans := mset s.tda.chans ch q }
              if s.waitsForRef c x then
                { s with tda := { a with chans := mset a.chans ch { q with events := q.events ++ [e] } } }
              else { s with tda := a.settle ch c.plan.bound e (s.eventTime c x traw) }

/-- REFERENCE_EDGE (07 R177, R180, R183). DEDUCED: notes/assumptions/44. -/
def execReferenceEdge (t ps ref taps : Nat) : State → Host.Outcome State Fault Refusal :=
  runMain t (.kpp :: .evr :: .rfe :: tdaFrame) fun s =>
    match s.pipe.cur with
    | none => s
    | some c =>
      let r := s.tda.refs.getD ref {}
      let tdc := s.tda.tdcs.getD (512 + ref) {}
      if !s.inShotSlot || s.inBlank || !s.pipe.lit then s
      else
        let fired := c.refFired s.pipe.slot ref
        let atPs := s.now * 1000 + ps % 1000
        let traw := tdc.rawTime (counterEdge atPs s.pipe.slotStart) taps
        if !outOfDeadTime r.last traw then s
        else
          let r := { r with last := some traw }
          let d := s.fireLsb
          let r := if fired && tdc.k != 0 && !r.firstSeen && decide (d ≤ traw) && decide (traw ≤ d + 3072) then
              { r with firstSeen := true, measured := (traw - d).toNat } else r
          let mid := d + c.refDelay ref
          let inside := decide (mid - c.refWindow ≤ traw) && decide (traw ≤ mid + c.refWindow)
          let first := tdc.k != 0 && r.tref.isNone && !r.closed && inside
          let r := if first && c.refEnabled ref then { r with tref := some traw, frameFound := true } else r
          let r := if first && fired then { r with offset := r.tref.getD mid - mid } else r
          { s with tda := { s.tda with refs := setAt s.tda.refs ref r } }

/-- REFERENCE_WINDOW_CLOSE (07 R180, R181): t_ref is fixed, a missing edge counts, and the events that waited are timed.
DEDUCED: notes/assumptions/44. -/
def execReferenceWindowClose (t ref : Nat) : State → Host.Outcome State Fault Refusal :=
  runMain t (.kpp :: .evr :: .rfe :: tdaFrame) fun s =>
    match s.pipe.cur with
    | none => s
    | some c =>
      if !s.inShotSlot || !s.pipe.lit || (s.tda.refs.getD ref {}).closed || decide (s.now < s.refWindowEnd c ref) then s
      else s.closeRef c ref

end Sys2Proof.Machine
end

