-- ==== Sys2Proof/Machine/Hac.lean ====
section
/-!
DEFINITION. The histogram accumulator and the Pool (08): the dither of a slot, the gates an event passes, accumulation,
zoom windows, the swap, and the code probe of 17.
-/

namespace Sys2Proof.Machine

/-! ### Oliari dither (08 R197, R198) -/

/-- v of 08 R198. -/
def oliariV (c k j f : Nat) : Nat :=
  let x : BitVec 32 := BitVec.ofNat 32 ((c * 2048 + k) * 256 + j)
  let x := x ^^^ BitVec.ofNat 32 (f % 16 * 2 ^ 28)
  let x := x * 0x9E3779B1#32
  let x := x ^^^ (x >>> 15)
  let x := x * 0x85EBCA77#32
  let x := x ^^^ (x >>> 13)
  x.toNat / 65536

/-- The dither of slot j of visit k in frame f, whole ns, for span D (08 R198). -/
def oliariDither (c k j f span : Nat) : Nat := oliariV c k j f * (span + 1) / 65536

/-- The dithers of the slots of a column (08 R198): 0 under I0. -/
def ditherList (s : State) (p : Plan) (frame visit : Nat) : List Nat :=
  (List.range p.shots).map fun j =>
    if p.interference = 0 then 0 else oliariDither (effectiveCode s p) visit j frame p.dither

/-! ### Buffers -/

/-- A bin value after an increment: clamped at 4,095 (08 R194). -/
def bumpBin (v w : Nat) : Nat × Bool := if 4095 < v + w then (4095, true) else (v + w, false)

/-- Tag bits of an accumulated event (08 R200). -/
def Buf.tag (b : Buf) (binLsb : Nat) (e : HacEvent) : Buf :=
  let bits := 2 * bNat e.sat + bNat e.outside
  if bits = 0 then b
  else
    let k := e.tau / binLsb / 16
    { b with tags := mput b.tags k (mcount b.tags k ||| bits) }

/-- Zoom histogram i of a buffer. -/
def Buf.zoom (b : Buf) (i : Nat) : SMap Nat := if i = 0 then b.zoom0 else if i = 1 then b.zoom1 else b.zoom2

def Buf.setZoom (b : Buf) (i : Nat) (z : SMap Nat) : Buf :=
  if i = 0 then { b with zoom0 := z } else if i = 1 then { b with zoom1 := z } else { b with zoom2 := z }

/-- Coarse bins that lie wholly within the 4.0 ns before the bin of an event (08 R207). -/
def deadSum (coarse : SMap Nat) (bin binLsb : Nat) : Nat :=
  let n := 256 / binLsb
  sumOf ((List.range n).map fun i => if i < bin then mcount coarse (bin - 1 - i) else 0)

/-- The weight of a coarse increment (08 R207). -/
def pileUpWeight (n b : Nat) : Nat :=
  let m := min (n - 1) (b / 8)
  min 64 (8 * n / (n - m))

/-- Lit slots of a stage among slots 0 to `upTo` − 1 of a column for a port (08 R201). -/
def ColCtx.litSlots (c : ColCtx) (port upTo : Nat) (zoom : Bool) : Nat :=
  count (fun (x : Nat × List Nat) => x.1 < upTo && c.plan.zoomSlot x.1 == zoom && x.2.contains port) c.fired

/-- N_c and N_z of a cell (08 R201). -/
def ColCtx.coarseLit (c : ColCtx) (port : Nat) : Nat := c.litSlots port c.plan.shots false
def ColCtx.zoomLit (c : ColCtx) (port : Nat) : Nat := c.litSlots port c.plan.shots true

/-- A coarse event accumulated, and whether its bin was clamped (08 R194, R200, R207). -/
def Buf.addCoarse (b : Buf) (c : ColCtx) (port : Nat) (e : HacEvent) : Buf × Bool :=
  let lsb := c.plan.binLsb
  let bin := e.tau / lsb
  let w := if planN c.plan 0x400010 = 1 then
      pileUpWeight (c.litSlots port (e.slot + 1) false) (deadSum b.coarse bin lsb) else 8
  let (v, clamped) := bumpBin (mcount b.coarse bin) w
  let b := { b with coarse := mput b.coarse bin v, corrected := b.corrected || decide (8 < w)
                    saturated := b.saturated || clamped }
  (b.tag lsb e, clamped)

/-- The window of an event: the lowest valid one that holds tau (08 R205, R208). -/
def Buf.windowOf (b : Buf) (tau : Nat) : Option (Nat × Win) :=
  ((List.range 3).map fun i => (i, b.wins.getD i {})).find? fun x =>
    x.2.valid && x.2.start ≤ tau && tau < x.2.start + 256

/-- A zoom event accumulated, none where no window holds it (08 R208). -/
def Buf.addZoom (b : Buf) (lsb : Nat) (e : HacEvent) : Option (Buf × Bool) :=
  match b.windowOf e.tau with
  | none => none
  | some (i, w) =>
    let z := (e.tau - w.start) / 4
    let (v, clamped) := bumpBin (mcount (b.zoom i) z) 8
    let b := b.setZoom i (mput (b.zoom i) z v)
    some ({ b with saturated := b.saturated || clamped }.tag lsb e, clamped)

/-! ### The column of an event -/

/-- The column a visit index names among those that still take events, and whether it is the one in progress. -/
def State.columnOf (s : State) (visit : Nat) : Option (ColCtx × Bool) :=
  let late := (s.pipe.tail.filter fun c => c.visit == visit).map fun c => (c, false)
  match s.pipe.cur with
  | some c => if c.visit = visit then some (c, true) else late
  | none => late

def Hac.buf (h : Hac) (current : Bool) (ch : Nat) : Buf :=
  (mget (if current then h.acc else h.tail) ch).getD {}

def Hac.setBuf (h : Hac) (current : Bool) (ch : Nat) (b : Buf) : Hac :=
  if current then { h with acc := mset h.acc ch b } else { h with tail := mset h.tail ch b }

/-- The counts of an accumulated event. -/
def Hac.counted (h : Hac) (clamped : Bool) : Hac :=
  { h with accumulated := wrap64 h.accumulated, counterSats := sat32 h.counterSats (bNat clamped) }

/-- A zoom event applied to its windows (08 R208). -/
def Hac.applyZoom (h : Hac) (c : ColCtx) (current : Bool) (e : HacEvent) : Hac :=
  match (h.buf current e.ch).addZoom c.plan.binLsb e with
  | some (b, clamped) => (h.setBuf current e.ch b).counted clamped
  | none => { h with zoomOutside := wrap64 h.zoomOutside }

/-- The stages after the gates: coarse, or zoom, parked while the windows are not placed (08 R200, R204, R210). -/
def Hac.stage (h : Hac) (c : ColCtx) (current : Bool) (port now : Nat) (e : HacEvent) : Hac :=
  if !c.plan.zoomSlot e.slot then
    let (b, clamped) := (h.buf current e.ch).addCoarse c port e
    (h.setBuf current e.ch b).counted clamped
  else
    let waits := current && match h.placedAt with
      | none => true
      | some p => decide (now ≤ p)
    if waits then { h with parked := h.parked ++ [e], parkedCount := sat32 h.parkedCount }
    else h.applyZoom c current e

/-- An event that reaches the HAC (08 R200 to R202, R206; 17 R395). -/
def Hac.take (h : Hac) (c : ColCtx) (current : Bool) (x : CellCtx) (now : Nat) (e : HacEvent) (paired : Bool) : Hac :=
  let fired := ((mget c.fired e.slot).getD []).contains x.port
  if c.probe && c.plan.silentSlot e.slot then
    let bin := (e.ch, e.tau / c.plan.binLsb, e.slot)
    { h with unlit := wrap64 h.unlit
             probeBins := if h.probeBins.contains bin then h.probeBins else h.probeBins ++ [bin] }
  else if !fired then { h with unlit := wrap64 h.unlit }
  else if c.plan.interference = 2 && !paired then
    let b := h.buf current e.ch
    { (h.setBuf current e.ch { b with pairRejects := b.pairRejects + 1 }) with pairRejects := wrap64 h.pairRejects }
  else if 1 < planN c.plan 0x400011 then { h with held := h.held ++ [e], slotEvents := h.slotEvents ++ [e] }
  else h.stage c current x.port now e

/-- What the HAC's commands leave alone. -/
def hacFrame : List UnitId :=
  [.rw, .rwp, .kpp, .txn, .mram, .pipe, .edu, .bsc, .rfe, .prx, .mcx, .fmt, .linkA, .linkB, .emg, .cu, .wcu, .mon,
   .thermal, .ntu, .evr, .spring, .fw, .cal, .part]

/-- EVENT_HANDOVER (07 R184, R185; 08 R200 to R202): the oldest event of the channel whose time is known. -/
def execEventHandover (t ch : Nat) : State → Host.Outcome State Fault Refusal :=
  runMain t hacFrame fun s =>
    let q := (mget s.tda.chans ch).getD {}
    match q.events with
    | [] => s
    | e :: rest =>
      match e.tau with
      | none => s
      | some tau =>
        if s.now * 1000 < e.readyPs then s else
        let s := { s with tda := { s.tda with
          chans := mset s.tda.chans ch { q with events := rest }, events := wrap64 s.tda.events } }
        match s.columnOf e.visit with
        | none => s
        | some (c, current) =>
          match c.cellOf ch with
          | none => s
          | some x =>
            let e' : HacEvent :=
              { ch, visit := e.visit, slot := e.slot, tau := tau.toNat, sat := e.sat, outside := e.outside, atPs := e.atPs }
            { s with hac := s.hac.take c current x s.now e' e.paired }

/-- Channels in use whose rows of the grid lie on a port (08 R206). -/
def ColCtx.portChannels (c : ColCtx) (port : Nat) : List Nat :=
  (c.cells.filter fun x => x.port == port && c.plan.channelEnabled x.channel).map CellCtx.channel

/-- The events of the slot support this one: channels of its port with an event within the window (08 R206). -/
def Hac.supported (h : Hac) (c : ColCtx) (port : Nat) (e : HacEvent) : Bool :=
  let chans := c.portChannels port
  let w := 64 * planN c.plan 0x400012
  let near := fun (x : HacEvent) => x.visit == e.visit && x.slot == e.slot && x.tau ≤ e.tau + w && e.tau ≤ x.tau + w
  min (planN c.plan 0x400011) chans.length ≤ count (fun ch => h.slotEvents.any fun x => x.ch == ch && near x) chans

/-- COINCIDENCE_RELEASE (08 R206): the oldest event held on the channel, 160 ns plus CoincWindow after its edge.
DEDUCED: notes/assumptions/45. -/
def execCoincidenceRelease (t ch : Nat) : State → Host.Outcome State Fault Refusal :=
  runMain t (.tda :: hacFrame) fun s =>
    match s.hac.held.find? fun e => e.ch == ch with
    | none => s
    | some e =>
      match s.columnOf e.visit with
      | none => s
      | some (c, current) =>
        match c.cellOf ch with
        | none => s
        | some x =>
          if s.now * 1000 < e.atPs + (160 + planN c.plan 0x400012) * 1000 then s
          else
            let h := { s.hac with held := s.hac.held.erase e }
            if h.supported c x.port e then { s with hac := h.stage c current x.port s.now e }
            else
              let b := h.buf current ch
              { s with hac := { (h.setBuf current ch { b with coincRejects := b.coincRejects + 1 }) with
                coincRejects := wrap64 h.coincRejects } }

/-! ### Zoom windows (08 R203 to R205, R208, R209) -/

/-- Insertion by descending value, ties by the lower bin. -/
def insertByValue (x : Nat × Nat) : List (Nat × Nat) → List (Nat × Nat)
  | [] => [x]
  | y :: ys => if y.1 < x.1 ∨ (y.1 = x.1 ∧ x.2 < y.2) then x :: y :: ys else y :: insertByValue x ys

/-- The block maximum of a block of 64 coarse bins: value and lowest bin (08 R203). -/
def blockMax (coarse : SMap Nat) (block : Nat) : Option (Nat × Nat) :=
  coarse.foldl (fun acc x =>
    if x.1 / 64 ≠ block then acc
    else match acc with
      | none => some (x.2, x.1)
      | some y => if y.1 < x.2 then some (x.2, x.1) else some y) none

/-- The blocks that hold a count. -/
def blocksOf (coarse : SMap Nat) : List Nat := coarse.foldl (fun l x => insertSet (x.1 / 64) l) []

def centreOf (binLsb bin : Nat) : Nat := bin * binLsb + binLsb / 2

/-- Distance of two times. -/
def apart (a b : Nat) : Nat := (a - b) + (b - a)

/-- The centres of the candidates of a cell in their order (08 R203). -/
def candidates (p : Plan) (b : Buf) : List Nat :=
  let total := sumOf (b.coarse.map Prod.snd)
  let threshold := planN p 0x400013 + planN p 0x400014 * total / 16384
  let maxima := ((blocksOf b.coarse).filterMap (blockMax b.coarse)).filter fun x => threshold ≤ x.1
  (maxima.foldr insertByValue []).foldl (fun taken x =>
    let c := centreOf p.binLsb x.2
    if taken.all fun y => 256 ≤ apart c y then taken ++ [c] else taken) []

/-- The start of a window placed on a centre (08 R205). -/
def windowStart (p : Plan) (centre : Nat) : Nat := if centre < 128 then 0 else min ((centre - 128) / 4 * 4) (2048 * p.binLsb - 256)

/-- Windows of a cell without prediction (08 R208). -/
def placeFresh (p : Plan) (cands : List Nat) : List Win :=
  (List.range 3).map fun i =>
    match if i < p.zoomWindows then cands[i]? else none with
    | some c => { valid := true, source := 0, start := windowStart p c }
    | none => {}

/-- Windows that hold a candidate are confirmed, from the lowest index up: what is left of the candidates with them (08 R209). -/
def confirmWindows : List (Nat × Nat) → List Nat → List (Nat × Win) × List (Nat × Nat) × List Nat
  | [], cands => ([], [], cands)
  | (i, start) :: rest, cands =>
    match cands.find? fun c => start ≤ c && c < start + 256 with
    | some c =>
      let (ok, open_, left) := confirmWindows rest (cands.erase c)
      ((i, { valid := true, source := 1, start }) :: ok, open_, left)
    | none =>
      let (ok, open_, left) := confirmWindows rest cands
      (ok, (i, start) :: open_, left)

/-- Unconfirmed windows, from the highest index down, move, stay or go (08 R209). -/
def moveWindows (p : Plan) (keepThem : Bool) : List (Nat × Nat) → List Nat → List (Nat × Win) × List Nat
  | [], cands => ([], cands)
  | (i, start) :: rest, cands =>
    match cands with
    | c :: left =>
      let (ws, left) := moveWindows p keepThem rest left
      ((i, { valid := true, source := 2, start := windowStart p c }) :: ws, left)
    | [] =>
      let (ws, left) := moveWindows p keepThem rest []
      (if keepThem then (i, { valid := true, source := 3, start }) :: ws else ws, left)

/-- Windows of a cell with predicted windows at `preds` (08 R209). -/
def settleWindows (p : Plan) (preds cands : List Nat) : List Win :=
  let n := min preds.length p.zoomWindows
  let predicted := (List.range n).map fun i => (i, windowStart p (preds.getD i 0))
  let (ok, open_, left) := confirmWindows predicted cands
  let (moved, left) := moveWindows p (planN p 0x400015 == 1) open_.reverse left
  (List.range 3).map fun i =>
    match (ok ++ moved).find? fun x => x.1 == i with
    | some x => x.2
    | none =>
      if n ≤ i && i < p.zoomWindows then
        match left[i - n]? with
        | some c => { valid := true, source := 0, start := windowStart p c }
        | none => {}
      else {}

/-- The windows of a cell at the placement point (08 R208, R209). DEDUCED: notes/assumptions/45. -/
def placeWindows (p : Plan) (x : CellCtx) (b : Buf) : List Win :=
  let cands := candidates p b
  if p.hist = 3 ∧ x.preds ≠ [] then settleWindows p x.preds cands else placeFresh p cands

/-- Window counts of a frame (08 R211). -/
def HacFrame.placed (f : HacFrame) (ws : List Win) : HacFrame :=
  let n := fun k => count (fun (w : Win) => w.valid && w.source == k) ws
  { f with coarse := sat32 f.coarse (n 0), confirmed := sat32 f.confirmed (n 1), moved := sat32 f.moved (n 2)
           kept := sat32 f.kept (n 3)
           noCandidate := sat32 f.noCandidate (bNat (!ws.any fun w => w.valid)) }

/-- The placement point reached in the column in progress (08 R204). DEDUCED: notes/assumptions/45. -/
def State.placementDue (s : State) (c : ColCtx) : Bool :=
  c.plan.zooms && s.hac.placedAt.isNone && (c.plan.coarseShots < s.pipe.slot ||
    (c.plan.coarseShots == s.pipe.slot && s.pipe.slotStart + 256 ≤ s.now))

/-- PLACEMENT_POINT (08 R203, R204, R208, R209). -/
def execPlacementPoint (t : Nat) : State → Host.Outcome State Fault Refusal :=
  runMain t (.tda :: hacFrame) fun s =>
    match s.pipe.cur with
    | none => s
    | some c =>
      if !s.placementDue c then s
      else
        let h := c.cells.foldl (fun (h : Hac) x =>
          let b := h.buf true x.channel
          let ws := placeWindows c.plan x b
          let h := { h with run := h.run.placed ws }
          if ws.any fun w => w.valid then h.setBuf true x.channel { b with wins := ws } else h) s.hac
        { s with hac := { h with placedAt := some s.now } }

/-- PARKED_EVENTS_APPLY (08 R204): in order of arrival. DEDUCED: notes/assumptions/45. -/
def execParkedEventsApply (t : Nat) : State → Host.Outcome State Fault Refusal :=
  runMain t (.tda :: hacFrame) fun s =>
    match s.pipe.cur, s.hac.placedAt with
    | some c, some _ =>
      let h := s.hac.parked.foldl (fun (h : Hac) e => h.applyZoom c true e) s.hac
      { s with hac := { h with parked := [] } }
    | _, _ => s

/-! ### The code probe (17 R395, R396) -/

/-- Channels of a probe with a coherent bin (17 R395). -/
def coherentChannels (p : Plan) (bins : List (Nat × Nat × Nat)) : Nat :=
  let q := p.silentSlots
  let need := (3 * q + 3) / 4
  let chans := bins.foldl (fun l x => insertSet x.1 l) []
  count (fun ch =>
    let mine := bins.filter fun x => x.1 == ch
    mine.any fun x => need ≤ count (fun y => y.2.1 == x.2.1) mine) chans

/-- CodeConflict as an event: code and [16] declared (17 R399). -/
def State.conflictEvent (s : State) (code : Nat) (on : Bool) : State := s.raise 0x6003 0x52 (code % 512 + 65536 * bNat on)

/-- The declaration of a conflict under `code`, where 2 of the last 3 probes were suspect (17 R396). -/
def State.declareConflict (s : State) (code : Nat) : State :=
  if !s.ntu.conflict && decide (2 ≤ count id s.ntu.history) then
    { s with ntu := { s.ntu with conflict := true, conflictCode := code, clearRun := 0 } }.conflictEvent code true
  else s

/-- The result of a probe under the effective code `code` (17 R395, R396); a declaration due while no unit serves is left for the
new holder (R397). -/
def State.probeDone (s : State) (code : Nat) (suspect : Bool) : State :=
  let n := s.ntu
  let h := n.history ++ [suspect]
  let n := { n with probes := sat32 n.probes, suspects := sat32 n.suspects (bNat suspect)
                    history := h.drop (h.length - 3)
                    clearRun := if suspect then 0 else n.clearRun + 1 }
  if !n.conflict then
    let s := { s with ntu := n }
    if s.serving then s.declareConflict code else s
  else if 3 ≤ n.clearRun then
    let was := n.conflictCode
    { s with ntu := { n with conflict := false, conflictCode := 0xFFFF, clearRun := 0 } }.conflictEvent was false
  else { s with ntu := n }

/-- A plan with another effective code comes into force (17 R396). -/
def State.codeChanged (s : State) (old new : Nat) : State :=
  if old = new then s
  else
    let was := s.ntu
    let s := { s with ntu := { was with history := [], clearRun := 0 } }
    if was.conflict && was.conflictCode != new then
      { s with ntu := { s.ntu with conflict := false, conflictCode := 0xFFFF } }.conflictEvent was.conflictCode false
    else s

/-! ### The swap (08 R195, R211) -/

/-- LastDithers of a completed column (08 R211). -/
def lastDithers (c : ColCtx) : List Byte :=
  le 4 c.frame.toNat ++ le 2 c.visit ++ le 2 c.dithers.length ++ c.dithers.flatMap (le 2)

/-- The swap of column c with its buffers. -/
def State.swapped (s : State) (c : ColCtx) (bufs : SMap Buf) : State :=
  let corrected := count (fun (x : Nat × Buf) => x.2.corrected) bufs
  let h := s.hac
  let s := { s with
    pipe := { s.pipe with ext := some c }
    hac := { h with ext := bufs, last := lastDithers c
                    run := { h.run with correctedCells := sat32 h.run.correctedCells corrected } }
    prx := { s.prx with done := [], cells := [] } }
  if c.probe then
    let suspect := decide (0 < c.plan.silentSlots) && s.regN 0x600051 ≤ coherentChannels c.plan s.hac.probeBins
    { s with hac := { s.hac with probeBins := [] } }.probeDone (effectiveCode s c.plan) suspect
  else s

/-- The instant of a column's swap (08 R195). -/
def ColCtx.swapAt (c : ColCtx) : Nat := c.sk + c.plan.shots * c.plan.slot + 256

/-- POOL_SWAP (08 R195): 256 ns after the end of the column's last slot. -/
def execPoolSwap (t : Nat) : State → Host.Outcome State Fault Refusal :=
  runMain t [.rw, .rwp, .txn, .mram, .edu, .bsc, .rfe, .tda, .mcx, .fmt, .linkA, .linkB, .emg, .cu, .wcu, .mon,
    .thermal, .spring, .fw, .cal, .part] fun s =>
    match s.pipe.tail with
    | some c =>
      if s.now < c.swapAt then s else
      let s := s.swapped c s.hac.tail
      { s with pipe := { s.pipe with tail := none }, hac := { s.hac with tail := [] } }
    | none =>
      match s.pipe.cur with
      | none => s
      | some c =>
        if s.now < c.swapAt then s
        else
          let s := s.swapped c s.hac.acc
          { s with pipe := { s.pipe with cur := none, inSlot := false }
                   hac := { s.hac with acc := [], parked := [], held := [], slotEvents := [], placedAt := none } }

/-- HAC counters at a frame boundary (08 R211): a blank frame is never shown. -/
def Hac.frameEnd (h : Hac) (blank : Bool) : Hac := if blank then { h with run := {} } else { h with shown := h.run, run := {} }

end Sys2Proof.Machine
end

