-- ==== Sys2Proof/Machine/Edu.lean ====
section
/-!
DEFINITION. The emitter drive unit (04): reductions and shadow codes, the broadcast latch, fire pulses and diagnostic shots,
verdicts, faults and the port status.
-/

namespace Sys2Proof.Machine

/-! ### Verdicts (04 R99, R110) -/

/-- sense × 4096 × 100 against pct × gain × 1000 mV × V(code)/1 V, exactly: V is 10^(−4(1023 − c) ÷ 1705) V (04 R99).
DESIGN CHOICE: notes/assumptions/17. -/
def senseBelow (sense pct : Nat) (gain : Int) (code : Nat) : Bool :=
  if gain ≤ 0 then false
  else (sense * 409600) ^ 1705 * 10 ^ (4 * (1023 - code)) < (pct * gain.toNat * 1000) ^ 1705

/-- DESIGN CHOICE: notes/assumptions/17. -/
def senseAbove (sense pct : Nat) (gain : Int) (code : Nat) : Bool :=
  if gain < 0 then true
  else if gain = 0 then 0 < sense
  else (pct * gain.toNat * 1000) ^ 1705 < (sense * 409600) ^ 1705 * 10 ^ (4 * (1023 - code))

inductive Verdict where
  | good | opened | shorted
  deriving DecidableEq, Repr

/-- The verdict of a pulse (04 R110); Short where both conditions hold. -/
def State.verdict (s : State) (x : Sys2Proof.Sense) (code : Nat) : Verdict :=
  let gain := s.regI 0x300011
  if senseAbove x.peak (s.regN 0x300014) gain code || s.regN 0x300015 < x.base then .shorted
  else if senseBelow x.peak (s.regN 0x300013) gain code then .opened
  else .good

def State.port (s : State) (e : Nat) : PortState := s.edu.ports.getD e {}

def State.setPort (s : State) (e : Nat) (x : PortState) : State :=
  { s with edu := { s.edu with ports := setAt s.edu.ports e x } }

/-- PortStatus values (04 R114). -/
def psNotFired : Nat := 0
def psGood : Nat := 1
def psDeferred : Nat := 2
def psOpen : Nat := 3
def psShort : Nat := 4
def psNotDiagnosable : Nat := 5
def psUnused : Nat := 6

/-- A port declared Open or Short (04 R113, R114, R117): masked at the next latch. -/
def State.declarePort (s : State) (e status : Nat) : State :=
  let x := s.port e
  let st := if x.status = psNotFired ∨ x.status = psGood ∨ x.status = psDeferred then status else x.status
  let s := s.setPort e { x with
    status := st, maskPending := true, clearPending := false, openIn := 0, shortIn := 0, openDiag := 0, shortDiag := 0 }
  let s := { s with edu := { s.edu with faults := sat32 s.edu.faults } }
  s.raise (if status = psOpen then 0x3001 else 0x3002) 0x20 e

/-- A verdict reaches a port (04 R113, R114); `diag` for one of a diagnostic shot. -/
def State.judge (s : State) (e peak : Nat) (v : Verdict) (diag : Bool) : State :=
  let x := { s.port e with sensePeak := min peak 0xFFFF }
  if x.masked || x.maskPending then s.setPort e x
  else
    match v with
    | .good =>
      let st := if x.status = psNotFired ∨ x.status = psDeferred then psGood else x.status
      s.setPort e { x with status := st, openIn := 0, shortIn := 0, openDiag := 0, shortDiag := 0 }
    | .opened =>
      let x := { x with shortIn := 0, shortDiag := 0, openIn := x.openIn + bNat (!diag), openDiag := x.openDiag + bNat diag }
      let s := s.setPort e x
      if 4 ≤ x.openIn ∨ 2 ≤ x.openDiag then s.declarePort e psOpen else s
    | .shorted =>
      let x := { x with openIn := 0, openDiag := 0, shortIn := x.shortIn + bNat (!diag), shortDiag := x.shortDiag + bNat diag }
      let s := s.setPort e x
      if 4 ≤ x.shortIn ∨ 2 ≤ x.shortDiag then s.declarePort e psShort else s

/-- The reading of a port; one that is not given reads 0. DESIGN CHOICE: notes/assumptions/14. -/
def senseOf (l : List Sys2Proof.Sense) (e : Nat) : Sys2Proof.Sense :=
  (l.find? fun x => x.port == e).getD { port := e, peak := 0, base := 0 }

/-! ### The broadcast latch (04 R101, R113, R116, R117; 13 R316) -/

/-- The status a cleared port takes (04 R114). -/
def clearedStatus (p : Plan) : Nat :=
  if 24 ≤ p.pulseWidth then psNotFired else if planN p 0x300003 = 1 then psDeferred else psNotDiagnosable

/-- A port at a latch: a pending mask or clear takes effect. -/
def PortState.latch (x : PortState) (p : Plan) : PortState :=
  if x.maskPending then { x with masked := true, maskPending := false, clearPending := false }
  else if x.clearPending then
    { x with masked := false, clearPending := false, openIn := 0, shortIn := 0, openDiag := 0, shortDiag := 0
             status := if x.status = psOpen ∨ x.status = psShort then clearedStatus p else x.status }
  else x

def Edu.latch (u : Edu) (p : Plan) : Edu := { u with ports := u.ports.map fun x => x.latch p }

/-- At slot 0 of a column the shadow codes become active (04 R101). -/
def Edu.latchCodes (u : Edu) : Edu := { u with ports := u.ports.map fun x => { x with active := x.shadow, latched := x.shadow } }

/-- The EMG's check of the active codes (13 R316). -/
def State.codeCheck (s : State) (bad : Nat → PortState → Bool) : State :=
  if (List.range 128).any fun e => (s.port e).used && bad e (s.port e) then s.trip 6 else s

/-- The latch of a shot slot; `first` in slot 0. -/
def State.slotLatch (s : State) (p : Plan) (first : Bool) : State :=
  let u := s.edu.latch p
  let s := { s with edu := if first then u.latchCodes else u }
  s.codeCheck fun e x => codeCeiling p e < x.active

/-! ### Shadow codes of a column (04 R103, R107) -/

/-- The shadow code of a used port with reduction r (04 R103). -/
def shadowCode (p : Plan) (column e r : Nat) : Nat :=
  let cmax := p.maxCode e
  if p.steering = 3 ∧ !p.stepHas column e then cmax
  else if p.steering = 4 then reducedCode cmax (max r 80)
  else reducedCode cmax r

/-- r_port: the smallest reduction among the port's cells (04 R107). -/
def portReduction (cells : List CellCtx) (e : Nat) : Nat :=
  ((cells.filter fun x => x.port == e).map CellCtx.reduction).foldl min 96

/-- The shadow codes of a column, for the ports its plan uses; an unused port keeps the code it had, 0 at first: DESIGN CHOICE,
notes/assumptions/84. -/
def Edu.load (u : Edu) (p : Plan) (column : Nat) (adaptive : Bool) (cells : List CellCtx) : Edu :=
  { u with ports := mapIdx u.ports fun e x =>
      if p.used e then { x with shadow := shadowCode p column e (if adaptive then portReduction cells e else 0) } else x }

/-! ### Frame boundary (04 R98, R114) -/

/-- A port at a frame boundary. A width below 3.0 ns that follows another one below it brings none: DESIGN CHOICE,
notes/assumptions/84. -/
def PortState.boundary (x : PortState) (used narrow fell diag changed : Bool) : PortState :=
  let st :=
    if x.status = psOpen ∨ x.status = psShort then x.status
    else if !used then psUnused
    else if !narrow then
      (if x.status = psUnused ∨ x.status = psDeferred ∨ x.status = psNotDiagnosable then psNotFired else x.status)
    else if diag then
      (if x.status = psUnused ∨ x.status = psNotDiagnosable ∨
          ((x.status = psNotFired ∨ x.status = psGood) ∧ (fell ∨ changed)) then psDeferred else x.status)
    else psNotDiagnosable
  { x with used, status := st }

/-- The EDU as a frame of `p` starts (04 R98, R114). -/
def Edu.boundary (u : Edu) (p : Plan) : Edu :=
  let narrow := decide (p.pulseWidth < 24)
  let diag := planN p 0x300003 == 1
  { u with width := p.pulseWidth, diagEnable := diag
           ports := mapIdx u.ports fun e x =>
             x.boundary (p.used e) narrow (narrow && 24 ≤ u.width) diag (diag != u.diagEnable) }

/-! ### Commands -/

/-- What the EDU's commands leave alone. -/
def eduFrame : List UnitId :=
  [.rw, .rwp, .txn, .mram, .bsc, .rfe, .tda, .hac, .prx, .mcx, .fmt, .linkA, .linkB, .cu, .wcu, .mon, .thermal, .ntu,
   .spring, .fw, .cal, .part]

/-- Pulses of a port: the second of a pair follows s × 62.5 ps, in 1/64 ns, after the first (04 R104, R105).
DEDUCED: notes/assumptions/40. -/
def State.pulseOut (s : State) (p : Plan) (e code width : Nat) (pair : Bool) : State :=
  let skew := uAt (s.reg 0x300010) e 1
  let s := s.send (.fire e code width skew)
  if pair then s.send (.fire e code width (skew + 4 * p.pairSpacing)) else s

/-- The ports that fire, at `at_` and their own skew, are booked and sent. DEDUCED: notes/assumptions/40. -/
def State.fireAll (s : State) (p : Plan) (at_ column : Nat) (ports : List Nat) (code : Nat → Nat) (width : Nat)
    (pair : Bool) : State :=
  let table := s.reg 0x300012
  let skews := s.reg 0x300010
  ports.foldl (fun s e =>
    let en := e16 table e (code e) width
    let s := s.pulseOut p e (code e) width pair
    { s with emg := { s.emg with bookings := s.emg.bookings ++ [bookingOf p (at_ + uAt skews e 1 / 64) e column (if pair then 2 * en else en)] } }) s

/-- The ports whose pulses leave, of those that would fire (13 R315, R319). -/
def State.firing (s : State) (ports : List Nat) : List Nat :=
  if s.emissionOn then ports.filter fun e => !s.emg.gated.contains e else []

/-- Verdicts of the ports that fired (04 R110, R111). -/
def State.judgeAll (s : State) (ports : List Nat) (code : Nat → Nat) (senses : List Sys2Proof.Sense) (diag : Bool) : State :=
  if !s.emg.fb then s
  else ports.foldl (fun s e =>
    let x := senseOf senses e
    s.judge e x.peak (s.verdict x (code e)) diag) s

/-- FIRE_EDGE (04 R104, R105, R110 to R113; 08 R201; 13 R312): once in each slot, 16 + d ns into it. -/
def execFireEdge (t : Nat) (senses : List Sys2Proof.Sense) : State → Host.Outcome State Fault Refusal :=
  runMain t [.rw, .rwp, .txn, .mram, .bsc, .tda, .hac, .prx, .mcx, .fmt, .linkA, .linkB, .cu, .wcu, .mon, .thermal,
    .ntu, .spring, .fw, .cal, .part] fun s =>
    match s.pipe.cur with
    | none => s
    | some c =>
      let s := s.endBlank
      let j := s.pipe.slot
      let due := s.inShotSlot && s.pipe.lit && (mget c.fired j).isNone && s.pipe.slotStart + 16 + s.pipe.dither ≤ s.now
      if !due then s
      else
        let p := c.plan
        let s := if s.emissionOn && s.emg.decidedFor != some s.pipe.slotStart then
            s.decideSlot p c.column s.pipe.slotStart else s
        let ports := s.firing ((List.range 128).filter (s.wouldFire p c.column))
        let code := fun e => (s.port e).active
        let s := s.fireAll p (s.pipe.slotStart + 16 + s.pipe.dither) c.column ports code p.pulseWidth (p.interference == 2)
        let s := { s with pipe := { s.pipe with cur := some { c with fired := mset c.fired j ports } } }
        if 24 ≤ p.pulseWidth then s.judgeAll ports code senses false else s

/-- The codes that were active before a diagnostic shot, at the latch 100 ns after it (04 R101). -/
def Edu.restoreCodes (u : Edu) (p : Plan) (codes : List Nat) : Edu :=
  let u := u.latch p
  { u with ports := mapIdx u.ports fun e x => { x with active := codes.getD e 0 } }

/-- DIAGNOSTIC_SHOT (04 R112, R101, R110; 01 R33; 13 R315, R316): its two latches included. A shot from which no pulse leaves
is not counted as fired: DESIGN CHOICE, notes/assumptions/84. -/
def execDiagnosticShot (t : Nat) (senses : List Sys2Proof.Sense) : State → Host.Outcome State Fault Refusal :=
  runMain t eduFrame fun s =>
    match s.pipe.plan with
    | none => s
    | some p =>
      let due := s.pipe.inTurn && !s.pipe.blank && !s.pipe.diagDone && planN p 0x300003 == 1 &&
        s.pipe.turnStart + 300000 ≤ s.now
      if !due then s
      else
        let s := { s with pipe := { s.pipe with diagDone := true } }
        if !s.emg.emitEn then { s with edu := { s.edu with diagSkipped := sat32 s.edu.diagSkipped } }
        else
          let at_ := s.pipe.turnStart + 300000
          let code := fun e => lowCode (p.maxCode e)
          let before := s.edu.ports.map PortState.active
          let u := s.edu.latch p
          let s := { s with edu := { u with ports := mapIdx u.ports fun e x => if x.used then { x with active := code e } else x } }
          let s := s.codeCheck fun e x => x.active != code e
          let ports := (List.range 128).filter fun e => (s.port e).used && !(s.port e).masked
          let table := s.reg 0x300012
          let column := s.pipe.lastColumn
          let s := s.decideGate p column (ports.map fun e => (e, e16 table e (code e) 72)) 1 at_
          let ports := s.firing ports
          let s := s.fireAll p at_ column ports code 72 false
          let s := { s with edu := { s.edu with diagFired := sat32 s.edu.diagFired (bNat (!ports.isEmpty)) } }
          let s := s.judgeAll ports code senses true
          let s := { s with edu := s.edu.restoreCodes p before }
          s.codeCheck fun e x => codeCeiling p e < x.active

/-- A write to PortClear (04 R116, R117). -/
def State.portClear (s : State) (v : Nat) : State :=
  let clear := fun (x : PortState) => if x.maskPending then x else { x with clearPending := true }
  if v < 128 then s.setPort v (clear (s.port v))
  else if v = 0xFF then
    { s with edu := { s.edu with ports := s.edu.ports.map fun x =>
      if x.status = psOpen ∨ x.status = psShort then clear x else x } }
  else s

/-- PORT_CLEAR (04 R116). -/
def execPortClear (t : Nat) (v : Word) : State → Host.Outcome State Fault Refusal :=
  runUnit t (.kpp :: .pipe :: .emg :: .evr :: eduFrame) fun s => s.portClear v.toNat

end Sys2Proof.Machine
end

