-- ==== Sys2Proof/Machine/Bsc.lean ====
section
/-!
DEFINITION. The beam steering controller (05): the trajectory and its changes as exact rational functions rounded down to
1 nrad, the matrix product of an axis, the fault criteria, parking and the commands of a period.
-/

namespace Sys2Proof.Machine

/-! ### Moves at SoftStartAccel (05 R137): distances in nrad, acceleration in mrad/s², times in ns -/

/-- The least n with n² ≥ v. -/
def sqrtUp (v : Nat) : Nat :=
  let r := isqrt v
  if r * r = v then r else r + 1

/-- Duration 2√(D ÷ a) of a move of distance D, rounded up to whole ns (05 R137). DESIGN CHOICE: notes/assumptions/17. -/
def rampTime (dist accel : Nat) : Nat := sqrtUp (ceilDiv (4 * 10 ^ 12 * dist) accel)

/-- Distance covered `x` ns into a move of distance D, rounded down (05 R137). DESIGN CHOICE: notes/assumptions/17. -/
def rampAt (dist accel x : Nat) : Nat :=
  if accel * x * x ≤ dist * 10 ^ 12 then accel * x * x / (2 * 10 ^ 12)
  else if accel * x * x < 4 * 10 ^ 12 * dist then
    let up : Int := ((2 * 10 ^ 6 * isqrt (4 * x * x * accel * dist) : Nat) : Int)
    ((up - ((2 * 10 ^ 12 * dist + accel * x * x : Nat) : Int)) / (2 * 10 ^ 12)).toNat
  else dist

/-- The reference `x` ns into a move from one angle to another. -/
def moveAt (start goal : Int) (accel x : Nat) : Int :=
  let d := rampAt (goal - start).natAbs accel x
  if start ≤ goal then start + d else start - d

/-! ### Trajectories (05 R131 to R134), in nrad -/

/-- First and last angle of the sweep of frame n (05 R131). -/
def sweepEnds (p : Plan) (n : Int) : Int × Int :=
  if n % 2 = 0 then (1000 * p.scanStart, 1000 * p.scanEnd) else (1000 * p.scanEnd, 1000 * p.scanStart)

/-- The sweep centre, or the held angle (05 R134, R136). -/
def Plan.centre (p : Plan) : Int := if p.sweeps then (p.scanStart + p.scanEnd) * 500 else 1000 * p.scanStart

/-- Half the span Δ ÷ 2 (05 R137); 0 where the mirror is held. -/
def Plan.halfSpan (p : Plan) : Nat := if p.sweeps then (p.scanEnd - p.scanStart).natAbs * 500 else 0

/-- The number of the frame k frames after frame n, modulo 2³² (00 R17); notional frames before frame 0 have numbers below 0
(05 R138). -/
def frameAfter (n : Int) (k : Nat) : Int := if n + k < 0 then n + k else (n + k) % 2 ^ 32

/-- The second-axis position of frame n (03 R79, 05 R133). Under S1 with two axes the manual gives the second axis no
trajectory; it holds 0 as under S3 and S4: DESIGN CHOICE, notes/assumptions/83. -/
def secondAxis (p : Plan) (n : Int) : Int :=
  if p.steering = 2 then (2 * (n % (p.interlace : Int)) - ((p.interlace : Int) - 1)) * p.interlaceStep * 500 else 0

/-- The cubic of a turnaround: ends, sweep lengths in angle and active time before and after, and T (05 R132). -/
structure Cubic where
  th0 : Int
  th1 : Int
  n0 : Int
  a0 : Nat
  n1 : Int
  a1 : Nat
  len : Nat
  deriving DecidableEq, Repr

/-- Denominator, and the numerators of rate 0 and rate 1 over it. -/
def Cubic.den (c : Cubic) : Int := (c.a0 * c.a1 : Nat)
def Cubic.w0 (c : Cubic) : Int := c.n0 * c.a1
def Cubic.w1 (c : Cubic) : Int := c.n1 * c.a0
def Cubic.c2 (c : Cubic) : Int := 3 * (c.th1 - c.th0) * c.den - c.len * (2 * c.w0 + c.w1)
def Cubic.c3 (c : Cubic) : Int := -2 * (c.th1 - c.th0) * c.den + c.len * (c.w0 + c.w1)

/-- The angle `x` ns into the turnaround, rounded down. DESIGN CHOICE: notes/assumptions/17. -/
def Cubic.at_ (c : Cubic) (x : Nat) : Int :=
  let t : Int := c.len
  let x : Int := x
  if c.len = 0 ∨ c.den = 0 then c.th0
  else c.th0 + (c.w0 * x * t ^ 3 + c.c2 * x ^ 2 * t + c.c3 * x ^ 3) / (c.den * t ^ 3)

/-- The cubic from frame n of `p` to the next frame under `q`. -/
def cubicOf (p q : Plan) (n : Int) (len : Nat) : Cubic :=
  let e := sweepEnds p n
  let f := sweepEnds q (frameAfter n 1)
  { th0 := e.2, th1 := f.1, n0 := e.2 - e.1, a0 := p.active, n1 := f.2 - f.1, a1 := q.active, len }

/-- The move of the second axis in a turnaround of `len` ns (05 R133). -/
def secondMove (y0 y1 : Int) (len x : Nat) : Int :=
  if len = 0 then y1
  else
    let d := y1 - y0
    let t : Int := len
    let x : Int := x
    if 2 * x ≤ t then y0 + 2 * d * x * x / (t * t) else y1 - 2 * d * (t - x) * (t - x) / (t * t)

/-- Both axes `tau` ns into frame n of `p`, the next frame running under `q` (05 R131 to R134). DESIGN CHOICE: notes/assumptions/17. -/
def trajectory (p q : Plan) (n : Int) (turn tau : Nat) : Int × Int :=
  if !p.sweeps then (1000 * p.scanStart, 0)
  else
    let q := if q.sweeps then q else p
    let e := sweepEnds p n
    let y := secondAxis p n
    if tau < p.active then (e.1 + (e.2 - e.1) * tau / (p.active : Int), y)
    else ((cubicOf p q n turn).at_ (tau - p.active), secondMove y (secondAxis q (frameAfter n 1)) turn (tau - p.active))

/-! ### Seamless changes (05 R135) -/

/-- The plans move the mirror alike: no commit between them changes the trajectory. -/
def sameTrajectory (p q : Plan) : Bool :=
  let keys := [0x340017, 0x340018, 0x340027, 0x340028, 0x200003, 0x200004, 0x20000C]
  keys.all (fun k => valueIn p k == valueIn q k) &&
    ((!p.sweeps && !q.sweeps) ||
      (p.steering == q.steering && p.scanEnd == q.scanEnd &&
        (p.steering != 2 || (p.interlace == q.interlace && p.interlaceStep == q.interlaceStep))))

def sameCoefficients (p q : Plan) : Bool :=
  [0x340017, 0x340018, 0x340027, 0x340028].all fun k => valueIn p k == valueIn q k

/-- Whole-ns instants next to the extremes of a cubic inside its turnaround. -/
def Cubic.extremes (c : Cubic) : List Nat :=
  let t : Int := c.len
  let near := fun (x : Int) => [x, x + 1].filterMap fun y => if 0 ≤ y ∧ y ≤ t then some y.toNat else none
  if c.c3 = 0 then (if c.c2 = 0 then [] else near (-(c.w0 * t * t) / (2 * c.c2)))
  else
    let disc := c.c2 * c.c2 - 3 * c.c3 * c.w0 * t
    if disc < 0 then []
    else
      let r : Int := isqrt disc.toNat
      near (t * (-c.c2 + r) / (3 * c.c3)) ++ near (t * (-c.c2 - r) / (3 * c.c3))

/-- The cubic stays within AngleLimit µrad, RateLimit mrad/s and AccelLimit rad/s² (05 R135). -/
def Cubic.within (c : Cubic) (lim : Nat × Nat × Nat) : Bool :=
  let t : Int := c.len
  let k := c.den
  let angle := fun (x : Int) => x.natAbs ≤ lim.1 * 1000
  let rate := fun (x : Int) => decide ((x.natAbs : Int) * 1000 ≤ (lim.2.1 : Int) * k)
  let acc := fun (x : Int) => decide ((x.natAbs : Int) * 10 ^ 9 ≤ (lim.2.2 : Int) * k * t ^ 2)
  let vertex := c.c3 == 0 || !(decide (0 ≤ -c.c2 * c.c3) && decide (c.c2.natAbs ≤ 3 * c.c3.natAbs)) ||
    decide (((3 * c.c3 * c.w0 * t - c.c2 * c.c2).natAbs : Int) * 1000 ≤ (lim.2.1 : Int) * k * t * ((3 * c.c3).natAbs : Int))
  (c.th0 :: c.th1 :: c.extremes.map c.at_).all angle && rate c.w0 && rate c.w1 && vertex &&
    acc (2 * c.c2) && acc (2 * c.c2 + 6 * c.c3)

/-- The second axis's move within its limits (05 R133, R135). -/
def secondWithin (y0 y1 : Int) (len : Nat) (lim : Nat × Nat × Nat) : Bool :=
  let d := (y1 - y0).natAbs
  max y0.natAbs y1.natAbs ≤ lim.1 * 1000 && 2 * d * 1000 ≤ lim.2.1 * len && 4 * d * 10 ^ 9 ≤ lim.2.2 * len * len

/-- The change from `p`, in the turnaround of `len` ns that ends frame n, to `q` is seamless (05 R135). -/
def State.seamless (s : State) (p q : Plan) (n : Int) (len : Nat) : Bool :=
  sameTrajectory p q ||
    (sameCoefficients p q &&
      if p.sweeps && q.sweeps then
        (cubicOf p q n len).within (s.axisLimits 0) &&
          ((p.steering != 2 && q.steering != 2) ||
            secondWithin (secondAxis p n) (secondAxis q (frameAfter n 1)) len (s.axisLimits 1))
      else !p.sweeps && !q.sweeps && p.scanStart == q.scanStart)

/-- The verdict on the commit `c` that comes after the frame `b`: the one judged in its turnaround, where it has begun, else the
one the present limits give (05 R135, R145). DEDUCED: notes/assumptions/83. -/
def State.joins (s : State) (b : FrameBase) (c : Commit) : Bool :=
  let now := s.seamless b.plan c.plan b.number b.turn
  match s.bsc.seam with
  | some (e, ok) => if e = c.epoch then ok else now
  | none => now

/-- The commit that comes into force with the frame of this number. -/
def Txn.commitFor (x : Txn) (number : Int) : Option Commit :=
  match x.pending with
  | c :: _ => if (c.firstFrame.toNat : Int) = number then some c else none
  | [] => none

/-- The turnaround before FirstFrame has begun, or a commit for it was accepted within it: the change is judged, once, by the
limits of that instant (05 R135, R145). -/
def State.judgeSeam (s : State) : State :=
  match s.bsc.base with
  | none => s
  | some b =>
    match s.txn.commitFor (frameAfter b.number 1) with
    | none => s
    | some c => { s with bsc := { s.bsc with seam := some (c.epoch, s.joins b c) } }

/-! ### The reference (05 R130, R136, R137, R140) -/

/-- The plan that frame `n + 1` follows without a ramp, as far as it is known now. -/
def State.nextTrajectory (s : State) (b : FrameBase) : Plan :=
  match s.txn.commitFor (frameAfter b.number 1) with
  | some c => if s.bsc.motion.isNone && s.joins b c then c.plan else b.plan
  | none => b.plan

/-- The trajectory at instant `x` by the frames known. -/
def State.trajectoryAt (s : State) (x : Int) : Int × Int :=
  match s.bsc.base with
  | none => (s.bsc.ax0.ref, s.bsc.ax1.ref)
  | some b =>
    let tau := x - b.start
    if tau < 0 then
      match s.bsc.before with
      | some a => trajectory a.plan b.plan a.number a.turn (x - a.start).toNat
      | none => trajectory b.plan b.plan b.number b.turn 0
    else
      let q := s.nextTrajectory b
      let len := b.plan.active + b.turn
      if tau.toNat < len then trajectory b.plan q b.number b.turn tau.toNat
      else
        let rest := tau.toNat - len
        let m := rest / q.period
        trajectory q q (frameAfter b.number (1 + m)) (1000 * q.turnaround) (rest - m * q.period)

/-- The envelope's half-span at instant `x` (05 R137). -/
def Motion.halfAt (m : Motion) (x : Nat) : Nat :=
  if x < m.t1 then m.half - rampAt m.half m.accel (x - m.t0)
  else match m.rise with
    | some b => rampAt m.target.halfSpan m.accel (x - b)
    | none => 0

/-- A trajectory scaled about its centre to half-span h (05 R137). -/
def scaled (p : Plan) (theta : Int) (h : Nat) : Int :=
  if p.halfSpan = 0 then theta else p.centre + (theta - p.centre) * h / (p.halfSpan : Int)

/-- The reference of both axes at instant `x` under a motion, or under none (05 R136, R137). Before a motion the mirror rested
at its first angles, or followed its trajectory. -/
def State.motionRef (s : State) (motion : Option Motion) (x : Int) : Int × Int :=
  match motion with
  | none => s.trajectoryAt x
  | some m =>
    let n := x.toNat
    if x < m.t0 then (if m.rest then (m.fromA, m.fromB) else s.trajectoryAt x)
    else if n < m.t1 then
      let y := s.trajectoryAt x
      let p := (s.bsc.base.map FrameBase.plan).getD m.target
      (scaled p y.1 (m.halfAt n), y.2)
    else
      let move := (moveAt m.fromA m.toA m.accel (n - m.t1), moveAt m.fromB m.toB m.accel (n - m.t1))
      match m.rise with
      | some b =>
        if n < b then move
        else
          let y := s.trajectoryAt x
          (scaled m.target y.1 (m.halfAt n), y.2)
      | none => move

/-- The reference at instant `x` by what has happened so far: under the motion of that instant (05 R130). -/
def State.reference (s : State) (x : Int) : Int × Int :=
  match s.bsc.was with
  | some (w, until_) => s.motionRef (if x < until_ then some w else s.bsc.motion) x
  | none => s.motionRef s.bsc.motion x

/-- A reference held to the limits in force (05 R140): the rate, the change of rate and the angle of a
reference. A wanted reference within 2 nrad of the held one is the rounding to whole nrad of a move the rule allows,
and is taken as it is; the angle limit holds in every case. DESIGN CHOICE: notes/assumptions/17. -/
def clampRef (a : Axis) (lim : Nat × Nat × Nat) (want : Int) : Int :=
  let dd : Int := lim.2.2 / 10
  let rate : Int := lim.2.1 * 10
  let held := a.ref + clampInt (-rate) rate (clampInt (a.refStep - dd) (a.refStep + dd) (want - a.ref))
  let r := if -2 ≤ want - held ∧ want - held ≤ 2 then want else held
  clampInt (-(lim.1 * 1000 : Nat)) (lim.1 * 1000 : Nat) r

/-! ### The control law (05 R124 to R127) -/

def satI32 (v : Int) : Int := clampInt (-2147483648) 2147483647 v

/-- Entry (i, j): m and s (05 R126). -/
def coefficient (c : List Byte) (i j : Nat) : Int × Nat :=
  let o := 8 * (11 * i + j)
  (iAt c o 4, uAt c (o + 4) 1 % 32)

/-- Row i of the product with vector v for N states, before saturation (05 R124, R125). -/
def productRow (c : List Byte) (n : Nat) (v : List Int) (i : Nat) : Int :=
  if n ≤ i ∧ i < 8 then 0
  else sumInt ((List.range 11).map fun j =>
    if n ≤ j ∧ j < 8 then 0
    else
      let (m, sh) := coefficient c i j
      m * v.getD j 0 / (2 ^ sh : Nat))

/-- The product of an axis (05 R124): the axis, and how many elements were saturated. -/
def Axis.product (a : Axis) : Axis × Nat :=
  let v := a.states ++ [a.y, a.ref, a.u]
  let w := (List.range 10).map (productRow a.coeffs a.count v)
  let sat := Machine.count (fun x => satI32 x != x) w
  let w := w.map satI32
  ({ a with states := w.take 8, uNext := w.getD 8 0, yhat := w.getD 9 0, yhatValid := true, productDone := true, tried := true },
   sat)

/-- Coefficients and state count of a plan taken over (05 R127). -/
def Axis.load (a : Axis) (p : Plan) (axis : Nat) : Axis :=
  let n := planN p (0x340017 + 16 * axis)
  let keep := min a.count n
  { a with count := n, coeffs := valueIn p (0x340018 + 16 * axis)
           states := a.states.take keep ++ List.replicate (8 - keep) 0 }

/-! ### State of the loop -/

def BscState.code : BscState → Nat
  | .off => 0 | .softStart => 1 | .tracking => 2 | .transition => 3 | .parking => 4 | .parked => 5

def State.axis (s : State) (i : Nat) : Axis := if i = 0 then s.bsc.ax0 else s.bsc.ax1

def State.setAxis (s : State) (i : Nat) (a : Axis) : State :=
  if i = 0 then { s with bsc := { s.bsc with ax0 := a } } else { s with bsc := { s.bsc with ax1 := a } }

/-- `f` on every configured axis. -/
def State.eachAxis (s : State) (f : Nat → Axis → Axis) : State :=
  (List.range s.bsc.axes).foldl (fun s i => s.setAxis i (f i (s.axis i))) s

/-- The loop runs (05 R139). -/
def Bsc.loops (b : Bsc) : Bool := b.state == .softStart || b.state == .tracking || b.state == .transition

/-- MirrorOk (05 R143). -/
def Bsc.mirrorOk (b : Bsc) : Bool := b.axes == 0 || b.loops

/-- Trip source 2 follows MirrorOk (13 R317). -/
def State.followMirror (s : State) : State := s.setSource 2 (!s.bsc.mirrorOk)

/-- One step of u toward ParkDrive (05 R143). -/
def parkStep (u park : Int) (rate : Nat) : Int := if u < park then min park (u + rate) else max park (u - rate)

def State.parkDrive (s : State) (i : Nat) : Int := s.regI (0x34001B + 16 * i)

/-- A mirror fault (05 R143): the first of a period is declared. -/
def State.mirrorFault (s : State) (cause : Nat) : State :=
  if !s.bsc.loops then s
  else
    let s := { s with bsc := { s.bsc with
      state := .parking, fault := BitVec.ofNat 8 cause, motion := none, was := none, due := none, loopOn := false } }
    let s := s.raise 0x3401 0x03 cause
    s.followMirror

/-! ### Soft start and transition (05 R136 to R139, R144) -/

/-- The nominal boundaries of a timing: the first at or after `x`, and its number, from frame n at `start` on. -/
def nominalBoundary (start period : Nat) (n : Int) (x : Nat) : Nat × Int :=
  let m := if x ≤ start then 0 else ceilDiv (x - start) period
  (start + m * period, frameAfter n m)

/-- Where the second axis goes and when both moves end, the target position following the frame at which the rise starts (05 R136).
DEDUCED: notes/assumptions/37. -/
def planMoves (target : Plan) (accel t1 : Nat) (durA : Nat) (fromB : Int) (axes : Nat) (frameAt : Nat → Int) :
    Nat → Nat → Int × Nat
  | 0, t2 => (0, t2)
  | fuel + 1, t2 =>
    let toB := if 1 < axes then secondAxis target (frameAt t2) else 0
    let end_ := max (t1 + durA) (t1 + (if 1 < axes then rampTime (toB - fromB).natAbs accel else 0))
    if end_ ≤ t2 then (toB, t2) else planMoves target accel t1 durA fromB axes frameAt fuel end_

/-- A motion toward `target` that starts at `t0`: from the present half-span `half` and, with none, from the angles given; one
from rest loads its coefficients at once (05 R127, R136, R138). -/
def State.motionTo (s : State) (target : Plan) (t0 half : Nat) (fromA fromB : Int) (frameAt : Nat → Int) (rest : Bool) : Motion :=
  let accel := s.regN 0x340004
  let t1 := t0 + (if half = 0 then 0 else rampTime half accel)
  let p := (s.bsc.base.map FrameBase.plan).getD target
  let (fromA, fromB) := if half = 0 then (fromA, fromB) else (p.centre, (s.trajectoryAt t1).2)
  let toA := target.centre
  let durA := rampTime (toA - fromA).natAbs accel
  let (toB, t2) := planMoves target accel t1 durA fromB s.bsc.axes frameAt 16 (t1 + durA)
  { target, accel, t0, t1, t2, half, fromA, toA, fromB, toB, rise := none, loads := !rest, rest }

/-- The end of a rise that starts at `b` (05 R137). -/
def Motion.riseEnd (m : Motion) (b : Nat) : Nat := b + rampTime m.target.halfSpan m.accel

/-- A rise of a start-up: notional boundaries from the end of the move on, and frame 0 (05 R138). -/
def Motion.startup (m : Motion) (accepted : Nat) : Motion × FrameBase × Nat :=
  let p := m.target
  if p.sweeps then
    let ends := max (m.riseEnd m.t2) (accepted + 2000000)
    let k := ceilDiv (ends - m.t2) p.period
    ({ m with rise := some m.t2 }, { start := m.t2, number := -(k : Int), plan := p, turn := 1000 * p.turnaround },
     m.t2 + k * p.period)
  else
    let first := max m.t2 (accepted + 2000000)
    (m, { start := first, number := 0, plan := p, turn := 1000 * p.turnaround }, first)

/-- An axis at the start of a soft start (05 R138). Its first sample has no prediction, which is computed in the period before,
and does not count as exceeding (R141): DESIGN CHOICE, notes/assumptions/83. -/
def Axis.initialise (a : Axis) (p : Plan) (i : Nat) : Axis :=
  let a := { a with count := 8, states := a.y :: List.replicate 7 0, u := 0, uNext := 0, ref := a.y, refStep := 0
                    yhatValid := false, ys := [], rs := [], innovRun := 0, missRun := 0
                    burstDone := false, productDone := false, tried := false }
  a.load p i

/-- The soft start of a start-up toward the first plan in force; with no axis, frame 0 alone is fixed (03 R76, 05 R138). -/
def State.startupSoftStart (s : State) (p : Plan) : State :=
  if s.bsc.axes = 0 then
    let first := s.now + 2000000
    { s with pipe := { s.pipe with firstAt := first }
             bsc := { s.bsc with base := some { start := first, number := 0, plan := p, turn := 1000 * p.turnaround } } }
  else
    let s := s.eachAxis fun i a => a.initialise p i
    let accel := s.regN 0x340004
    let frameAt := fun (t2 : Nat) =>
      -((ceilDiv (max (t2 + rampTime p.halfSpan accel) (s.now + 2000000) - t2) p.period : Nat) : Int)
    let m := { s with bsc := { s.bsc with base := none } }.motionTo p s.now 0 s.bsc.ax0.y s.bsc.ax1.y frameAt true
    let (m, base, first) := m.startup s.now
    let s := { s with
      pipe := { s.pipe with firstAt := first }
      bsc := { s.bsc with state := .softStart, motion := some m, was := none, due := none, base := some base, before := none,
                          loopOn := false } }
    s.followMirror

/-- The number of the frame that the first boundary at or after an instant starts, by the timing that runs. -/
def State.frameNumberAt (s : State) (x : Nat) : Int :=
  match s.bsc.base with
  | some b =>
    let next := b.start + b.plan.active + b.turn
    if x ≤ b.start then b.number else (nominalBoundary next b.plan.period (frameAfter b.number 1) x).2
  | none => 0

/-- A restart from Parked (05 R144). -/
def State.restart (s : State) (v : Nat) : State :=
  match s.pipe.plan with
  | none => s
  | some p =>
    if v ≠ 0x5253 ∨ s.bsc.state ≠ .parked then s
    else
      let s := s.eachAxis fun i a => a.initialise p i
      let m := s.motionTo p s.now 0 s.bsc.ax0.y s.bsc.ax1.y s.frameNumberAt true
      let s := { s with bsc := { s.bsc with state := .softStart, motion := some m, was := none, due := none, loopOn := false } }
      s.followMirror

/-- The commit `c` comes into force in place of `p` at the frame boundary `at_` (05 R135, R136, R139). -/
def State.changeTrajectory (s : State) (p : Plan) (c : Commit) (at_ : Nat) : State :=
  let b := s.bsc
  let joined := match b.base with
    | some f => s.joins f c
    | none => sameTrajectory p c.plan
  if b.axes = 0 ∨ !b.loops then s
  else if b.state = .tracking ∧ joined = true then s
  else if b.state ≠ .tracking ∧ sameTrajectory p c.plan then s
  else
    let old := (b.base.map FrameBase.plan).getD p
    let half := match b.motion with
      | none => old.halfSpan
      | some m => m.halfAt at_
    let here := s.reference at_
    let m := s.motionTo c.plan at_ half here.1 here.2 s.frameNumberAt false
    let st : BscState := if b.state = .tracking then .transition else b.state
    { s with bsc := { b with state := st, motion := some m, was := b.motion.map fun w => (w, at_) } }

/-- The motion `m` has ended at `at_`: the loop tracks, and coefficients it still owes load with the next period (05 R127, R139). -/
def Bsc.motionDone (b : Bsc) (m : Motion) (at_ : Nat) : Bsc :=
  { b with state := .tracking, motion := none, was := some (m, at_), due := if m.loads then some m.target else b.due }

/-- A motion that ends at the frame boundary `at_`, or whose rise starts there (05 R136, R139). -/
def State.motionBoundary (s : State) (at_ : Nat) : State :=
  match s.bsc.motion with
  | none => s
  | some m =>
    let done : State := { s with bsc := s.bsc.motionDone m at_ }
    if !m.target.sweeps then (if m.t2 ≤ at_ then done else s)
    else
      let rise := match m.rise with
        | some b => some b
        | none => if m.t2 ≤ at_ then some at_ else none
      match rise with
      | none => s
      | some b => if m.riseEnd b ≤ at_ then done else { s with bsc := { s.bsc with motion := some { m with rise } } }

/-- The plan whose timing a frame of `q` runs with: until the rise of a motion starts, the timing that ran before it (05 R136).
DEDUCED: notes/assumptions/37. -/
def State.timingOf (s : State) (q : Plan) : Plan :=
  match s.bsc.motion with
  | some m => if m.rise.isNone then s.pipe.timing else q
  | none => q

/-- The BSC at the frame boundary `at_`, with which frame `number` begins and the commit comes into force (05 R130, R136). -/
def State.mirrorBoundary (s : State) (p : Plan) (commit : Option Commit) (number : Int) (at_ : Nat) : State :=
  let s := s.motionBoundary at_
  let s := match commit with
    | some c => (s.changeTrajectory p c at_).motionBoundary at_
    | none => s
  let timing := s.timingOf ((commit.map Commit.plan).getD p)
  { s with bsc := { s.bsc with
      before := s.bsc.base, base := some { start := at_, number, plan := timing, turn := 1000 * timing.turnaround }
      seam := none, clampedInFrame := false } }

/-- The reference at instant `x`, past the coming frame boundary as that boundary will leave the BSC (05 R130, R136). -/
def State.referenceAhead (s : State) (x : Int) : Int × Int :=
  let next := if s.pipe.started then s.bsc.base.map fun b => b.start + b.plan.active + b.turn else some s.pipe.firstAt
  match s.pipe.plan, next with
  | some p, some at_ =>
    if x < at_ then s.reference x
    else
      let number : Int := if s.pipe.started then frameAfter s.pipe.frame.toNat 1 else 0
      (s.mirrorBoundary p (s.txn.commitFor number) number at_).reference x
  | _, _ => s.reference x

/-! ### Fault criteria (05 R141, R142) -/

/-- 400 times the variance of 20 samples, with divisor 20: DESIGN CHOICE, notes/assumptions/83. -/
def spread400 (l : List Int) : Int := 20 * sumInt (l.map fun x => x * x) - sumInt l * sumInt l

/-- The variance criterion over the last 20 samples (05 R142). -/
def frozen (a : Axis) (floor : Nat) : Bool :=
  a.ys.length == 20 && decide (400 * 16 * ((floor : Int) * floor) < spread400 a.rs) &&
    decide (spread400 a.ys < 400 * ((floor : Int) * floor))

def last20 (l : List Int) (x : Int) : List Int := (l ++ [x]).drop (l.length - 19)

/-! ### Commands -/

/-- What the BSC's commands leave alone. -/
def bscFrame : List UnitId :=
  [.rw, .rwp, .txn, .mram, .edu, .rfe, .tda, .hac, .prx, .mcx, .fmt, .linkA, .linkB, .cu, .wcu, .mon, .thermal, .ntu,
   .spring, .fw, .cal, .part]

/-- Axes whose product missed the deadline (05 R129). -/
def State.missedDeadlines (s : State) : State :=
  if !s.bsc.loopOn then s
  else
    let missed := (List.range s.bsc.axes).filter fun i => !(s.axis i).productDone
    let s := s.eachAxis fun _ a => if a.productDone then { a with missRun := 0 } else { a with missRun := a.missRun + 1 }
    let s := { s with bsc := { s.bsc with
      miss := s.bsc.miss || !missed.isEmpty, misses := sat32 s.bsc.misses (bNat (!missed.isEmpty)) } }
    if missed.any fun i => 10 ≤ (s.axis i).missRun then s.mirrorFault 5 else s

/-- The references of the period that starts at `start` (05 R130, R140). -/
def State.periodReferences (s : State) (start : Nat) : State :=
  if !s.bsc.loops then s
  else
    let want := s.referenceAhead ((start + 10000 : Nat) + s.regI 0x340005)
    let wantOf := fun (i : Nat) => if i = 0 then want.1 else want.2
    let refOf := fun i => clampRef (s.axis i) (s.axisLimits i) (wantOf i)
    let hit := (List.range s.bsc.axes).filter fun i => refOf i != wantOf i
    let old := s
    let s := s.eachAxis fun i a => let r := clampRef (old.axis i) (old.axisLimits i) (wantOf i); { a with ref := r, refStep := r - a.ref }
    match hit with
    | [] => s
    | i :: _ =>
      let first := !s.bsc.clampedInFrame
      let s := { s with bsc := { s.bsc with clamps := sat32 s.bsc.clamps, clampedInFrame := true } }
      s.raiseIf first 0x3402 0x03 i

/-- New coefficients take over in the first period that starts at or after the start of the move (05 R127). -/
def State.loadCoefficients (s : State) (start : Nat) : State :=
  let s := match s.bsc.due with
    | some p =>
      let s := s.eachAxis fun i a => a.load p i
      { s with bsc := { s.bsc with due := none } }
    | none => s
  match s.bsc.motion with
  | some m =>
    if m.loads && decide (m.t1 ≤ start) then
      let s := s.eachAxis fun i a => a.load m.target i
      { s with bsc := { s.bsc with motion := some { m with loads := false } } }
    else s
  | none => s

/-- A soft start toward a held angle ends when the reference reaches it (05 R138, R139). -/
def State.holdReached (s : State) (start : Nat) : State :=
  match s.bsc.motion with
  | some m =>
    if s.bsc.state == .softStart && !m.target.sweeps && decide (m.t2 ≤ start) then { s with bsc := s.bsc.motionDone m start }
    else s
  | none => s

/-- BSC_PERIOD_START (05 R128, R129, R136, R139, R140, R143): periods follow one another at 10,000 ns. -/
def execBscPeriodStart (t : Nat) : State → Host.Outcome State Fault Refusal :=
  runMain t bscFrame fun s =>
    let b := s.bsc
    let start := if b.running then b.periodStart + 10000 else s.now
    if b.axes = 0 ∨ s.now < start then s
    else
      let s := s.missedDeadlines
      let s := s.eachAxis fun i a =>
        if s.bsc.loops then { a with u := if a.productDone then a.uNext else a.u }
        else if s.bsc.state == .parking then { a with u := parkStep a.u (s.parkDrive i) (s.regN (0x34001C + 16 * i)) }
        else a
      let parkedNow := s.bsc.state == .parking && (List.range s.bsc.axes).all fun i => (s.axis i).u == s.parkDrive i
      let s := if parkedNow then { s with bsc := { s.bsc with state := .parked } } else s
      let s := (s.loadCoefficients start).holdReached start
      let s := s.periodReferences start
      let s := s.eachAxis fun _ a => { a with burstDone := false, productDone := false, tried := false }
      { s with bsc := { s.bsc with periodStart := start, running := true, loopOn := s.bsc.loops } }

/-- The measured angle of a burst (05 R122). -/
def burstAngle (gain offset : Int) (x : Sys2Proof.Burst) : Int :=
  let sum := sumInt (((x.a.take 8).zip (x.b.take 8)).map fun y => (y.1 : Int) - y.2)
  satI32 (gain * sum / 65536 + offset)

/-- The samples of a burst as conversions of their inputs `a` and `b`: OVR counts, and the two conversions of the input that
follow carry Recovery (16 R366). -/
def Mon.burst (m : Mon) (a b : Nat) (ovr : List Nat) : Mon :=
  (List.range 16).foldl (fun (m : Mon) k => m.converted (if k % 2 = 0 then a else b) (ovr.contains k)) m

/-- What a burst leaves alone. -/
def burstFrame : List UnitId := .kpp :: .pipe :: .emg :: .evr :: bscFrame.filter fun u => u != .mon

/-- BSC_BURST_COMPLETE (05 R122, R123, R128; 16 R366, R368): bursts take the first 1.6 µs of a period, and wait while the MON
reference is not settled. -/
def execBscBurstComplete (t axis : Nat) (burst : Sys2Proof.Burst) : State → Host.Outcome State Fault Refusal :=
  runMain t burstFrame fun s =>
    let a := s.axis axis
    if s.bsc.axes ≤ axis || a.burstDone || !s.bsc.running || !s.mon.settled || decide (s.now < max s.bsc.periodStart s.mon.settledAt + 1600) ||
        decide (s.bsc.periodStart + 10000 < s.now) then s
    else
      let k := 16 * axis
      let y := burstAngle (s.regI (0x340012 + k)) (s.regI (0x340013 + k)) burst
      let s := s.setAxis axis { a with y, burstDone := true }
      { s with bsc := { s.bsc with overRange := sat32 s.bsc.overRange (bNat (!burst.overRange.isEmpty)) }
               mon := s.mon.burst (s.regN (0x340010 + k)) (s.regN (0x340011 + k)) burst.overRange }

/-- BSC_PRODUCT_COMPLETE (05 R124, R125, R127 to R129, R141 to R143): axis 1 starts when axis 0 is done, and a product counts
up to the deadline. A sample whose product fails is none of the last 20: DESIGN CHOICE, notes/assumptions/83. -/
def execBscProductComplete (t axis corrected : Nat) (uncorrectable : Bool) : State → Host.Outcome State Fault Refusal :=
  runMain t bscFrame fun s =>
    let a := s.axis axis
    if s.bsc.axes ≤ axis || !s.bsc.loopOn || !s.bsc.loops || !a.burstDone || a.tried || (axis == 1 && !(s.axis 0).tried) ||
        decide (s.bsc.periodStart + 10000 < s.now) then s
    else
      let s := { s with bsc := { s.bsc with corrected := sat32 s.bsc.corrected corrected } }
      if uncorrectable then s.setAxis axis { a with tried := true }
      else
        let k := 16 * axis
        let exceeds := a.yhatValid && decide (s.regN (0x340019 + k) < (a.y - a.yhat).natAbs)
        let a := { a with innovRun := if exceeds then a.innovRun + 1 else 0, ys := last20 a.ys a.y, rs := last20 a.rs a.ref }
        let stuck := frozen a (s.regN (0x34001A + k))
        let (a, sat) := a.product
        let s := s.setAxis axis a
        let s := { s with bsc := { s.bsc with saturations := sat32 s.bsc.saturations sat } }
        if 10 ≤ a.innovRun then s.mirrorFault (1 + axis)
        else if stuck then s.mirrorFault (3 + axis) else s

/-- BSC_RESTART (05 R144). -/
def execBscRestart (t : Nat) (v : Word) : State → Host.Outcome State Fault Refusal :=
  runUnit t bscFrame fun s => s.restart v.toNat

end Sys2Proof.Machine
end

