-- ==== Sys2Proof/Machine/Flags.lean ====
section
/-!
DEFINITION. The flag computations: the bits of a point's Flags field, at cell scope and at the span of a return (09 R237).
The block has no processor flags.
-/

namespace Sys2Proof.Machine

/-! ### Point flags (09 R237) -/

def flagStale : Nat := 0
def flagPartial : Nat := 1
def flagPileUp : Nat := 2
def flagSettling : Nat := 3
def flagReduced : Nat := 4
def flagBlinded : Nat := 5
def flagLowSnr : Nat := 6
def flagPredicted : Nat := 7
def flagRefined : Nat := 8
def flagInterference : Nat := 9
def flagWeather : Nat := 10
def flagVeil : Nat := 11
def flagOverRange : Nat := 12
def flagSaturated : Nat := 13

/-- `w` with bit `b` set where `c` holds. -/
def withFlag (w b : Nat) (c : Bool) : Nat := if c then w ||| 2 ^ b else w

/-- Lit slots the plan gives a column, coarse or zoom (09 R237, 03 R78). -/
def Plan.plannedLit (p : Plan) (zoom : Bool) : Nat :=
  count (fun j => p.slotLit j && p.zoomSlot j == zoom) (List.range p.shots)

/-- Cell-scope flags (09 R237). -/
def cellFlags (c : ColCtx) (x : CellCtx) (b : Buf) (veil : Bool) : Nat :=
  let p := c.plan
  let few := decide (c.coarseLit x.port < p.plannedLit false) || (p.zooms && decide (c.zoomLit x.port < p.plannedLit true))
  let w := withFlag 0 flagStale x.stale
  let w := withFlag w flagPartial few
  let w := withFlag w flagPileUp b.corrected
  let w := withFlag w flagSettling x.settling
  let w := withFlag w flagReduced x.reduced
  let w := withFlag w flagBlinded (c.masked.contains x.channel)
  withFlag w flagVeil veil

/-- Saturated and OverRange of a return at position q (09 R237). -/
def spanFlags (b : Buf) (q : Nat) (fp : Int) : Nat :=
  let span := (List.range 5).filterMap fun i => if q + i < 2 ∨ 2047 < q + i - 2 then none else some (q + i - 2)
  let tagBit := fun k => span.any fun i => bitOf (mcount b.tags (i / 16)) k
  let w := withFlag 0 flagSaturated (tagBit 1)
  withFlag w flagOverRange (tagBit 0 || (span.any fun i => mcount b.coarse i == 4095) || decide (4095 < fp))

end Sys2Proof.Machine
end

