-- ==== Sys2Proof/Machine/Prx.lean ====
section
/-!
DEFINITION. The peak and return extractor (09): the matched filter and its banks, candidates, the background, the Shore
veil, refinement, the values and flags of a return, and the column's release. Integers throughout, as the formulas of the
manual are written.
-/

namespace Sys2Proof.Machine

/-! ### The matched filter (09 R214 to R218) -/

/-- Tap i of a bank object (09 R215). -/
def bankTap (bank : List Byte) (i : Nat) : Int := iAt bank (2 * i) 2
def bankShift (bank : List Byte) : Nat := uAt bank 32 1 % 16
def bankDelay (bank : List Byte) : Nat := uAt bank 33 1 % 16

/-- Output n of the filter over the coarse bins (09 R216). -/
def filterOut (taps : List (Nat × Int)) (shift : Nat) (x : SMap Nat) (n : Nat) : Int :=
  let sum := sumInt (taps.map fun h => if h.1 ≤ n then h.2 * (mcount x (n - h.1) : Int) else 0)
  clampInt (-32768) 32767 (sum / ((2 ^ shift : Nat) : Int))

/-- The filter over its valid positions `lo` on, and the DC gain as a fraction. -/
structure Signal where
  lo : Nat
  f : List Int
  gNum : Int
  gDen : Nat
  deriving DecidableEq, Repr

def Signal.hi (x : Signal) : Nat := x.lo + x.f.length - 1
def Signal.at_ (x : Signal) (q : Nat) : Int := if q < x.lo then 0 else x.f.getD (q - x.lo) 0
def Signal.valid (x : Signal) (q : Nat) : Bool := x.lo ≤ q && q < x.lo + x.f.length

/-- One bank over a cell: positions 15 − δ to 2,047 − δ (09 R214, R216). -/
def filterBank (bank : List Byte) (x : SMap Nat) : Signal :=
  let taps := ((List.range 16).map fun i => (i, bankTap bank i)).filter fun h => h.2 != 0
  let shift := bankShift bank
  { lo := 15 - bankDelay bank, f := (List.range 2033).map fun i => filterOut taps shift x (15 + i)
    gNum := sumInt ((List.range 16).map (bankTap bank)), gDen := 2 ^ shift }

/-- The blend of two banks in column m of a fade of M (09 R218). -/
def blend (old new : Signal) (m total : Nat) : Signal :=
  let lo := max old.lo new.lo
  let hi := min old.hi new.hi
  { lo
    f := (List.range (hi + 1 - lo)).map fun i =>
      (((total - m : Nat) : Int) * old.at_ (lo + i) + (m : Int) * new.at_ (lo + i)) / (total : Int)
    gNum := ((total - m : Nat) : Int) * old.gNum * (new.gDen : Int) + (m : Int) * new.gNum * (old.gDen : Int)
    gDen := total * old.gDen * new.gDen }

def Plan.bank (p : Plan) (b : Nat) : List Byte := valueIn p (0x440012 + b)

/-- The filter output of a cell in its column (09 R216, R218). -/
def ColCtx.signal (c : ColCtx) (x : SMap Nat) : Signal :=
  let new := filterBank (c.plan.bank c.bank) x
  match c.fade with
  | some f => blend (filterBank (c.plan.bank f.old) x) new f.m f.total
  | none => new

/-! ### Candidates and background (09 R222, R223) -/

/-- Local maxima (F, position), the first and last position excluded (09 R222). -/
def localMaxima : Nat → List Int → List (Int × Nat)
  | q, a :: b :: c :: rest =>
    let more := localMaxima (q + 1) (b :: c :: rest)
    if a < b ∧ c ≤ b then (b, q + 1) :: more else more
  | _, _ => []

/-- Insertion by descending F, ties by the lower position. -/
def insertPeak (x : Int × Nat) : List (Int × Nat) → List (Int × Nat)
  | [] => [x]
  | y :: ys => if y.1 < x.1 ∨ (y.1 = x.1 ∧ x.2 < y.2) then x :: y :: ys else y :: insertPeak x ys

/-- The 8 held candidates. -/
def heldCandidates (x : Signal) : List (Int × Nat) := ((localMaxima x.lo x.f).foldr insertPeak []).take 8

/-- Held candidates that lie `sep` positions or less from a stronger one drop out. -/
def separated (sep : Nat) (l : List (Int × Nat)) : List (Int × Nat) :=
  l.foldl (fun taken x => if taken.all fun y => sep < apart x.2 y.2 then taken ++ [x] else taken) []

/-- floor(t ÷ w) for t ns: positions that a length covers. -/
def Plan.positions (p : Plan) (ns : Nat) : Nat := 2 * ns / 2 ^ p.binWidth

/-- Background of a cell: μ16, σ16 and μx16 (09 R223). -/
structure Floor where
  mu16 : Int
  sigma16 : Nat
  mux16 : Int
  deriving DecidableEq, Repr

def floorOf (x : Signal) (held : List (Int × Nat)) : Floor :=
  let heldBlocks := held.map fun h => h.2 / 64
  let free := (List.range 32).filter fun b => !heldBlocks.contains b
  let use := if free.length < 8 then List.range 32 else free
  let vals := ((List.range x.f.length).zip x.f).filter fun v => use.contains ((x.lo + v.1) / 64)
  let n := vals.length
  let s1 := sumInt (vals.map Prod.snd)
  let s2 := sumInt (vals.map fun v => v.2 * v.2)
  let mu16 := 16 * s1 / (n : Int)
  let var := ((n : Int) * s2 - s1 * s1).toNat
  { mu16, sigma16 := max 16 (isqrt (256 * var) / n), mux16 := if 0 < x.gNum then mu16 * (x.gDen : Int) / x.gNum else 0 }

/-! ### The Shore veil (09 R226) -/

/-- Runs of positions that meet `ok`, first and last. -/
def runsFrom (ok : Int → Bool) : Nat → Option Nat → List Int → List (Nat × Nat)
  | q, start, [] => match start with
    | some a => [(a, q - 1)]
    | none => []
  | q, start, v :: vs =>
    if ok v then runsFrom ok (q + 1) (some (start.getD q)) vs
    else match start with
      | some a => (a, q - 1) :: runsFrom ok (q + 1) none vs
      | none => runsFrom ok (q + 1) none vs

/-- The extent of the veil, where there is one. -/
def veilOf (p : Plan) (x : Signal) (fl : Floor) : Option (Nat × Nat) :=
  if p.weather = 0 then none
  else
    let ok := fun v => decide (((planN p 0x440030 * fl.sigma16 : Nat) : Int) ≤ 4 * (16 * v - fl.mu16))
    let last := p.positions (planN p 0x440033)
    let fits := fun (r : Nat × Nat) => r.1 - x.lo ≤ p.positions (planN p 0x440031) &&
      2 * planN p 0x440032 ≤ (r.2 - r.1 + 1) * 2 ^ p.binWidth
    match (runsFrom ok x.lo none x.f).find? fits with
    | some r => if last < r.1 then none else some (r.1, min r.2 last)
    | none => none

def insideVeil (v : Option (Nat × Nat)) (q : Nat) : Bool :=
  match v with
  | some r => r.1 ≤ q && q ≤ r.2
  | none => false

/-! ### Returns (09 R224 to R238) -/

/-- A return on its way: position, peak, S_w of a kept-window return, centroid in 1/256 LSB, 16 F_p − μ16. -/
structure Ret where
  q : Nat
  fp : Int := 0
  sw : Int := 0
  kept : Bool := false
  t256 : Int
  s16 : Int := 0
  flags : Nat
  deriving DecidableEq, Repr

/-- The coarse centroid (09 R228). -/
def coarseCentroid (binLsb : Nat) (coarse : SMap Nat) (q : Nat) (mux16 : Int) : Int :=
  let g := fun (i : Nat) => max 0 (16 * (mcount coarse i : Int) - mux16)
  let gm := if q = 0 then max 0 (0 - mux16) else g (q - 1)
  let gp := g (q + 1)
  let den := gm + g q + gp
  let b : Int := (binLsb : Nat)
  256 * b * (q : Int) + 128 * b + (if den = 0 then 0 else 256 * b * (gp - gm) / den)

/-- Consecutive values from the head on that meet `ok`. -/
def runLength (ok : Int → Bool) (l : List Int) : Nat := (l.takeWhile ok).length

/-- The width of a coarse return in positions (09 R225). -/
def widthOf (x : Signal) (fl : Floor) (q : Nat) (s16 : Int) : Nat :=
  let ok := fun v => decide (s16 ≤ 2 * (16 * v - fl.mu16))
  let i := q - x.lo
  runLength ok (x.f.take i).reverse + runLength ok (x.f.drop i)

/-- The detection threshold met (09 R224). -/
def detects (p : Plan) (fl : Floor) (fp : Int) : Bool :=
  decide (((max (64 * planN p 0x440020) (planN p 0x440021 * fl.sigma16) : Nat) : Int) ≤ 4 * (16 * fp - fl.mu16))

/-- A coarse return from a candidate (09 R224, R225, R228, R237). -/
def coarseReturn (c : ColCtx) (b : Buf) (x : Signal) (fl : Floor) (cell : Nat) (h : Int × Nat) : Ret :=
  let p := c.plan
  let s16 := 16 * h.1 - fl.mu16
  let wide := p.weather != 0 && 2 * planN p 0x440034 ≤ widthOf x fl h.2 s16 * 2 ^ p.binWidth
  let w := withFlag (cell ||| spanFlags b h.2 h.1) flagWeather wide
  let w := withFlag w flagLowSnr (decide (4 * s16 < ((planN p 0x440022 * fl.sigma16 : Nat) : Int)))
  { q := h.2, fp := h.1, t256 := coarseCentroid p.binLsb b.coarse h.2 fl.mux16, s16, flags := w }

/-- A window holds a time (09 R229). -/
def Win.holds (w : Win) (t256 : Int) : Bool :=
  w.valid && decide (256 * (w.start : Int) ≤ t256) && decide (t256 < 256 * ((w.start + 256 : Nat) : Int))

/-- u_z of the centroid bins of a window (09 R229). -/
def centroidBins (z : SMap Nat) (half : Nat) (b16 : Int) : List (Nat × Int) :=
  let top := (List.range 64).foldl (fun m i => if mcount z m < mcount z i then i else m) 0
  ((List.range 64).filter fun i => top ≤ i + half && i ≤ top + half).map fun i =>
    (i, max 0 (16 * (mcount z i : Int) - b16))

/-- The zoom centroid, none where Σu = 0 (09 R229). -/
def zoomCentroid (z : SMap Nat) (start half : Nat) (b16 : Int) : Option Int :=
  let us := centroidBins z half b16
  let sum := sumInt (us.map Prod.snd)
  if sum ≤ 0 then none
  else some (256 * (start : Int) + 512 * sumInt (us.map fun u => (2 * (u.1 : Int) + 1) * u.2) / sum)

def zoomSum (z : SMap Nat) : Int := (sumOf (z.map Prod.snd) : Nat)

/-- What a cell's returns are judged with. -/
structure CellEnv where
  c : ColCtx
  x : CellCtx
  b : Buf
  fl : Floor
  nc : Nat
  nz : Nat
  b16 : Int
  cell : Nat
  veil : Option (Nat × Nat)
  suspect : Bool
  deriving DecidableEq, Repr

/-- r_z < ConfirmRatio × r_c ÷ 256, multiplied out (09 R238); with no coarse lit slot the verdict is the cell's free one.
DEDUCED: notes/assumptions/46. -/
def CellEnv.rateLow (e : CellEnv) (q : Nat) (z : SMap Nat) : Bool :=
  if e.nc = 0 then e.suspect
  else
    let span := (List.range 5).map fun i => if q + i < 2 then 0 else mcount e.b.coarse (q + i - 2)
    let sc := 16 * ((sumOf span : Nat) : Int) - 5 * e.fl.mux16
    let sz := 16 * zoomSum z - 64 * e.b16
    decide (sz * 256 * (e.nc : Int) < (planN e.c.plan 0x440025 : Int) * sc * (e.nz : Int))

/-- PredictedWindow of a window (09 R229, R237). -/
def CellEnv.predicted (e : CellEnv) (w : Win) : Bool := e.c.predict && (w.source == 1 || w.source == 3)

/-- Valid windows of the cell with their numbers. -/
def CellEnv.windows (e : CellEnv) : List (Nat × Win) :=
  if e.c.plan.zooms then ((List.range 3).map fun i => (i, e.b.wins.getD i {})).filter fun w => w.2.valid else []

/-- The kept-window return of a window of Source 3 (09 R232). -/
def CellEnv.keptReturn (e : CellEnv) (w : Nat × Win) : Option Ret :=
  let p := e.c.plan
  let z := e.b.zoom w.1
  let sw := zoomSum z - 4 * e.b16
  if sw < (planN p 0x440026 : Int) then none
  else
    match zoomCentroid z w.2.start (planN p 0x440024) e.b16 with
    | none => none
    | some t =>
      let q := (t / ((256 * p.binLsb : Nat) : Int)).toNat
      let f := withFlag (e.cell ||| spanFlags e.b q 0) flagRefined true
      let f := withFlag (withFlag f flagPredicted (e.predicted w.2)) flagLowSnr true
      some { q, sw, kept := true, t256 := t, flags := withFlag f flagInterference (e.rateLow q z) }

/-- Insertion by descending S_w, equal ones in their order. -/
def insertKept (x : Ret) : List Ret → List Ret
  | [] => [x]
  | y :: ys => if y.sw ≤ x.sw then x :: y :: ys else y :: insertKept x ys

/-- The kept-window returns in order of strength, judged against every coarse return (09 R232, R233). -/
def CellEnv.keptReturns (e : CellEnv) (coarse : List Ret) : List Ret :=
  if e.c.plan.hist ≠ 3 then []
  else
    let open_ := e.windows.filter fun w => w.2.source == 3 && !(coarse.any fun r => w.2.holds r.t256)
    (open_.filterMap e.keptReturn).foldr insertKept []

/-- A return refined by the lowest window that holds it and is not taken: the return, the windows taken, and a fallback (09 R229). -/
def CellEnv.refine (e : CellEnv) (taken : List Nat) (r : Ret) : Ret × List Nat × Bool :=
  if r.kept then (r, taken, false)
  else
    match e.windows.find? fun w => !taken.contains w.1 && w.2.holds r.t256 with
    | none => (r, taken, false)
    | some w =>
      let z := e.b.zoom w.1
      match zoomCentroid z w.2.start (planN e.c.plan 0x440024) e.b16 with
      | none => ({ r with flags := withFlag r.flags flagInterference true }, w.1 :: taken, true)
      | some t =>
        let f := withFlag (withFlag r.flags flagRefined true) flagPredicted (e.predicted w.2)
        ({ r with t256 := t, flags := withFlag f flagInterference (e.rateLow r.q z) }, w.1 :: taken, false)

/-- All survivors refined in order of strength, and the fallbacks. -/
def CellEnv.refineAll (e : CellEnv) : List Nat → List Ret → List Ret × Nat
  | _, [] => ([], 0)
  | taken, r :: rs =>
    let (r, taken, fell) := e.refine taken r
    let (rest, n) := e.refineAll taken rs
    (r :: rest, n + bNat fell)

/-! ### Range, intensity, confidence (09 R230, R231, R235, R236) -/

/-- t256 clamped to 0 to 256E − 1 (09 R230). -/
def clampTime (p : Plan) (t : Int) : Int := clampInt 0 (256 * p.bound - 1) t

def rangeOf (p : Plan) (offset t : Int) : Nat :=
  (clampInt 0 1048575 ((clampTime p t * 39294397 + 2 ^ 31) / 2 ^ 32 + offset)).toNat

def storedTau (p : Plan) (t : Int) : Nat := ((clampTime p t + 128) / 256).toNat

/-- floor(128 × log2(a ÷ b) + 128 × dB ÷ (20 × log10 2) + 0.5), dB being Δ × 48 ÷ 1,023 (09 R235), exactly: the largest m with
2^((2m − 1) × 1,705) ≤ (a ÷ b)^436,480 × 10^(1,024 Δ); with Δ = 0, 2^(2m − 1) ≤ (a ÷ b)^256. DESIGN CHOICE: notes/assumptions/17. -/
def logValue (a b : Nat) (delta : Int) : Int :=
  let k :=
    if delta = 0 then
      let lhs := a ^ 256 * 2 ^ 2049
      let rhs := b ^ 256
      bisect (fun k => 4 ^ k * rhs ≤ lhs) 13 0 8191
    else
      let up := if 0 < delta then 10 ^ (1024 * delta.toNat) else 1
      let down := if delta < 0 then 10 ^ (1024 * (-delta).toNat) else 1
      let lhs := a ^ 436480 * up * 2 ^ (2049 * 1705)
      let rhs := b ^ 436480 * down
      bisect (fun k => 2 ^ (3410 * k) * rhs ≤ lhs) 13 0 8191
  (k : Int) - 1024

/-- Intensity of a return at feedback index f and reduction Δ in codes (09 R235). -/
def CellEnv.intensity (e : CellEnv) (delta offset : Int) (r : Ret) : Nat :=
  let v := if r.kept then logValue (8 * r.sw.toNat) e.nz delta else logValue r.s16.toNat (2 * e.nc) delta
  (clampInt 1 4095 (v + 256 * (3 - (e.x.feedback : Int)) + offset)).toNat

/-- The sum of the confidence penalties (09 R236). -/
def penalty (flags : Nat) : Nat :=
  sumOf ([(flagInterference, 32), (flagWeather, 24), (flagOverRange, 16), (flagPartial, 16), (flagBlinded, 16),
    (flagStale, 16), (flagSettling, 8)].map fun x => if bitOf flags x.1 then x.2 else 0)

/-- The confidence of a return (09 R236): floor(24 × log2(SNR)) is floor(log2(SNR²⁴)). DESIGN CHOICE: notes/assumptions/17. -/
def CellEnv.confidence (e : CellEnv) (r : Ret) : Nat :=
  let pen := penalty r.flags
  if r.kept then max 1 (planN e.c.plan 0x440027 - pen)
  else min 127 (max 1 ((r.s16.toNat ^ 24 / e.fl.sigma16 ^ 24).log2 - pen))

/-- The point of a return. -/
def CellEnv.point (e : CellEnv) (rangeOff intOff delta : Int) (r : Ret) : Point :=
  { range := rangeOf e.c.plan rangeOff r.t256, intensity := e.intensity delta intOff r, confidence := e.confidence r
    flags := r.flags }

/-! ### Selection and export (09 R233, R239; 11 R273) -/

/-- Insertion by ascending range, equal ones in their order. -/
def insertRange (x : Point) : List Point → List Point
  | [] => [x]
  | y :: ys => if x.range ≤ y.range then x :: y :: ys else y :: insertRange x ys

/-- The return of lowest (or highest) t256 with its point; of equal ones the stronger. DEDUCED: notes/assumptions/46. -/
def extremeReturn (highest : Bool) : List (Ret × Point) → Option (Ret × Point)
  | [] => none
  | x :: xs =>
    match extremeReturn highest xs with
    | none => some x
    | some y =>
      let better := if highest then decide (x.1.t256 < y.1.t256) else decide (y.1.t256 < x.1.t256)
      some (if better then y else x)

/-- The reported survivors (09 R233); `l` in order of strength. -/
def selectReturns (p : Plan) (l : List (Ret × Point)) : List Point :=
  if p.returns = 3 then ((l.take 3).map Prod.snd).foldr insertRange []
  else if p.returns = 0 then (l.take 1).map Prod.snd
  else ((extremeReturn (p.returns == 2) l).toList).map Prod.snd

/-- Records of a measured cell (09 R233). -/
def Plan.recordsPerCell (p : Plan) : Nat := if p.returns = 3 then 3 else 1

/-- A null record (09 R233). -/
def nullPoint (cell : Nat) : Point := { range := 0, intensity := 0, confidence := 0, flags := cell }

/-- The cell is exported as a histogram (03 R82, 11 R275). -/
def Plan.exported (p : Plan) (r c : Nat) : Bool :=
  p.measured r c && ((p.output == 3 && p.rois.isEmpty) || (p.output != 1 && p.inRoi r c))

/-- Two bins in three bytes (11 R273). -/
def packBins (m : SMap Nat) (bins : Nat) : List Byte :=
  (List.range (bins / 2)).flatMap fun i => le 3 (mcount m (2 * i) + 4096 * mcount m (2 * i + 1))

/-- A window descriptor (08 R205). -/
def Win.word (w : Win) : Nat := if w.valid then 2 ^ 20 + w.source * 2 ^ 18 + w.start else 0

/-- Zoom windows of an exported cell (11 R273). -/
def Plan.exportedWindows (p : Plan) : Nat := if p.hist = 2 then p.zoomWindows else 0

/-- The histogram entry of a cell (11 R273). -/
def histEntry (p : Plan) (row nc nz : Nat) (b : Buf) : List Byte :=
  let win := fun i => b.wins.getD i {}
  le 2 row ++ le 1 nc ++ le 1 nz ++ le 1 (2 * bNat b.corrected + bNat b.saturated) ++ [0, 0, 0] ++
    le 8 ((win 0).word + (win 1).word * 2 ^ 21 + (win 2).word * 2 ^ 42) ++ packBins b.coarse 2048 ++
    (List.range p.exportedWindows).flatMap fun i => packBins (if (win i).valid then b.zoom i else []) 64

/-! ### One channel slot -/

/-- Channels of engine e in their order (09 R212). -/
def Plan.engineChannels (p : Plan) (e : Nat) : List Nat :=
  ((List.range 32).map fun i => 32 * e + i).filter fun ch => (p.rowOf ch).isSome

/-- What a channel slot adds to the frame's counters (09 R241). DEDUCED: notes/assumptions/46. -/
def PrxFrame.tally (f : PrxFrame) (points : List Point) (null veil : Bool) (discarded kept fallbacks : Nat) : PrxFrame :=
  let n := fun b => count (fun (q : Point) => bitOf q.flags b) points
  { returns := sat32 f.returns points.length
    nullCells := sat32 f.nullCells (bNat null)
    veilCells := sat32 f.veilCells (bNat veil)
    veilDiscarded := sat32 f.veilDiscarded discarded
    weather := sat32 f.weather (n flagWeather)
    interference := sat32 f.interference (n flagInterference)
    refined := sat32 f.refined (n flagRefined)
    predicted := sat32 f.predicted (n flagPredicted)
    kept := sat32 f.kept kept
    fallbacks := sat32 f.fallbacks fallbacks }

/-- A CodeConflict holds for the effective code of a plan (17 R396). -/
def State.conflictFor (s : State) (p : Plan) : Bool := s.ntu.conflict && effectiveCode s p == s.ntu.conflictCode

/-- Codes below c_max at which the port fired (09 R235). -/
def ColCtx.codeDrop (c : ColCtx) (port : Nat) : Int := (c.plan.maxCode port : Int) - ((c.codes.getD port 0 : Nat) : Int)

/-- The returns of a cell: what it hands on, and its part of the counters (09 R222 to R239). -/
def CellEnv.extract (e : CellEnv) (sig : Signal) (cands : List (Int × Nat)) (rangeOff intOff : Int) (conflict : Bool) :
    CellOut × List Point × Nat × Nat × Nat × Nat :=
  let p := e.c.plan
  let found := cands.filter fun h => detects p e.fl h.1
  let coarse := found.map (coarseReturn e.c e.b sig e.fl e.cell)
  let all := coarse ++ e.keptReturns coarse
  let inside := all.filter fun r => insideVeil e.veil r.q
  let surv := if p.weather = 2 then all.filter fun r => !insideVeil e.veil r.q
    else all.map fun r => { r with flags := withFlag r.flags flagWeather (p.weather == 1 && insideVeil e.veil r.q) }
  let (surv, fallbacks) := e.refineAll [] surv
  let surv := surv.map fun r => { r with flags := withFlag r.flags flagInterference conflict }
  let rated := surv.map fun r => (r, e.point rangeOff intOff (e.c.codeDrop e.x.port) r)
  let reported := selectReturns p rated
  let top := rated.take 3
  let out : CellOut := {
    row := e.x.row
    points := fit p.recordsPerCell (nullPoint e.cell) reported
    survivors := top.map fun x =>
      { tau := storedTau p x.1.t256, refined := bitOf x.1.flags flagRefined, confidence := x.2.confidence
        rangeWord := x.2.range * 4096 + x.2.intensity }
    amplitude := match surv with
      | r :: _ => if r.kept then 0 else (clampInt 0 4095 r.fp).toNat
      | [] => 0
    saturated := match surv with
      | r :: _ => bitOf r.flags flagSaturated
      | [] => false
    mu16 := e.fl.mu16, sigma16 := e.fl.sigma16, cellFlags := e.cell, nc := e.nc, nz := e.nz
    hist := if p.exported e.x.row e.c.column then histEntry p e.x.row e.nc e.nz e.b else [] }
  (out, reported, if p.weather = 2 then inside.length else 0, count Ret.kept all, fallbacks,
   count (fun h => decide (4095 < h.1)) found)

/-- The cell of a channel processed (09 R212, R213). DEDUCED: notes/assumptions/46. -/
def State.prxCell (s : State) (c : ColCtx) (x : CellCtx) : State :=
  let p := c.plan
  let b := (mget s.hac.ext x.channel).getD {}
  let sig := c.signal b.coarse
  let held := heldCandidates sig
  let fl := floorOf sig held
  let cands := separated (p.positions (planN p 0x440023)) held
  let veil := veilOf p sig fl
  let nc := c.coarseLit x.port
  let nz := c.zoomLit x.port
  -- with no coarse lit slot, R229 and R238 divide by N_c = 0: the zoom background and the rate verdict are free
  let open_ := decide (nc = 0) && p.hist == 3 && b.wins.any fun w => w.valid && w.source == 3
  let (v0, s) := if open_ then s.free else (0, s)
  let (v1, s) := if open_ then s.free else (0, s)
  let b16 : Int := if open_ then (v0 : Int) else fl.mux16 * 4 * (nz : Int) / ((p.binLsb * nc : Nat) : Int)
  let e : CellEnv := { c, x, b, fl, nc, nz, b16, cell := cellFlags c x b veil.isSome, veil, suspect := v1 % 2 == 1 }
  let r := s.prx
  let r := { r with mu := mput r.mu x.channel (clampInt 0 65535 fl.mu16).toNat
                    sigma := mput r.sigma x.channel (min 65535 fl.sigma16) }
  if !x.measured then { s with prx := r }
  else
    let (out, points, discarded, kept, fallbacks, clamps) :=
      e.extract sig cands (s.regI 0x440038) (s.regI 0x440039) (s.conflictFor p)
    { s with prx := { r with
        cells := r.cells ++ [out]
        clampCount := sat32 r.clampCount clamps
        run := r.run.tally points out.survivors.isEmpty veil.isSome discarded kept fallbacks } }

/-- What the PRX's commands leave alone. -/
def prxFrame : List UnitId :=
  [.rw, .rwp, .kpp, .txn, .mram, .edu, .bsc, .rfe, .tda, .mcx, .fmt, .linkA, .linkB, .emg, .cu, .wcu, .mon, .thermal,
   .ntu, .evr, .spring, .fw, .cal, .part]

/-- PRX_CHANNEL_SLOT (09 R212 to R239): the next channel of an engine in the column in extraction, its n-th slot from
X + n × 2,048 ns on. -/
def execPrxChannelSlot (t engine : Nat) : State → Host.Outcome State Fault Refusal :=
  runMain t (.pipe :: .hac :: prxFrame) fun s =>
    match s.pipe.ext with
    | none => s
    | some c =>
      let n := mcount s.prx.done engine
      match if c.plan.runsPrx && engine < 16 then (c.plan.engineChannels engine)[n]? else none with
      | none => s
      | some ch =>
        if s.now < c.swapAt + 2048 * n then s else
        let s := { s with prx := { s.prx with done := mput s.prx.done engine (n + 1) } }
        match c.cellOf ch with
        | none => s
        | some x => s.prxCell c x

/-- Every engine has finished the column in extraction (09 R212). -/
def State.extracted (s : State) (c : ColCtx) : Bool :=
  (List.range 16).all fun e => (c.plan.engineChannels e).length ≤ mcount s.prx.done e

/-- The last engine finishes, at X + M_e × 2,048 ns (09 R212). -/
def ColCtx.enginesEnd (c : ColCtx) : Nat :=
  c.swapAt + 2048 * ((List.range 16).map fun e => (c.plan.engineChannels e).length).foldl max 0

/-- A column of a fade is finished (09 R221). -/
def Prx.fadeStep (r : Prx) (c : ColCtx) : Prx :=
  match r.fade, c.fade with
  | some f, some _ => { r with fade := if f.total ≤ f.finished + 1 then none else some { f with finished := f.finished + 1 } }
  | _, _ => r

/-- BUFFER_RELEASE (08 R196; 09 R212, R221, R241): the last engine has finished; the column's results wait for the write engine and the formatter. -/
def execBufferRelease (t : Nat) : State → Host.Outcome State Fault Refusal :=
  runMain t prxFrame fun s =>
    match s.pipe.ext with
    | none => s
    | some c =>
      if !c.plan.runsPrx || !s.extracted c || decide (s.now < c.enginesEnd) then s
      else
        let last := c.visit + 1 == c.plan.columns
        let r := { s.prx.fadeStep c with outCells := s.prx.cells, cells := [], done := [] }
        let r := if last then { r with ready := some r.run, run := {} } else r
        { s with prx := r, hac := { s.hac with ext := [] }
                 pipe := { s.pipe with ext := none, done := some c, doneTarn := false, doneQueued := false } }

/-- PRX counters at a frame boundary (09 R241). -/
def Prx.frameEnd (r : Prx) : Prx :=
  match r.ready with
  | some f => { r with shown := f, ready := none }
  | none => r

/-- A bank change at a frame boundary, after a frame of `old` (09 R218). -/
def Prx.planChange (r : Prx) (old new : Plan) : Prx :=
  let a := planN old 0x440010
  let b := planN new 0x440010
  let total := planN new 0x440011
  if a = b then r
  else if total = 0 || !old.runsPrx || !new.runsPrx then { r with fade := none }
  else { r with fade := some { old := a, new := b, total, started := 0, finished := 0 } }

/-- The fade step and bank of a column that starts (09 R218). -/
def Prx.nextColumn (r : Prx) (c : ColCtx) : Prx × ColCtx :=
  let c := { c with bank := planN c.plan 0x440010 }
  match r.fade with
  | some f =>
    if c.plan.runsPrx && f.started < f.total then
      ({ r with fade := some { f with started := f.started + 1 } },
       { c with fade := some { old := f.old, new := f.new, m := f.started + 1, total := f.total } })
    else (r, c)
  | none => (r, c)

end Sys2Proof.Machine
end

