-- ==== Sys2Proof/Machine/Tarn.lean ====
section
/-!
DEFINITION. The Tarn (10 R249 to R256): where a cell's record lies, how it is written and read, and what the prefetch of a
column makes of it for the EDU, the RFE and the HAC (04 R107, 06 R153, 08 R209).
-/

namespace Sys2Proof.Machine

/-! ### Addresses (10 R249, R251) -/

/-- The line of a cell's record in buffer `buf` (10 R249). -/
def tarnLine (p : Plan) (buf set r c : Nat) : Nat := 262144 * buf + ((set * p.columns + c) * p.rows + r)

/-- The holding buffer of a set (10 R251). -/
def Mcx.holdingOf (m : Mcx) (set : Nat) : Nat := bNat (bitOf m.holding set)

/-! ### The record (10 R253, R254) -/

/-- The record of a cell as the write engine forms it. -/
structure TarnRecord where
  control : Nat
  amplitude : Nat
  returnWords : List Nat
  rangeWords : List Nat
  mu16 : Nat
  sigma16 : Nat
  flags : Nat
  nz : Nat
  nc : Nat
  deriving DecidableEq, Repr

/-- Its 64 bytes (10 R253). -/
def TarnRecord.bytes (r : TarnRecord) : List Byte :=
  let c := le 4 r.control
  let a := le 4 r.amplitude
  c ++ c ++ c ++ a ++ a ++ a ++ (fit 3 0 r.returnWords).flatMap (le 4) ++ (fit 3 0 r.rangeWords).flatMap (le 4) ++
    le 2 r.mu16 ++ le 2 r.sigma16 ++ le 2 r.flags ++ le 1 r.nc ++ le 1 r.nz ++ List.replicate 8 0

/-- The control word (10 R254). -/
def controlWord (frame grid count : Nat) (sat valid : Bool) (feedback reduction : Nat) : Nat :=
  frame % 256 * 2 ^ 24 + grid % 16 * 2 ^ 20 + count % 4 * 2 ^ 18 + bNat sat * 2 ^ 17 + bNat valid * 2 ^ 16 +
    feedback % 4 * 2 ^ 14 + reduction % 128 * 2 ^ 7

/-- A return word (10 R254). -/
def Survivor.word (v : Survivor) : Nat := bNat v.refined * 2 ^ 31 + v.confidence % 128 * 2 ^ 24 + v.tau % 262144

/-- The record of a cell of a column: of a measured one with what the PRX found, else with Valid clear (10 R252). -/
def recordOf (c : ColCtx) (x : CellCtx) (o : Option CellOut) : TarnRecord :=
  match o with
  | some o =>
    { control := controlWord c.frame.toNat c.gridGen.toNat o.survivors.length o.saturated true x.feedback x.reduction
      amplitude := o.amplitude * 2 ^ 20 + c.posSet * 2 ^ 17
      returnWords := o.survivors.map Survivor.word, rangeWords := o.survivors.map Survivor.rangeWord
      mu16 := (clampInt 0 65535 o.mu16).toNat, sigma16 := min 65535 o.sigma16
      flags := o.cellFlags, nz := o.nz, nc := o.nc }
  | none =>
    { control := controlWord c.frame.toNat c.gridGen.toNat 0 false false x.feedback x.reduction
      amplitude := c.posSet * 2 ^ 17, returnWords := [], rangeWords := [], mu16 := 0, sigma16 := 0, flags := 0
      nz := 0, nc := 0 }

/-- Bitwise 2 of 3 (10 R255). -/
def vote (a b c : Nat) : Nat := (a &&& b) ||| (a &&& c) ||| (b &&& c)

/-- A copy differs from the voted value (10 R255). -/
def outvoted (bs : List Byte) (o : Nat) : Bool :=
  let w := fun i => uAt bs (o + 4 * i) 4
  let v := vote (w 0) (w 1) (w 2)
  w 0 != v || w 1 != v || w 2 != v

def votedWord (bs : List Byte) (o : Nat) : Nat := vote (uAt bs o 4) (uAt bs (o + 4) 4) (uAt bs (o + 8) 4)

/-- What the units take from a record (10 R254, R255). -/
structure Prior where
  valid : Bool
  grid : Nat
  saturated : Bool
  feedback : Nat
  reduction : Nat
  amplitude : Nat
  taus : List Nat
  deriving DecidableEq, Repr

def priorOf (bs : List Byte) : Prior :=
  let w := votedWord bs 0
  let n := field w 19 18
  { valid := bitOf w 16, grid := field w 23 20, saturated := bitOf w 17, feedback := field w 15 14
    reduction := min 96 (field w 13 7), amplitude := field (votedWord bs 12) 31 20
    taus := (List.range n).map fun i => field (uAt bs (24 + 4 * i) 4) 17 0 }

/-! ### What a record becomes (04 R107, 06 R152 to R154, 08 R209) -/

/-- The new reduction of a cell from a usable record, or from none (04 R107). -/
def newReduction (p : Plan) (r : Option Prior) : Nat :=
  match r with
  | none => 0
  | some r =>
    if r.saturated then min 96 (r.reduction + planN p 0x300006)
    else if r.taus.isEmpty then r.reduction - planN p 0x300008
    else if planN p 0x300005 < r.amplitude then min 96 (r.reduction + planN p 0x300007)
    else if r.amplitude < planN p 0x300009 then r.reduction - planN p 0x30000A
    else r.reduction

/-- The new feedback index of a cell (06 R153). DEDUCED: notes/assumptions/74. -/
def newFeedback (p : Plan) (ch : Nat) (r : Option Prior) : Nat :=
  let lo := planN p 0x380003
  let hi := planN p 0x380004
  match r with
  | none => p.groupFeedback ch
  | some r =>
    if r.saturated then max lo (r.feedback - 1)
    else if r.taus.isEmpty then min hi (r.feedback + 1)
    else if planN p 0x380005 < r.amplitude then max lo (r.feedback - 1)
    else if r.amplitude < planN p 0x380006 then min hi (r.feedback + 1)
    else min hi (max lo r.feedback)

/-- A column whose records are still to be fetched (01 R24). -/
def ColCtx.lineOf (c : ColCtx) (m : Mcx) (row : Nat) : Nat :=
  tarnLine c.plan (m.holdingOf c.posSet) c.posSet row c.column

/-- Lines the prefetch has not read yet are read now (01 R24, 10 R495). DEDUCED: notes/assumptions/36. -/
def State.prefetchLines (s : State) (c : ColCtx) : State :=
  c.plan.rowList.foldl (fun s r =>
    let line := c.lineOf s.mcx r
    if (mget s.mcx.lines line).isSome then s
    else
      let (bytes, _, s) := s.readLine .prefetch line []
      { s with mcx := { s.mcx with lines := mset s.mcx.lines line bytes } }) s

/-- The usable record of a row after the prefetch (10 R256, R263); `use` where the frame runs with prediction and the prefetch was in time. -/
def ColCtx.priorAt (c : ColCtx) (m : Mcx) (use : Bool) (row : Nat) : Option Prior :=
  let line := c.lineOf m row
  let r := priorOf ((mget m.lines line).getD (List.replicate 64 0))
  let bad := m.degraded.any fun d => d.page == pageOfLine line
  if use && !bad && r.valid && r.grid == c.gridGen.toNat % 16 then some r else none

/-- VoteCorrections and StampMismatches of a prefetched column (10 R255, R256). -/
def State.countRecords (s : State) (c : ColCtx) (use : Bool) : State :=
  let rows := c.plan.rowList
  let bytesOf := fun r => (mget s.mcx.lines (c.lineOf s.mcx r)).getD []
  let votes := count (fun r => outvoted (bytesOf r) 0 || outvoted (bytesOf r) 12) rows
  let stale := fun r =>
    let q := priorOf (bytesOf r)
    q.valid && q.grid != c.gridGen.toNat % 16
  let stamps := if use then count stale rows else 0
  { s with mcx := { s.mcx with votes := sat32 s.mcx.votes votes, stamps := sat32 s.mcx.stamps stamps } }

/-! ### Commands -/

/-- What the Tarn's commands leave alone. -/
def tarnFrame : List UnitId :=
  [.rw, .rwp, .txn, .mram, .edu, .bsc, .rfe, .tda, .hac, .prx, .fmt, .linkA, .linkB, .emg, .cu, .wcu, .mon, .thermal,
   .ntu, .spring, .fw, .cal, .part]

/-- The cell's part of what the PRX handed on. -/
def outOf (l : List CellOut) (row : Nat) : Option CellOut := l.find? fun o => o.row == row

/-- TARN_RECORD_WRITE (10 R252): every record of the column whose extraction is complete, as whole lines. -/
def execTarnRecordWrite (t : Nat) : State → Host.Outcome State Fault Refusal :=
  runMain t tarnFrame fun s =>
    match s.pipe.done with
    | none => s
    | some c =>
      if s.pipe.doneTarn then s
      else
        let buf := 1 - s.mcx.holdingOf c.posSet
        let s := c.cells.foldl (fun s x =>
          let r := recordOf c x (outOf s.prx.outCells x.row)
          s.writeWhole .tarnWrite (tarnLine c.plan buf c.posSet x.row c.column) r.bytes) s
        { s with pipe := { s.pipe with doneTarn := true } }

/-- TARN_BUFFER_SWAP (01 R30; 10 R251): 100 µs into the turnaround, before the prefetch issued at the same instant. -/
def execTarnBufferSwap (t : Nat) : State → Host.Outcome State Fault Refusal :=
  runMain t (.kpp :: .evr :: tarnFrame) fun s =>
    match s.pipe.plan with
    | none => s
    | some p =>
      if !s.pipe.inTurn || s.pipe.swapDone || s.now < s.pipe.turnStart + 100000 then s
      else
        let bit := 2 ^ p.setOf s.pipe.frame.toNat
        let wrote := !s.pipe.blank && p.runsPrx
        { s with
          mcx := { s.mcx with holding := if wrote then s.mcx.holding ^^^ bit else s.mcx.holding, lines := [] }
          pipe := { s.pipe with swapDone := true, prefetch := some (s.pipe.frame.toNat + 1, 0) } }

/-- Bytes of TarnCellRecord (10 R253, R267): the line TarnCellSelect names, corrected but not voted. DEDUCED: notes/assumptions/32. -/
def State.cellRecord (s : State) : List Byte × Bool × State :=
  let sel := s.regN 0x480030
  let p := s.plan
  let row := field sel 8 0
  let col := field sel 19 9
  let set := field sel 22 20
  let inGrid := row < p.rows && col < p.columns && set < (if s.pipe.plan.isSome then p.recordSets else 1)
  if !inGrid then (List.replicate 64 0, false, s)
  else
    let buf := (s.mcx.holdingOf set + bNat (bitOf sel 23)) % 2
    s.readLine .cellRecord (tarnLine p buf set row col) []

end Sys2Proof.Machine
end

