-- ==== Sys2Proof/Machine/Output.lean ====
section
/-!
DEFINITION. The output formatter (11): frame headers, column blocks and trailers, their numbers, the transmit stores and
their drops, the feed of the recorder ring, and the reduced stream over Ethernet.
-/

namespace Sys2Proof.Machine

/-! ### Ports -/

def State.outPort (s : State) (n : Nat) : OutPort := if n = 0 then s.fmt.a else s.fmt.b

def State.setOutPort (s : State) (n : Nat) (o : OutPort) : State :=
  if n = 0 then { s with fmt := { s.fmt with a := o } } else { s with fmt := { s.fmt with b := o } }

def State.link (s : State) (n : Nat) : Link := if n = 0 then s.linkA else s.linkB

def State.setLink (s : State) (n : Nat) (l : Link) : State :=
  if n = 0 then { s with linkA := l } else { s with linkB := l }

/-- Active (12 R303). -/
def linkActive : Nat := 5

/-- Credit for one more data block, modulo 2³² × 64 (12 R298). -/
def Link.hasCredit (l : Link) : Bool :=
  let d := (64 * l.credit.toNat + 2 ^ 38 - l.dataBlocks % 2 ^ 38) % 2 ^ 38
  0 < d && d < 2 ^ 37

/-- The stall clock runs while an Active port has data to send and no credit (12 R299). -/
def Link.stall (l : Link) (now : Nat) (waiting : Bool) : Link :=
  let stalled := l.state == linkActive && waiting && !l.hasCredit
  match l.stallFrom with
  | none => if stalled then { l with stallFrom := some now } else l
  | some t => if stalled then l else { l with stallNs := l.stallNs + (now - t), stallFrom := none }

/-- Data blocks wait: a unit in flight has bytes left, or units are queued. -/
def State.unitsWait (s : State) (n : Nat) : Bool :=
  (match (s.link n).wire with
    | some u => decide ((s.link n).pos < u.bytes.length)
    | none => false) || !(s.outPort n).queue.isEmpty

def State.restall (s : State) (n : Nat) : State := s.setLink n ((s.link n).stall s.now (s.unitsWait n))

/-- Whole seconds since reset release, in which OutputRate counts (11 R285). -/
def OutPort.atSecond (o : OutPort) (sec : Nat) : OutPort :=
  if sec = o.second then o
  else { o with second := sec, secondBytes := 0, lastBytes := if sec = o.second + 1 then o.secondBytes else 0 }

/-! ### Units and the transmit store (11 R269, R278 to R281) -/

def unitHeader : Nat := 1
def unitPoints : Nat := 2
def unitHists : Nat := 3
def unitTrailer : Nat := 4

/-- The 8-byte prefix (11 R269). -/
def unitPrefix (type device len : Nat) : List Byte := le 1 type ++ [1] ++ le 2 device ++ le 4 len

/-- A unit that is not sent (11 R280, R281). DEDUCED: notes/assumptions/47. -/
def OutPort.drop (o : OutPort) : OutPort :=
  { o with dropped := sat32 o.dropped, frameDropped := sat32 o.frameDropped, gap := true }

/-- OutputUnitsDropped once a frame (11 R280, R286). -/
def State.dropEvent (s : State) (n : Nat) : State :=
  let o := s.outPort n
  if o.dropRaised then s else (s.setOutPort n { o with dropRaised := true }).raise 0x4C01 0x07 n

/-- The bytes of the store a unit of a kind may fill (11 R280). -/
def storeRoom (kind : Nat) : Nat := if kind = unitPoints ∨ kind = unitHists then 4190208 else 4194304

/-- A unit numbered for a port and queued, or dropped (11 R278, R280, R281); `mk` forms its bytes from its number and the SequenceGap due. -/
def State.queueUnit (s : State) (n kind : Nat) (frame : Word) (mk : Word → Bool → List Byte) : State :=
  let o := s.outPort n
  let active := (s.link n).state == linkActive
  let bytes := mk o.seq o.gap
  let o' := { o with seq := o.seq + 1, numbered := o.numbered + 1
                     waitHeader := o.waitHeader && !(active && kind == unitHeader) }
  if active && !o'.waitHeader && decide (o.store + bytes.length ≤ storeRoom kind) then
    let store := o.store + bytes.length
    let column := kind == unitPoints || kind == unitHists
    (s.setOutPort n { o' with
      store, highWater := BitVec.ofNat 32 (max o.highWater.toNat store), frameBytes := o.frameBytes + bytes.length
      gap := o.gap && !column, queue := o.queue ++ [{ kind, seq := o.seq, frame, bytes }] }).restall n
  else (s.setOutPort n o'.drop).dropEvent n

/-! ### The ring feed (11 R276, 18 R400) -/

/-- A unit for the recorder ring: kind 0 a frame header, 1 a point block, 2 a histogram block. -/
def State.feedRing (s : State) (kind : Nat) (seq frame : Word) (bytes : List Byte) : State :=
  if s.evr.armed then { s with evr := { s.evr with feed := s.evr.feed ++ [{ seg := 0, frame, kind, seq, bytes }] } }
  else s

/-- The last unit of a frame has been fed: the feed marks it, or the window closes where the ring already holds it (18 R406). -/
def State.feedEnd (s : State) (frame : Word) : State :=
  let e := s.evr
  if e.feed.any fun u => u.frame == frame then
    { s with evr := { e with feed := updAt e.feed (e.feed.length - 1) fun (u : RingUnit) => { u with last := true } } }
  else { s with evr := e.closeWindow frame s.now }

/-! ### Frame header and trailer (11 R270, R274, R275) -/

/-- 0x2000.24: the frame in progress runs H3, P1 or G1 from a valid Tarn (03 R68). -/
def State.predictionValid (s : State) : Bool := s.pipe.predict && !s.pipe.blank && s.plan.usesTarn

/-- ColumnTime in 10 ps (03 R68, R69). -/
def Plan.columnTime (p : Plan) : Nat := 100 * p.active / p.columns

def State.headerBytes (s : State) (p : Plan) (n : Nat) (seq : Word) : List Byte :=
  let l := s.link n
  let flags := 8 * bNat (l.width < 4) + 4 * bNat (histsOn p n) + 2 * bNat s.predictionValid + bNat s.pipe.blank
  unitPrefix unitHeader s.part.device 64 ++ le 4 seq.toNat ++ le 4 s.pipe.frame.toNat ++ s.pipe.stamp.bytes ++
    le 2 s.txn.epoch.toNat ++ le 2 s.pipe.gridGen.toNat ++ le 2 flags ++ le 2 p.rows ++ le 2 p.columns ++
    le 2 p.frameRate ++ le 1 p.shots ++ le 1 p.binWidth ++
    (List.range 10).flatMap (fun i => le 1 (planN p (0x210001 + i))) ++ le 2 (effectiveCode s p) ++ le 4 p.columnTime ++
    le 1 n ++ le 1 l.width ++ le 1 p.exportedWindows ++ [0, 0, 0, 0, 0]

/-- The plan directs traffic to a port (11 R275). -/
def Plan.carries (p : Plan) (n : Nat) : Bool := pointsOn p n || histsOn p n

/-- The port whose headers the ring takes (11 R276). -/
def Plan.ringPort (p : Plan) : Nat := if p.output = 3 then 0 else p.pointPort

/-- FRAME_HEADER_QUEUE (11 R270, R275, R276). DEDUCED: notes/assumptions/47. -/
def State.queueHeader (s : State) (p : Plan) (n : Nat) : State :=
  let o := s.outPort n
  let carries := p.carries n && (n == 0 || s.part.variant.hasPortB)
  let s := s.setOutPort n { o with carries, numbered := 0, frameDropped := 0, frameBytes := 0, dropRaised := false }
  let seq := o.seq
  let ring := fun (s : State) (seq : Word) => if n = p.ringPort then s.feedRing 0 seq s.pipe.frame (s.headerBytes p n seq) else s
  if carries then ring (s.queueUnit n unitHeader s.pipe.frame fun seq _ => s.headerBytes p n seq) seq
  else ring s 0xFFFFFFFF

/-- The frame trailer of a port (11 R274). -/
def State.queueTrailer (s : State) (n : Nat) (frame : Word) : State :=
  let o := s.outPort n
  if !o.carries then s
  else s.queueUnit n unitTrailer frame fun seq _ =>
    unitPrefix unitTrailer s.part.device 32 ++ le 4 seq.toNat ++ le 4 frame.toNat ++ le 4 (o.numbered.toNat + 1) ++
      le 4 o.frameDropped.toNat ++ le 4 (min 0xFFFFFFFF (o.frameBytes + 32)) ++ [0, 0, 0, 0]

/-- Both trailers, and the end of the frame in the recorder's feed. DEDUCED: notes/assumptions/47. -/
def State.queueTrailers (s : State) (frame : Word) : State :=
  ((s.queueTrailer 0 frame).queueTrailer 1 frame).feedEnd frame

/-! ### Column blocks (11 R271 to R273, R275, R277) -/

/-- The column block header (11 R271). -/
def blockHeader (device kind : Nat) (c : ColCtx) (cells body records : Nat) (seq : Word) (gap : Bool) : List Byte :=
  unitPrefix kind device (32 + body) ++ le 4 seq.toNat ++ le 4 c.frame.toNat ++ le 2 c.epoch.toNat ++ le 2 c.column ++
    le 2 c.visit ++ le 2 cells ++ le 4 c.start ++
    le 2 (4 * bNat gap + 2 * bNat c.fade.isSome + bNat c.late) ++ le 1 records ++ [0]

/-- A point record of 16 bytes (11 R272). -/
def pointRecord (c : ColCtx) (row i : Nat) (q : Point) : List Byte :=
  le 4 (q.range * 4096 + q.intensity) ++
    le 4 (row % 512 * 2 ^ 23 + i % 4 * 2 ^ 21 + q.confidence % 128 * 2 ^ 14 + q.flags % 16384) ++
    le 4 (c.column % 2048 * 2 ^ 21 + c.start / 100 % 2 ^ 21) ++ le 4 (c.frame.toNat % 65536 * 65536 + c.epoch.toNat)

/-- Records of a cell, with their return index. -/
def cellRecords (c : ColCtx) (o : CellOut) : List (Point × List Byte) :=
  (mapIdx o.points fun i q => (q, pointRecord c o.row i q))

/-- What the PRX handed on, in ascending row. -/
def ColCtx.outs (c : ColCtx) (l : List CellOut) : List CellOut := c.cells.filterMap fun x => outOf l x.row

/-- The port of the histogram block of a visit (11 R275). -/
def Plan.histPortOf (p : Plan) (visit : Nat) : Nat := if p.histPort = 2 then visit % 2 else p.histPort

/-- The point block of a column, sent or only for the ring (11 R272, R275, R276; 18 R400). -/
def State.queuePoints (s : State) (c : ColCtx) (outs : List CellOut) : State :=
  let p := c.plan
  let body := outs.flatMap fun o => (cellRecords c o).flatMap Prod.snd
  let mk := fun (seq : Word) (gap : Bool) =>
    blockHeader s.part.device unitPoints c outs.length body.length p.recordsPerCell seq gap ++ body
  if p.output = 3 then s.feedRing 1 0xFFFFFFFF c.frame (mk 0xFFFFFFFF false)
  else
    let n := p.pointPort
    let o := s.outPort n
    let s := s.queueUnit n unitPoints c.frame mk
    s.feedRing 1 o.seq c.frame (mk o.seq o.gap)

/-- The histogram block of a column, where a cell is exported (11 R273, R275, R276). -/
def State.queueHists (s : State) (c : ColCtx) (entries : List (List Byte)) : State :=
  let p := c.plan
  if p.output = 1 ∨ entries.isEmpty then s
  else
    let n := p.histPortOf c.visit
    let body := entries.flatten
    let mk := fun (seq : Word) (gap : Bool) =>
      blockHeader s.part.device unitHists c entries.length body.length 0 seq gap ++ body
    let o := s.outPort n
    let s := s.queueUnit n unitHists c.frame mk
    if p.output = 2 then s.feedRing 2 o.seq c.frame (mk o.seq o.gap) else s

/-! ### The reduced stream (11 R282, R283) -/

/-- A datagram of records (11 R282). -/
def Eth.datagram (e : Eth) (device : Nat) (last : Bool) : Eth :=
  let head := [5, 1] ++ le 2 device ++ le 4 e.seq.toNat ++ le 4 e.frame.toNat ++ le 2 e.epoch.toNat ++
    le 2 e.fill.length ++ le 2 (bNat last * 2 ^ 15) ++ [0, 0, 0, 0, 0, 0]
  { e with seq := e.seq + 1, fill := [], ready := e.ready ++ [head ++ e.fill.flatten] }

/-- Records of one cell added: a datagram that cannot hold them is full (11 R282). -/
def Eth.add (e : Eth) (device : Nat) (records : List (List Byte)) : Eth :=
  let e := if 90 < e.fill.length + records.length then e.datagram device false else e
  { e with fill := e.fill ++ records }

/-- The stream may send (11 R282, R285). -/
def Eth.on (e : Eth) : Bool := e.enable && e.addr != 0

/-- A column is selected (11 R282). -/
def Eth.takes (e : Eth) (frame column : Nat) : Bool := frame % e.divider == 0 && column % e.colStep == 0

/-- The records of a cell that are sent. -/
def Eth.chosen (e : Eth) (c : ColCtx) (o : CellOut) : List (List Byte) :=
  if o.row % e.rowStep ≠ 0 then []
  else (mapIdx (cellRecords c o) fun i x => (i, x)).filterMap fun x =>
    if bitOf e.select x.1 && !(bitOf e.select 3 && x.2.1.confidence == 0) then some x.2.2 else none

/-- A column of the point stream reaches the reduced stream (11 R282). DEDUCED: notes/assumptions/47. -/
def Eth.column (e : Eth) (device : Nat) (c : ColCtx) (outs : List CellOut) : Eth :=
  let p := c.plan
  if !e.on || p.output == 3 || !e.takes c.frame.toNat c.column then e
  else
    let e := if e.frame = c.frame then e else { e with fill := [] }
    let e := { e with frame := c.frame, epoch := c.epoch }
    let e := outs.foldl (fun e o => e.add device (e.chosen c o)) e
    let later := (List.range (p.columns - c.visit - 1)).any fun i =>
      e.takes c.frame.toNat (p.columnAt c.frame.toNat (c.visit + 1 + i))
    if e.fill.isEmpty || (later && e.fill.length < 90) then e else e.datagram device (!later)

/-- The device's IPv4 address (17 R398): the one sampled at reset, by default from the device number. -/
def State.ipv4 (s : State) : BitVec 32 :=
  let a := ofLe ((s.part.net.lookup 0x600020).getD [0xFF, 0xFF, 0xFF, 0xFF])
  let n := s.part.device
  BitVec.ofNat 32 (if a = 0xFFFFFFFF then 10 * 2 ^ 24 + 52 * 2 ^ 16 + (1 + n / 250) * 256 + (1 + n % 250) else a)

/-- The UDP port of the device (02 R35, 11 R282). -/
def udpPort : BitVec 16 := 47812

/-- EVENT records wait for a destination over UDP, and a unit to send them acts: KPP goes first (11 R283, R284). -/
def State.kppReady (s : State) : Bool :=
  s.unitActs && !s.kpp.txq.isEmpty && s.kpp.dests.any fun d => match d with
    | .udp _ _ => true
    | .can => false

/-- The token bucket brought to the present: 1 Mbit/s is 1/1,000 bit a ns (11 R283). -/
def Eth.refill (e : Eth) (now : Nat) : Eth :=
  { e with tokens := min 524288000 (e.tokens + e.limit * (now - e.tokenTime)), tokenTime := now }

/-- Settings of the stream taken at a frame boundary (11 R283); datagrams left when it turns off are neither sent nor
counted. DESIGN CHOICE: notes/assumptions/47. -/
def State.ethBoundary (s : State) : State :=
  let e := s.fmt.eth.refill s.now
  let e := { e with
    enable := s.regN 0x4C0010 == 1, addr := BitVec.ofNat 32 (s.regN 0x4C0011), port := BitVec.ofNat 16 (s.regN 0x4C0012)
    rowStep := s.regN 0x4C0013, colStep := s.regN 0x4C0014, divider := s.regN 0x4C0015, select := s.regN 0x4C0016
    limit := s.regN 0x4C0017 }
  { s with fmt := { s.fmt with eth := if e.on then e else { e with fill := [], ready := [] } } }

/-! ### Commands -/

/-- What the formatter's commands leave alone. -/
def fmtFrame : List UnitId :=
  [.rw, .rwp, .txn, .mram, .edu, .bsc, .rfe, .tda, .mcx, .emg, .cu, .wcu, .mon, .thermal, .ntu, .spring, .fw, .cal, .part]

/-- COLUMN_BLOCK_QUEUE (11 R275 to R277, R282; 11 R274 for the last column). -/
def execColumnBlockQueue (t : Nat) : State → Host.Outcome State Fault Refusal :=
  runMain t (.hac :: .prx :: fmtFrame) fun s =>
    match s.pipe.done with
    | none => s
    | some c =>
      if s.pipe.doneQueued then s
      else
        let outs := c.outs s.prx.outCells
        let s := s.queuePoints c outs
        let s := s.queueHists c ((outs.filter fun o => !o.hist.isEmpty).map CellOut.hist)
        let s := { s with fmt := { s.fmt with eth := s.fmt.eth.column s.part.device c outs }
                          pipe := { s.pipe with doneQueued := true } }
        if c.visit + 1 = c.plan.columns then s.queueTrailers c.frame else s

/-- H4_COLUMN_COPY (11 R277; 08 R196): the column is copied from the Pool, its buffer released and its block queued. -/
def execH4ColumnCopy (t : Nat) : State → Host.Outcome State Fault Refusal :=
  runMain t (.prx :: fmtFrame) fun s =>
    match s.pipe.ext with
    | none => s
    | some c =>
      if c.plan.runsPrx then s
      else
        let entries := (c.cells.filter fun x => c.plan.exported x.row c.column).map fun x =>
          histEntry c.plan x.row (c.coarseLit x.port) (c.zoomLit x.port) ((mget s.hac.ext x.channel).getD {})
        let s := { s with pipe := { s.pipe with ext := none }, hac := { s.hac with ext := [] } }
        let s := s.queueHists c entries
        if c.visit + 1 = c.plan.columns then s.queueTrailers c.frame else s

/-- ETH_STREAM_DATAGRAM (11 R283): the oldest datagram leaves, or is dropped for want of tokens; KPP messages that wait
go first. -/
def execEthStreamDatagram (t : Nat) : State → Host.Outcome State Fault Refusal :=
  runMain t (.kpp :: .evr :: .pipe :: .hac :: .prx :: .linkA :: .linkB :: fmtFrame) fun s =>
    match s.fmt.eth.ready with
    | [] => s
    | d :: rest =>
      if !s.fmt.eth.on || s.kppReady then s else
      let e := { (s.fmt.eth.refill s.now) with ready := rest }
      let cost := 8000 * d.length
      if e.tokens < cost then { s with fmt := { s.fmt with eth := { e with dropped := sat32 e.dropped } } }
      else
        let s := { s with fmt := { s.fmt with eth := { e with tokens := e.tokens - cost, sent := sat32 e.sent } } }
        s.send (.datagram s.ipv4 udpPort e.addr e.port d)

end Sys2Proof.Machine
end

