-- ==== Sys2Proof/Machine/Link.lean ====
section
/-!
DEFINITION. The Druelo link ports (12): blocks, the scrambler, markers, credit, the back channel and training.
-/

namespace Sys2Proof.Machine

/-! ### Training states (12 R303) -/

def linkOff : Nat := 0
def linkDetect : Nat := 1
def linkPhase : Nat := 2
def linkEqualize : Nat := 3
def linkAlign : Nat := 4

/-- The objects of a port stand at sub-index + 0x20 for port B (12 R307). -/
def linkKey (n sub : Nat) : Nat := 0x4C0000 + sub + 0x20 * n

/-- Lane rate in Mbit/s of a port (12 R288). -/
def State.laneRate (s : State) (n : Nat) : Nat := laneMbps (s.regN (linkKey n 0x40))

/-- The forwarded clock in MHz: a quarter of the lane rate (12 R287, R288). -/
def State.clockMhz (s : State) (n : Nat) : Nat := s.laneRate n / 4

/-- The port exists on this variant (00 R1). -/
def State.hasPort (s : State) (n : Nat) : Bool := n == 0 || (n == 1 && s.part.variant.hasPortB)

/-- Block period `k` of a port has begun by the end of the present ns: 66 UI each since the PLL lock (12 R288, R289, R295). -/
def State.periodDue (s : State) (n : Nat) : Bool :=
  decide (66000 * (s.link n).periods < (s.now + 1 - (s.link n).lockAt) * s.laneRate n)

/-- Lanes of a mask, lowest first. -/
def laneList (mask : Nat) : List Nat := (List.range 4).filter (bitOf mask)

/-- All lanes of `mask` are in `shown`. -/
def lanesIn (mask shown : Nat) : Bool := (laneList mask).all (bitOf shown)

/-! ### Scrambler and blocks (12 R289, R290, R293 to R295) -/

/-- The seed of lane l (12 R294). -/
def scrambleSeed (l : Nat) : BitVec 58 := BitVec.ofNat 58 (0x02AAAAAAAAAAAAA0 + l)

/-- One bit through the scrambler: the sent bit and the new state, bit 0 of which is the newest (12 R293). -/
def scrambleBit (st : BitVec 58) (d : Bool) : BitVec 58 × Bool :=
  let b := xor d (xor (st.getLsbD 38) (st.getLsbD 57))
  ((st <<< 1) ||| BitVec.ofNat 58 (bNat b), b)

/-- 64 payload bits, bit 0 first: the state after them and the bits sent (12 R293). -/
def scramble (st : BitVec 58) (v : BitVec 64) : BitVec 58 × BitVec 64 :=
  (List.range 64).foldl (fun acc i =>
    let (st, b) := scrambleBit acc.1 (v.getLsbD i)
    (st, if b then acc.2 ||| BitVec.ofNat 64 (2 ^ i) else acc.2)) (st, 0)

/-- Eight bytes as payload, byte 0 first (12 R289). -/
def payload (bs : List Byte) : BitVec 64 := BitVec.ofNat 64 (ofLe (bytesAt bs 0 8))

def idleBlock (l : Link) : List Byte := [0x1E] ++ le 1 l.state ++ le 1 l.width ++ le 1 l.lanes ++ [0, 0, 0, 0]
def checkBlock (u : OutUnit) : List Byte := [0x33, 0, 0, 0] ++ le 4 (crc32 u.bytes).toNat
def abortBlock (seq : Word) : List Byte := [0x2D, 0, 0, 0] ++ le 4 seq.toNat

/-- A marker (12 R295). -/
def markerBlock (width lane : Nat) : List Byte :=
  let head : List Byte := [0xC6, 0x3A, 0x71, BitVec.ofNat 8 (width * 16 + lane)]
  head ++ head.map fun b => b ^^^ 0xFF

/-- The seeds are loaded at each entry into Detect (12 R294). -/
def Link.detect (l : Link) (now : Nat) : Link :=
  { l with state := linkDetect, stateAt := now, statusRun := 0, lowRun := 0, missRun := 0, trainCount := 0
           scram := (List.range 4).map scrambleSeed }

def Link.setWidth (l : Link) (width mask : Nat) : Link := { l with width, lanes := mask }

def Link.full (l : Link) : Link := { l.setWidth 4 15 with blind := 0 }

/-! ### Exit from Active and returns to Detect (11 R281; 12 R291, R303, R308) -/

/-- Units queued or in flight are not sent (11 R281, R284). DEDUCED: notes/assumptions/47. -/
def State.discardUnits (s : State) (n : Nat) (runs : Bool) : State :=
  let l := s.link n
  let o := s.outPort n
  let gone := l.wire.toList ++ o.queue
  let o := gone.foldl (fun (o : OutPort) u =>
    let here := u.frame == s.pipe.frame
    { o with dropped := sat32 o.dropped, gap := true
             frameDropped := if here then sat32 o.frameDropped else o.frameDropped
             frameBytes := if here then o.frameBytes - u.bytes.length else o.frameBytes }) o
  let s := s.setOutPort n { o with queue := [], store := 0 }
  let s := s.setLink n { l with wire := none, pos := 0, abort := if runs && 0 < l.pos then l.wire.map OutUnit.seq else none }
  if gone.isEmpty then s else s.dropEvent n

/-- An exit from Active with its cause (12 R303); `runs` while the lanes go on. -/
def State.exitActive (s : State) (n cause : Nat) (runs : Bool) : State :=
  let s := s.discardUnits n runs
  let l := s.link n
  let l := { l with exits := sat32 l.exits, lastCause := cause, state := linkDetect }
  let s := s.setLink n (l.stall s.now false)
  s.raise 0x4C03 (0x42 + 0x20 * n) (n + 2 * cause)

/-- An attempt that ends in Active, a limit, a loss or a Retrain is the previous attempt of the spacing (12 R303). -/
def Link.attemptEnded (l : Link) : Link := { l with spaceFrom := some l.attemptAt }

/-- An attempt is in progress. -/
def Link.training (l : Link) : Bool := l.state == linkPhase || l.state == linkEqualize || l.state == linkAlign

/-- Back to Detect from an attempt or from Active (12 R303). -/
def State.toDetect (s : State) (n cause : Nat) (full : Bool) : State :=
  let s := if (s.link n).state = linkActive then s.exitActive n cause true
    else s.setLink n (s.link n).attemptEnded
  let l := (s.link n).detect s.now
  s.setLink n (if full then l.full else l)

/-! ### The back channel (12 R300 to R302) -/

/-- A message whose CRC-8 over Type and payload is right; else it is ignored and counted (12 R300). DEDUCED: notes/assumptions/48. -/
def backMessage (s : State) (n type : Nat) (m : Sys2Proof.BackMsg) (f : State → State) : State :=
  if !s.hasPort n then s
  else
    let l := s.link n
    if m.payload.length ≠ 8 ∨ crc8 (BitVec.ofNat 8 type :: m.payload) ≠ m.crc then
      s.setLink n { l with errors := sat32 l.errors, statusRun := 0 }
    else f (s.setLink n { l with lastMsg := s.now, lost := false })

/-- LinkUp: every lane in use is locked and deskewed (12 R303, R308; 11 R281). DEDUCED: notes/assumptions/48. -/
def State.linkUp (s : State) (n : Nat) (credit : Word) : State :=
  let l := s.link n
  let s := s.setLink n { l.attemptEnded with
    state := linkActive, stateAt := s.now, blind := 0, lowRun := 0, missRun := 0, credit, dataBlocks := 0, abort := none }
  let s := s.setOutPort n { s.outPort n with waitHeader := true }
  s.raise 0x4C02 (0x42 + 0x20 * n) (n + 2 * l.width + 16 * l.lanes)

/-- In Active, a CreditGranted behind the last accepted one (12 R298). DEDUCED: notes/assumptions/48. -/
def Link.behind (l : Link) (c : Word) : Bool := l.state == linkActive && decide (2 ^ 31 < (c - l.credit).toNat)

/-- A message that is ignored and counted (12 R298, R300). -/
def Link.ignore (l : Link) : Link := { l with errors := sat32 l.errors }

/-- A valid Status (12 R298, R301, R303). DEDUCED: notes/assumptions/48. -/
def State.status (s : State) (n : Nat) (b : List Byte) : State :=
  let l := s.link n
  let code := uAt b 0 1
  let l := { l with rxState := code, phase := uAt b 1 1 % 16, equal := uAt b 2 1 % 16, lock := uAt b 3 1 % 16 }
  let credit := BitVec.ofNat 32 (uAt b 4 4)
  let go := fun (l : Link) (st : Nat) => s.setLink n { l with state := st, stateAt := s.now, trainCount := 0 }
  if l.state = linkDetect then s.setLink n { l with statusRun := min 4 (l.statusRun + 1) }
  else if l.state = linkPhase then (if lanesIn l.lanes l.phase then go l linkEqualize else s.setLink n l)
  else if l.state = linkEqualize then (if lanesIn l.lanes l.equal then go l linkAlign else s.setLink n l)
  else if l.state = linkAlign then
    (if lanesIn l.lanes l.lock then (s.setLink n l).linkUp n credit else s.setLink n l)
  else if l.state = linkActive then
    let l := { l with credit, lowRun := if code < 5 then l.lowRun + 1 else 0
                      missRun := if lanesIn l.lanes l.lock then 0 else l.missRun + 1 }
    let s := (s.setLink n l).restall n
    if 2 ≤ l.lowRun then s.toDetect n 2 false else if 2 ≤ l.missRun then s.toDetect n 3 false else s
  else s.setLink n l

/-- What a link's commands leave alone. -/
def linkFrame : List UnitId :=
  [.rw, .txn, .mram, .pipe, .edu, .bsc, .rfe, .tda, .hac, .prx, .mcx, .emg, .cu, .wcu, .mon, .thermal, .ntu, .spring,
   .fw, .cal, .part]

/-- STATUS_MESSAGE (12 R298, R300, R301, R303); one whose credit lies behind is ignored whole. -/
def execStatusMessage (t port : Nat) (m : Sys2Proof.BackMsg) : State → Host.Outcome State Fault Refusal :=
  runMain t (.rwp :: linkFrame) fun s => backMessage s port 1 m fun u =>
    if (s.link port).behind (BitVec.ofNat 32 (uAt m.payload 4 4)) then s.setLink port (s.link port).ignore
    else u.status port m.payload

/-- EQ_REPORT (12 R301, R307). -/
def execEqReport (t port : Nat) (m : Sys2Proof.BackMsg) : State → Host.Outcome State Fault Refusal :=
  runMain t (.rwp :: .kpp :: .evr :: .fmt :: linkFrame) fun s => backMessage s port 2 m fun s =>
    let l := s.link port
    s.setLink port { l with eqReports := overlay l.eqReports (8 * (uAt m.payload 0 1 % 4)) m.payload }

/-- ALIGN_REPORT (12 R301, R307). -/
def execAlignReport (t port : Nat) (m : Sys2Proof.BackMsg) : State → Host.Outcome State Fault Refusal :=
  runMain t (.rwp :: .kpp :: .evr :: .fmt :: linkFrame) fun s => backMessage s port 3 m fun s =>
    s.setLink port { s.link port with deskew := bytesAt m.payload 0 4 }

/-- A Retrain, by message or command (12 R303); one in the instant of a limit wins over it (12 R306). -/
def State.retrain (s : State) (n : Nat) (full : Bool) : State :=
  let l := s.link n
  if l.training || l.state == linkActive then s.toDetect n 4 full
  else
    match l.tried with
    | some x =>
      if x.at_ = s.now ∧ l.state = linkDetect then
        let l := { l with width := x.width, lanes := x.lanes, blind := x.blind, phaseFails := x.phaseFails
                          equalFails := x.equalFails, alignFails := x.alignFails, tried := none }
        s.setLink n (if full then l.full else l)
      else s
    | none => s

/-- RETRAIN_MESSAGE (12 R301, R303). -/
def execRetrainMessage (t port : Nat) (m : Sys2Proof.BackMsg) : State → Host.Outcome State Fault Refusal :=
  runMain t (.rwp :: linkFrame) fun s => backMessage s port 4 m fun s => s.retrain port (bitOf (uAt m.payload 0 1) 0)

/-- BACK_CHANNEL_ERROR (12 R300). -/
def execBackChannelError (t port : Nat) : State → Host.Outcome State Fault Refusal :=
  runMain t (.rwp :: .kpp :: .evr :: .fmt :: linkFrame) fun s =>
    if !s.hasPort port then s
    else
      let l := s.link port
      s.setLink port { l with errors := sat32 l.errors, statusRun := 0 }

/-- BACK_CHANNEL_LOSS (12 R302, R303, R307): 500 µs without a valid message, in any state. -/
def execBackChannelLoss (t port : Nat) : State → Host.Outcome State Fault Refusal :=
  runMain t (.rwp :: linkFrame) fun s =>
    let l := s.link port
    if !s.hasPort port || l.lost || s.now < l.lastMsg + 500000 then s
    else
      let s := s.setLink port { l with lost := true, losses := sat32 l.losses, statusRun := 0 }
      if l.state = linkDetect ∨ l.state = linkOff then s else s.toDetect port 1 true

/-! ### Failed attempts (12 R304) -/

def lowestLane (mask : Nat) : Nat := (laneList mask).headD 0

/-- The width and lanes of the attempt after a failure with the set P, a mask (12 R304). -/
def Link.nextWidth (l : Link) (p : Nat) : Link :=
  if p ≠ 0 then
    let l := { l with blind := 0 }
    if l.width = 4 then
      if lanesIn 3 p then l.setWidth 2 3 else if lanesIn 12 p then l.setWidth 2 12 else l.setWidth 1 (2 ^ lowestLane p)
    else if l.width = 2 then l.setWidth 1 (2 ^ lowestLane p)
    else l
  else if l.blind + 1 < 3 then { l with blind := l.blind + 1 }
  else
    let l := { l with blind := 0 }
    if l.width = 4 then l.setWidth 2 3
    else if l.width = 2 then l.setWidth 1 (2 ^ lowestLane l.lanes)
    else l.setWidth 1 (2 ^ ((lowestLane l.lanes + 1) % 4))

/-- The back channel is lost no later than in the microsecond of instant `at_` (12 R302, R306). -/
def Link.lossBy (l : Link) (at_ : Nat) : Bool := decide ((l.lastMsg + 500000) / 1000 ≤ at_ / 1000)

/-- The limit of `state` reached `after` ns from its entry (12 R303); a loss of the back channel by then wins (12 R306). -/
def State.limit (s : State) (n state after : Nat) (shown : Link → Nat) (count : Link → Link) : State :=
  let l := s.link n
  let due := l.stateAt + after
  if !s.hasPort n || l.state != state || decide (s.now < due) || l.lossBy due then s
  else
    let l' := ((count l).attemptEnded.nextWidth (l.lanes &&& shown l)).detect s.now
    s.setLink n { l' with tried := some {
      at_ := s.now, width := l.width, lanes := l.lanes, blind := l.blind, phaseFails := l.phaseFails
      equalFails := l.equalFails, alignFails := l.alignFails } }

/-- PHASE_LIMIT (12 R303, R304): 1,000 µs. -/
def execPhaseLimit (t port : Nat) : State → Host.Outcome State Fault Refusal :=
  runMain t (.rwp :: .kpp :: .evr :: .fmt :: linkFrame) fun s =>
    s.limit port linkPhase 1000000 Link.phase fun l =>
      { l with phaseFails := sat32 l.phaseFails }

/-- EQUALIZE_LIMIT (12 R303, R304): 2,000 µs. -/
def execEqualizeLimit (t port : Nat) : State → Host.Outcome State Fault Refusal :=
  runMain t (.rwp :: .kpp :: .evr :: .fmt :: linkFrame) fun s =>
    s.limit port linkEqualize 2000000 Link.equal fun l =>
      { l with equalFails := sat32 l.equalFails }

/-- ALIGN_LIMIT (12 R296, R303, R304): 6 marker spacings of 16,384 × 66 UI. -/
def execAlignLimit (t port : Nat) : State → Host.Outcome State Fault Refusal :=
  runMain t (.rwp :: .kpp :: .evr :: .fmt :: linkFrame) fun s =>
    s.limit port linkAlign (ceilDiv (6 * 16384 * 66 * 1000) (s.laneRate port)) Link.lock fun l =>
      { l with alignFails := sat32 l.alignFails }

/-- TRAINING_ATTEMPT_START (12 R303): 4 consecutive Status messages and the 100 ms spacing. DEDUCED: notes/assumptions/48. -/
def execTrainingAttemptStart (t port : Nat) : State → Host.Outcome State Fault Refusal :=
  runMain t (.rwp :: .kpp :: .evr :: .fmt :: linkFrame) fun s =>
    let l := s.link port
    let spaced := match l.spaceFrom with
      | some x => decide (x + 100000000 ≤ s.now)
      | none => true
    if !s.hasPort port || l.state != linkDetect || !l.pll || l.statusRun < 4 || !spaced then s
    else s.setLink port { l with state := linkPhase, stateAt := s.now, attemptAt := s.now, statusRun := 0
                                 attempts := sat32 l.attempts }

/-! ### PLL, rate and enable (12 R295, R303, R306) -/

/-- The relock after a LaneRate write (12 R303, R306): Detect at width 4, from Active with cause 5; the attempt it ends
does not count for the spacing. -/
def State.relock (s : State) (n : Nat) : State :=
  let l := s.link n
  let ended := l.training || l.state == linkActive
  let s := if l.state = linkActive then s.exitActive n 5 true else s
  let l := ((s.link n).detect s.now).full
  s.setLink n (if ended then { l with spaceFrom := none } else l)

/-- PORT_PLL_LOCK (12 R295, R303): the block periods count from here; a port that is enabled enters Detect at width 4. -/
def execPortPllLock (t port : Nat) : State → Host.Outcome State Fault Refusal :=
  runMain t (.rwp :: linkFrame) fun s =>
    let l := s.link port
    if !s.hasPort port || l.pll then s
    else
      let s := s.setLink port { l with pll := true, lockAt := s.now, periods := 0, blockCount := 0 }
      if s.regN (linkKey port 0x41) = 0 then s else s.relock port

/-- A write to LaneRate (12 R303, R306): the PLL relocks, and the port is in Detect after that. -/
def State.laneRateWrite (s : State) (n : Nat) (v : List Byte) : State :=
  if !s.hasPort n then s
  else
    let s := s.setReg (linkKey n 0x40) .rwp v
    let l := { s.link n with pll := false }
    s.setLink n (if l.state = linkDetect ∨ l.state = linkOff then l.full else l)

/-- LANE_RATE_WRITE (12 R303, R306, R307): values above 5 are stored as 5. -/
def execLaneRateWrite (t port : Nat) (v : Byte) : State → Host.Outcome State Fault Refusal :=
  runUnit t linkFrame fun s => s.laneRateWrite port (le 1 (min 5 v.toNat))

/-- A write to PortEnable (12 R303). -/
def State.portEnableWrite (s : State) (n : Nat) (v : List Byte) : State :=
  if !s.hasPort n then s
  else
    let s := s.setReg (linkKey n 0x41) .rwp v
    if ofLe v = 0 then
      let ended := (s.link n).training || (s.link n).state == linkActive
      let s := if (s.link n).state = linkActive then s.exitActive n 6 false else s
      let l := s.link n
      s.setLink n { l.full with
        state := linkOff, stateAt := s.now, abort := none, statusRun := 0, spaceFrom := if ended then none else l.spaceFrom }
    else
      let l := s.link n
      if l.state = linkOff && l.pll then s.setLink n (l.detect s.now).full else s

/-- PORT_ENABLE_WRITE (12 R303, R307): any value but 0 is 1. -/
def execPortEnableWrite (t port : Nat) (v : Byte) : State → Host.Outcome State Fault Refusal :=
  runUnit t linkFrame fun s => s.portEnableWrite port (if v = 0 then [0] else [1])

/-- RETRAIN_4_LANES (12 R307). -/
def execRetrain4Lanes (t port : Nat) : State → Host.Outcome State Fault Refusal :=
  runUnit t (.rwp :: linkFrame) fun s => if s.hasPort port then s.retrain port true else s

/-- RETRAIN_PRESENT_WIDTH (12 R307). -/
def execRetrainPresentWidth (t port : Nat) : State → Host.Outcome State Fault Refusal :=
  runUnit t (.rwp :: linkFrame) fun s => if s.hasPort port then s.retrain port false else s

/-- A write to Retrain (12 R307). -/
def State.retrainWrite (s : State) (n v : Nat) : State :=
  if !s.hasPort n then s
  else if v = 0x5254 then s.retrain n true else if v = 0x5257 then s.retrain n false else s

/-! ### Block periods (12 R289 to R299) -/

/-- Bytes of a block, and whether it is a control block. -/
abbrev Block := Bool × List Byte

/-- The next stream block of a port in Active (12 R290, R292, R298), none where no block is ready. -/
def State.nextBlock (s : State) (n : Nat) : Option Block × State :=
  let l := s.link n
  let o := s.outPort n
  let (l, o) := match l.wire, o.queue with
    | none, u :: rest => ({ l with wire := some u, pos := 0 }, { o with queue := rest })
    | _, _ => (l, o)
  match l.wire with
  | none => (none, (s.setLink n l).setOutPort n o)
  | some u =>
    if l.pos < u.bytes.length then
      if !l.hasCredit then (none, (s.setLink n l).setOutPort n o)
      else
        let l' := { l with pos := l.pos + 8, dataBlocks := l.dataBlocks + 1 }
        let o := o.atSecond s.uptime
        (some (false, bytesAt u.bytes l.pos 8),
          (s.setLink n l').setOutPort n { o with store := o.store - 8, secondBytes := o.secondBytes + 8 })
    else
      let o := { o with sent := wrap64 o.sent }
      (some (true, checkBlock u), (s.setLink n { l with wire := none, pos := 0 }).setOutPort n o)

/-- The block a lane in use sends in this period (12 R289, R291, R292, R303). -/
def State.laneBlock (s : State) (n : Nat) : Block × State :=
  let l := s.link n
  match l.abort with
  | some seq => ((true, abortBlock seq), s.setLink n { l with abort := none })
  | none =>
    if l.state = linkActive then
      match s.nextBlock n with
      | (some b, s) => (b, s)
      | (none, s) => ((true, idleBlock (s.link n)), s)
    else if l.state = linkEqualize && l.trainCount % 64 < 63 then ((false, List.replicate 8 0), s)
    else ((true, idleBlock l), s)

/-- A scrambled block on a lane. -/
def State.sendBlock (s : State) (n lane : Nat) (b : Block) : State :=
  let l := s.link n
  let (st, bits) := scramble (l.scram.getD lane (scrambleSeed lane)) (payload b.2)
  let s := s.setLink n { l with scram := setAt l.scram lane st }
  s.send (.block n lane b.1 bits)

/-- BLOCK_PERIOD (12 R289, R290, R292 to R294, R298, R299, R303), one every 66 UI. -/
def execBlockPeriod (t port : Nat) : State → Host.Outcome State Fault Refusal :=
  runMain t (.rwp :: .kpp :: .evr :: linkFrame) fun s =>
    let l := s.link port
    if !s.hasPort port || !l.pll || 16383 ≤ l.blockCount || !s.periodDue port then s
    else if l.state = linkOff then s.setLink port { l with blockCount := l.blockCount + 1, periods := l.periods + 1 }
    else
      let s := (List.range 4).foldl (fun s lane =>
        if bitOf (s.link port).lanes lane then
          let (b, s) := s.laneBlock port
          s.sendBlock port lane b
        else s.sendBlock port lane (true, idleBlock (s.link port))) s
      let l := s.link port
      (s.setLink port { l with
        blockCount := l.blockCount + 1, periods := l.periods + 1, trainCount := l.trainCount + 1 }).restall port

/-- MARKER_PERIOD (12 R295): every 16,384th period, on every lane, past the scrambler. -/
def execMarkerPeriod (t port : Nat) : State → Host.Outcome State Fault Refusal :=
  runMain t (.rwp :: .kpp :: .evr :: .fmt :: linkFrame) fun s =>
    let l := s.link port
    if !s.hasPort port || !l.pll || l.blockCount < 16383 || !s.periodDue port then s
    else
      let s := s.setLink port { l with blockCount := 0, periods := l.periods + 1 }
      if l.state = linkOff then s
      else (List.range 4).foldl (fun s lane => s.send (.block port lane true (payload (markerBlock l.width lane)))) s

end Sys2Proof.Machine
end

