-- ==== Sys2Proof/Machine/Sha.lean ====
section
/-!
DEFINITION. SHA-256 (FIPS 180-4), which PayloadHash and the image checks name (18 R408, 20 R444, R445).
-/

namespace Sys2Proof.Machine

/-- FIPS 180-4 takes its constants from the first primes. -/
def firstPrimes (count : Nat) : List Nat :=
  ((List.range 312).filter fun n => decide (2 ≤ n) && (List.range n).all fun d => decide (d < 2) || n % d != 0).take count

/-- The first 32 bits of the fraction of the `k`-th root of `p`, found bit by bit (FIPS 180-4, 4.2.2, 5.3.3). -/
def rootFraction (k p : Nat) : BitVec 32 :=
  BitVec.ofNat 32 ((List.range 37).foldl (fun r i => if (r + 2 ^ (36 - i)) ^ k ≤ p * 2 ^ (32 * k) then r + 2 ^ (36 - i) else r) 0)

/-- One constant for each round: cube roots (FIPS 180-4, 4.2.2). -/
def shaConstants : List (BitVec 32) := (firstPrimes 64).map (rootFraction 3)

/-- The eight working variables. -/
structure ShaState where
  a : BitVec 32
  b : BitVec 32
  c : BitVec 32
  d : BitVec 32
  e : BitVec 32
  f : BitVec 32
  g : BitVec 32
  h : BitVec 32
  deriving DecidableEq, Repr

/-- The state before the first block: square roots (FIPS 180-4, 5.3.3). -/
def shaInit : ShaState :=
  let w := fun i => rootFraction 2 ((firstPrimes 8).getD i 0)
  ⟨w 0, w 1, w 2, w 3, w 4, w 5, w 6, w 7⟩

def shaRotate (x : BitVec 32) (n : Nat) : BitVec 32 := x.rotateRight n

/-- One round with constant and schedule word. -/
def shaRound (s : ShaState) (k w : BitVec 32) : ShaState :=
  let s1 := shaRotate s.e 6 ^^^ shaRotate s.e 11 ^^^ shaRotate s.e 25
  let ch := (s.e &&& s.f) ^^^ (~~~s.e &&& s.g)
  let t1 := s.h + s1 + ch + k + w
  let s0 := shaRotate s.a 2 ^^^ shaRotate s.a 13 ^^^ shaRotate s.a 22
  let maj := (s.a &&& s.b) ^^^ (s.a &&& s.c) ^^^ (s.b &&& s.c)
  ⟨t1 + (s0 + maj), s.a, s.b, s.c, s.d + t1, s.e, s.f, s.g⟩

/-- The last sixteen schedule words, oldest first, moved on by one. -/
def shaNext (ws : List (BitVec 32)) : List (BitVec 32) :=
  let w := fun i => ws.getD i 0
  let x := w 1
  let y := w 14
  let s0 := shaRotate x 7 ^^^ shaRotate x 18 ^^^ (x >>> 3)
  let s1 := shaRotate y 17 ^^^ shaRotate y 19 ^^^ (y >>> 10)
  ws.drop 1 ++ [w 0 + s0 + w 9 + s1]

/-- The rounds over the constants, with the schedule window. -/
def shaRounds : List (BitVec 32) → List (BitVec 32) → ShaState → ShaState
  | [], _, s => s
  | k :: ks, ws, s => shaRounds ks (shaNext ws) (shaRound s k (ws.headD 0))

def bigEndian (bs : List Byte) : Nat := bs.foldl (fun n b => 256 * n + b.toNat) 0

/-- `n` bytes of `v`, most significant first. -/
def be (n v : Nat) : List Byte := (le n v).reverse

/-- One 64-byte block. -/
def shaBlock (s : ShaState) (block : List Byte) : ShaState :=
  let ws := (List.range 16).map fun i => BitVec.ofNat 32 (bigEndian ((block.drop (4 * i)).take 4))
  let r := shaRounds shaConstants ws s
  ⟨s.a + r.a, s.b + r.b, s.c + r.c, s.d + r.d, s.e + r.e, s.f + r.f, s.g + r.g, s.h + r.h⟩

/-- `n` blocks of a padded message. -/
def shaBlocks : Nat → List Byte → ShaState → ShaState
  | 0, _, s => s
  | n + 1, bs, s => shaBlocks n (bs.drop 64) (shaBlock s (bs.take 64))

/-- SHA-256 of a message, 32 bytes. DESIGN CHOICE: notes/assumptions/12. -/
def sha256 (bs : List Byte) : List Byte :=
  let pad := (119 - bs.length % 64) % 64
  let msg := bs ++ 0x80 :: zeroBytes pad ++ be 8 (8 * bs.length)
  let s := shaBlocks (msg.length / 64) msg shaInit
  [s.a, s.b, s.c, s.d, s.e, s.f, s.g, s.h].flatMap fun w => be 4 w.toNat
where
  zeroBytes (n : Nat) : List Byte := List.replicate n 0

end Sys2Proof.Machine
end

