-- ==== Sys2Proof/Machine/Lms.lean ====
section
/-!
DEFINITION. The LMS signature check of an image (20 R444, R445): LMS_SHA256_M32_H15 over LMOTS_SHA256_N32_W4 of RFC 8554, whose
formulas the manual names and does not print. PRESUMED: notes/assumptions/85.
-/

namespace Sys2Proof.Machine

/-- The bytes of a field that stand in every hash of one signature: the key's identifier and the leaf number. PRESUMED: notes/assumptions/85. -/
structure LmsLeaf where
  ident : List Byte
  leaf : Nat
  deriving DecidableEq, Repr

/-- The hash of a part of a signature under its identifier, number and tag. PRESUMED: notes/assumptions/85. -/
def LmsLeaf.hash (x : LmsLeaf) (number tag : Nat) (bs : List Byte) : List Byte :=
  sha256 (x.ident ++ be 4 number ++ be 2 tag ++ bs)

def nibbles (bs : List Byte) : List Nat := bs.flatMap fun b => [b.toNat / 16, b.toNat % 16]

/-- The 64 digits of a digest and the 3 of their checksum. PRESUMED: notes/assumptions/85. -/
def otsDigits (digest : List Byte) : List Nat :=
  let ds := nibbles digest
  let sum := sumOf (ds.map fun d => 15 - d)
  ds ++ [sum / 256 % 16, sum / 16 % 16, sum % 16]

/-- A chain of one-time key number `i` from value `d` on to its end. PRESUMED: notes/assumptions/85. -/
def LmsLeaf.chain (x : LmsLeaf) (i d : Nat) (start : List Byte) : List Byte :=
  (List.range (15 - d)).foldl (fun v k => x.hash x.leaf i (be 1 (d + k) ++ v)) start

/-- The one-time public key that a one-time signature (randomizer and chains) of a message gives. PRESUMED: notes/assumptions/85. -/
def LmsLeaf.otsKey (x : LmsLeaf) (message randomizer chains : List Byte) : List Byte :=
  let digits := otsDigits (x.hash x.leaf 0x8181 (randomizer ++ message))
  x.hash x.leaf 0x8080 (mapIdx digits fun i d => x.chain i d (bytesAt chains (32 * i) 32)).flatten

/-- From a node of the tree up to its root, along the path. PRESUMED: notes/assumptions/85. -/
def LmsLeaf.climb (x : LmsLeaf) : List (List Byte) → Nat → List Byte → List Byte
  | [], _, v => v
  | p :: ps, node, v => x.climb ps (node / 2) (x.hash (node / 2) 0x8383 (if node % 2 = 1 then p ++ v else v ++ p))

/-- Whether a signature of 2,668 bytes verifies under a public key of 56 bytes: 4 bytes leaf number, then the one-time signature (type,
randomizer, 67 chains), the tree's type and the 15 nodes of the path (20 R444). PRESUMED: notes/assumptions/85. -/
def lmsVerifies (message sig key : List Byte) : Bool :=
  let word := fun (bs : List Byte) (at_ : Nat) => bigEndian (bytesAt bs at_ 4)
  let x : LmsLeaf := { ident := bytesAt key 8 16, leaf := word sig 0 }
  let ots := x.otsKey message (bytesAt sig 8 32) (bytesAt sig 40 2144)
  let path := (List.range 15).map fun i => bytesAt sig (2188 + 32 * i) 32
  sig.length == 2668 && key.length == 56 && word key 0 == 7 && word key 4 == 3 && word sig 4 == 3 && word sig 2184 == 7 &&
    decide (x.leaf < 2 ^ 15) &&
    x.climb path (2 ^ 15 + x.leaf) (x.hash (2 ^ 15 + x.leaf) 0x8282 ots) == bytesAt key 24 32

end Sys2Proof.Machine
end

