-- ==== Sys2Proof/Machine/Firmware.lean ====
section
/-!
DEFINITION. Firmware images, boot records, updates, fuses, the signature counter and attestation (20).
-/

namespace Sys2Proof.Machine

/-! ### The boot flash (20 R443) -/

/-- The read mode of an identified flash; none where it has no valid SFDP, and is not used (20 R443). -/
def norMode (x : NorFlash) : Option NorMode :=
  if !x.sfdp then none else some (if x.xspi then .octal else if x.fast144 then .quad else .fast)

/-- The clock is at most this many MHz (20 R443). -/
def norMaxMhz : Nat := 100

/-- Where a copy of the boot record stands (20 R443). -/
def norBoot (copy : Nat) : Nat := 0x1000 * copy

/-- Where an image slot stands (20 R443). -/
def norSlot (slot : Nat) : Nat := 0x100000 * (slot + 1)

/-- What the device may find at an address of the flash (20 R443). -/
inductive NorArea where
  | boot (copy : Nat)
  | image (slot : Nat)
  deriving DecidableEq, Repr

/-- The map of the flash: every other address is never accessed (20 R443). -/
def norArea (a : Nat) : Option NorArea :=
  if a < 0x2000 then some (.boot (a / 0x1000))
  else if 0x100000 ≤ a ∧ a < 0x300000 then some (.image (a / 0x100000 - 1))
  else none

/-- The 4 KiB units that hold `len` bytes from `base` on (20 R443). -/
def norUnits (base len : Nat) : List Nat := (List.range (ceilDiv len 4096)).map fun i => base + 4096 * i

/-- The pages of 256 bytes that hold `bs` from `base` on (20 R443). -/
def norPages (base : Nat) (bs : List Byte) : List (Nat × List Byte) :=
  (List.range (ceilDiv bs.length 256)).map fun i => (base + 256 * i, bytesAt bs (256 * i) (min 256 (bs.length - 256 * i)))

/-- Bytes erased and programmed (20 R443, R446, R448). -/
def State.norWrite (s : State) (base : Nat) (bs : List Byte) : State :=
  (s.send (.norErase (norUnits base bs.length))).send (.norProgram (norPages base bs))

/-! ### Boot record and image checks (20 R444 to R446) -/

/-- The boot record in force and its copy: the correct one with the newer Sequence, else PreferredSlot 0 and no trial (20 R446).
DESIGN CHOICE: notes/assumptions/7. -/
def Firmware.record (f : Firmware) : BootRecord × Option Nat :=
  match f.boot0, f.boot1 with
  | none, none => ({ seq := 0, preferred := 0, trial := 0xFF }, none)
  | some r, none => (r, some 0)
  | none, some r => (r, some 1)
  | some r, some q => if wordAfter q.seq r.seq then (q, some 1) else (r, some 0)

/-- A change of the record: the other copy with Sequence + 1; with neither copy correct, copy 0 and copy 1 in turn (20 R446, R453).
DEDUCED: notes/assumptions/69. -/
def Firmware.writeRecord (f : Firmware) (preferred trial : Nat) : Firmware :=
  let r := f.record
  let new : BootRecord := { seq := r.1.seq + 1, preferred, trial }
  match r.2 with
  | some 0 => { f with boot1 := some new }
  | some _ => { f with boot0 := some new }
  | none => { f with boot0 := some new, boot1 := some { new with seq := r.1.seq + 2 } }

/-- The 32 bytes of a boot record (20 R446). -/
def BootRecord.bytes (r : BootRecord) : List Byte :=
  let head := le 4 0x52544F42 ++ le 4 r.seq.toNat ++ le 1 r.preferred ++ le 1 r.trial ++ zeros 18
  head ++ le 4 (crc32 head).toNat

/-- The change of the record, copy by copy, at the flash (20 R443, R446). -/
def State.writeBoot (s : State) (preferred trial : Nat) : State :=
  let f := s.fw.writeRecord preferred trial
  let put := fun (s : State) (copy : Nat) (r : Option BootRecord) => match r with
    | some r => s.norWrite (norBoot copy) r.bytes
    | none => s
  let t := match s.fw.record.2 with
    | some 0 => put s 1 f.boot1
    | some _ => put s 0 f.boot0
    | none => put (put s 0 f.boot0) 1 f.boot1
  { t with fw := f }

/-- The result code of an image: the first check that fails (20 R445). DEDUCED: notes/assumptions/70. -/
def imageCode (i : ImageSlot) (fuse : Nat) : Nat :=
  if i.magic ≠ 0x4C4D4548 ∨ i.formatVersion ≠ 1 ∨ i.payloadLength % 4 ≠ 0 ∨ outside i.payloadLength 4 786432 then 1
  else if !i.keyHashOk then 2
  else if !i.signatureOk then 3
  else if i.targetId ≠ 0x0512 ∨ i.stepping ≠ 0xB0 then 4
  else if i.securityVersion.toNat < fuse then 5
  else if !i.payloadOk then 6
  else 0

/-- An image in bytes (20 R444): header, key, signature and payload checks are computed from them; `found` gives whether the copy into
SRAM read back whole. An image shorter than its header and payload fails the lengths. DESIGN CHOICE: notes/assumptions/12. -/
def imageOf (keyHash bs : List Byte) (found : ImageSlot) : ImageSlot :=
  let len := uAt bs 16 4
  { magic := BitVec.ofNat 32 (uAt bs 0 4), formatVersion := BitVec.ofNat 16 (uAt bs 4 2)
    targetId := BitVec.ofNat 16 (uAt bs 6 2), stepping := BitVec.ofNat 8 (uAt bs 8 1)
    securityVersion := BitVec.ofNat 8 (uAt bs 9 1), firmwareVersion := BitVec.ofNat 32 (uAt bs 12 4)
    payloadLength := if bs.length < 2796 + len then 0 else len, entryOffset := uAt bs 20 4
    payloadHash := bytesAt bs 24 32
    keyHashOk := sha256 (bytesAt bs 56 56) == keyHash
    signatureOk := lmsVerifies (bs.take 128) (bytesAt bs 128 2668) (bytesAt bs 56 56)
    payloadOk := found.payloadOk && sha256 ((bs.drop 2796).take len) == bytesAt bs 24 32 }

/-- What a load finds in a slot: the image the part programmed there, else the flash as the command gives it.
DESIGN CHOICE: notes/assumptions/7. -/
def Firmware.slotImage (f : Firmware) (slot : Nat) (found : ImageSlot) : ImageSlot :=
  match mget f.programmed slot with
  | some bs => imageOf f.vendorHash bs found
  | none => found

/-- SlotStatus after a check of a slot (20 R454). DEDUCED: notes/assumptions/70. -/
def Firmware.checked (f : Firmware) (slot code : Nat) (i : ImageSlot) : Firmware :=
  let entry := le 1 code ++ le 1 i.securityVersion.toNat ++ [0, 0] ++ le 4 i.firmwareVersion.toNat
  { f with slotStatus := overlay f.slotStatus (8 * slot) entry }

/-- A load's check of a slot: its code, and event ImageRejected where it fails (20 R445, R447, R455). DEDUCED: notes/assumptions/70. -/
def State.checkSlot (s : State) (slot : Nat) (i : ImageSlot) : Nat × State :=
  let code := imageCode i s.fw.fuse
  let s := { s with fw := s.fw.checked slot code i }
  (code, s.raiseIf (decide (code ≠ 0)) 0x7001 0x06 (slot % 2 + 2 * code))

def Firmware.runs (f : Firmware) (slot : Nat) (i : ImageSlot) : Firmware :=
  { f with running := slot, version := i.firmwareVersion, security := i.securityVersion.toNat, payloadHash := i.payloadHash }

/-! ### Signature indices (20 R451) -/

/-- The reserved limit in MRAM (20 R451). -/
def State.signatureLimit (s : State) : Nat := s.mram.limit.body.getD 0

def signatureCount : Nat := 1048576

/-- Events of the remaining signatures, each once (20 R451). DEDUCED: notes/assumptions/71. -/
def State.signatureEvents (s : State) : State :=
  let left := signatureCount - s.fw.nextIndex
  if left < 65536 ∧ s.fw.lowRaised = false then
    { s with fw := { s.fw with lowRaised := true } }.raise 0x7002 0x29 left
  else s

def State.exhausted (s : State) : State :=
  if s.fw.exhaustedRaised then s
  else { s with fw := { s.fw with exhaustedRaised := true } }.raise 0x7003 0x29 0

/-- next_index := limit, at a load after reset and at takeover completion (20 R451). DEDUCED: notes/assumptions/71. -/
def State.resumeIndex (s : State) : State :=
  { s with fw := { s.fw with nextIndex := s.signatureLimit } }.signatureEvents

/-- One signature index; a new block of 64 is reserved and stored first where the limit is reached (20 R451).
DEDUCED: notes/assumptions/71. -/
def State.reserve (s : State) : Option Nat × State :=
  let i := s.fw.nextIndex
  if signatureCount ≤ i then (none, s.exhausted)
  else
    let s := if s.signatureLimit ≤ i then
        { s with mram := { s.mram with
            limit := s.mram.limit.write (s.signatureLimit + 64) true, writes := sat32 s.mram.writes } }
      else s
    (some i, { s with fw := { s.fw with nextIndex := i + 1 } }.signatureEvents)

/-- The 5,076 bytes of the signature of a message under an index (20 R450). DESIGN CHOICE: notes/assumptions/12. -/
def signature (index : Nat) (message : List Byte) : List Byte :=
  (List.range 5076).map (Config.signatureByte index message)

/-! ### Loading (20 R447) -/

/-- The slot to run, chosen by the first load after a reset (20 R447): trial slot, preferred slot, the other; the trial is cleared before any check. -/
def State.chooseImage (s : State) (slot0 slot1 : ImageSlot) : Bool × State :=
  let r := s.fw.record.1
  let order := [r.trial, r.preferred, 1 - r.preferred].filter fun x => x ≤ 1
  let s := if r.trial ≠ 0xFF then s.writeBoot r.preferred 0xFF else s
  let check := fun (acc : Bool × State) (slot : Nat) =>
    if acc.1 then acc
    else
      let s := acc.2
      let i := s.fw.slotImage slot (if slot = 0 then slot0 else slot1)
      let got := s.checkSlot slot i
      if got.1 = 0 then
        let kind := if slot = r.trial then 1 else if slot = r.preferred then 0 else 2
        (true, { got.2 with fw := { got.2.fw.runs slot i with imageState := kind } })
      else (false, got.2)
  let got := order.eraseDups.foldl check (false, s)
  (got.1, { got.2 with fw := { got.2.fw with chosen := true, noImage := !got.1 } })

/-- A flash without valid SFDP is not used: no slot is read, none verifies (20 R443). -/
def State.noFlash (s : State) : Bool × State :=
  (false, if s.fw.chosen then s else { s with fw := { s.fw with chosen := true, noImage := true } })

/-- A later load reads RunningSlot only (20 R447). -/
def State.reloadImage (s : State) (slot0 slot1 : ImageSlot) : Bool × State :=
  if s.fw.noImage then (false, s)
  else
    let got := s.checkSlot s.fw.running (s.fw.slotImage s.fw.running (if s.fw.running = 0 then slot0 else slot1))
    (got.1 == 0, got.2)

/-- A load (20 R443, R447): the flash is identified first. -/
def State.loadImage (s : State) (flash : NorFlash) (slot0 slot1 : ImageSlot) : Bool × State :=
  let s := { s with fw := { s.fw with nor := norMode flash } }
  if s.fw.nor.isNone then s.noFlash
  else if s.fw.chosen then s.reloadImage slot0 slot1 else s.chooseImage slot0 slot1

/-! ### Updates (20 R448) -/

def State.startUpdate (s : State) (j : UpdateJob) : State :=
  if s.fw.update = 1 then s
  else { s with fw := { s.fw with job := some j, jobImage := s.reg 0x700010, update := 1 } }

/-- PreferredSlot := RunningSlot, in Trial and Fallback; refused elsewhere (20 R448). DEDUCED: notes/assumptions/69. -/
def State.confirmImage (s : State) : State :=
  if s.fw.update = 1 then s
  else if s.fw.imageState = 0 then { s with fw := { s.fw with update := 5 } }
  else
    let s := s.writeBoot s.fw.running s.fw.record.1.trial
    { s with fw := { s.fw with update := 2, imageState := 0 } }

/-- 0x7000.11 UpdateCommand (20 R448). -/
def State.updateCommand (s : State) (v : Nat) : State :=
  if v = 0x5647 then s.startUpdate .verify
  else if v = 0x5057 then s.startUpdate .program
  else if v = 0x4143 then s.startUpdate .trial
  else if v = 0x434F then s.confirmImage
  else s

/-- The end of a background command (20 R448): `image` gives the outcome of the cryptographic checks, and the other slot as found where a trial is asked for.
DEDUCED: notes/assumptions/70. -/
def State.finishUpdate (s : State) (image : ImageSlot) (readBackOk : Bool) : State :=
  let f := s.fw
  let other := 1 - f.running
  let code := imageCode (imageOf f.vendorHash f.jobImage image) f.fuse
  let put := fun (s : State) (f : Firmware) (status : Nat) => { s with fw := { f with job := none, jobImage := [], update := status } }
  let done := put s
  match f.job with
  | none => s
  | some .verify => done f (if code = 0 then 2 else 3)
  | some .program =>
    if code ≠ 0 then done f 3
    else
      let done := put (s.norWrite (norSlot other) f.jobImage)
      if readBackOk then done { f with programmed := mset f.programmed other f.jobImage } 2
      else done { f with programmed := mdel f.programmed other } 4
  | some .trial =>
    let i := f.slotImage other image
    let code := imageCode i f.fuse
    let f := f.checked other code i
    if code = 0 then
      let s := { s with fw := f }.writeBoot f.record.1.preferred other
      put s s.fw 2
    else done f 3

/-- A takeover aborts a running command; a partly programmed slot is as the flash then holds it (20 R453). -/
def State.abortUpdate (s : State) : State :=
  match s.fw.job with
  | none => s
  | some j =>
    let programmed := if j = .program then mdel s.fw.programmed (1 - s.fw.running) else s.fw.programmed
    { s with fw := { s.fw with job := none, jobImage := [], update := 6, programmed } }

/-- 0x7000.13 FuseAdvance (20 R449). -/
def State.fuseAdvance (s : State) (w : Nat) : State :=
  let v := w - 0x464100
  if 0x464100 ≤ w ∧ s.fw.imageState = 0 ∧ v ≤ s.fw.security ∧ s.fw.fuse < v ∧ v ≤ 64 then
    { s with fw := { s.fw with fuse := v } }
  else s

/-! ### Attestation (20 R452) -/

/-- 0x7000.24 AttestRequest (20 R452). -/
def State.attestRequest (s : State) (v : Nat) : State :=
  if v ≠ 0x4154 ∨ s.fw.attest = 1 then s
  else if signatureCount ≤ s.fw.nextIndex then
    { s with fw := { s.fw with attest := 3, evidence := [] } }.exhausted
  else { s with fw := { s.fw with attest := 1 } }

/-- The evidence record, 128 bytes (20 R452). -/
def State.evidenceRecord (s : State) (index : Nat) : List Byte :=
  let f := s.fw
  le 4 0x56544541 ++ le 2 1 ++ le 2 s.part.device ++ fit 16 0 f.deviceId ++ fit 32 0 (s.reg 0x700023) ++
    s.localTime.bytes ++ le 2 s.epochInForce.toNat ++ le 4 s.pipe.frame.toNat ++ le 4 f.version.toNat ++
    le 1 f.security ++ le 1 f.fuse ++ le 1 f.imageState ++ le 1 f.running ++ fit 32 0 f.payloadHash ++ le 4 index ++
    zeros 12

def State.attestDone (s : State) : State :=
  if s.fw.attest ≠ 1 then s
  else
    match s.reserve with
    | (none, s) => { s with fw := { s.fw with attest := 3, evidence := [] } }
    | (some i, s) =>
      let r := s.evidenceRecord i
      { s with fw := { s.fw with attest := 2, evidence := r ++ signature i r } }

/-! ### The commands -/

/-- The units firmware commands leave alone. -/
def fwFrame : List UnitId :=
  [.rw, .rwp, .txn, .pipe, .edu, .bsc, .rfe, .tda, .hac, .prx, .mcx, .fmt, .linkA, .linkB, .emg, .cu, .wcu, .mon,
   .thermal, .ntu, .spring, .cal, .part]

def execVerifyImage (t : Nat) : State → Host.Outcome State Fault Refusal :=
  runUnit t (.kpp :: .mram :: .evr :: fwFrame) fun s => s.startUpdate .verify

def execProgramImage (t : Nat) : State → Host.Outcome State Fault Refusal :=
  runUnit t (.kpp :: .mram :: .evr :: fwFrame) fun s => s.startUpdate .program

def execActivateTrial (t : Nat) : State → Host.Outcome State Fault Refusal :=
  runUnit t (.kpp :: .mram :: .evr :: fwFrame) fun s => s.startUpdate .trial

def execConfirmImage (t : Nat) : State → Host.Outcome State Fault Refusal :=
  runUnit t (.kpp :: .mram :: .evr :: fwFrame) fun s => s.confirmImage

def execUpdateComplete (t : Nat) (image : ImageSlot) (readBackOk : Bool) : State → Host.Outcome State Fault Refusal :=
  runUnit t (.kpp :: .mram :: .evr :: fwFrame) fun s => s.finishUpdate image readBackOk

def execFuseAdvance (t : Nat) (v : Word) : State → Host.Outcome State Fault Refusal :=
  runUnit t (.kpp :: .mram :: .evr :: fwFrame) fun s => s.fuseAdvance v.toNat

def execAttestRequest (t : Nat) (v : Word) : State → Host.Outcome State Fault Refusal :=
  runUnit t (.mram :: fwFrame) fun s => s.attestRequest v.toNat

def execAttestComplete (t : Nat) : State → Host.Outcome State Fault Refusal :=
  runUnit t fwFrame fun s => s.attestDone

end Sys2Proof.Machine
end

