-- ==== Sys2Proof/Machine/Evr.lean ====
section
/-!
DEFINITION. The Event Recorder (18): ring, incidents, flash management, journal and readout.
-/

namespace Sys2Proof.Machine

/-! ### The ring (18 R400 to R403) -/

def segmentBytes : Nat := 33554432

/-- C, RingBytes (18 R402). -/
def Evr.ringBytes (e : Evr) : Nat := (48 - e.excluded.length) * segmentBytes

/-- Ring feed of a frame in bytes: the point records and the O2 histograms, whichever port carries them (18 R402, 03 R93). -/
def ringFrameBytes (p : Plan) : Nat :=
  pointBytes p + if p.output = 2 then cellHistBytes p * sumOf ((List.range p.columns).map (exportedCells p)) else 0

/-- r × 10⁴ in bytes/s (18 R402). -/
def ringRate (p : Plan) : Nat := ringFrameBytes p * p.frameRate * 101

/-- The budget b × 10¹³ bytes (18 R402). -/
def Evr.budgetScaled (e : Evr) (p : Plan) : Nat :=
  (e.ringBytes - 67108864) * 10000000000000 - (ringRate p - 6000000000000) * 2 * (planN p 0x640006 * p.period)

/-- b, PreTriggerTime and ReducedPreTrigger (18 R402). A feed of 0 bytes leaves PreTriggerTime unstated: `free`.
DESIGN CHOICE: notes/assumptions/64. -/
def Evr.rebudget (e : Evr) (p : Plan) (free : Nat) : Evr :=
  let b := e.budgetScaled p
  let r := ringRate p
  { e with budget := b / 10000000000000, reduced := decide (6000000000000 < r)
           preMs := if r = 0 then free else b / (1000000 * r) }

/-- DESIGN CHOICE: notes/assumptions/64. -/
def State.recorderBudget (s : State) (p : Plan) : State :=
  let (f, s) := if ringRate p = 0 then s.free else (0, s)
  { s with evr := s.evr.rebudget p (f % 2 ^ 32) }

/-- Segments locked for an incident that is not Stored (18 R406, R407). -/
def Evr.locked (e : Evr) (seg : Nat) : Bool := e.incidents.any fun i => i.segs.contains seg

/-- The segment of the next unit: the one being filled while the unit fits, else the oldest one free (18 R400).
DEDUCED: notes/assumptions/63. -/
def Evr.place (e : Evr) (size : Nat) : Option Nat :=
  if !e.excluded.contains e.segment && decide (e.segFill + size ≤ segmentBytes) then some e.segment
  else e.order.find? fun x => x != e.segment && !e.excluded.contains x && !e.locked x

/-- A unit into its segment; a segment opened again loses its older units. DEDUCED: notes/assumptions/63. -/
def Evr.put (e : Evr) (u : RingUnit) (seg : Nat) : Evr :=
  let e := if seg = e.segment then e
    else { e with segment := seg, segFill := 0, order := (e.order.filter (· != seg)) ++ [seg]
                  ring := (e.ring.filter fun x => x.seg != seg || x.kind == 9).dropWhile fun x => x.kind == 9 }
  let u := { u with seg }
  { e with ring := e.ring ++ [u], segFill := e.segFill + u.size }

/-- The open incident takes a unit of its window (18 R406). -/
def Incident.take (i : Incident) (u : RingUnit) : Incident :=
  if i.opened then { i with payload := i.payload ++ [u], lastFrame := u.frame, segs := insertSet u.seg i.segs
                            firstFrame := if i.payload.isEmpty then u.frame else i.firstFrame } else i

/-- The first byte address of a ring segment (18 R400). -/
def segmentBase (seg : Nat) : Nat := 0x20000000 + segmentBytes * seg

/-- RING_UNIT_WRITE with its stall and the close of a window (18 R400, R403, R406); its bytes go into the DRAM (10 R247). -/
def State.ringWrite (s : State) : State :=
  match s.evr.feed with
  | [] => s
  | u :: rest =>
    let s := { s with evr := { s.evr with feed := rest } }
    let s := match s.evr.place u.size with
      | some seg =>
        let e := s.evr.put u seg
        { s with evr := { e with incidents := e.incidents.map fun (i : Incident) => i.take { u with seg } } }.writeBytes
          .ring (segmentBase seg + e.segFill - u.size) u.bytes
      | none =>
        let e := s.evr
        let gap := fun (i : Incident) => if i.opened then { i.flag 2 with gapUnits := i.gapUnits + 1 } else i
        let raised := e.stalled == some u.frame
        let lost : RingUnit := { u with kind := 9, bytes := [] }
        { s with evr := { e with stallUnits := sat32 e.stallUnits, stalled := some u.frame
                                 ring := e.ring ++ [lost], incidents := e.incidents.map gap } }.raiseIf
          (!raised) 0x6406 0x13 u.frame.toNat
    if u.last then { s with evr := s.evr.closeWindow u.frame s.now } else s

/-- Segments that hold a degraded page leave the ring at a frame boundary, a locked one after its dump (18 R401).
DEDUCED: notes/assumptions/63. -/
def State.excludeSegments (s : State) : State :=
  let degraded := fun (seg : Nat) =>
    s.mcx.degraded.any fun (d : Degraded) => 0x20000 ≤ d.page && (d.page - 0x20000) / 8192 == seg
  let new := (List.range 48).filter fun x => !s.evr.excluded.contains x && !s.evr.locked x && degraded x
  if new.isEmpty then s
  else { s with evr := { s.evr with
      excluded := new.foldl (fun l x => insertSet x l) s.evr.excluded
      ring := s.evr.ring.filter fun u => !new.contains u.seg || u.kind == 9 } }

/-- The recorder at a frame boundary (18 R400 to R402, R420): `changed` where a new plan comes into force. DEDUCED: notes/assumptions/63. -/
def State.recorderBoundary (s : State) (p : Plan) (frame : Word) (changed : Bool) : State :=
  if !s.part.variant.hasRecorder then s
  else
    let before := s.evr.excluded.length
    let s := s.excludeSegments
    let on := p.recorder
    let s :=
      if on && !s.evr.armed then { s with evr := { s.evr with armed := true, ring := [] } }
      else if !on && s.evr.armed then
        let s := { s with evr := { s.evr with
            armed := false, preMs := 0, reduced := false
            incidents := s.evr.incidents.map fun (i : Incident) => if i.opened then { i with endFrame := frame - 1 } else i } }
        s.feedEnd (frame - 1)
      else s
    if on && (changed || before != s.evr.excluded.length) then s.recorderBudget p else s

/-- 0x6400.09 RecorderTrigger (18 R404). DEDUCED: notes/assumptions/60. -/
def State.recorderTrigger (s : State) (v : Nat) : State := if v = 0x5452 then s.trigger 0 else s

/-! ### Flash blocks (18 R410, R413, R414, R416) -/

def blockKey (target block : Nat) : Nat := target * 2 ^ 24 + block

def Evr.block (e : Evr) (key : Nat) : FlashBlock := (mget e.blocks key).getD {}

def Evr.setBlock (e : Evr) (key : Nat) (b : FlashBlock) : Evr := { e with blocks := mset e.blocks key b }

def Evr.updBlock (e : Evr) (key : Nat) (f : FlashBlock → FlashBlock) : Evr := e.setBlock key (f (e.block key))

/-- Good blocks of the targets in use, in rising order, capacity held to 1 Tbit (18 R410). -/
def Evr.goodBlocks (e : Evr) : List Nat :=
  let all := (mapIdx e.targets fun t (x : FlashTarget) => if bitOf e.used t then (List.range x.blocks).map (blockKey t) else []).flatten
  (all.filter fun k => !(e.block k).bad).take (2 ^ 37 / max 1 (e.pageBytes * e.pagesPerBlock))

/-- Blocks for incidents: all but the bad-block table's two and the journal's sixteen, the first good ones of target 0 (18 R413, R416). -/
def Evr.dataBlocks (e : Evr) : List Nat := e.goodBlocks.drop 18

def Evr.freeBlocks (e : Evr) : List Nat := e.dataBlocks.filter fun k => (e.block k).free

/-- The entry of `l` with the least `f`, the first of several. -/
def leastBy (f : Nat → Nat) : List Nat → Option Nat
  | [] => none
  | x :: xs =>
    match leastBy f xs with
    | none => some x
    | some y => if f y < f x then some y else some x

/-- The next block: free, of the lowest erase count (18 R414). -/
def Evr.nextBlock (e : Evr) : Option Nat := leastBy (fun k => (e.block k).erases) e.freeBlocks

/-- EraseCountSpread (18 R414). -/
def Evr.spread (e : Evr) : Nat :=
  let counts := e.dataBlocks.map fun k => (e.block k).erases
  maxOf counts - counts.foldl min (counts.headD 0)

def Evr.bytesPerBlock (e : Evr) : Nat := e.pageBytes * e.pagesPerBlock

/-- A block whose data is given up, waiting for its erase. -/
def Evr.release (e : Evr) (key : Nat) : Evr :=
  e.updBlock key fun b => { b with free := false, erasing := true, refresh := false }

/-- An incident removed, its blocks released (18 R407, R418). -/
def Evr.remove (e : Evr) (n : Nat) : Evr :=
  match e.incidents.find? fun i => i.number == n with
  | none => e
  | some i => i.blocks.foldl Evr.release { e with incidents := e.incidents.filter fun x => x.number != n, noSpace := false }

def Incident.settled (i : Incident) : Bool := i.state == .stored || i.state == .recovered

/-- INCIDENT_RECLAIM (18 R418): with the free pool empty, the oldest unprotected incident goes; where all are protected, writing waits. A reclaimed block can be used once erased.
DEDUCED: notes/assumptions/65. -/
def State.reclaim (s : State) : State :=
  let e := s.evr
  if e.nextBlock.isSome ∨ e.dataBlocks.any (fun k => (e.block k).erasing) then s
  else
    match e.incidents.find? fun i => i.settled && !i.isProtected with
    | some i => { s with evr := e.remove i.number }
    | none =>
      if e.noSpace then s else { s with evr := { e with noSpace := true } }.raise 0x6408 0x20 0x10

/-- A block allocated to an incident, its journal entry first (18 R416). -/
def Evr.allocate (e : Evr) (incident key : Nat) : Evr :=
  { (e.updBlock key fun b => { b with free := false }) with journal := e.journal ++ [.allocate incident key] }

/-- A block retired, with event BlockRetired (18 R413). -/
def State.retire (s : State) (key : Nat) : State :=
  { s with evr := { (s.evr.updBlock key fun b => { b with bad := true, free := false, erasing := false }) with
      grownBad := sat32 s.evr.grownBad } }.raise 0x6405 0x26 key

/-! ### Writing an incident (18 R407 to R409) -/

def Evr.writing (e : Evr) : Option Incident := e.incidents.find? fun i => i.state == .writing

def Incident.bytes (i : Incident) : Nat := unitBytes i.payload

/-- Bytes of the page being programmed: a whole page, or the rest once the window has closed. -/
def Evr.pageSize (e : Evr) (i : Incident) : Option Nat :=
  let left := i.bytes - i.written
  if e.pageBytes = 0 ∨ left = 0 then none
  else if e.pageBytes ≤ left then some e.pageBytes
  else if i.opened then none else some left

/-- Segments all of whose bytes have passed are unlocked (18 R407): payload bytes before each unit against `written`. -/
def Incident.unlock (i : Incident) (current : Nat) : Incident :=
  let rest := (i.payload.foldl (fun (acc : Nat × List Nat) u =>
    (acc.1 + u.size, if i.written < acc.1 + u.size then insertSet u.seg acc.2 else acc.2)) (0, [])).2
  { i with segs := i.segs.filter fun x => rest.contains x || (i.opened && x == current) }

/-- The page in progress passed. -/
def State.pagePassed (s : State) (i : Incident) (n : Nat) : State :=
  let f := fun (i : Incident) => ({ i with written := i.written + n }).unlock s.evr.segment
  { s with evr := { s.evr with incidents := updateIncident i.number f s.evr.incidents } }

/-- The block of the next page of an incident, allocated where the last one is full (18 R416); none while the pool is empty.
DEDUCED: notes/assumptions/65. -/
def State.pageBlock (s : State) (i : Incident) : Option Nat × State :=
  let n := i.written / max 1 s.evr.bytesPerBlock
  match i.blocks[n]? with
  | some k => (some k, s)
  | none =>
    let s := s.reclaim
    match s.evr.nextBlock with
    | none => (none, s)
    | some k =>
      let e := s.evr.allocate i.number k
      (some k, { s with evr := { e with
        incidents := updateIncident i.number (fun i => { i with blocks := i.blocks ++ [k] }) e.incidents } })

/-- A page of `n` bytes may end now: the journal is replayed, the interlock is open or the page was in progress when it closed, and
the payload has come at no more than D, 600 MB/s (18 R402, R407, R416, R417). DEDUCED: notes/assumptions/65. -/
def Evr.pageMayEnd (e : Evr) (i : Incident) (n now : Nat) : Bool :=
  e.replayed && (!e.interlock || e.finishing) && decide (5 * (i.written + n) ≤ 3 * (now - i.writeFrom))

/-- PAGE_PROGRAM_COMPLETE (18 R407, R413, R416 to R418). DEDUCED: notes/assumptions/65. -/
def State.pageComplete (s : State) (ok : Bool) : State :=
  match s.evr.writing with
  | none => s
  | some i =>
    match s.evr.pageSize i with
    | none => s
    | some n =>
      if s.evr.pageMayEnd i n s.now = false then s
      else
        let s := { s with evr := { s.evr with finishing := false } }
        match s.pageBlock i with
        | (none, s) => s
        | (some key, s) =>
          if ok then s.pagePassed i n
          else
            -- the block's pages are programmed again into a new block from the staging copy
            let s := s.retire key
            let per := max 1 s.evr.bytesPerBlock
            let back := fun (i : Incident) => { i with written := i.written / per * per, blocks := i.blocks.filter (· != key) }
            { s with evr := { s.evr with incidents := updateIncident i.number back s.evr.incidents } }

/-- First and last sequence numbers of the units numbered on a port (18 R400, R408). DEDUCED: notes/assumptions/78. -/
def Incident.numbered (i : Incident) : List Word := (i.payload.filter fun u => u.seq != 0xFFFFFFFF).map RingUnit.seq

/-- The incident header, 128 bytes (18 R408). DEDUCED: notes/assumptions/78. -/
def Incident.header (i : Incident) (device : Nat) : List Byte :=
  le 4 0x5249584D ++ le 2 1 ++ le 2 device ++ le 4 i.number ++ le 2 i.flags ++ le 1 i.source ++ le 1 i.port ++
    i.time.bytes ++ le 2 i.epoch.toNat ++ le 4 i.trigFrame.toNat ++ le 4 i.firstFrame.toNat ++ le 4 i.lastFrame.toNat ++
    le 4 (i.numbered.headD 0).toNat ++ le 4 (i.numbered.getLastD 0).toNat ++ le 4 i.preBytes ++ le 4 i.gapUnits ++
    le 8 i.bytes ++ fit 32 0 i.hash ++ le 4 i.merged ++ zeros 28

def Incident.payloadBytes (i : Incident) : List Byte := i.payload.flatMap RingUnit.bytes

/-- The header completed and signed (18 R407, R409): 5,076 bytes of zero where signing is refused. DEDUCED: notes/assumptions/65. -/
def State.signIncident (s : State) (i : Incident) : Incident × State :=
  let i := { i with hash := sha256 i.payloadBytes }
  match s.reserve with
  | (none, s) => ({ i with signature := zeros 5076 }, s)
  | (some n, s) => ({ i with signature := signature n (i.header s.part.device) }, s)

/-- The next queued incident starts to be written (18 R407). -/
def Evr.startNext (e : Evr) (now : Nat) : Evr :=
  match e.incidents.find? fun i => i.state == .queued with
  | some i => { e with incidents := updateIncident i.number (fun i => { i with state := .writing, writeFrom := now }) e.incidents }
  | none => e

/-- INCIDENT_STORED (18 R407, R416, R420). DEDUCED: notes/assumptions/65. -/
def State.incidentStored (s : State) : State :=
  match s.evr.writing with
  | none => s
  | some i =>
    if i.opened || s.evr.interlock || !s.evr.replayed || decide (i.written < i.bytes) || decide (s.evr.used = 0) then s
    else
      let (i, s) := s.signIncident i
      let e := s.evr
      let e := { e with
        journal := e.journal ++ [JournalEntry.commit i.number]
        incidents := updateIncident i.number (fun _ => { i with state := .stored, segs := [] }) e.incidents }
      { s with evr := e.startNext s.now }.raise 0x6402 0x40 i.number

/-- BLOCK_ERASE_COMPLETE (18 R413, R417): while the interlock is closed only an erase that was in progress completes. -/
def State.eraseComplete (s : State) (target block : Nat) (ok : Bool) : State :=
  let key := blockKey target block
  let b := s.evr.block key
  if !b.erasing || (s.evr.interlock && !s.evr.finishErase.contains key) then s
  else
    let s := { s with evr := { s.evr with finishErase := s.evr.finishErase.filter (· != key) } }
    if ok then
      { s with evr := { (s.evr.setBlock key { b with erases := b.erases + 1, erasing := false, free := true }) with noSpace := false } }
    else s.retire key

/-! ### Identification, journal replay (18 R410, R416; 22 R484) -/

/-- MT/s of timing mode n of NV-DDR2 and NV-DDR3, and of the asynchronous interface (PRESUMED, the ONFI tables).
PRESUMED: notes/assumptions/66. -/
def ddrRates : List Nat := [66, 80, 133, 166, 200, 266, 333, 400]

/-- PRESUMED: notes/assumptions/66. -/
def asyncRates : List Nat := [10, 20, 28, 33, 40, 50]

/-- The fastest mode up to `top` within the rate; mode 0 where none is. PRESUMED: notes/assumptions/66. -/
def fastestMode (rates : List Nat) (top rate : Nat) : Nat :=
  maxOf ((List.range rates.length).filter fun m => m ≤ top && rates.getD m 0 ≤ rate)

/-- A target's own checks (18 R410). -/
def targetAccepted (x : FlashTarget) : Bool :=
  x.present && x.paramOk && (x.pageBytes == 8192 || x.pageBytes == 16384) &&
    decide (126 * (x.pageBytes / 1024) + 32 ≤ x.spareBytes)

def targetGeometry (x : FlashTarget) : Nat × Nat × Nat := (x.pageBytes, x.blocks, x.pagesPerBlock)

/-- Targets by number, 0 to 3; a mode above 15 is one the parameter page does not offer (18 R410; 22 R484). -/
def State.identifyTargets (s : State) (vnandMV : Nat) (targets : List FlashTarget) : State :=
  let targets := targets.take 4
  let low := !outside vnandMV 1164 1236
  let high := !outside vnandMV 1746 1854
  if !low && !high then
    { s with evr := { s.evr with targets, used := 0, iface := 0 } }.raise 0x6408 0x20 0xF
  else
    let first := (targets.find? targetAccepted).map targetGeometry
    let good := fun (x : FlashTarget) => targetAccepted x && first == some (targetGeometry x)
    let used := sumOf (mapIdx targets fun i x => if good x then 2 ^ i else 0)
    let rejected := sumOf (mapIdx targets fun i x => if x.present && !good x then 2 ^ i else 0)
    let kept := targets.filter good
    let mode := fun (f : FlashTarget → Nat) => kept.foldl (fun m x => min m (f x)) 16
    let offers := fun (f : FlashTarget → Nat) => kept.all fun x => f x ≤ 15
    let rate := s.evr.maxRate
    let iface := if kept.isEmpty then 0
      else if low && offers FlashTarget.ddr3Mode then 32 + fastestMode ddrRates (mode FlashTarget.ddr3Mode) rate
      else if high && offers FlashTarget.ddr2Mode then 16 + fastestMode ddrRates (mode FlashTarget.ddr2Mode) rate
      else fastestMode asyncRates (mode FlashTarget.asyncMode) rate
    let page := (first.getD (0, 0, 0)).1
    let ppb := (first.getD (0, 0, 0)).2.2
    { s with evr := { s.evr with targets, used, iface, pageBytes := page, pagesPerBlock := ppb } }.raiseIf
      (decide (rejected ≠ 0)) 0x6408 0x20 rejected

/-- FLASH_IDENTIFY (18 R410): once at each reset. -/
def State.identify (s : State) (vnandMV : Nat) (targets : List FlashTarget) : State :=
  if s.evr.identified then s
  else ({ s with evr := { s.evr with identified := true } } : State).identifyTargets vnandMV targets

/-- The units of the first `n` bytes of a payload. -/
def cutUnits (n : Nat) : List RingUnit → List RingUnit
  | [] => []
  | u :: us =>
    if n = 0 then [] else if u.size ≤ n then u :: cutUnits (n - u.size) us else [{ u with bytes := u.bytes.take n }]

/-- An interrupted incident kept as far as its pages go: header rebuilt with Truncated, signed and committed (18 R416). -/
def State.recover (s : State) (i : Incident) : State :=
  let payload := cutUnits i.written i.payload
  let i := { (i.flag 3) with
    payload, opened := false, segs := [], state := .recovered
    lastFrame := (payload.getLast?.map RingUnit.frame).getD i.lastFrame }
  let (i, s) := s.signIncident i
  { s with evr := { s.evr with
      incidents := updateIncident i.number (fun _ => i) s.evr.incidents
      journal := s.evr.journal ++ [JournalEntry.commit i.number] } }.raise 0x6407 0x40 i.number

/-- The blocks of an incident up to the first whose allocation the journal does not hold (18 R416). -/
def Incident.blocksIn (i : Incident) (journal : List JournalEntry) : List Nat :=
  i.blocks.takeWhile fun k => journal.contains (.allocate i.number k)

/-- An incident without a commit entry as the journal and its pages give it (18 R416). DEDUCED: notes/assumptions/65. -/
def Evr.found (e : Evr) (journal : List JournalEntry) (i : Incident) : Incident :=
  let blocks := i.blocksIn journal
  let good := match (e.targets.flatMap FlashTarget.pages).find? fun x => x.1 == i.number with
    | some x => x.2 * e.pageBytes
    | none => i.written
  { i with blocks, written := min i.written (min good (blocks.length * e.bytesPerBlock)) }

/-- The journal entries before the first with a wrong CRC-32; the journal lies in target 0 (18 R416). -/
def Evr.entriesGood (e : Evr) : Nat := (e.targets.head?.bind FlashTarget.entries).getD e.journal.length

/-- The journal replayed up to its first entry with a wrong CRC-32 (18 R416, R420): incidents with allocations
and no commit are left for their recovery, those without either are gone, and blocks whose allocation is gone wait for their erase.
DEDUCED: notes/assumptions/65. -/
def Evr.replay (e : Evr) : Evr :=
  let journal := e.journal.take e.entriesGood
  let committed := fun (i : Incident) => journal.contains (.commit i.number)
  let old := fun (i : Incident) => i.state != .queued
  let dropped := e.incidents.flatMap fun (i : Incident) => if committed i then [] else i.blocks.drop (i.blocksIn journal).length
  let kept := (e.incidents.filter fun i => committed i || !(old i) || !(i.blocksIn journal).isEmpty).map fun i =>
    if committed i || !(old i) then i else e.found journal i
  dropped.foldl Evr.release { e with journal, incidents := kept, replayed := true }

/-- JOURNAL_REPLAY (18 R416, R420): once after the flash has been identified; then the next incident can be written. -/
def State.replay (s : State) : State :=
  if !s.evr.identified || s.evr.replayed then s
  else
    let e := s.evr.replay
    let lost := e.incidents.filter fun i => i.state != .queued && !e.journal.contains (.commit i.number)
    let s := lost.foldl State.recover { s with evr := e }
    if s.evr.writing.isSome then s else { s with evr := s.evr.startNext s.now }

/-! ### Refresh, wear levelling and format (18 R412 to R415, R420) -/

def Evr.owner (e : Evr) (key : Nat) : Option Incident := e.incidents.find? fun i => i.blocks.contains key

def Incident.moveBlock (i : Incident) (old new : Nat) : Incident :=
  { i with blocks := i.blocks.map fun k => if k = old then new else k }

/-- An incident's block copied to another one and erased. -/
def Evr.move (e : Evr) (i : Incident) (old new : Nat) : Evr :=
  let e := e.allocate i.number new
  ({ e with incidents := updateIncident i.number (fun i => i.moveBlock old new) e.incidents }).release old

/-- The read of a block ends no sooner than its bytes take at 8 MB/s (18 R415). -/
def Evr.refreshDue (e : Evr) (now : Nat) : Bool :=
  match e.refreshAt with
  | some a => decide (a + 125 * e.bytesPerBlock ≤ now)
  | none => true

/-- REFRESH_READ (18 R412, R415): `corrections` bits corrected per codeword, and the codewords that could not be corrected. -/
def State.refresh (s : State) (target block : Nat) (corrections : List Nat) (bad : Nat) : State :=
  let key := blockKey target block
  match s.evr.owner key with
  | none => s
  | some i =>
    if s.evr.writing.isSome || !s.evr.refreshDue s.now then s
    else
      let e := { s.evr with refreshAt := some s.now }
      let scheduled := (e.block key).refresh || corrections.any fun n => s.regN 0x64002B < n
      let e := { (e.updBlock key fun b => { b with refresh := scheduled }) with
        corrected := wrap64 e.corrected (count (fun n => n != 0) corrections)
        uncorrectable := sat32 e.uncorrectable bad
        incidents := updateIncident i.number (fun i => { i with dataLost := i.dataLost || decide (0 < bad) }) e.incidents }
      match e.nextBlock with
      | some new =>
        if scheduled && !e.interlock then { s with evr := { (e.move i key new) with refreshed := sat32 e.refreshed } }
        else { s with evr := e }
      | none => { s with evr := e }

/-- WEAR_LEVEL_MOVE (18 R414). -/
def State.wearLevel (s : State) : State :=
  let e := s.evr
  if e.spread ≤ 1000 ∨ e.writing.isSome ∨ e.interlock then s
  else
    let held := e.dataBlocks.filter fun k => ((e.owner k).map Incident.settled).getD false
    match leastBy (fun k => (e.block k).erases) held,
        leastBy (fun k => maxOf (e.freeBlocks.map fun x => (e.block x).erases) - (e.block k).erases) e.freeBlocks with
    | some old, some new =>
      match e.owner old with
      | some i => { s with evr := e.move i old new }
      | none => s
    | _, _ => s

/-- FLASH_FORMAT (18 R413, R420, R421): factory marks are read, every good block goes to its erase, the directory is empty and numbers restart.
DEDUCED: notes/assumptions/65. -/
def State.flashFormat (s : State) (v : Nat) : State :=
  let e := s.evr
  if v ≠ 0x464D ∨ e.incidents.any (fun i => i.state != .stored) ∨ e.used = 0 ∨ e.interlock then s
  else
    let marked := (mapIdx e.targets fun t (x : FlashTarget) => if bitOf e.used t then x.factoryBad.map (blockKey t) else []).flatten
    let e := marked.foldl (fun (e : Evr) k => e.updBlock k fun b => { b with bad := true, factoryBad := true, free := false }) e
    let e := e.goodBlocks.foldl Evr.release { e with incidents := [], last := 0, journal := [], noSpace := false }
    { s with evr := { e with factoryBad := BitVec.ofNat 32 (count (fun x => x.2.factoryBad) e.blocks), heldTo := none } }

/-! ### The flash interlock (18 R417), in a round of the Spring -/

/-- The erases in progress: one at a target (18 R417). DEDUCED: notes/assumptions/65. -/
def Evr.erases (e : Evr) : List Nat :=
  (List.range 4).filterMap fun t => (e.blocks.find? fun x => x.2.erasing && x.1 / 2 ^ 24 == t).map Prod.fst

/-- The interlock after a round whose temperature is `temp`, `broken` where the NTC is declared broken. -/
def State.flashInterlock (s : State) (temp : Int) (broken : Bool) : State :=
  let e := s.evr
  let lo := s.regI 0x640031
  let hi := s.regI 0x640032
  if e.interlock then
    let inside := !broken && decide (lo + 48 ≤ temp ∧ temp ≤ hi - 48)
    let run := if inside then e.interlockRun + 1 else 0
    if run < 4 then { s with evr := { e with interlockRun := run } }
    else
      let ns := e.interlockNs + (s.now - e.interlockFrom.getD s.now)
      { s with evr := { e with interlock := false, interlockRun := 0, interlockNs := ns, interlockFrom := none } }.raise
        0x6404 0x33 0
  else
    let out := decide (temp < lo ∨ hi < temp)
    let run := if out then e.interlockRun + 1 else 0
    if run < 4 ∧ broken = false then { s with evr := { e with interlockRun := run } }
    else
      let page := match e.writing with
        | some i => (e.pageSize i).isSome
        | none => false
      { s with evr := { e with interlock := true, interlockRun := 0, interlockFrom := some s.now, finishing := page, finishErase := e.erases } }.raise
        0x6404 0x33 1

/-- InterlockTime in seconds (18 R421). -/
def State.interlockTime (s : State) : Nat :=
  (s.evr.interlockNs + (match s.evr.interlockFrom with | some a => s.now - a | none => 0)) / 1000000000

/-! ### Directory and readout (18 R419, R421) -/

/-- 0x6400.44 (18 R421). -/
def State.protect (s : State) (n : Nat) (on : Bool) : State :=
  { s with evr := { s.evr with incidents := updateIncident n (fun i => { i with isProtected := on }) s.evr.incidents } }

/-- 0x6400.45: a Stored or Recovered incident that is not protected is removed (18 R407, R421). -/
def State.deleteIncident (s : State) (n : Nat) : State :=
  if s.evr.incidents.any fun i => i.number == n && i.settled && !i.isProtected then { s with evr := s.evr.remove n } else s

/-- A directory entry, 32 bytes (18 R421). -/
def Incident.entry (i : Incident) : List Byte :=
  let state := match i.state with | .queued => 0 | .writing => 1 | .stored => 2 | .recovered => 3
  le 4 i.number ++ le 1 state ++ le 1 (bNat i.opened + 2 * bNat i.isProtected + 4 * bNat i.dataLost) ++ le 2 i.flags ++
    i.time.bytes ++ [0, 0] ++ le 4 i.trigFrame.toNat ++ le 8 i.bytes

/-- IncidentDirectory: the newest 256 entries. DEDUCED: notes/assumptions/65. -/
def Evr.directory (e : Evr) : List Byte :=
  (e.incidents.drop (e.incidents.length - 256)).flatMap Incident.entry

/-- The whole layout of an incident (18 R408). -/
def Incident.layout (i : Incident) (device : Nat) : List Byte := i.header device ++ i.signature ++ i.payloadBytes

/-- IncidentData: the bytes of the window selected; empty for an incident not Stored or Recovered (18 R419). -/
def State.incidentData (s : State) : List Byte :=
  match s.evr.incidents.find? fun i => i.number == s.regN 0x640041 && i.settled with
  | none => []
  | some i => ((i.layout s.part.device).drop (2 ^ 32 * s.regN 0x640042)).take (2 ^ 32)

/-- RecorderState (18 R421). -/
def Evr.stateCode (e : Evr) : Nat :=
  if e.incidents.any fun i => !i.settled then 2 else if e.armed then 1 else 0

/-! ### The commands -/

/-- The units the recorder's commands leave alone. -/
def evrFrame : List UnitId :=
  [.rw, .rwp, .txn, .pipe, .edu, .bsc, .rfe, .tda, .hac, .prx, .fmt, .linkA, .linkB, .emg, .cu, .wcu, .mon, .thermal,
   .ntu, .spring, .cal, .part]

/-- A command of the recorder: nothing happens on a variant without it (00 R1). -/
def runEvr (t : Nat) (frame : List UnitId) (f : State → State) : State → Host.Outcome State Fault Refusal :=
  runMain t (frame ++ evrFrame) fun s => if s.part.variant.hasRecorder then f s else s

/-- A write of one of its objects, or a step of its management in the active control unit (14 R337, R338). -/
def runEvrUnit (t : Nat) (frame : List UnitId) (f : State → State) : State → Host.Outcome State Fault Refusal :=
  runEvr t frame fun s => if s.unitActs then f s else s

def execRecorderTrigger (t : Nat) (v : Word) : State → Host.Outcome State Fault Refusal :=
  runEvrUnit t [.mram, .mcx, .fw] fun s => s.recorderTrigger v.toNat

def execRingUnitWrite (t : Nat) : State → Host.Outcome State Fault Refusal :=
  runEvr t [.mram, .fw] fun s => s.ringWrite

def execPageProgramComplete (t : Nat) (ok : Bool) : State → Host.Outcome State Fault Refusal :=
  runEvr t [.mram, .mcx, .fw] fun s => s.pageComplete ok

def execBlockEraseComplete (t target block : Nat) (ok : Bool) : State → Host.Outcome State Fault Refusal :=
  runEvr t [.mram, .mcx, .fw] fun s => s.eraseComplete target block ok

def execIncidentStored (t : Nat) : State → Host.Outcome State Fault Refusal :=
  runEvrUnit t [.mcx] fun s => s.incidentStored

def execFlashIdentify (t vnandMV : Nat) (targets : List FlashTarget) : State → Host.Outcome State Fault Refusal :=
  runEvr t [.mram, .mcx, .fw] fun s => s.identify vnandMV targets

def execJournalReplay (t : Nat) : State → Host.Outcome State Fault Refusal :=
  runEvr t [.mcx] fun s => s.replay

def execRefreshRead (t target block : Nat) (corrections : List Nat) (uncorrectable : Nat) :
    State → Host.Outcome State Fault Refusal :=
  runEvrUnit t [.kpp, .mram, .mcx, .fw] fun s => s.refresh target block corrections uncorrectable

def execWearLevelMove (t : Nat) : State → Host.Outcome State Fault Refusal :=
  runEvrUnit t [.kpp, .mram, .mcx, .fw] fun s => s.wearLevel

def execIncidentProtect (t : Nat) (number : BitVec 31) : State → Host.Outcome State Fault Refusal :=
  runEvrUnit t [.kpp, .mram, .mcx, .fw] fun s => s.protect number.toNat true

def execIncidentUnprotect (t : Nat) (number : BitVec 31) : State → Host.Outcome State Fault Refusal :=
  runEvrUnit t [.kpp, .mram, .mcx, .fw] fun s => s.protect number.toNat false

def execIncidentDelete (t : Nat) (number : Word) : State → Host.Outcome State Fault Refusal :=
  runEvrUnit t [.kpp, .mram, .mcx, .fw] fun s => s.deleteIncident number.toNat

def execFlashFormat (t : Nat) (v : Word) : State → Host.Outcome State Fault Refusal :=
  runEvrUnit t [.kpp, .mram, .mcx, .fw] fun s => s.flashFormat v.toNat

end Sys2Proof.Machine
end

