-- ==== Sys2Proof/Machine/Store.lean ====
section
/-!
DEFINITION. The MRAM stores: parameters, restore, start-up plan (02 R62, R63; 03 R75), and the record writes of 21 R464.
-/

namespace Sys2Proof.Machine

/-- A store starts where none is in progress (02 R62). -/
def State.startStore (s : State) (job : StoreJob) : State :=
  if s.mram.job.isSome then s else { s with mram := { s.mram with job := some job, status := 1 } }

/-- The current value of every RWP object (02 R62). -/
def State.rwpValues (s : State) : ObjMap :=
  (keysWith .rwp).filterMap fun k => if absentUnit s.part.variant k then none else some (k, s.reg k)

/-- 0x1100.20 StoreParameters (02 R62). -/
def State.storeParameters (s : State) (v : Nat) : State :=
  if v ≠ 0x5354 then s else s.startStore (.params s.rwpValues)

/-- 0x1100.21 RestoreDefaults: an empty record (02 R63). -/
def State.restoreDefaults (s : State) (v : Nat) : State := if v ≠ 0x4446 then s else s.startStore .empty

/-- StorePlan: the plan in force, refused where there is none (03 R75, 02 R63). -/
def State.storePlan (s : State) (v : Nat) : State :=
  if v ≠ 0x504C ∨ s.mram.job.isSome then s
  else
    match s.pipe.plan with
    | some p => s.startStore (.plan p)
    | none => { s with mram := { s.mram with status := 4 } }

/-- The other slot written and read back by the unit that acts (02 R62, 21 R464); without one the store stands still until the
takeover ends it (14 R348). -/
def State.finishStore (s : State) (ok : Bool) : State :=
  if !s.unitActs then s else
  let m := s.mram
  let done : Mram := { m with job := none, status := if ok then 2 else 3, writes := sat32 m.writes }
  match m.job with
  | none => s
  | some (.params body) => { s with mram := { done with params := m.params.write body ok } }
  | some .empty => { s with mram := { done with params := m.params.write [] ok } }
  | some (.plan body) => { s with mram := { done with plan := m.plan.write body ok } }

/-- A takeover ends a store in progress without a record (02 R62, 14 R348). -/
def State.loseStore (s : State) : State :=
  if s.mram.job.isSome then { s with mram := { s.mram with job := none, status := 3 } } else s

/-- The entries whose copy is done: an entry joins the table when its copy completes (10 R261). -/
def State.remapDone (s : State) : List RemapEntry := s.mcx.remap

/-- The remap table stored after a new entry; before it is loaded from MRAM there is none (10 R257, R261, 21 R464). -/
def State.storeRemap (s : State) (ok : Bool) : State :=
  if s.mcx.ready = false ∨ s.mram.remap.body.getD [] = s.remapDone then s
  else { s with mram := { s.mram with remap := s.mram.remap.write s.remapDone ok, writes := sat32 s.mram.writes } }

/-- The trims of the last step stored (21 R465). -/
def State.storeTrims (s : State) (ok : Bool) : State :=
  if s.mram.writing.contains 5 && s.unitActs then
    { s with mram := { s.mram with trims := s.mram.trims.write s.cal.temps ok, writes := sat32 s.mram.writes
                                   writing := s.mram.writing.filter (· != 5) } }
  else s

/-- MRAM_RECORD_WRITE (21 R464): the write under way of a record type completes. The reserved limit (type 3) is written where an index is reserved (20 R451). -/
def State.recordWrite (s : State) (recType : Nat) (ok : Bool) : State :=
  if recType = 4 then s.storeRemap ok
  else if recType = 5 then s.storeTrims ok
  else if recType = 6 then
    match s.mram.job with
    | some (.plan _) => s
    | _ => s.finishStore ok
  else if recType = 7 then
    match s.mram.job with
    | some (.plan _) => s.finishStore ok
    | _ => s
  else s

/-- 0x6C00.20: slot in force and Sequence of each record type (21 R464, R467). PRESUMED: notes/assumptions/67. -/
def Mram.recordStatus (m : Mram) : List Byte :=
  let entry := fun (slot : Option Nat) (seq : Word) => le 1 (slot.getD 0xFF) ++ [0, 0, 0] ++ le 4 seq.toNat
  entry (if m.factoryGood = 0 then none else some 0) 0 ++ entry (some 0) 0 ++ entry m.limit.inForce m.limit.seq ++
    entry m.remap.inForce m.remap.seq ++ entry m.trims.inForce m.trims.seq ++ entry m.params.inForce m.params.seq ++
    entry m.plan.inForce m.plan.seq ++ entry none 0

/-- What only the MRAM's commands leave alone. -/
def mramFrame : List UnitId :=
  [.rw, .rwp, .kpp, .txn, .pipe, .edu, .bsc, .rfe, .tda, .hac, .prx, .mcx, .fmt, .linkA, .linkB, .emg, .cu, .wcu, .mon,
   .thermal, .ntu, .evr, .spring, .fw, .cal, .part]

def execStoreParameters (t : Nat) (v : Word) : State → Host.Outcome State Fault Refusal :=
  runUnit t mramFrame fun s => s.storeParameters v.toNat

def execRestoreDefaults (t : Nat) (v : Word) : State → Host.Outcome State Fault Refusal :=
  runUnit t mramFrame fun s => s.restoreDefaults v.toNat

def execStorePlan (t : Nat) (v : Word) : State → Host.Outcome State Fault Refusal :=
  runUnit t mramFrame fun s => s.storePlan v.toNat

def execStoreComplete (t : Nat) (readBackOk : Bool) : State → Host.Outcome State Fault Refusal :=
  runMain t mramFrame fun s => s.finishStore readBackOk

def execMramRecordWrite (t recType : Nat) (readBackOk : Bool) : State → Host.Outcome State Fault Refusal :=
  runMain t mramFrame fun s => s.recordWrite recType readBackOk

def execRemapTableStore (t : Nat) (readBackOk : Bool) : State → Host.Outcome State Fault Refusal :=
  runMain t mramFrame fun s => s.storeRemap readBackOk

end Sys2Proof.Machine
end

