-- ==== Sys2Proof/Machine/Cal.lean ====
section
/-!
DEFINITION. Calibration (21): references, boot and drift steps, staleness, the channel delay measurement.
-/

namespace Sys2Proof.Machine

/-- The die temperature in use (21 R456, 16 R377). -/
def State.dieTemperature (s : State) : Int := s.thermal.dieFilt

/-- The reference of a step: 0 REXT, 1 VCALREF, 2 none (21 R457, R458). REXT is in 0.1 Ω. -/
def State.calReference (s : State) (m : CalMeas) : Nat :=
  let nominal := s.regN 0x6C0005
  if !outside m.rext 114000 126000 then 0
  else if !outside nominal 1000 2500 && decide (50 * (max m.vcal nominal - min m.vcal nominal) ≤ nominal) then 1
  else 2

/-- The measurements of a step, and the event where the reference changes (21 R457, R458). -/
def State.calMeasure (s : State) (m : CalMeas) : State :=
  let r := s.calReference m
  let changed := s.cal.reference != r
  { s with cal := { s.cal with reference := r, rext := m.rext, vcal := m.vcal
                               failures := if r = 2 then sat32 s.cal.failures else s.cal.failures } }.raiseIf
    changed 0x6C01 0x03 r

/-- Trims out of range leave their channels' bits set, the others of the groups clear (21 R461). -/
def Cal.trimmed (c : Cal) (groups : List Nat) (outOfRange : List Nat) : Cal :=
  let mine := fun (ch : Nat) => groups.contains (ch / 16)
  let kept := c.staleBits.filter fun ch => !mine ch
  { c with staleBits := (outOfRange.filter fun ch => mine ch && decide (ch < 512)).foldl (fun l ch => insertSet ch l) kept }

/-- A completed calibration of groups (21 R456, R460): their temperature and time, and the count. -/
def State.calDone (s : State) (groups : List Nat) (outOfRange : List Nat) : State :=
  let c := s.cal.trimmed groups outOfRange
  let temps := mapIdx c.temps fun g x => if groups.contains g then s.dieTemperature else x
  let times := mapIdx c.times fun g x => if groups.contains g then s.now else x
  { s with
    cal := { c with temps, times, forced := c.forced.filter fun g => !groups.contains g
                    count := sat32 c.count, last := s.localTime }
    mram := { s.mram with writing := insertSet 5 s.mram.writing } }

/-- BOOT_CALIBRATION (21 R456, R458, R465): after the boot fill, as step 5 of 19 R436. -/
def State.bootCalibration (s : State) (m : CalMeas) : State :=
  if s.cal.bootRan ∨ s.mcx.bootFill = false ∨ s.unitActs = false then s
  else
    let s := s.raiseIf (s.mram.factoryGood == 0) 0x6C03 0x07 0
    let s := s.calMeasure m
    let none_ := s.cal.reference == 2
    let s := s.calDone (List.range 32) (if none_ then [] else m.outOfRange)
    { s with cal := { s.cal with bootRan := true, bootNoRef := none_ } }

/-- Age of a group's calibration in ns. DEDUCED: notes/assumptions/72. -/
def State.calAge (s : State) (g : Nat) : Nat := if s.cal.bootRan then s.now - s.cal.times.getD g 0 else 0

def State.calDrift (s : State) (g : Nat) : Nat := (s.dieTemperature - s.cal.temps.getD g 0).natAbs

/-- Group g is due (21 R459). DEDUCED: notes/assumptions/72. -/
def State.calDue (s : State) (g : Nat) : Bool :=
  s.cal.bootRan && (decide (s.regN 0x6C0008 < s.calDrift g) || decide (1000000000 * s.regN 0x6C0009 < s.calAge g) ||
    s.cal.forced.contains g)

/-- A drift step by the active unit: the lowest-numbered due group (21 R458, R460). Without a reference the group stays due.
DEDUCED: notes/assumptions/72. -/
def State.driftStep (s : State) (m : CalMeas) : State :=
  if s.unitActs = false then s
  else
    match (List.range 32).find? s.calDue with
    | none => s
    | some g =>
      let s := s.calMeasure m
      let s := { s with cal := { s.cal with stepAt := s.now } }
      if s.cal.reference = 2 then s else s.calDone [g] m.outOfRange

/-- DRIFT_CALIBRATION_STEP: once in a turnaround, from 1,750 µs to 1,850 µs (21 R460). DEDUCED: notes/assumptions/72. -/
def State.turnaroundStep (s : State) (m : CalMeas) : State :=
  if s.pipe.inTurn && decide (s.pipe.turnStart + 1750000 ≤ s.now) && decide (s.now ≤ s.pipe.turnStart + 1850000) && decide (s.cal.stepAt < s.pipe.turnStart) then s.driftStep m
  else s

/-- DRIFT_CALIBRATION_TIMER: every 40 ms while no frames run (21 R460). -/
def State.timerStep (s : State) (m : CalMeas) : State :=
  if s.pipe.running || decide (s.now < s.cal.stepAt + 40000000) then s else s.driftStep m

/-- 0x6C00.0A CalibrateNow (21 R459). -/
def State.calibrateNow (s : State) (v : Nat) : State :=
  if v = 0x4341 then { s with cal := { s.cal with forced := List.range 32 } } else s

/-- Staleness fixed for a frame, with the events of the groups that changed (21 R462). -/
def State.calBoundary (s : State) : State :=
  let all := s.mram.factoryGood == 0 || s.cal.bootNoRef
  let stale := fun (g : Nat) => all || decide (2 * s.regN 0x6C0008 < s.calDrift g) ||
    decide (2000000000 * s.regN 0x6C0009 < s.calAge g)
  let now := (List.range 32).filter stale
  let before := s.cal.staleGroups
  let s := { s with cal := { s.cal with staleGroups := now, staleFrame := s.cal.staleBits } }
  (List.range 32).foldl (fun s g =>
    s.raiseIf (before.contains g != now.contains g) 0x6C02 0x0D (g + 256 * bNat (now.contains g))) s

/-- The channel is stale in this frame (21 R462). -/
def State.staleChannel (s : State) (ch : Nat) : Bool := s.cal.staleGroups.contains (ch / 16) || s.cal.staleFrame.contains ch

/-! ### Channel delays (21 R463) -/

/-- 0x6C00.10 SkewMeasure. -/
def State.skewMeasure (s : State) (v : Nat) : State :=
  if v ≠ 0x534B ∨ s.cal.skewStatus = 1 then s
  else { s with cal := { s.cal with skewStatus := 1, skewBurst := 0, strobe := [0, 0, 0, 0], sums := [] } }

/-- The delay of a channel at an index from its event times, where at least 48 of its 64 pulses were timed.
DEDUCED: notes/assumptions/73. -/
def Cal.delayOf (c : Cal) (ch f : Nat) : Option Int :=
  match mget c.sums (4 * ch + f) with
  | some (n, sum) => if n < 48 then none else some ((64 * sum - n * c.strobe.getD f 0) / (64 * n))
  | none => none

/-- All four delays of a channel. -/
def Cal.delays (c : Cal) (ch : Nat) : Option (List Int) :=
  match c.delayOf ch 0, c.delayOf ch 1, c.delayOf ch 2, c.delayOf ch 3 with
  | some a, some b, some d, some e => some [a, b, d, e]
  | _, _, _, _ => none

/-- The measurement completes: OnDieDelay and ChannelSkew of the channels timed, the others kept. DEDUCED: notes/assumptions/73. -/
def State.skewDone (s : State) : State :=
  let board := s.reg 0x6C0012
  let skew := s.reg 0x3C0020
  let all := (List.range 512).map s.cal.delays
  let entries := (mapIdx all fun ch d =>
    match d with
    | some l => l.flatMap fun (x : Int) => leInt 2 (clampInt (-2048) 2047 (x + iAt board (2 * ch) 2))
    | none => bytesAt skew (8 * ch) 8).flatten
  let onDie := (mapIdx all fun ch d => (ch, d)).foldl (fun (m : SMap Int) x =>
    match x.2 with
    | some l => (mapIdx l fun f v => (f, v)).foldl (fun m y => mset m (4 * x.1 + y.1) y.2) m
    | none => m) s.cal.onDie
  { s.setReg 0x3C0020 .rwp entries with
    cal := { s.cal with onDie, skewStatus := if all.all Option.isSome then 2 else 3, count := sat32 s.cal.count
                        last := s.localTime } }

/-- SKEW_MEASURE_BURST: once in a turnaround, at 664 µs or later, the 16 pulses sent from 600 µs on at the index that the channels have had since 590 µs (01 R23); `times` gives for a channel the pulses timed and the sum of their times in 15.625 ps, `strobeSum` that of the 16 strobe times.
DEDUCED: notes/assumptions/73. -/
def State.skewBurst (s : State) (strobeSum : Int) (times : List (Nat × Nat × Int)) : State :=
  let due := s.pipe.inTurn && decide (s.pipe.turnStart + 664000 ≤ s.now) && decide (s.cal.skewAt < s.pipe.turnStart)
  if s.cal.skewStatus ≠ 1 ∨ due = false ∨ s.unitActs = false then s
  else
    let f := s.cal.skewBurst / 4
    let add := fun (m : SMap (Nat × Int)) (x : Nat × Nat × Int) =>
      let old := (mget m (4 * x.1 + f)).getD (0, 0)
      if x.1 < 512 then mset m (4 * x.1 + f) (old.1 + min 16 x.2.1, old.2 + x.2.2) else m
    let s := { s with
      cal := { s.cal with
        skewBurst := s.cal.skewBurst + 1, skewAt := s.now, strobe := updAt s.cal.strobe f fun v => v + strobeSum
        sums := times.foldl add s.cal.sums }
      rfe := { s.rfe with chans := s.rfe.chans.map fun (c : Chan) => { c with fb := f } } }
    if s.cal.skewBurst = 16 then s.skewDone else s

/-- A takeover abandons the measurement (21 R466). -/
def State.loseSkew (s : State) : State :=
  if s.cal.skewStatus = 1 then { s with cal := { s.cal with skewStatus := 3 } } else s

/-! ### The commands -/

def calFrame : List UnitId :=
  [.rw, .txn, .pipe, .edu, .bsc, .tda, .hac, .prx, .mcx, .fmt, .linkA, .linkB, .emg, .cu, .wcu, .mon, .thermal, .ntu,
   .spring, .fw, .part]

def execBootCalibration (t : Nat) (m : CalMeas) : State → Host.Outcome State Fault Refusal :=
  runMain t (.rwp :: .rfe :: calFrame) fun s => s.bootCalibration m

def execDriftCalibrationStep (t : Nat) (m : CalMeas) : State → Host.Outcome State Fault Refusal :=
  runMain t (.rwp :: .rfe :: calFrame) fun s => s.turnaroundStep m

def execDriftCalibrationTimer (t : Nat) (m : CalMeas) : State → Host.Outcome State Fault Refusal :=
  runMain t (.rwp :: .rfe :: calFrame) fun s => s.timerStep m

def execCalibrateNow (t : Nat) (v : Word) : State → Host.Outcome State Fault Refusal :=
  runUnit t (.kpp :: .mram :: .evr :: .rwp :: .rfe :: calFrame) fun s => s.calibrateNow v.toNat

def execSkewMeasure (t : Nat) (v : Word) : State → Host.Outcome State Fault Refusal :=
  runUnit t (.kpp :: .mram :: .evr :: .rwp :: .rfe :: calFrame) fun s => s.skewMeasure v.toNat

def execSkewMeasureBurst (t : Nat) (strobeSum : Int) (times : List (Nat × Nat × Int)) :
    State → Host.Outcome State Fault Refusal :=
  runMain t (.kpp :: .mram :: .evr :: calFrame) fun s => s.skewBurst strobeSum times

end Sys2Proof.Machine
end

