-- ==== Sys2Proof/Machine/Mon.lean ====
section
/-!
DEFINITION. The Monitor Converter (16 R366 to R374) and the monitor multiplexer of the RFE (06 R167 to R169).
-/

namespace Sys2Proof.Machine

/-! ### Slot configuration (16 R369) -/

/-- The 8 bytes of slot s. -/
def State.slotBytes (s : State) (i : Nat) : List Byte := bytesAt (s.reg 0x540010) (8 * i) 8

/-- A slot's settings as R369 lays them out. -/
structure SlotCfg where
  input : Nat
  enable : Bool
  triggered : Bool
  fir : Bool
  window : Bool
  conv : Nat
  ratio : Nat
  low : Nat
  high : Nat
  deriving DecidableEq, Repr

/-- DEDUCED: notes/assumptions/57. -/
def State.slotCfg (s : State) (i : Nat) : SlotCfg :=
  let b := s.slotBytes i
  let f := uAt b 1 1
  { input := uAt b 0 1, enable := bitOf f 7, triggered := bitOf f 6, fir := bitOf f 5, window := bitOf f 4
    conv := field f 2 0, ratio := uAt b 2 2, low := uAt b 4 2, high := uAt b 6 2 }

/-- The converters a slot names: 4 is the pair 0 and 1, 5 the pair 2 and 3. -/
def SlotCfg.names (c : SlotCfg) (conv : Nat) : Bool :=
  c.conv == conv || (c.conv == 4 && conv < 2) || (c.conv == 5 && (conv == 2 || conv == 3))

/-- Slot s is in error (16 R369, R372). A converter code above 5 names none. DEDUCED: notes/assumptions/57. -/
def State.slotError (s : State) (i : Nat) : Bool :=
  let c := s.slotCfg i
  let shared := (List.range 16).any fun j =>
    j != i && (s.slotCfg j).enable && (List.range 4).any fun v => c.names v && (s.slotCfg j).names v
  c.enable && (decide (70 < c.input) || outside c.ratio 1 256 || ((c.conv == 4 || c.conv == 5) && shared) ||
    (c.input == 64 && (List.range i).any fun j => (s.slotCfg j).enable && (s.slotCfg j).input == 64))

/-- Slot s converts when its turn comes. -/
def State.slotRuns (s : State) (i : Nat) : Bool :=
  let c := s.slotCfg i
  let m := s.mon.slots.getD i {}
  c.enable && !s.slotError i && decide (c.conv ≤ 5) && !(c.input == 64 && s.rfe.muxWait) &&
    (!c.triggered || (s.mon.seqRunning && !m.seqDone))

/-- N of a slot (16 R371). -/
def SlotCfg.filterLength (c : SlotCfg) : Nat := if c.fir then 18 else 3

def State.setSlot (s : State) (i : Nat) (m : MonSlot) : State :=
  { s with mon := { s.mon with slots := setAt s.mon.slots i m } }

/-- A decimator restarts (16 R371). -/
def MonSlot.restart (m : MonSlot) : MonSlot :=
  { m with samples := [], fir := [], taken := 0, outputs := 0, fresh := true }

def State.restartSlots (s : State) (p : Nat → Bool) : State :=
  { s with mon := { s.mon with slots := mapIdx s.mon.slots fun i m => if p i then m.restart else m } }

/-! ### Samples and the decimation chain (16 R366, R370) -/

/-- The reference voltage in µV: 1.250 V where the internal one is chosen, else the voltage of the chosen one (16 R368). -/
def Mon.vref (m : Mon) (uV : Nat) : Nat := if m.select = 0 then 1250000 else uV

/-- The voltage an input presents, in µV: the rails of inputs 65 to 69 through a 1/4 divider (16 R366). -/
def monInput (input : Nat) (uV : Int) : Int := if 65 ≤ input ∧ input ≤ 69 then uV / 4 else uV

/-- Code and over-range of a sample in µV against V_ref in µV (16 R366). -/
def monSample (uV : Int) (vref : Nat) : Nat × Bool :=
  let code : Int := if vref = 0 then (if uV < 0 then 0 else 16383) else clampInt 0 16383 (16384 * uV / (vref : Int))
  (code.toNat, decide (uV < 0 ∨ (vref : Int) ≤ uV))

/-- Weight i of the third-order CIC of ratio R: the ways to write i as a sum of three numbers below R. -/
def cicWeight (r i : Nat) : Nat :=
  let c2 := fun (a : Int) => if a < 0 then (0 : Int) else (a + 1) * (a + 2) / 2
  let i : Int := i
  let r : Int := r
  (c2 i - 3 * c2 (i - r) + 3 * c2 (i - 2 * r)).toNat

/-- The CIC sum over the last samples, newest first, scaled back (16 R370). -/
def cicOutput (r : Nat) (samples : List (Nat × Bool)) : Nat × Bool :=
  let used := samples.take (3 * r - 2)
  let c := sumOf (mapIdx used fun i x => cicWeight r i * x.1)
  ((c + r ^ 3 / 2) / r ^ 3, used.any Prod.snd)

def firTaps : List Nat := [1, 14, 91, 364, 1001, 2002, 3003, 3432, 3003, 2002, 1001, 364, 91, 14, 1]

def firOutput (ys : List (Nat × Bool)) : Nat × Bool :=
  let used := ys.take 15
  ((sumOf (mapIdx used fun i y => firTaps.getD i 0 * y.1) + 8192) / 16384, used.any Prod.snd)

/-- One sample into a slot: the slot, and its output where one is due. -/
def MonSlot.take (m : MonSlot) (now : Nat) (c : SlotCfg) (x : Nat × Bool) : MonSlot × Option (Nat × Bool) :=
  let samples := (x :: m.samples).take (3 * c.ratio)
  if m.taken + 1 < c.ratio then ({ m with samples, taken := m.taken + 1 }, none)
  else
    let y1 := cicOutput c.ratio samples
    let fir := (y1 :: m.fir).take 15
    let y := if c.fir then firOutput fir else y1
    ({ m with samples, fir, taken := 0, outputs := m.outputs + 1, firstAt := if m.outputs = 0 then now else m.firstAt }, some y)

/-! ### Multiplexer results (06 R167 to R169) -/

/-- Run counters of an out-of-band check: the runs out and in, whether the event was raised, and whether it is raised now. -/
def bandCheck (out : Bool) (outRun inRun : Nat) (raised : Bool) : Nat × Nat × Bool × Bool :=
  if out then
    let n := min 3 (outRun + 1)
    (n, 0, raised || n == 3, n == 3 && !raised)
  else
    let n := min 3 (inRun + 1)
    (0, n, raised && n != 3, false)

/-- A bias monitor result (06 R168, R169), the output N + 1 of its step, whose first output came at `since`: it is stored where N
outputs of the filter have passed since the end of the settling interval. DEDUCED: notes/assumptions/57. -/
def State.biasResult (s : State) (g code : Nat) (ovr : Bool) (since : Nat) : State :=
  let q := s.rfe.groups.getD g {}
  if since < q.settleEnd then s
  else
    let e4096 : Int := s.regI 0x380023 * q.code + 4096 * s.regI 0x380024
    let off := (4096 * (code : Int) - e4096).natAbs
    let out := ovr || decide (4096 * s.regN 0x380025 < off)
    let (outs, ins, raised, now) := bandCheck out q.biasOut q.biasIn q.biasRaised
    let q := { q with biasMon := code, biasOut := outs, biasIn := ins, biasRaised := raised }
    { s with rfe := { s.rfe with groups := setAt s.rfe.groups g q } }.raiseIf now 0x3801 0x21 g

/-- A gain monitor result (06 R169). -/
def State.gainResult (s : State) (g code : Nat) (ovr : Bool) : State :=
  let q := s.rfe.groups.getD g {}
  let out := ovr || outside code (s.regN 0x380026) (s.regN 0x380027)
  let (outs, ins, raised, now) := bandCheck out q.gainOut q.gainIn q.gainRaised
  let q := { q with gainMon := code, gainOut := outs, gainIn := ins, gainRaised := raised }
  { s with rfe := { s.rfe with groups := setAt s.rfe.groups g q } }.raiseIf now 0x3802 0x22 g

/-- MUX_SWITCH: a step's result stored and the next step selected (06 R167, 16 R372). DEDUCED: notes/assumptions/80. -/
def State.muxResult (s : State) (code : Nat) (ovr : Bool) (since : Nat) : State :=
  let code := if ovr then 16383 else code
  let step := s.rfe.muxStep
  let s := if step < 32 then s.biasResult step code ovr since else s.gainResult (step - 32) code ovr
  { s with rfe := { s.rfe with muxStep := (step + 1) % 64, muxWait := true, muxAt := s.now } }

/-! ### Sequences (16 R373) -/

def State.triggeredSlots (s : State) (i : Nat) : Bool :=
  (s.slotCfg i).enable && (s.slotCfg i).triggered && !s.slotError i

/-- A sequence starts: every enabled triggered slot restarts; with none there is nothing to run. -/
def State.startSequence (s : State) : State :=
  if (List.range 16).any s.triggeredSlots then
    let slots := mapIdx s.mon.slots fun i m => if s.triggeredSlots i then { m.restart with seqDone := false } else m
    { s with mon := { s.mon with slots, seqRunning := true, seqOverrun := false } }
  else s

/-- Overruns counted at the present instant. -/
def State.overrunsNow (s : State) : Nat := if s.mon.overrunAt = s.now then s.mon.overrunNow else 0

/-- A sequence trigger of any source (16 R373). -/
def State.sequence (s : State) : State :=
  if !s.mon.seqRunning then s.startSequence
  else if !s.mon.seqQueued then { s with mon := { s.mon with seqQueued := true } }
  else
    let raised := s.mon.seqOverrun
    { s with mon := { s.mon with
        overruns := sat32 s.mon.overruns, seqOverrun := true, overrunAt := s.now, overrunNow := s.overrunsNow + 1 } }.raiseIf
      (!raised) 0x5402 0x15 0

/-- 0x5400.12 SequenceTrigger. -/
def State.sequenceTrigger (s : State) (v : Nat) : State := if v = 0x5351 then s.sequence else s

/-- The end of a sequence, and the queued one. A trigger of the same cycle is no overrun, also where it came before this end: it
waits behind the queued one (16 R373). -/
def State.endSequence (s : State) : State :=
  if s.mon.seqRunning && ((List.range 16).all fun i => !s.triggeredSlots i || (s.mon.slots.getD i {}).seqDone) then
    let queued := s.mon.seqQueued
    let again := s.overrunsNow
    let s := { s with
      kpp := if again = 0 then s.kpp else s.kpp.retract s.now 0x5402
      mon := { s.mon with seqRunning := false, seqQueued := false, overruns := s.mon.overruns - BitVec.ofNat 32 again
                          overrunNow := 0 } }
    if !queued then s
    else
      let s := s.startSequence
      { s with mon := { s.mon with seqQueued := s.mon.seqRunning && again != 0 } }
  else s

/-- A new SlotConfig: every slot whose bytes changed restarts, and one that a running sequence converts owes its N + 1 outputs
again (16 R369, R380). -/
def State.setSlotConfig (s : State) (v : List Byte) : State :=
  let old := s.reg 0x540010
  let changed := fun i => bytesAt old (8 * i) 8 != bytesAt v (8 * i) 8
  let s := (s.setReg 0x540010 .rwp v).restartSlots changed
  let slots := mapIdx s.mon.slots fun i (m : MonSlot) => if changed i && s.triggeredSlots i then { m with seqDone := false } else m
  State.endSequence { s with mon := { s.mon with slots } }

/-- A write of part of SlotConfig (16 R369, 02 R43). -/
def State.slotConfigWrite (s : State) (off : Nat) (bytes : List Byte) : State :=
  match objRow 0x540010 with
  | some row =>
    if row.maxLen < off + bytes.length then s
    else s.setSlotConfig (storedValue row off bytes.length (overlay (s.reg 0x540010) off bytes))
  | none => s

/-! ### Outputs and windows (16 R371, R374) -/

/-- MON_SLOT_OUTPUT, WINDOW_EXIT. -/
def State.slotOutput (s : State) (i : Nat) (c : SlotCfg) (y : Nat × Bool) : State :=
  let m := s.mon.slots.getD i {}
  let first := m.outputs ≤ c.filterLength
  let code := min 16383 y.1
  let m := { m with result := 32768 * bNat y.2 + 16384 * bNat first + code }
  if first then
    let s := s.setSlot i m
    { s with mon := { s.mon with discarded := sat32 s.mon.discarded } }
  else
    let out := c.window && (y.2 || outside code c.low c.high)
    let exits := out && (!m.outBand || m.fresh)
    let m := { m with outBand := if c.window then out else m.outBand, fresh := m.fresh && !c.window }
    let last := decide (c.filterLength < m.outputs)
    let since := m.firstAt
    let s := (s.setSlot i { m with seqDone := m.seqDone || (c.triggered && last) }).raiseIf exits 0x5401 0x17 i
    let s := if c.input == 64 && last then s.muxResult code y.2 since else s
    s.endSequence

/-- The slot whose turn it is on a converter: in ascending number after the last one (16 R370). -/
def State.nextSlot (s : State) (conv : Nat) : Option Nat :=
  let last := s.mon.lastSlot.getD conv 15
  ((List.range 16).map fun i => (last + 1 + i) % 16).find? fun i => s.slotRuns i && (s.slotCfg i).names conv

/-- A conversion that completes now, 200 ns after it began, overlaps the burst of its converter's axis: bursts take the first
1.6 µs of every period (16 R366, R367). -/
def State.inBurst (s : State) (conv : Nat) : Bool :=
  let phase := (s.now - s.bsc.periodStart) % 10000
  s.bsc.running && decide (conv / 2 < s.bsc.axes) && decide (0 < phase) && decide (phase < 1800)

/-- MON_CONVERSION (16 R366 to R374): a converter completes at most one conversion in 200 ns. DEDUCED: notes/assumptions/57. -/
def State.conversion (s : State) (conv : Nat) (uV : Int) (vref : Nat) : State :=
  if !s.mon.settled ∨ 3 < conv ∨ s.inBurst conv ∨ s.now < max s.mon.settledAt (s.mon.convAt.getD conv 0) + 200 then s
  else
    match s.nextSlot conv with
    | none => s
    | some i =>
      let c := s.slotCfg i
      let (code, ovr) := monSample (monInput c.input uV) (s.mon.vref vref)
      let left := mcount s.mon.recovery c.input
      let s := { s with mon := { s.mon.converted c.input ovr with
          lastSlot := setAt s.mon.lastSlot conv i, convAt := setAt s.mon.convAt conv s.now } }
      let (m, y) := (s.mon.slots.getD i {}).take s.now c (code, ovr || decide (0 < left))
      let s := s.setSlot i m
      match y with
      | some y => s.slotOutput i c y
      | none => s

/-! ### Reference (16 R368) -/

/-- The reference becomes usable: every decimator restarts (16 R368, R371). DEDUCED: notes/assumptions/57. -/
def State.settle (s : State) : State :=
  if s.mon.settled then s else { s with mon := { s.mon with settled := true, settledAt := s.now } }.restartSlots fun _ => true

/-- A usable reference is lost (16 R368). DEDUCED: notes/assumptions/57. -/
def State.unsettle (s : State) : State :=
  if s.mon.settled then { s with mon := { s.mon with settled := false } }.raise 0x5403 0x03 s.mon.select else s

/-- A check of VREF_EXT against its nominal value, in mV, 10 µs after the last one (16 R368). -/
def State.vrefCheck (s : State) (mV : Nat) : State :=
  let nominal := s.regN 0x540004
  let early : Bool := match s.mon.checkAt with
    | some x => decide (s.now < x + 10000)
    | none => false
  let s := if early then s else { s with mon := { s.mon with checkAt := some s.now } }
  if s.mon.select ≠ 1 ∨ early = true then s
  else if 50 * (max mV nominal - min mV nominal) ≤ nominal then
    let run := min 64 (s.mon.run + 1)
    let s := { s with mon := { s.mon with run } }
    if run = 64 then s.settle else s
  else { s with mon := { s.mon with run := 0 } }.unsettle

/-- VANA as the Spring reports it (16 R368). -/
def State.vanaCheck (s : State) : State :=
  if s.mon.select ≠ 2 then s else if bitOf s.spring.chanOut 7 then s.unsettle else s.settle

/-- The internal reference 1.5 ms after reset release; VANA where the rail is in range (16 R368). -/
def State.referenceSettles (s : State) : State :=
  if s.mon.select = 0 ∧ s.emg.releasedAt + 1500000 ≤ s.now then s.settle else s.vanaCheck

/-- The MuxSettle time of the present step in ns (06 R167). -/
def State.muxSettleNs (s : State) : Nat := 100 * uAt (s.reg 0x380020) s.rfe.muxStep 1

/-- MUX_SETTLE_END: MuxSettle after the switch the slot of input 64 restarts and converts (06 R167, 16 R372).
DEDUCED: notes/assumptions/80. -/
def State.muxSettled (s : State) : State :=
  if !s.rfe.muxWait || decide (s.now < s.rfe.muxAt + s.muxSettleNs) then s
  else { s with rfe := { s.rfe with muxWait := false } }.restartSlots fun i => (s.slotCfg i).enable && (s.slotCfg i).input == 64

/-! ### The commands -/

def monFrame : List UnitId :=
  [.rw, .txn, .mram, .pipe, .edu, .bsc, .tda, .hac, .prx, .mcx, .fmt, .linkA, .linkB, .emg, .cu, .wcu, .thermal, .ntu,
   .spring, .fw, .cal, .part]

/-- MON_CONVERSION: `uV` the voltage of the signal at the slot's input, `vrefUV` that of the reference chosen. -/
def execMonConversion (t conv : Nat) (uV : Int) (vrefUV : Nat) : State → Host.Outcome State Fault Refusal :=
  runMain t (.rwp :: monFrame) fun s => s.conversion conv uV vrefUV

def execMuxSettleEnd (t : Nat) : State → Host.Outcome State Fault Refusal :=
  runMain t (.rwp :: .kpp :: .evr :: monFrame) fun s => s.muxSettled

def execSequenceTrigger (t : Nat) (v : Word) : State → Host.Outcome State Fault Refusal :=
  runUnit t (.rwp :: .rfe :: monFrame) fun s => s.sequenceTrigger v.toNat

def execSlotConfigWrite (t offset : Nat) (bytes : List Byte) : State → Host.Outcome State Fault Refusal :=
  runUnit t (.rfe :: monFrame) fun s => s.slotConfigWrite offset bytes

def execVrefExtCheck (t mV : Nat) : State → Host.Outcome State Fault Refusal :=
  runMain t (.rwp :: .rfe :: monFrame) fun s => s.vrefCheck mV

def execReferenceSettle (t : Nat) : State → Host.Outcome State Fault Refusal :=
  runMain t (.rwp :: .rfe :: monFrame) fun s => s.referenceSettles

end Sys2Proof.Machine
end

