-- ==== Sys2Proof/Machine/Ntu.lean ====
section
/-!
DEFINITION. The Network and Time Unit (17): clock steps, the synchronisation servo, peer delay, edge stamps, frequency
measurement and frame phase. The local clock itself runs in `State.atTime`.
-/

namespace Sys2Proof.Machine

/-- Saturation to I32. -/
def sat32i (i : Int) : Int := clampInt (-2147483648) 2147483647 i

/-- An I32 as the Detail of an event. -/
def detailI (i : Int) : Nat := unsigned 32 (sat32i i)

/-- The clock set to a total of ns, with fraction `frac` (17 R383). -/
def State.setClock (s : State) (ns : Int) (frac : Nat) : State :=
  { s with ntu := { s.ntu with clock := unsignedMod ns * 2 ^ 32 + frac } }
where
  /-- Wrapped to 2⁴⁸ s. -/
  unsignedMod (ns : Int) : Nat := (ns % ((2 ^ 48 * 1000000000 : Nat) : Int)).toNat

/-- A step of the clock by −offset: counted, reported, gates in progress discarded (17 R385, R388, R397). DEDUCED: notes/assumptions/59. -/
def State.timeStep (s : State) (offset : Int) (frac : Nat) : State :=
  let s := s.setClock ((s.clockNs : Int) - offset) frac
  { s with ntu := { s.ntu with
      steps := sat32 s.ntu.steps
      fmeas := s.ntu.fmeas.map fun (m : Fmeas) => { m with valid := false, since := s.clockNs } } }.raise 0x6002 0x10 (detailI offset)

def SyncState.code : SyncState → Nat
  | .free => 0 | .acquiring => 1 | .locked => 2 | .holdover => 3

/-- A change of SyncState with its event (17 R388). -/
def State.syncTo (s : State) (st : SyncState) : State :=
  if s.ntu.sync = st then s
  else { s with ntu := { s.ntu with sync := st, goodRun := 0, badRun := 0 } }.raise 0x6001 0x06 st.code

/-- Back to Free with no servo correction (17 R384, R388). -/
def State.syncFree (s : State) : State := { s with ntu := { s.ntu with servo := 0 } }.syncTo .free

/-- Into Holdover, the correction held (17 R388). -/
def State.holdover (s : State) : State := { s with ntu := { s.ntu with holdoverAt := s.now } }.syncTo .holdover

/-! ### Sync and servo (17 R386 to R388) -/

/-- A Sync interval in ns from logMessageInterval (17 R388). -/
def syncInterval (log : Int) : Nat :=
  if log < 0 then 1000000000 / 2 ^ (-log).toNat else 1000000000 * 2 ^ log.toNat

def State.domain (s : State) : Nat := s.regN 0x60000A

/-- SYNC_RECEIVE (17 R386, R387). -/
def State.syncReceive (s : State) (m : SyncMsg) : State :=
  if !s.serving then s
  else if m.domain ≠ s.domain ∨ m.twoStep = false then { s with ntu := { s.ntu with ignoredSyncs := sat32 s.ntu.ignoredSyncs } }
  else
    let rx : Int := (s.clockNs : Int) - (s.regN 0x60000C : Nat)
    { s with ntu := { s.ntu with sawSync := some (m.seqId, rx, (syncInterval m.logInterval : Nat)) } }

/-- round((rateRatio − 1) × 2³²), the ratio being the cumulative one in 2⁻⁴¹ times the neighbour's (17 R388). -/
def feedForward (rateOffset41 num den : Int) : Int :=
  let top := ((2 ^ 41 : Nat) + rateOffset41) * num - (2 ^ 41 : Nat) * den
  let bottom := (2 ^ 41 : Nat) * den
  (2 * top * (2 ^ 32 : Nat) + bottom) / (2 * bottom)

/-- The servo of R388. DEDUCED: notes/assumptions/59. -/
def State.servoStep (s : State) (offset interval ff : Int) : State :=
  let n := s.ntu
  if (s.regN 0x60000D : Int) < offset.natAbs then
    ({ s with ntu := { n with integ := 0 } }).timeStep offset (n.clock % 2 ^ 32)
  else
    let integ := n.integ - offset * (2 ^ 32 : Nat) / (64 * interval)
    { s with ntu := { n with integ, servo := ff + integ - offset * (2 ^ 32 : Nat) / (4 * interval) } }

/-- SyncState after an accepted Sync (17 R388). DEDUCED: notes/assumptions/59. -/
def State.syncState (s : State) (offset : Int) : State :=
  let good := decide ((offset.natAbs : Int) ≤ s.regN 0x60000E)
  match s.ntu.sync with
  | .free => { s with ntu := { s.ntu with integ := 0 } }.syncTo .acquiring
  | .holdover => s.syncTo .acquiring
  | .acquiring =>
    let run := if good then s.ntu.goodRun + 1 else 0
    let s := { s with ntu := { s.ntu with goodRun := run } }
    if run = 8 then s.syncTo .locked else s
  | .locked =>
    let run := if good then 0 else s.ntu.badRun + 1
    let s := { s with ntu := { s.ntu with badRun := run } }
    if run = 4 then s.syncTo .acquiring else s

/-- A Follow_Up completes the Sync received: its sequence number, receive stamp and interval (17 R386). -/
def State.completes (s : State) (m : FollowUpMsg) : Option (Int × Int) :=
  match s.ntu.sawSync with
  | none => none
  | some (seq, rx, interval) =>
    if !s.serving ∨ m.domain ≠ s.domain ∨ m.seqId ≠ seq then none else some (rx, interval)

/-- FOLLOW_UP_RECEIVE (17 R386, R388): the servo runs at each accepted Sync; Free, where ServoAdjust is 0 (R384), and Holdover are
left only with asCapable. DEDUCED: notes/assumptions/59. -/
def State.followUp (s : State) (m : FollowUpMsg) : State :=
  match s.completes m with
  | none => s
  | some (rx, interval) =>
    let s := { s with ntu := { s.ntu with
        sawSync := none, accepted := sat32 s.ntu.accepted, lastSyncAt := s.now, intervalNs := interval.toNat } }
    let offset := rx - (m.originNs + m.correctionNs + (s.ntu.linkDelay : Int))
    let s := { s with ntu := { s.ntu with offset := sat32i offset } }
    let s := s.servoStep offset (max 1 interval) (feedForward m.rateOffset41 s.ntu.ratioNum s.ntu.ratioDen)
    if s.ntu.asCapable then s.syncState offset
    else match s.ntu.sync with
      | .free => { s with ntu := { s.ntu with servo := 0 } }
      | .holdover => s
      | .acquiring => s.syncState offset
      | .locked => s.syncState offset

/-- ANNOUNCE_RECEIVE (17 R386). -/
def State.announce (s : State) (domain : Nat) (gm : BitVec 64) : State :=
  if s.serving && domain == s.domain then { s with ntu := { s.ntu with gm } } else s

/-- SYNC_RECEIPT_TIMEOUT: three intervals without an accepted Sync (17 R388). -/
def State.syncTimeout (s : State) : State :=
  if s.now < s.ntu.lastSyncAt + 3 * s.ntu.intervalNs then s
  else
    match s.ntu.sync with
    | .acquiring => s.syncFree
    | .locked => s.holdover
    | .free => s
    | .holdover => s

/-- HOLDOVER_LIMIT (17 R388). -/
def State.holdoverEnds (s : State) : State :=
  if s.ntu.sync = .holdover ∧ s.ntu.holdoverAt + 1000000 * s.regN 0x60000F ≤ s.now then s.syncFree else s

/-! ### Peer delay (17 R386; IEEE 802.1AS as R386 names it, PRESUMED where the manual only refers to it) -/

def State.txStamp (s : State) : Int := (s.clockNs : Int) + (s.regN 0x60000B : Nat)

def State.rxStamp (s : State) : Int := (s.clockNs : Int) - (s.regN 0x60000C : Nat)

/-- asCapable lost: Locked falls to Holdover (17 R388). PRESUMED: notes/assumptions/62. -/
def State.notCapable (s : State) : State :=
  let s := { s with ntu := { s.ntu with asCapable := false } }
  if s.ntu.sync = .locked then s.holdover else s

/-- A second has passed since the last Pdelay_Req (17 R386). -/
def Ntu.pdelayDue (n : Ntu) (now : Nat) : Bool :=
  match n.sentAt with
  | some a => decide (a + 1000000000 ≤ now)
  | none => true

/-- PDELAY_REQ_SEND: an unanswered request counts; more than allowedLostResponses 9 end asCapable. PRESUMED: notes/assumptions/62. -/
def State.pdelaySend (s : State) : State :=
  if !s.serving || !s.ntu.pdelayDue s.now then s
  else
    let lost := if s.ntu.reqAt.isSome then s.ntu.lostResp + 1 else s.ntu.lostResp
    let seq := (s.ntu.reqSeq + 1) % 65536
    let s := { s with ntu := { s.ntu with reqSeq := seq, sentAt := some s.now, reqAt := some s.txStamp, lostResp := lost } }
    let s := s.send (.gptp 0 seq s.txStamp)
    if 9 < lost then s.notCapable else s

/-- PDELAY_REQ_RECEIVE: answered two-step. PRESUMED: notes/assumptions/62. -/
def State.pdelayAnswer (s : State) (seqId : Nat) : State :=
  if s.serving then (s.send (.gptp 1 seqId s.rxStamp)).send (.gptp 2 seqId s.txStamp) else s

/-- PDELAY_RESP_RECEIVE: the peer's receive and transmit stamps give the rate ratio, the delay and asCapable.
PRESUMED: notes/assumptions/62. -/
def State.pdelayResponse (s : State) (seqId : Nat) (peerRx peerTx : Int) : State :=
  match s.ntu.reqAt with
  | none => s
  | some t1 =>
    if !s.serving ∨ seqId ≠ s.ntu.reqSeq then s
    else
      let t4 := s.rxStamp
      let (num, den) := match s.ntu.prevPeer with
        | some (p3, p4) => if 0 < peerTx - p3 ∧ 0 < t4 - p4 then (peerTx - p3, t4 - p4) else (s.ntu.ratioNum, s.ntu.ratioDen)
        | none => (1, 1)
      let delay := max 0 (((t4 - t1) * num - (peerTx - peerRx) * den) / (2 * den))
      let s := { s with ntu := { s.ntu with
          reqAt := none, lostResp := 0, prevPeer := some (peerTx, t4), ratioNum := num, ratioDen := den
          linkDelay := min 0xFFFFFFFF delay.toNat } }
      if delay ≤ 800 then { s with ntu := { s.ntu with asCapable := true } } else s.notCapable

/-- A first accepted Sync waits among the commands of the present instant (17 R397). -/
def State.syncWaits (s : State) : Bool :=
  s.ntu.asCapable && s.pending.any fun c => match c with
    | .followUpReceive t m => decide (t ≤ s.now) && (s.completes m).isSome
    | _ => false

/-- 0x6000.02 LocalTimeSet: only in Free (17 R385), and not together with a first accepted Sync (17 R397). -/
def State.localTimeSet (s : State) (value : List Byte) : State :=
  if s.ntu.sync ≠ .free ∨ s.syncWaits = true then s
  else
    let set : Nat := uAt value 0 6 * 1000000000 + uAt value 6 4 % 2 ^ 30
    s.timeStep ((s.clockNs : Int) - (set : Int)) 0

/-! ### Edge stamps and frequencies (17 R390, R391) -/

/-- The edge is enabled by TsinEdge (17 R398). -/
def State.tsinEnabled (s : State) (input : Nat) (falling : Bool) : Bool :=
  bitOf (s.regN 0x600030) (2 * input + bNat falling)

/-- An edge that TsinEdge enables comes less than 10 ns after the last one of its input (17 R390). -/
def State.tsinTooClose (s : State) (input : Nat) : Bool :=
  match (s.ntu.tsins.getD input {}).lastAt with
  | some a => decide (s.now < a + 10)
  | none => false

/-- The edge counts as one of its input: TsinEdge does not enable it, or it is far enough from the last one. -/
def State.tsinIsEdge (s : State) (input : Nat) (falling : Bool) : Bool :=
  decide (input < 8) && !(s.tsinEnabled input falling && s.tsinTooClose input)

/-- TSIN_EDGE: the stamp, the recorder's trigger and the sequence's (17 R390, 18 R404, 16 R373). DEDUCED: notes/assumptions/60. -/
def State.tsinEdge (s : State) (input : Nat) (falling : Bool) : State :=
  if 8 ≤ input then s
  else
    let x := s.ntu.tsins.getD input {}
    let put := fun (x : Tsin) => { s with ntu := { s.ntu with tsins := setAt s.ntu.tsins input x } }
    let enabled := s.tsinEnabled input falling
    let tooClose := s.tsinTooClose input
    let lost := { x with lost := sat32 x.lost }
    let s1 :=
      if !enabled then s
      else if tooClose then put lost
      else if 32 ≤ x.fifo.length then put { lost with lastAt := some s.now }
      else put { x with fifo := x.fifo ++ [(s.localTime, falling)], lastAt := some s.now }
    let s1 := if enabled && !tooClose && s1.regN 0x640008 == input then s1.trigger 1 else s1
    let src := s1.regN 0x540013
    if bitOf src 1 && field src 4 2 == input then s1.sequence else s1

/-- Divider exponent p, 0 to 8, and gate g in ms of an input (17 R391). -/
def State.fmeasCfg (s : State) (input : Nat) : Bool × Nat × Nat :=
  let b := bytesAt (s.reg 0x600038) (4 * input) 4
  (bitOf (uAt b 0 1) 7, min 8 (field (uAt b 0 1) 3 0), max 1 (uAt b 2 2))

/-- Whole gates of `g` ms that have run by the local clock since the present one began (17 R391). -/
def State.gatesRun (s : State) (m : Fmeas) (g : Nat) : Nat :=
  let wrap := 2 ^ 48 * 1000000000
  (s.clockNs + wrap - m.since) % wrap / (1000000 * g)

/-- FMEAS_GATE_END: nothing ends before its g ms have run; the next gate begins where the last one ended (17 R391).
DEDUCED: notes/assumptions/61. -/
def State.fmeasEnd (s : State) (input count : Nat) : State :=
  let (on, p, g) := s.fmeasCfg input
  let old := s.ntu.fmeas.getD input {}
  let gates := s.gatesRun old g
  if 4 ≤ input ∨ on = false ∨ gates = 0 then s
  else
    let m : Fmeas := { since := (old.since + 1000000 * g * gates) % (2 ^ 48 * 1000000000), valid := true, overRange := decide (400000000 * g < count * 1000), count
                       mHz := count * 2 ^ p * 1000000 / g }
    { s with ntu := { s.ntu with fmeas := setAt s.ntu.fmeas input m } }

/-- A new FmeasConfig: the gates of changed inputs are discarded (17 R391). DEDUCED: notes/assumptions/61. -/
def State.setFmeasConfig (s : State) (v : List Byte) : State :=
  let old := s.reg 0x600038
  let s := s.setReg 0x600038 .rwp v
  let keep := fun (i : Nat) (m : Fmeas) =>
    if bytesAt old (4 * i) 4 = bytesAt v (4 * i) 4 then m else { m with valid := false, since := s.clockNs }
  { s with ntu := { s.ntu with fmeas := mapIdx s.ntu.fmeas keep } }

/-- TsinStamps of the input TsinRead names, oldest first (17 R398). -/
def State.tsinStamps (s : State) : List Byte :=
  (s.ntu.tsins.getD (s.regN 0x600031) {}).fifo.flatMap fun x => x.1.bytes ++ le 1 (bNat x.2) ++ [0]

def Fmeas.bytes (m : Fmeas) : List Byte :=
  le 8 m.mHz ++ le 4 m.count ++ le 1 (bNat m.valid + 2 * bNat m.overRange) ++ [0, 0, 0]

/-! ### Frame phase (17 R393) -/

/-- The decision at the turnaround start `start` under FramePhaseMode 1: c, and PhaseError and PhaseLocked. -/
def State.framePhase (s : State) (p : Plan) (start : Nat) : Int × State :=
  if planN p 0x600040 ≠ 1 ∨ p.period = 0 then (0, s)
  else
    let b : Int := ((s.clockAt start + 1000 * p.turnaround * ((2 ^ 32 : Nat) + s.rate).toNat) / 2 ^ 32 : Nat)
    let e := (b - (planN p 0x600041 : Nat)) % (p.period : Int)
    let e := if (p.period : Int) < 2 * e then e - p.period else e
    let slew : Int := planN p 0x600042
    let near := decide (e.natAbs ≤ 1000)
    let good := if near then min 8 (s.ntu.phaseGood + 1) else 0
    let bad := if near then 0 else min 2 (s.ntu.phaseBad + 1)
    let locked := if good = 8 then true else if bad = 2 then false else s.ntu.phaseLocked
    let changed := locked != s.ntu.phaseLocked
    let s := { s with ntu := { s.ntu with phaseError := e, phaseGood := good, phaseBad := bad, phaseLocked := locked } }
    (clampInt (-slew) slew (-e), s.raiseIf changed 0x6004 0x44 (bNat locked))

/-! ### The commands -/

def ntuFrame : List UnitId :=
  [.rw, .rwp, .txn, .mram, .pipe, .edu, .bsc, .rfe, .tda, .hac, .prx, .mcx, .fmt, .linkA, .linkB, .emg, .cu, .wcu,
   .thermal, .spring, .fw, .cal, .part]

def execSyncReceive (t : Nat) (m : SyncMsg) : State → Host.Outcome State Fault Refusal :=
  runMain t (.mon :: .kpp :: .evr :: ntuFrame) fun s => s.syncReceive m

def execFollowUpReceive (t : Nat) (m : FollowUpMsg) : State → Host.Outcome State Fault Refusal :=
  runMain t (.mon :: ntuFrame) fun s => s.followUp m

def execAnnounceReceive (t domain : Nat) (gm : BitVec 64) : State → Host.Outcome State Fault Refusal :=
  runMain t (.mon :: .kpp :: .evr :: ntuFrame) fun s => s.announce domain gm

def execPdelayReqReceive (t seqId : Nat) : State → Host.Outcome State Fault Refusal :=
  runMain t (.mon :: .kpp :: .evr :: ntuFrame) fun s => s.pdelayAnswer seqId

def execPdelayReqSend (t : Nat) : State → Host.Outcome State Fault Refusal :=
  runMain t (.mon :: ntuFrame) fun s => s.pdelaySend

def execPdelayRespReceive (t seqId : Nat) (peerRx peerTx : Int) : State → Host.Outcome State Fault Refusal :=
  runMain t (.mon :: ntuFrame) fun s => s.pdelayResponse seqId peerRx peerTx

def execSyncReceiptTimeout (t : Nat) : State → Host.Outcome State Fault Refusal :=
  runMain t (.mon :: ntuFrame) fun s => s.syncTimeout

def execHoldoverLimit (t : Nat) : State → Host.Outcome State Fault Refusal :=
  runMain t (.mon :: ntuFrame) fun s => s.holdoverEnds

def execLocalTimeSet (t : Nat) (value : List Byte) : State → Host.Outcome State Fault Refusal :=
  runUnit t (.mon :: ntuFrame) fun s => s.localTimeSet value

def execFmeasGateEnd (t input count : Nat) : State → Host.Outcome State Fault Refusal :=
  runMain t (.mon :: .kpp :: .evr :: ntuFrame) fun s => s.fmeasEnd input count

end Sys2Proof.Machine
end

