-- ==== Sys2Proof/Machine/Wcu.lean ====
section
/-!
DEFINITION. The Waveform Capture Unit (15): triggers, circular and segmented capture, records, skew calibration.
-/

namespace Sys2Proof.Machine

/-! ### Samples and records (15 R353, R354) -/

/-- Code and over-range of a sample in µV above the baseline (15 R353). -/
def wcuCode (uV : Int) : Nat × Bool :=
  ((clampInt 0 1023 ((uV + 96000) / 1500)).toNat, decide (uV < -96000 ∨ 1440000 ≤ uV))

/-- Sample `i` of a record with `pre` samples before its trigger sample falls in the blank of a shot slot (06 R151). Slots of columns
that begin after the trigger are not known at it, and blank nothing. DEDUCED: notes/assumptions/56. -/
def WcuHead.blanked (h : WcuHead) (pre i : Nat) : Bool :=
  let off : Int := (5 * h.lastSlot * h.slotLen + 80 : Nat) + 2 * (h.sample - pre + i)
  let five : Int := (5 * h.slotLen : Nat)
  decide (0 ≤ off ∧ off < h.slots * five ∧ off % five < 80)

/-- A sample word (15 R353). -/
def sampleWord (x : WcuSample) : Nat :=
  let c := wcuCode x.uV
  32768 * bNat c.2 + 16384 * bNat x.comp + c.1

/-- The channel a pair captures (15 R352). -/
def WcuSet.channel (w : WcuSet) (pair : Nat) : Nat := 32 * pair + w.channels.getD pair 0 % 32

/-- The channel recorded in a pair's SkewTrim differs from the one captured (15 R361). -/
def State.skewFlag (s : State) (pair ch : Nat) : Bool := uAt (s.reg 0x500021) (12 * pair + 8) 2 != ch

/-- A record of a pair (15 R354): `pre` samples before the trigger sample, the sample words, and the pre-trigger short flag. -/
def State.wcuRecord (s : State) (h : WcuHead) (pair pre : Nat) (short : Bool) (words : List Nat) : List Byte :=
  let ch := s.wcu.set.channel pair
  let flags := 8192 * (h.fbs.getD pair 0 % 4) + 4096 * bNat (s.skewFlag pair ch) + 2048 * bNat short +
    1024 * bNat (words.any fun w => bitOf w 14) + 512 * bNat (words.any fun w => bitOf w 15) + ch
  let phase := match h.phase with
    | some i => unsigned 32 i
    | none => 0x7FFFFFFF
  h.time.bytes ++ le 2 flags ++ le 4 h.frame.toNat ++ le 2 h.visit ++ le 1 h.slot ++ le 1 h.source ++ le 4 phase ++
    le 4 pre ++ le 4 words.length ++ words.flatMap (le 2)

/-- The sample words of a record: the comparator is blanked (15 R353). -/
def WcuHead.words (h : WcuHead) (pre : Nat) (samples : List WcuSample) : List Nat :=
  mapIdx samples fun i x => sampleWord { x with comp := x.comp && !h.blanked pre i }

/-- The samples a command gives for a pair; a sample it does not give reads as the baseline. DESIGN CHOICE: notes/assumptions/14. -/
def samplesOf (samples : List (Nat × List WcuSample)) (pair n : Nat) : List WcuSample :=
  fit n { uV := 0, comp := false } (((samples.find? fun x => x.1 == pair).map Prod.snd).getD [])

/-- One record for each enabled pair, of the samples given for it. Over-range is counted in the samples that records keep; of
others no command speaks. DESIGN CHOICE: notes/assumptions/14. -/
def State.addRecords (s : State) (h : WcuHead) (pre : Nat) (short : Bool) (samples : Nat → List WcuSample) : State :=
  let words := fun p => h.words pre (samples p)
  let pairs := (List.range 16).filter fun p => bitOf s.wcu.set.pairs p
  let records := pairs.foldl (fun (m : SMap (List (List Byte))) p =>
    mset m p ((mget m p).getD [] ++ [s.wcuRecord h p pre short (words p)])) s.wcu.records
  let ovr := sumOf (pairs.map fun p => count (fun w => bitOf w 15) (words p))
  { s with wcu := { s.wcu with records, overRange := sat32 s.wcu.overRange ovr } }

/-- The first sample at or after an instant in 1/64 ns, on the grid of 400 ps that starts at `grid` ns (15 R352, R355). -/
def sampleAt (grid at64 : Nat) : Int := -((-(5 * ((at64 : Int) - (64 * grid : Nat)))) / 128)

/-- `n` samples of 400 ps have passed since the trigger instant, at the instant `at64` in 1/64 ns (15 R352). -/
def WcuHead.past (h : WcuHead) (n at64 : Nat) : Bool := decide (128 * n + 5 * h.at64 ≤ 5 * at64)

/-- PreSamples of a circular record and its short flag (15 R357). -/
def Wcu.preSamples (w : Wcu) (h : WcuHead) : Nat × Bool :=
  let want := 131056 - w.set.post
  let have_ := (h.sample - sampleAt h.grid (64 * w.armedAt)).toNat
  (min want have_, decide (have_ < want))

/-- The records that fit a partition (15 R358). -/
def WcuSet.capacity (w : WcuSet) : Nat := 262144 / (32 + 2 * w.segLen)

def Wcu.recordsPerPair (w : Wcu) : Nat := maxOf (w.records.map fun x => x.2.length)

/-- Into Done with event CaptureComplete (15 R359, R365). -/
def State.captureDone (s : State) : State :=
  { s with wcu := { s.wcu with state := .done, head := none } }.raise 0x5001 0x04 (s.wcu.recordsPerPair % 65536)

/-! ### Arm and stop (15 R359) -/

/-- The settings as an Arm reads them. -/
def State.wcuSettings (s : State) : WcuSet :=
  let len := s.regN 0x500014
  { pairs := s.regN 0x500010, channels := (s.reg 0x500011).map BitVec.toNat, mode := s.regN 0x500012
    post := s.regN 0x500013, segLen := len, segPre := min (s.regN 0x500015) (len - 1), trig := s.regN 0x500016
    firePort := s.regN 0x500017, tsin := s.regN 0x500018, terms := s.reg 0x500020 }

/-- 0x5000.05 Arm with 0x0000_4152. -/
def State.wcuArm (s : State) : State :=
  if s.wcu.state ≠ .done ∧ (s.wcu.state ≠ .idle ∨ s.regN 0x500010 = 0) then s
  else { s with wcu := { s.wcu with
    state := .armed, set := s.wcuSettings, armedAt := s.now, head := none, stopped := false, records := [], missed := 0
    ignored := 0, stamps := [], stampOverflow := 0 } }

/-- Samples that no command gave: free values (15 R353, notes/assumptions/10). -/
def freeSamples (first n : Nat) : List WcuSample :=
  (List.range n).map fun i =>
    let f := Config.freeNat (first + i)
    { uV := if f % 4 < 2 then (f / 4 : Nat) else -(f / 4 : Nat), comp := f % 2 == 1 }

/-- A record in progress kept with the samples written (15 R359). DEDUCED: notes/assumptions/56. -/
def State.keepPartial (s : State) (h : WcuHead) : State :=
  let w := s.wcu
  let circular := w.set.mode == 0
  let (pre, short) := if circular then w.preSamples h else (w.set.segPre, false)
  let after := if circular then w.set.post else w.set.segLen - w.set.segPre
  let n := pre + min after (sampleAt h.grid (64 * s.now) - h.sample + 1).toNat
  let base := s.freeCount
  let s := { s with freeCount := base + 16 * n }
  s.addRecords h pre short fun p => freeSamples (base + p * n) n

/-- A trigger of this very cycle comes after the Stop: taken back, and ignored (15 R363). -/
def Wcu.untrigger (w : Wcu) (now : Nat) : Wcu :=
  match w.prior with
  | none => w
  | some x =>
    if w.lastTrig ≠ some now then w
    else { w with
      triggers := x.triggers, missed := x.missed, stamps := x.stamps, stampOverflow := x.stampOverflow, prior := none
      ignored := sat32 w.ignored, head := if w.triggers = x.triggers then w.head else none }

/-- Arm with 0x0000_5350: stop (15 R359, R363). DEDUCED: notes/assumptions/56. -/
def State.wcuStop (s : State) : State :=
  let s := match s.wcu.state with
    | .idle => s
    | .done => s
    | .calibrating => s
    | _ => { s with wcu := s.wcu.untrigger s.now }
  let s := match s.wcu.state, s.wcu.head with
    | .postFill, some h => s.keepPartial h
    | .capturing, some h => s.keepPartial h
    | _, _ => s
  match s.wcu.state with
  | .idle => s
  | .done => s
  | .calibrating => s
  | _ => { s with wcu := { s.wcu with state := .done, head := none, stopped := true } }

/-- 0x5000.05 Arm. -/
def State.armWrite (s : State) (v : Nat) : State :=
  if v = 0x4152 then s.wcuArm else if v = 0x5350 then s.wcuStop else s

/-! ### Triggers (15 R355 to R358) -/

/-- The care mask of a term is not all zero (15 R356). -/
def WcuSet.termUsed (w : WcuSet) (t : Nat) : Bool := (bytesAt w.terms (128 * t + 64) 64).any fun b => b != 0

/-- The comparator of channel `n` as a pattern reads it in the cycle at `x`: low in the blank, on an idle channel and in a slot in
which the RFE masks it (15 R356, R363). -/
def State.patternHigh (s : State) (x : Nat) (high : List Nat) (n : Nat) : Bool :=
  high.contains n && s.chanInUse n && !(s.inShotSlot && (s.chan n).masked) &&
    !(s.inShotSlot && decide (s.pipe.slotStart ≤ x) && decide (x < s.pipe.slotStart + 16))

/-- Term `t` is enabled and true in the cycle at `x`: every channel its care mask names is as its match says (15 R356). -/
def State.termTrue (s : State) (x : Nat) (high : List Nat) (t : Nat) : Bool :=
  let w := s.wcu.set
  let m := bytesAt w.terms (128 * t) 64
  let c := bytesAt w.terms (128 * t + 64) 64
  bitOf w.trig t && w.termUsed t &&
    (List.range 512).all fun n => !mapBit c n || s.patternHigh x high n == mapBit m n

/-- The port drives a fire edge in the slot in progress: it fired, or is about to (15 R355, 04 R105, 13 R315). -/
def State.firesInSlot (s : State) (port : Nat) : Bool :=
  match s.pipe.cur with
  | none => false
  | some c =>
    s.inShotSlot && s.pipe.lit &&
      match mget c.fired s.pipe.slot with
      | some ports => ports.contains port
      | none => !(s.firing ([port].filter (s.wouldFire c.plan c.column))).isEmpty

/-- The fire edge of a port at its ball, FireSkewTrim included, in 1/64 ns: of a shot slot, or of the diagnostic shot
(15 R355; 04 R104, R112). -/
def State.fireAt (s : State) (port : Nat) : Option Nat :=
  let skew := uAt (s.reg 0x300010) port 1
  if s.pipe.inTurn then
    if s.pipe.diagDone && !(s.firing ([port].filter fun e => (s.port e).used && !(s.port e).masked)).isEmpty then
      some (64 * (s.pipe.turnStart + 300000) + skew) else none
  else if s.firesInSlot port then some (64 * (s.pipe.slotStart + 16 + s.pipe.dither) + skew)
  else none

/-- The Source code and the instant, in 1/64 ns, of a trigger that a source makes now, if it makes one (15 R355, R356). The cycle
before is read under the masks of this one. DEDUCED: notes/assumptions/56. -/
def State.triggerSource (s : State) (x : WcuSource) : Option (Nat × Nat) :=
  let w := s.wcu.set
  match x with
  | .pattern high before =>
    if (List.range 4).any (s.termTrue (s.now - 1) before) then none
    else ((List.range 4).find? (s.termTrue s.now high)).map fun t => (1 + t, 64 * s.now)
  | .laser port =>
    if bitOf w.trig 4 && w.firePort == port then
      match s.fireAt port with
      | some x => if x < 64 * (s.now + 1) then some (0x10, x) else none
      | none => none
    else none
  | .tsin i falling =>
    if bitOf w.trig 5 && field w.tsin 2 0 == i && bitOf w.tsin 3 == falling then some (0x20 + i, 64 * s.now) else none

/-- Where the trigger sample lies (15 R354): the first sample at or after the instant, from slot offset 16 ns. -/
def State.triggerHead (s : State) (source at64 : Nat) : WcuHead :=
  let inSlot := s.inShotSlot
  let grid := s.pipe.slotStart + 16
  let sample := sampleAt grid at64
  { time := s.localTimeAt (at64 / 64), frame := s.pipe.frame
    visit := if s.pipe.inColumn && !s.pipe.inTurn then s.pipe.visit else 0xFFFF
    slot := if inSlot then s.pipe.slot else 0xFF, source
    phase := if inSlot then some sample else none
    at64, grid, sample, lastSlot := s.pipe.slot
    slotLen := (s.pipe.cur.map fun c => c.plan.slot).getD 0, slots := (s.pipe.cur.map fun c => c.plan.shots).getD 0
    fbs := (List.range 16).map fun p => (s.chan (s.wcu.set.channel p)).fb }

/-- The busy time is over at the instant `at64` in 1/64 ns (15 R358): the record's last sample and 1,000 ns, 2,500 samples. -/
def Wcu.busyOver (w : Wcu) (at64 : Nat) : Bool :=
  match w.head with
  | some h => h.past (w.set.segLen - w.set.segPre + 2500) at64
  | none => true

/-- WCU_REARM: Armed again, or Done when the partition is full (15 R358, R359). -/
def State.wcuRearm (s : State) (at64 : Nat) : State :=
  if s.wcu.state ≠ .rearming ∨ s.wcu.busyOver at64 = false then s
  else if s.wcu.set.capacity ≤ s.wcu.recordsPerPair then s.captureDone
  else { s with wcu := { s.wcu with state := .armed, head := none } }

/-- A trigger that finds the WCU busy (15 R358). -/
def Wcu.miss (w : Wcu) (time : Time80) (source : Nat) : Wcu :=
  let w := { w with missed := sat32 w.missed }
  if w.stamps.length < 16 then { w with stamps := w.stamps ++ [(time, source)] }
  else { w with stampOverflow := sat32 w.stampOverflow }

/-- The last stamp renamed by a second source of its cycle (15 R355). -/
def Wcu.renameStamp (w : Wcu) (time : Time80) (source : Nat) : Wcu :=
  { w with stamps := mapIdx w.stamps fun i x =>
      if i + 1 = w.stamps.length ∧ x.1 = time then (x.1, min x.2 source) else x }

/-- A second source in the same cycle: the first of the table names the trigger (15 R355). DEDUCED: notes/assumptions/56. -/
def Wcu.rename (w : Wcu) (time : Time80) (source cycle : Nat) : Wcu :=
  match w.head with
  | some h =>
    if h.at64 / 64 = cycle then { w with head := some { h with source := min h.source source } } else w.renameStamp time source
  | none => w.renameStamp time source

/-- A trigger at the instant `at64` in 1/64 ns (15 R355, R357 to R359). DEDUCED: notes/assumptions/56. -/
def State.wcuTrigger (s : State) (source at64 : Nat) : State :=
  let s := s.wcuRearm at64
  let w := s.wcu
  let time := s.localTimeAt (at64 / 64)
  let prior : WcuPrior :=
    { triggers := w.triggers, missed := w.missed, stamps := w.stamps, stampOverflow := w.stampOverflow }
  let s := if w.lastTrig = some (at64 / 64) then { s with wcu := w.rename time source (at64 / 64) }
    else
      let s := { s with wcu := { w with lastTrig := some (at64 / 64), prior := none } }
      let go := fun (st : WcuState) =>
        { s with wcu := { s.wcu with
            state := st, head := some (s.triggerHead source at64), triggers := sat32 w.triggers, prior := some prior } }
      let miss := { s with wcu := { (s.wcu.miss time source) with prior := some prior } }
      let ignore := { s with wcu := { s.wcu with ignored := sat32 w.ignored } }
      match w.state with
      | .armed => go (if w.set.mode = 0 then .postFill else .capturing)
      | .capturing => miss
      | .rearming => miss
      | .idle => ignore
      | .postFill => ignore
      | .done => ignore
      | .calibrating => ignore
  s

/-- 0x5000.06 ForceTrigger. -/
def State.forceTrigger (s : State) (v : Nat) : State := if v = 0x4654 then s.wcuTrigger 0x30 (64 * s.now) else s

/-- A source reaches the WCU. -/
def State.sourceTrigger (s : State) (x : WcuSource) : State :=
  match s.triggerSource x with
  | some (source, at64) => s.wcuTrigger source at64
  | none => s

/-- POSTFILL_COMPLETE: the last of the PostTrigger samples is written (15 R357). -/
def State.postFilled (s : State) (samples : List (Nat × List WcuSample)) : State :=
  match s.wcu.state, s.wcu.head with
  | .postFill, some h =>
    if !h.past s.wcu.set.post (64 * s.now) then s else
    let (pre, short) := s.wcu.preSamples h
    (s.addRecords h pre short fun p => samplesOf samples p (pre + s.wcu.set.post)).captureDone
  | _, _ => s

/-- SEGMENT_RECORD_COMPLETE: the record's last sample is written (15 R358). -/
def State.segmentDone (s : State) (samples : List (Nat × List WcuSample)) : State :=
  match s.wcu.state, s.wcu.head with
  | .capturing, some h =>
    if !h.past (s.wcu.set.segLen - s.wcu.set.segPre) (64 * s.now) then s else
    let s := s.addRecords h s.wcu.set.segPre false fun p => samplesOf samples p s.wcu.set.segLen
    { s with wcu := { s.wcu with state := .rearming } }
  | _, _ => s

/-! ### Skew calibration (15 R360) -/

/-- 0x5000.22 SkewCalibrate. -/
def State.skewCalibrate (s : State) (v : Nat) : State :=
  if v = 0x5343 ∧ (s.wcu.state = .idle ∨ s.wcu.state = .done) then
    { s with wcu := { s.wcu with
        state := .calibrating, calStatus := 1, head := none, calAt := s.now, calFrames := s.pipe.running } }
  else s

/-- The 256 pulses, 4 µs apart, have been injected: in a turnaround, 700 to 1,724 µs into it, or from the start where no frames
ran (15 R360). -/
def State.skewPulsed (s : State) : Bool :=
  if s.wcu.calFrames then
    decide (s.wcu.calAt ≤ s.pipe.turnStart + 700000) && decide (s.pipe.turnStart + 1724000 ≤ s.now)
  else decide (s.wcu.calAt + 1024000 ≤ s.now)

/-- A trim lies in its range: both phases within ±800 ps in steps of 6.25 ps. -/
def trimOk (b : List Byte) : Bool := decide ((iAt b 0 2).natAbs ≤ 128) && decide ((iAt b 2 2).natAbs ≤ 128)

/-- SKEW_CALIBRATION_COMPLETE: `trims` the phases, offset and gain found for each pair; a pair without one has failed. -/
def State.skewCalibrated (s : State) (trims : List (Nat × List Byte)) : State :=
  if s.wcu.state ≠ .calibrating ∨ s.skewPulsed = false then s
  else
    let enabled := (List.range 16).filter fun p => bitOf (s.regN 0x500010) p
    let found := fun (p : Nat) => (trims.find? fun x => x.1 == p && trimOk x.2).map Prod.snd
    let failed := enabled.filter fun p => (found p).isNone
    let chans := s.reg 0x500011
    let trim := enabled.foldl (fun (b : List Byte) p =>
      match found p with
      | some t => overlay b (12 * p) (bytesAt t 0 8 ++ le 2 (32 * p + uAt chans p 1 % 32) ++ [0, 0])
      | none => b) (bytesAt (s.reg 0x500021) 0 192)
    let s := s.setReg 0x500021 .rwp trim
    { s with wcu := { s.wcu with state := .idle, calStatus := if failed.isEmpty then 2 else 3 } }.raiseIf
      (!failed.isEmpty) 0x5002 0x23 (sumOf (failed.map fun p => 2 ^ p))

/-! ### Readout (15 R362) -/

def State.pairRecords (s : State) : List (List Byte) := (mget s.wcu.records (s.regN 0x500028)).getD []

/-- CaptureData: only in Done, and in Idle after a Stop. DEDUCED: notes/assumptions/56. -/
def State.captureData (s : State) : List Byte :=
  if s.wcu.state = .done ∨ (s.wcu.state = .idle ∧ s.wcu.stopped = true) then s.pairRecords.flatten else []

def WcuState.code : WcuState → Nat
  | .idle => 0 | .armed => 1 | .postFill => 2 | .capturing => 3 | .rearming => 4 | .done => 5 | .calibrating => 6

/-! ### The commands -/

def wcuFrame : List UnitId :=
  [.rw, .txn, .mram, .pipe, .edu, .bsc, .rfe, .tda, .hac, .prx, .mcx, .fmt, .linkA, .linkB, .emg, .cu, .mon, .thermal,
   .ntu, .spring, .fw, .cal, .part]

/-- A command of the WCU: nothing happens on a variant without it (00 R1). -/
def runWcu (t : Nat) (frame : List UnitId) (f : State → State) : State → Host.Outcome State Fault Refusal :=
  runMain t (frame ++ wcuFrame) fun s => if s.part.variant.hasRecorder then f s else s

/-- A write of one of its objects, by the unit that acts (14 R337, R338). -/
def runWcuUnit (t : Nat) (frame : List UnitId) (f : State → State) : State → Host.Outcome State Fault Refusal :=
  runWcu t frame fun s => if s.unitActs then f s else s

def execWcuArm (t : Nat) : State → Host.Outcome State Fault Refusal :=
  runWcuUnit t [.rwp, .kpp, .evr] fun s => s.wcuArm

def execWcuStop (t : Nat) : State → Host.Outcome State Fault Refusal :=
  runWcuUnit t [.rwp, .kpp, .evr] fun s => s.wcuStop

def execForceTrigger (t : Nat) (v : Word) : State → Host.Outcome State Fault Refusal :=
  runWcuUnit t [.rwp] fun s => s.forceTrigger v.toNat

def execWcuTrigger (t : Nat) (source : WcuSource) : State → Host.Outcome State Fault Refusal :=
  runWcu t [.rwp] fun s => s.sourceTrigger source

/-- TSIN_EDGE (17 R390): the edge reaches the WCU too, unless it came too soon after the last one to be taken as an edge
(15 R355). DEDUCED: notes/assumptions/60. -/
def execTsinEdge (t input : Nat) (falling : Bool) : State → Host.Outcome State Fault Refusal :=
  runMain t (ntuFrame.filter fun u => u != .wcu) fun s =>
    let edge := s.tsinIsEdge input falling
    let s := s.tsinEdge input falling
    if edge && s.part.variant.hasRecorder then s.sourceTrigger (.tsin input falling) else s

def execPostfillComplete (t : Nat) (samples : List (Nat × List WcuSample)) : State → Host.Outcome State Fault Refusal :=
  runWcu t [.rwp] fun s => s.postFilled samples

def execSegmentRecordComplete (t : Nat) (samples : List (Nat × List WcuSample)) :
    State → Host.Outcome State Fault Refusal :=
  runWcu t [.rwp, .kpp, .evr] fun s => s.segmentDone samples

def execWcuRearm (t : Nat) : State → Host.Outcome State Fault Refusal :=
  runWcu t [.rwp] fun s => s.wcuRearm (64 * s.now)

def execSkewCalibrate (t : Nat) (v : Word) : State → Host.Outcome State Fault Refusal :=
  runWcuUnit t [.rwp, .kpp, .evr] fun s => s.skewCalibrate v.toNat

def execSkewCalibrationComplete (t : Nat) (trims : List (Nat × List Byte)) : State → Host.Outcome State Fault Refusal :=
  runWcu t [] fun s => s.skewCalibrated trims

end Sys2Proof.Machine
end

