-- ==== Sys2Proof/Machine/Thermal.lean ====
section
/-!
DEFINITION. Thermal supervision (16 R375 to R379) and the NTC conversion of the Spring (19 R426).
-/

namespace Sys2Proof.Machine

/-! ### NTC temperature (19 R426) -/

/-- Bits of log₂ of m / 2⁹⁶, 1 ≤ m / 2⁹⁶ < 2, by repeated squaring. -/
def logBits : Nat → Nat → Nat → Nat
  | 0, _, acc => acc
  | k + 1, m, acc =>
    let q := m * m / 2 ^ 96
    if 2 ^ 97 ≤ q then logBits k (q / 2) (2 * acc + 1) else logBits k q (2 * acc)

/-- The power of two at or below a ÷ b. -/
def logWhole (a b : Nat) : Int :=
  let e : Int := (Nat.log2 a : Int) - (Nat.log2 b : Int)
  let fits := if 0 ≤ e then decide (b * 2 ^ e.toNat ≤ a) else decide (b ≤ a * 2 ^ (-e).toNat)
  if fits then e else e - 1

/-- ln(a ÷ b) × 2⁶⁴, from 64 bits of log₂ (PRESUMED precision; the manual gives the real value). PRESUMED: notes/assumptions/18. -/
def lnScaled (a b : Nat) : Int :=
  let e := logWhole a b
  let m := if 0 ≤ e then a * 2 ^ 96 / (b * 2 ^ e.toNat) else a * 2 ^ 96 * 2 ^ (-e).toNat / b
  let log2 : Int := e * (2 ^ 64 : Nat) + (logBits 64 m 0 : Nat)
  log2 * 12786308645202655660 / (2 ^ 64 : Nat)

/-- Temperature in 0.0625 °C of an NTC code; none where the formula gives no temperature in the number format (n = 0, or a sum of inverses not above 0).
PRESUMED: notes/assumptions/18. -/
def ntcTemperature (n pullup r25 beta : Nat) : Option Int :=
  if n = 0 ∨ 4096 ≤ n ∨ pullup = 0 ∨ r25 = 0 ∨ beta = 0 then none
  else
    let l := lnScaled (pullup * n) ((4096 - n) * r25)
    let num : Int := 29815 * (2 ^ 64 : Nat) * beta
    let den : Int := 100 * (2 ^ 64 : Nat) * beta + 29815 * l
    if den ≤ 0 then none
    else
      let x := (160 * num - 43699 * den) / (10 * den)
      if -32768 ≤ x ∧ x ≤ 32767 then some x else none

/-- The NTC channel i (0 NTC1, 1 NTC2) as a temperature; a free value where none is stated. PRESUMED: notes/assumptions/18. -/
def State.ntcValue (s : State) (i n : Nat) : Int × State :=
  match ntcTemperature n (uAt (s.reg 0x68001A) (4 * i) 4) (uAt (s.reg 0x680019) (4 * i) 4) (uAt (s.reg 0x680018) (2 * i) 2) with
  | some x => (x, s)
  | none =>
    let (f, s) := s.free
    (signed 16 f, s)

/-! ### The temperature in use (16 R375 to R377) -/

/-- Valid neighbours: the two proxies unless the factory record is lost, the NTCs with their offsets unless broken (16 R375, 21 R462). -/
def State.neighbours (s : State) : List Int :=
  let raw := s.spring.raw
  let offset := fun (i : Nat) => iAt (s.reg 0x540045) (2 * i) 2
  (if s.mram.factoryGood = 0 then [] else [raw.getD 1 0, raw.getD 2 0]) ++
    (if bitOf s.spring.ntcBroken 0 then [] else [raw.getD 3 0 + offset 0]) ++
    (if bitOf s.spring.ntcBroken 1 then [] else [raw.getD 4 0 + offset 1])

def insertInt (x : Int) : List Int → List Int
  | [] => [x]
  | y :: ys => if x ≤ y then x :: y :: ys else y :: insertInt x ys

/-- Median; with an even count the floor of the mean of the two middle values (16 R376). -/
def medianOf (l : List Int) : Int :=
  let x := l.foldr insertInt []
  let n := x.length
  if n % 2 = 1 then x.getD (n / 2) 0 else (x.getD (n / 2 - 1) 0 + x.getD (n / 2) 0) / 2

/-- DIODE_BROKEN (16 R376): the diode against its neighbours in one round. DEDUCED: notes/assumptions/58. -/
def State.diodeCheck (s : State) : State :=
  let t := s.thermal
  let diode := s.spring.raw.getD 0 0
  let near := s.neighbours
  let out := decide (2 ≤ count (fun x => decide (128 < (diode - x).natAbs)) near)
  let t := { t with diode, bandgap := s.spring.raw.getD 1 0, ring := s.spring.raw.getD 2 0 }
  if out then
    let raised := !t.broken
    { s with thermal := { t with broken := true, goodRun := 0 } }.raiseIf raised 0x5411 0x46 1
  else if t.broken then
    let run := t.goodRun + 1
    if run < 16 then { s with thermal := { t with goodRun := run } }
    else { s with thermal := { t with broken := false, goodRun := 0 } }.raise 0x5411 0x46 0
  else { s with thermal := t }

/-- The round value in use and DieTemperature (16 R376, R377, 19 R425); a broken diode with no valid neighbour keeps the last value.
DEDUCED: notes/assumptions/58. -/
def State.temperatureInUse (s : State) (first : Bool) : State :=
  let t := s.thermal
  let near := s.neighbours
  let x := if !t.broken then t.diode else if near.isEmpty then t.roundValue else medianOf near
  let k := uAt (s.reg 0x680012) 0 1
  let f := if first then x else t.dieFilt + (x - t.dieFilt) / (2 ^ k : Nat)
  { s with thermal := { t with roundValue := x, dieFilt := f } }

/-! ### Thresholds (16 R378) -/

/-- One condition after a round: beyond its threshold, or back past the hysteresis. -/
def Cond.round (c : Cond) (beyond back : Bool) : Cond :=
  if (!c.on && beyond) || (c.on && back) then
    if c.run + 1 < 4 then { c with run := c.run + 1 } else { on := !c.on, run := 0 }
  else { c with run := 0 }

def Thermal.code (t : Thermal) : Nat :=
  sumOf (mapIdx t.conds fun i c => if c.on then 2 ^ i else 0) + 16 * bNat t.unknown

/-- Shutdown as the Spring acts on it: the condition, or Unknown (16 R376, 19 R434). -/
def Thermal.shutdown (t : Thermal) : Bool := (t.conds.getD 1 {}).on || t.unknown

def Thermal.lowLimit (t : Thermal) : Bool := (t.conds.getD 3 {}).on

/-- THERMAL_CHANGE (16 R378): all four conditions on the round value in use, one event for what changed. DEDUCED: notes/assumptions/58. -/
def State.thermalRound (s : State) : State :=
  let t := s.thermal
  let x := t.roundValue
  let c := fun i => t.conds.getD i {}
  let conds := [
    (c 0).round (decide (1840 ≤ x)) (decide (x < 1792)), (c 1).round (decide (2000 ≤ x)) (decide (x < 1952)),
    (c 2).round (decide (x ≤ -640)) (decide (-592 < x)), (c 3).round (decide (x ≤ -720)) (decide (-672 < x))]
  let t' := { t with conds, unknown := t.broken && s.neighbours.isEmpty }
  let before := t.code
  let after := t'.code
  { s with thermal := t' }.raiseIf (before != after) 0x5410 0x47 (after + 256 * (before ^^^ after))

end Sys2Proof.Machine
end

