-- ==== Sys2Proof/Machine/Spring.lean ====
section
/-!
DEFINITION. The Spring (19): the housekeeping round, wake and sleep, sequencing, supply reactions, resets, shutdown.
-/

namespace Sys2Proof.Machine

/-! ### Reset of the main domain (19 R435; 02 R63; 13 R313, R325; 17 R392; 18 R416; 20 R446) -/

/-- What the flash and the fuses keep of the firmware unit (20). A slot being programmed holds what the flash then holds. -/
def Firmware.afterReset (f : Firmware) : Firmware :=
  { boot0 := f.boot0, boot1 := f.boot1, fuse := f.fuse, vendorHash := f.vendorHash, deviceId := f.deviceId
    certificate := f.certificate, publicKey := f.publicKey
    programmed := if f.job = some .program then mdel f.programmed (1 - f.running) else f.programmed }

/-- What the flash keeps of the recorder (18 R416, R420): stored incidents, and the one being written as far as its pages go. -/
def Evr.afterReset (e : Evr) : Evr :=
  let kept := e.incidents.filter fun (i : Incident) => i.settled || (i.state == .writing && !i.blocks.isEmpty)
  { incidents := kept.map fun (i : Incident) => { i with opened := false, closedAt := none, segs := [] }
    last := e.last, blocks := e.blocks, journal := e.journal, factoryBad := e.factoryBad, grownBad := e.grownBad }

/-- The MRAM after a reset: a write under way never takes force (21 R464); RemapClear empties the remap table (10 R261). -/
def State.mramAfterReset (s : State) : Mram :=
  let m := s.mram
  let m := if s.mcx.clearAtReset then { m with remap := m.remap.write [] true } else m
  { m with writes := 0, job := none, status := 0, writing := [], recordLost := m.params.lost }

/-- The main domain held in reset: every unit of it as at reset; the Spring, MRAM, flash, fuses, pin levels and the board stay. -/
def State.mainReset (s : State) : State :=
  { now := s.now, out := s.out, pending := s.pending, freeCount := s.freeCount, part := s.part, spring := s.spring
    thermal := s.thermal, mram := s.mramAfterReset, fw := s.fw.afterReset, evr := s.evr.afterReset
    emg := { fb := s.emg.fb, source := s.emg.source } }

/-- Stored RWP values without those of the Spring (02 R63, 19 R439). -/
def State.storedRwp (s : State) : ObjMap := (s.mram.params.body.getD []).filter fun x => x.1 / 256 != 0x6800

/-- The window lengths in force at reset, and whether the stored ones were valid (13 R313). -/
def aelWindows (b : List Byte) : Bool × List Nat :=
  let t := (List.range 3).map fun i => uAt b (4 * i) 4
  let x := t.getD 0 0
  let y := t.getD 1 0
  let z := t.getD 2 0
  if b.length = 12 ∧ t.all (fun v => v % 4 == 0) ∧ 20 ≤ x ∧ x < y ∧ y < z ∧ z ≤ 100000000 then (true, t)
  else (false, [20, 3500, 1000000])

/-- The Ethernet and CAN FD settings that hold until the next reset (17 R398). -/
def netKeys : List Nat := [0x600020, 0x600021, 0x600022, 0x600024, 0x600025, 0x600026, 0x600027]

/-- The settings a reset release samples; straps only after a power-on (22 R472, 17 R392, 13 R325). DESIGN CHOICE: notes/assumptions/5. -/
def State.sample (s : State) (powerOn : Bool) (devnum : BitVec 9) (safeCfg : Bool) : State :=
  let strap := if powerOn then devnum.toNat else s.part.strap
  let stored := s.regN 0x100006
  let device := if powerOn then (if stored ≤ 511 then stored else strap) else s.part.device
  let windows := aelWindows (s.reg 0x580006)
  let part := { s.part with strap, device, canIdMode := s.regN 0x110002, net := netKeys.map fun k => (k, s.reg k) }
  let s := { s with
    part
    emg := { s.emg with
      releasedAt := s.now, fellAt := s.now, pinFrom := s.now + 10015000, windows := windows.2
      source := if powerOn then safeCfg else s.emg.source }
    rfe := { s.rfe with muxAt := s.now }
    cu := { s.cu with a := { s.cu.a with lastHeartbeat := s.now }, b := { s.cu.b with lastHeartbeat := s.now } }
    linkA := { s.linkA with lastMsg := s.now }, linkB := { s.linkB with lastMsg := s.now }
    bsc := { s.bsc with axes := min 2 (s.regN 0x340001) }
    mon := { s.mon with select := s.regN 0x540002 }
    evr := { s.evr with maxRate := s.regN 0x640022 } }
  s.raiseIf (!windows.1) 0x5807 0x07 0

/-- RESET_RELEASE (19 R430, R435, R436; 13 R317): the main domain leaves reset; source 5 is active at once where EMIT_EN_FB is high (22 R488).
DEDUCED: notes/assumptions/38, 68. -/
def State.release (s : State) (devnum : BitVec 9) (safeCfg : Bool) : State :=
  let cause := s.spring.nextCause
  let s := s.mainReset
  let s := { s with
    rwp := s.storedRwp
    spring := { s.spring with
      state := .running, cause, nextCause := 2, resets := if cause = 1 then s.spring.resets else sat32 s.spring.resets
      startTimes := [(s.now - s.spring.wakeAt) / 1000, 0, 0], inRun := 0, outRun := List.replicate 7 0, shutRun := 0
      lowRounds := 0 } }
  let s := s.sample (cause == 1) devnum safeCfg
  let on := fun (k : Nat) (c : Bool) => if c then 2 ^ k else 0
  { s with emg := { s.emg with
    sources := on 2 (decide (s.bsc.axes ≠ 0)) + on 3 s.thermal.shutdown + on 4 s.spring.interlock + on 5 s.emg.fb } }

/-! ### Sequencing and power-down (19 R430, R432, R433) -/

/-- Rails in the order of R430 as housekeeping channels: VCORE, VANA, VIO18, VDDQ, VIO33. -/
def railChannels : List Nat := [6, 7, 8, 10, 9]

/-- Supervision window of channels 6 to 11 in mV (19 R430, R431). -/
def railWindow (ch : Nat) : Nat × Nat :=
  [(705, 795), (1128, 1272), (1692, 1908), (3102, 3498), (1128, 1272), (1710, 1890)].getD (ch - 6) (0, 0)

/-- Sequencing begins with the first rail. -/
def State.sequence1 (s : State) (cause : Nat) : State :=
  { s with spring := { s.spring with
    state := .sequencing, rail := 0, railRun := 0, railAt := s.now, sampleAt := none, pmicEn := 1, powerGood := false, nextCause := cause
    restartWait := false, vsysWait := false, wakeAt := s.now } }

/-- Every rail dropped together, the main domain in reset (19 R432, R433). -/
def State.powerDown (s : State) : State :=
  let s := s.mainReset
  { s with spring := { s.spring with
    pmicEn := 0, rail := 0, railRun := 0, powerGood := false, shutStep := 0, restartWait := false, vsysWait := false } }

/-- The fault times of the current 60 s with a new one. -/
def faultWindow (l : List Nat) (now : Nat) : List Nat :=
  match l with
  | x :: xs => if now ≤ x + 60000000000 then x :: xs ++ [now] else [now]
  | [] => [now]

/-- RAIL_FAULT (19 R432): power-down and a restart after 100 ms, or FaultHold at the fourth within 60 s; the Spring keeps the event for the next holder to report.
DEDUCED: notes/assumptions/68. -/
def State.railFault (s : State) (ch : Nat) : State :=
  let times := faultWindow s.spring.faultTimes s.now
  let event : Deferred := { time := s.localTime, code := 0x6802, sub := 0x32, detail := BitVec.ofNat 32 ch, cycle := s.now }
  let s := s.powerDown
  let x := { s.spring with
    railFaults := sat32 s.spring.railFaults, faultTimes := times, nextCause := 3, faults := s.spring.faults ++ [event] }
  { s with
    spring := if 4 ≤ times.length then { x with state := .faultHold, faultLow := 0, faultHigh := 0 }
      else { x with state := .sequencing, restartWait := true, railAt := s.now } }

/-- The next sample of the rail being raised is due: samples are 100 µs apart (19 R430). -/
def Spring.sampleDue (x : Spring) (now : Nat) : Bool :=
  match x.sampleAt with
  | some at_ => decide (at_ + 100000 ≤ now)
  | none => true

/-- RAIL_SAMPLE (19 R430). -/
def State.railSample (s : State) (mV : Nat) (pmicPg : Bool) : State :=
  let x := { s.spring with sampleAt := some s.now }
  if x.state ≠ .sequencing ∨ x.restartWait ∨ x.vsysWait ∨ s.spring.sampleDue s.now = false then s
  else if 5 ≤ x.rail then { s with spring := { x with powerGood := pmicPg } }
  else
    let w := railWindow (railChannels.getD x.rail 6)
    if outside mV w.1 w.2 then { s with spring := { x with railRun := 0 } }
    else if x.railRun + 1 < 5 then { s with spring := { x with railRun := x.railRun + 1 } }
    else
      let rail := x.rail + 1
      { s with spring := { x with
        rail, railRun := 0, railAt := s.now, sampleAt := none, pmicEn := min 31 (2 ^ (rail + 1) - 1), powerGood := rail == 5 && pmicPg } }

/-- RAIL_CONFIRM_TIMEOUT (19 R432): 20 ms after its enable. -/
def State.railTimeout (s : State) : State :=
  let x := s.spring
  if x.state = .sequencing ∧ x.restartWait = false ∧ x.vsysWait = false ∧ x.rail < 5 ∧ x.railAt + 20000000 ≤ s.now then
    s.railFault (railChannels.getD x.rail 6)
  else s

/-- RAIL_RESTART_DELAY (19 R432): 100 ms after the power-down. -/
def State.railRestart (s : State) : State :=
  if s.spring.restartWait && decide (s.spring.railAt + 100000000 ≤ s.now) then s.sequence1 3 else s

/-- VSYS_UNDERVOLTAGE (19 R433): below 4.0 V everything goes down at once. -/
def State.undervoltage (s : State) : State :=
  if s.mainOn ∨ s.spring.state = .sequencing ∨ s.spring.state = .shuttingDown then
    let s := s.powerDown
    { s with spring := { s.spring with state := .sequencing, vsysWait := true, vsysGood := 0, nextCause := 6 } }
  else s

/-- POWER_ON (19 R433, R435, R441): the Spring itself resets; the power-on wake is latched. -/
def State.powerOn (s : State) (crystal32 : Bool) : State :=
  let s := s.mainReset
  { s with
    thermal := {}
    spring := { state := .sleep, rail := 0, pmicEn := 0, powerGood := false, nextCause := 1, powerWake := true, crystal32
                sleepAt := s.now, wakeAt := s.now } }

/-! ### Emission interlock and shutdown (19 R431, R437) -/

/-- A Spring event (19 R442). -/
def State.interlockTo (s : State) (on : Bool) : State :=
  if s.spring.interlock = on then s
  else
    let s := { s with spring := { s.spring with
        interlock := on, interlocks := if on then sat32 s.spring.interlocks else s.spring.interlocks } }
    let s := s.raise 0x6801 0x30 (s.spring.chanOut + 65536 * bNat on)
    if s.mainOn then s.setSource 4 on else s

/-- An orderly shutdown begins: step 1 sets the interlock (19 R437). It ends in Sleep (0), ThermalHold (1) or Sequencing (2). -/
def State.beginShutdown (s : State) (dest : Nat) : State :=
  if s.spring.state ≠ .running then s
  else { s with spring := { s.spring with state := .shuttingDown, shutStep := 1, shutAt := s.now, shutTo := dest } }.interlockTo true

/-- The BSC ordered to park, without a fault (19 R437 step 4, 05 R143). -/
def State.parkMirror (s : State) : State :=
  if s.bsc.loops then { s with bsc := { s.bsc with state := .parking, motion := none, loopOn := false } }.followMirror else s

/-- The last step (19 R427, R437, R440): where the shutdown ends. -/
def State.shutdownEnd (s : State) : State :=
  let x := { s.spring with shutStep := 0, sleepAt := s.now, wakeRun := 0, lowRounds := 0, timerWake := false }
  if s.thermal.shutdown ∨ x.shutTo = 1 then { s with spring := { x with state := .thermalHold, nextCause := 4 } }
  else if x.shutTo = 2 then { s with spring := x }.sequence1 5
  else { s with spring := { x with state := .sleep } }

/-- The step of the order under way is complete, or its limit is reached (19 R437). The rails' fall is the integrator's. -/
def State.shutdownStepOver (s : State) : Bool :=
  let limit := fun (ns : Nat) => decide (s.spring.shutAt + ns ≤ s.now)
  match s.spring.shutStep with
  | 2 => s.evr.incidents.all Incident.settled || limit (1000000 * s.regN 0x680025)
  | 3 => s.mram.job.isNone || limit 50000000
  | 4 => s.bsc.state != .parking || limit 400000000
  | _ => true

/-- SHUTDOWN_STEP_COMPLETE (19 R437): the next step of the order runs; in step 6 the next enable drops, PMIC_EN4 first. DEDUCED: notes/assumptions/68. -/
def State.shutdownStep (s : State) : State :=
  if s.spring.state ≠ .shuttingDown ∨ s.shutdownStepOver = false then s
  else
    let k := s.spring.shutStep
    let at_ := fun (s : State) (n : Nat) => { s with spring := { s.spring with shutStep := n, shutAt := s.now } }
    if k < 3 then at_ s (k + 1)
    else if k = 3 then at_ s.parkMirror 4
    else if k = 4 then at_ s.mainReset 5
    else if k = 5 then at_ { s with spring := { s.spring with pmicEn := 15, rail := 0, powerGood := false } } 6
    else if s.spring.pmicEn ≠ 0 then at_ { s with spring := { s.spring with pmicEn := s.spring.pmicEn / 2 } } 6
    else s.shutdownEnd

/-- 0x6800.20 SleepCommand (19 R429). -/
def State.sleepCommand (s : State) (v : Nat) : State := if v = 0x534C then s.beginShutdown 0 else s

/-- 0x6800.21 ResetCommand (19 R435). -/
def State.resetCommand (s : State) (v : Nat) : State := if v = 0x5258 then s.beginShutdown 2 else s

/-! ### The round (19 R424 to R434) -/

/-- Round values of the 16 channels (19 R424, R426): medians, the NTC codes as temperatures, the CAN detector as latched.
DESIGN CHOICE: notes/assumptions/14. -/
def State.roundValues (s : State) (r : RoundIn) : State × List Nat :=
  let med := (List.range 16).map fun c =>
    let x := r.ch.getD c (0, 0, 0)
    median3 x.1 x.2.1 x.2.2
  let codes := [(med.getD 3 0).toNat, (med.getD 4 0).toNat]
  let (t1, s) := s.ntcValue 0 (codes.getD 0 0)
  let (t2, s) := s.ntcValue 1 (codes.getD 1 0)
  let raw := ((med.set 3 t1).set 4 t2).set 14 (if s.spring.canWake then 1 else 0)
  ({ s with spring := { s.spring with raw, canWake := false } }, codes)

/-- Filtered values (19 R425), and the time VSYS has been above 18.0 V (R441). -/
def Spring.filter (x : Spring) (shifts : List Byte) : Spring :=
  let f := mapIdx x.raw fun i v =>
    let old := x.filt.getD i 0
    if x.filled then old + (v - old) / (2 ^ (uAt shifts i 1) : Nat) else v
  { x with filt := f, filled := true, overMs := if 18000 < x.raw.getD 5 0 then sat32 x.overMs 8 else x.overMs }

/-- NTC_BROKEN of one NTC (19 R426): 4 rounds with n below 41 or above 4,054, back after 16 inside. -/
def State.ntcRound (s : State) (i n : Nat) : State :=
  let x := s.spring
  let broken := bitOf x.ntcBroken i
  let out := outside n 41 4054
  let bad := if out then x.ntcBad.getD i 0 + 1 else 0
  let good := if out then 0 else x.ntcGood.getD i 0 + 1
  let flips := (!broken && bad == 4) || (broken && good == 16)
  let code := if flips then x.ntcBroken ^^^ (2 ^ i) else x.ntcBroken
  let s := { s with spring := { x with
      ntcBroken := code, ntcBad := setAt x.ntcBad i (min 4 bad), ntcGood := setAt x.ntcGood i (min 16 good) } }
  s.raiseIf flips 0x6803 0x1B code

/-- Channels 6 to 12 that are out in this round (19 R431). -/
def Spring.outNow (x : Spring) : List Bool :=
  (List.range 7).map fun i =>
    let v := x.raw.getD (6 + i) 0
    if i = 6 then v == 0
    else
      let w := railWindow (6 + i)
      decide (v < (w.1 : Int) ∨ (w.2 : Int) < v)

/-- SUPPLY_INTERLOCK, RAIL_FAULT and VSYS_OVER of a round in Running or an orderly shutdown (19 R431 to R433). -/
def State.supplyRound (s : State) : State :=
  let x := s.spring
  let out := x.outNow
  let runs := mapIdx x.outRun fun i n => if out.getD i false then n + 1 else 0
  let vsys := x.raw.getD 5 0
  let low := decide (4000 ≤ vsys ∧ vsys < 4500)
  let lowRun := if low then x.lowVsysRun + 1 else 0
  let overRun := if 18000 < vsys then x.overRun + 1 else 0
  let hardRun := if 24000 < vsys then x.hardRun + 1 else 0
  let anyOut := (out.any id) || low || decide (18000 < vsys)
  let inRun := if anyOut then 0 else min 4 (x.inRun + 1)
  let s := { s with spring := { x with
      chanOut := sumOf (mapIdx out fun i b => if b then 2 ^ (6 + i) else 0), outRun := runs.map (min 8)
      lowVsysRun := min 2 lowRun, overRun := min 3 overRun, hardRun := min 3 hardRun, inRun } }
  let s := s.raiseIf (overRun == 2) 0x6805 0x34 vsys.toNat
  let sets := runs.any (fun n => 2 ≤ n) || decide (2 ≤ lowRun) || decide (2 ≤ overRun)
  let s := if sets then s.interlockTo true
    else if s.spring.state = .running ∧ inRun = 4 then s.interlockTo false
    else s
  let s := if hardRun = 2 then
      let s := { s with spring := { s.spring with overHold := true, holdGood := 0 } }
      if s.spring.state = .shuttingDown then
        { s with spring := { s.spring with shutTo := if s.spring.shutTo = 2 then 0 else s.spring.shutTo } }
      else s.beginShutdown 0
    else s
  match (List.range 7).find? fun i => 8 ≤ runs.getD i 0 with
  | some i => s.railFault (6 + i)
  | none => s

/-- Shutdown asserted, and WAKE low, in Running (19 R427, R429). -/
def State.runningRound (s : State) : State :=
  let x := s.spring
  let shutRun := if s.thermal.shutdown then x.shutRun + 1 else 0
  let low := if x.raw.getD 13 0 = 0 then x.lowRounds + 1 else 0
  let limit := s.regN 0x680024
  let s := { s with spring := { x with shutRun, lowRounds := low } }
  if 125 ≤ shutRun then s.beginShutdown 1
  else if limit ≠ 0 ∧ limit ≤ 8 * low then s.beginShutdown 0
  else s

/-- The wake sources of a round in Sleep, by their bit (19 R428). -/
def State.wakeSources (s : State) (enable : Nat) : List Nat :=
  let x := s.spring
  let vsys := x.raw.getD 5 0
  let is := [decide (2 ≤ x.wakeRun), x.raw.getD 14 0 == 1, x.timerWake, x.powerWake && decide (4500 ≤ vsys ∧ vsys ≤ 18000)]
  (List.range 4).filter fun i => bitOf enable i && is.getD i false

/-- Sleep (19 R427, R428, R433, R434). -/
def State.sleepRound (s : State) : State :=
  let x := s.spring
  let wakeRun := if x.raw.getD 13 0 = 1 then min 2 (x.wakeRun + 1) else 0
  let good := if x.raw.getD 5 0 ≤ 18000 then x.holdGood + 1 else 0
  let held := x.overHold && decide (good < 4)
  let s := { s with spring := { x with wakeRun, holdGood := min 4 good, overHold := held } }
  if held then s
  else
    match (s.wakeSources (s.regN 0x680022)).head? with
    | none => s
    | some i =>
      let s := { s with spring := { s.spring with wakeSource := i, powerWake := false, timerWake := false, wakeAt := s.now } }
      if s.thermal.lowLimit then
        { s with spring := { s.spring with state := .coldHold, coldSince := s.now, lowRounds := 0 } }
      else s.sequence1 s.spring.nextCause

/-- ColdHold (19 R427, R434, R440). -/
def State.coldRound (s : State) : State :=
  let x := s.spring
  let low := if x.raw.getD 13 0 = 0 then x.lowRounds + 1 else 0
  let limit := s.regN 0x680024
  let s := { s with spring := { x with lowRounds := low, coldMs := BitVec.ofNat 32 (min 0xFFFFFFFF ((s.now - x.coldSince) / 1000000)) } }
  if !s.thermal.lowLimit then s.sequence1 s.spring.nextCause
  else if limit ≠ 0 ∧ limit ≤ 8 * low then
    { s with spring := { s.spring with state := .sleep, sleepAt := s.now, wakeRun := 0, lowRounds := 0 } }
  else s

/-- FaultHold: WAKE low then high for 2 rounds each (19 R427). -/
def State.faultRound (s : State) : State :=
  let x := s.spring
  let wake := x.raw.getD 13 0 == 1
  let low := if x.faultLow < 2 then (if wake then 0 else x.faultLow + 1) else x.faultLow
  let high := if x.faultLow < 2 then 0 else if wake then x.faultHigh + 1 else 0
  let s := { s with spring := { x with faultLow := low, faultHigh := high } }
  if 2 ≤ high then { s with spring := { s.spring with faultTimes := [] } }.sequence1 3 else s

/-- VSYS back for a restart with cause 6: 4 rounds at 4.5 V or more (19 R433). -/
def State.vsysRound (s : State) : State :=
  let x := s.spring
  if !x.vsysWait then s
  else
    let good := if 4500 ≤ x.raw.getD 5 0 then x.vsysGood + 1 else 0
    if good < 4 then { s with spring := { x with vsysGood := good } } else s.sequence1 6

/-- The state's part of a round (19 R427). -/
def State.stateRound (s : State) : State :=
  match s.spring.state with
  | .running => (if s.spring.shutStep = 0 then s.runningRound else s).supplyRound
  | .shuttingDown =>
    let s := if s.thermal.shutdown then { s with spring := { s.spring with shutTo := 1 } } else s
    if s.mainOn then s.supplyRound else s
  | .sleep => s.sleepRound
  | .coldHold => s.coldRound
  | .thermalHold => if s.thermal.shutdown then s else s.sequence1 4
  | .faultHold => s.faultRound
  | .sequencing => s.vsysRound

/-- The NTC temperature the flash interlock uses, with its offset, and whether the NTC is declared broken (18 R417). -/
def State.flashTemperature (s : State) : Int × Bool :=
  let i := s.regN 0x640030 - 1
  (s.spring.raw.getD (3 + i) 0 + iAt (s.reg 0x540045) (2 * i) 2, bitOf s.spring.ntcBroken i)

/-- What a round converts and decides before the state acts on it. With the main domain off, its units and events stay as they are.
DEDUCED: notes/assumptions/23. -/
def State.roundDecisions (s : State) (r : RoundIn) : State :=
  let on := s.mainOn
  let old := s
  let first := !s.spring.filled
  let (s, codes) := s.roundValues r
  let s := { s with spring := { (s.spring.filter (s.reg 0x680012)) with rounds := s.spring.rounds + 1, roundAt := some s.now } }
  let s := (s.ntcRound 0 (codes.getD 0 0)).ntcRound 1 (codes.getD 1 0)
  let s := ((s.diodeCheck).temperatureInUse first).thermalRound
  if on then
    let s := s.setSource 3 s.thermal.shutdown
    let s := if s.part.variant.hasRecorder then
        let t := s.flashTemperature
        s.flashInterlock t.1 t.2
      else s
    s.biasFallback s.biasTemperature.2
  else (s.keep old .kpp).keep old .evr

/-- A round starts every 8,000 µs of a clock that holds ±0.5 % while the crystal runs, else ±2 % (19 R423, R424). -/
def Spring.roundDue (x : Spring) (now : Nat) : Bool :=
  match x.roundAt with
  | some at_ => decide (at_ + (if x.state = .running then 7960000 else 7840000) ≤ now)
  | none => true

/-- SPRING_ROUND (19 R424); the MON reference follows VANA as the round found it (16 R368). -/
def State.round (s : State) (r : RoundIn) : State :=
  if !s.spring.roundDue s.now then s
  else
    let s := (s.roundDecisions r).stateRound
    if s.mainOn then s.vanaCheck else s

/-- WAKE_TIMER_EXPIRY: WakeTimer seconds since the entry into Sleep (19 R428). -/
def State.wakeTimer (s : State) : State :=
  let secs := s.regN 0x680023
  if s.spring.state = .sleep ∧ secs ≠ 0 ∧ s.spring.sleepAt + 1000000000 * secs ≤ s.now then
    { s with spring := { s.spring with timerWake := true } }
  else s

/-- RestartAttempts: rail faults in the current 60 s; 4 in FaultHold (19 R432, R441). -/
def State.restartAttempts (s : State) : Nat :=
  if s.spring.state = .faultHold then 4
  else
    match s.spring.faultTimes with
    | x :: xs => if s.now ≤ x + 60000000000 then (x :: xs).length else 0
    | [] => 0

def SpringState.code : SpringState → Nat
  | .sleep => 0 | .sequencing => 1 | .running => 2 | .shuttingDown => 3 | .coldHold => 4 | .thermalHold => 5 | .faultHold => 6

/-! ### The commands -/

/-- The units no command of the Spring but a reset touches. -/
def springFrame : List UnitId :=
  [.rw, .rwp, .txn, .mram, .pipe, .edu, .rfe, .tda, .hac, .prx, .mcx, .fmt, .linkA, .linkB, .cu, .wcu, .ntu, .fw, .cal, .part]

def execSpringRound (t : Nat) (r : RoundIn) : State → Host.Outcome State Fault Refusal :=
  run t [.part] fun s => s.round r

def execCanWakePattern (t : Nat) : State → Host.Outcome State Fault Refusal :=
  run t (.kpp :: .bsc :: .mon :: .thermal :: .evr :: .emg :: springFrame) fun s =>
    { s with spring := { s.spring with canWake := true } }

def execWakeTimerExpiry (t : Nat) : State → Host.Outcome State Fault Refusal :=
  run t (.kpp :: .bsc :: .mon :: .thermal :: .evr :: .emg :: springFrame) fun s => s.wakeTimer

def execVsysUndervoltage (t : Nat) : State → Host.Outcome State Fault Refusal :=
  run t [.part, .thermal] fun s => s.undervoltage

def execPowerOn (t : Nat) (crystal32 : Bool) : State → Host.Outcome State Fault Refusal :=
  run t [.part] fun s => s.powerOn crystal32

def execSleepCommand (t : Nat) (v : Word) : State → Host.Outcome State Fault Refusal :=
  runUnit t (.bsc :: .mon :: .thermal :: springFrame) fun s => s.sleepCommand v.toNat

def execResetCommand (t : Nat) (v : Word) : State → Host.Outcome State Fault Refusal :=
  runUnit t (.bsc :: .mon :: .thermal :: springFrame) fun s => s.resetCommand v.toNat

def execRailSample (t mV : Nat) (pmicPg : Bool) : State → Host.Outcome State Fault Refusal :=
  run t (.kpp :: .bsc :: .mon :: .thermal :: .evr :: .emg :: springFrame) fun s => s.railSample mV pmicPg

def execRailConfirmTimeout (t : Nat) : State → Host.Outcome State Fault Refusal :=
  run t [.part, .thermal] fun s => s.railTimeout

def execRailRestartDelay (t : Nat) : State → Host.Outcome State Fault Refusal :=
  run t (.kpp :: .bsc :: .mon :: .thermal :: .evr :: .emg :: springFrame) fun s => s.railRestart

def execResetRelease (t : Nat) (devnum : BitVec 9) (safeCfg : Bool) : State → Host.Outcome State Fault Refusal :=
  run t [.thermal] fun s =>
    if s.spring.state == .sequencing && !s.spring.restartWait && !s.spring.vsysWait && s.spring.rail == 5 &&
        s.spring.powerGood && decide (s.spring.railAt + 500000 ≤ s.now) then s.release devnum safeCfg
    else s

def execShutdownStepComplete (t : Nat) : State → Host.Outcome State Fault Refusal :=
  run t [.part, .thermal] fun s => s.shutdownStep

end Sys2Proof.Machine
end

