-- ==== Sys2Proof/Machine/Cu.lean ====
section
/-!
DEFINITION. Control units, the lease arbiter, fences, heartbeats, reloads and the checkpoint (14). The claim and the
takeover, which run held requests, stand in Takeover.lean.
-/

namespace Sys2Proof.Machine

/-! ### Units (14 R340, R342) -/

def Cu.setUnit (c : Cu) (u : Nat) (x : CtrlUnit) : Cu := if u = 0 then { c with a := x } else { c with b := x }

/-- The designated standby: the unit that is not the present or last holder; at start-up PreferredActive (14 R340).
DEDUCED: notes/assumptions/49. -/
def State.standby (s : State) : Nat :=
  match s.cu.holder, s.cu.former with
  | some h, _ => 1 - h
  | none, some f => 1 - f
  | none, none => s.regN 0x5C0002

def UnitState.code : UnitState → Nat
  | .ready => 0 | .loading => 1 | .failed => 2 | .heldInReset => 3

def LeaseState.code : LeaseState → Nat
  | .held => 0 | .guard => 1 | .offerStandby => 2 | .offerOpen => 3 | .none => 4

/-- 0x5C00.05 StandbyState (14 R342). DEDUCED: notes/assumptions/49. -/
def State.standbyState (s : State) : UnitState := (s.cu.unit s.standby).state

/-- A unit that starts a reload (14 R342). DEDUCED: notes/assumptions/52. -/
def CtrlUnit.reloading (x : CtrlUnit) : CtrlUnit := { x with state := .loading, reload := true, loaded := none, fails := 0 }

/-! ### Expiry, grant and offers (14 R336 to R341) -/

/-- AutonomyWindow in ms (14 R350). -/
def State.autonomyMs (s : State) : Nat := s.regN 0x5C0006

/-- The lease expires or is released with a cause (14 R336, R339, R341): a checkpoint under way stays incomplete (R349).
DEDUCED: notes/assumptions/54. -/
def State.expire (s : State) (cause : Nat) : State :=
  match s.cu.holder with
  | none => s
  | some h =>
    let c := s.cu.setUnit h { s.cu.unit h with fenced := false }
    { s with cu := { c with
      lease := .guard, holder := none, former := some h, formerRenewal := c.lastRenewal, expiredAt := s.now, cause
      takingOver := false, writing := none
      autonomyEnd := if s.pipe.started then some (s.now + 1000000 * s.autonomyMs) else none } }

/-- LEASE_RELEASE of the holder under its epoch (14 R336). DEDUCED: notes/assumptions/50. -/
def State.leaseRelease (s : State) (unit : Nat) (epoch : Word) (cause : Nat) : State :=
  if s.cu.lease = .held ∧ s.cu.holder = some unit ∧ s.cu.epoch = epoch then s.expire cause else s

/-- The earliest expiry on the Spring's oscillator (14 R336). A renewal accepted in the same instant gives way to it (14 R349). -/
def State.leaseExpiry (s : State) : State :=
  let met := s.cu.lastRenewal = s.now ∧ s.cu.priorRenewal + 3920000 ≤ s.now
  if s.cu.lease = .held ∧ met then
    { s with cu := { s.cu with lastRenewal := s.cu.priorRenewal } }.expire 1
  else if s.cu.lease = .held ∧ s.cu.lastRenewal + 3920000 ≤ s.now then s.expire 1
  else s

/-- FENCE_TIMER_EXPIRY (14 R338): 3,000 µs without an acknowledgement fence the active unit. The acknowledgement, due within 20 µs,
comes in the instant of the acceptance. DESIGN CHOICE: notes/assumptions/50. -/
def State.fence (s : State) (unit : Nat) : State :=
  if s.cu.holder = some unit ∧ s.cu.lastRenewal + 3000000 ≤ s.now then
    { s with cu := s.cu.setUnit unit { s.cu.unit unit with fenced := true } }
  else s

/-- LEASE_GRANT (14 R339, R342): epoch + 1, and the former holder reset into its reload. -/
def State.grant (s : State) : State :=
  match s.cu.lease, s.cu.former with
  | .guard, some f =>
    if s.cu.expiredAt + 1000000 ≤ s.now then
      let c := s.cu.setUnit f { (s.cu.unit f).reloading with fenced := false }
      { s with cu := { c with lease := .offerStandby, epoch := c.epoch + 1, grantedAt := s.now } }
    else s
  | _, _ => s

/-- OFFER_TIMEOUT (14 R339): 30 ms after the expiry without a claim. -/
def State.offerTimeout (s : State) : State :=
  if s.cu.lease = .offerStandby ∧ s.cu.claimed ∧ s.cu.expiredAt + 30000000 ≤ s.now then
    { s with cu := { s.cu with lease := .offerOpen } }.raise 0x5C05 0x04 s.autonomyMs
  else s

/-- PREFERRED_CLAIM_TIMEOUT (14 R340): 30 ms after the preferred unit's verification at start-up. DEDUCED: notes/assumptions/49. -/
def State.preferredTimeout (s : State) : State :=
  match s.cu.verified with
  | some v =>
    if s.cu.lease = .offerStandby ∧ !s.cu.claimed ∧ v + 30000000 ≤ s.now then
      { s with cu := { s.cu with lease := .offerOpen } }
    else s
  | none => s

/-- A unit that may claim: ready, and the designated standby or offered to any (14 R339, R342). -/
def State.offeredTo (s : State) (u : Nat) : Bool :=
  (s.cu.unit u).state == .ready &&
    match s.cu.lease with
    | .offerStandby => u == s.standby
    | .offerOpen => true
    | .none => true
    | .held => false
    | .guard => false

/-- The epoch a claim carries: the offer's, and 1 for the first claim after a reset (14 R340). -/
def Cu.claimEpoch (c : Cu) : Word := if c.claimed then c.epoch else 1

/-- A claim waits among the commands of the present instant (14 R349). -/
def State.claimWaits (s : State) : Bool :=
  s.pending.any fun c => match c with
    | .leaseRenewal t u epoch => decide (t ≤ s.now) && s.offeredTo u && epoch == s.cu.claimEpoch
    | _ => false

/-- AUTONOMY_WINDOW_END (14 R339, R341): no holder, so trip source 10; a claim in the same instant goes first (14 R349).
DEDUCED: notes/assumptions/54. -/
def State.autonomyOver (s : State) : State :=
  match s.cu.autonomyEnd with
  | some e =>
    if e ≤ s.now ∧ s.cu.holder = none ∧ s.claimWaits = false then
      { s with cu := { s.cu with lease := .none, autonomyEnd := none } }.setSource 10 true
    else s
  | none => s

/-- AutonomyRemaining in ms (14 R341). DEDUCED: notes/assumptions/31. -/
def State.autonomyRemaining (s : State) : Nat :=
  match s.cu.autonomyEnd with
  | some e => (e - s.now) / 1000000
  | none => 0

/-! ### Heartbeats (14 R345) -/

/-- DEDUCED: notes/assumptions/51. -/
def Cu.mailboxLost (c : Cu) : Bool := c.a.lost || c.b.lost

/-- A heartbeat received by a unit; the tenth in a row ends a loss, and one that comes 2 ms or more after the last begins a
new row, since a beat was missed. DEDUCED: notes/assumptions/51. -/
def State.heartbeat (s : State) (unit : Nat) : State :=
  let x := s.cu.unit unit
  let row := if s.now < x.lastHeartbeat + 2000000 then x.beats else 0
  let beats := if x.lost then row + 1 else 0
  let x := { x with lastHeartbeat := s.now, lost := x.lost && beats < 10, beats := if beats < 10 then beats else 0 }
  { s with cu := s.cu.setUnit unit x }

/-- 10 ms without a heartbeat (14 R345). DEDUCED: notes/assumptions/51. -/
def State.heartbeatLoss (s : State) (unit : Nat) : State :=
  let x := s.cu.unit unit
  if x.lost ∨ s.now < x.lastHeartbeat + 10000000 then s
  else
    let first := !s.cu.mailboxLost
    let c := s.cu.setUnit unit { x with lost := true, beats := 0 }
    let s := { s with cu := { c with mailboxLosses := if first then sat32 c.mailboxLosses else c.mailboxLosses } }
    s.raiseIf first 0x5C01 0x21 unit

/-! ### Standby image, loads and reloads (14 R334, R342, R343; 20 R447) -/

/-- STANDBY_IMAGE_CHECK of the watch cell, every 10 s of the unit as ready standby (14 R334). DEDUCED: notes/assumptions/52. -/
def State.imageCheck (s : State) (ok : Bool) : State :=
  let u := s.standby
  let x := s.cu.unit u
  if x.state ≠ .ready ∨ s.now < x.readyAt + 10000000000 then s
  else if ok then { s with cu := s.cu.setUnit u { x with readyAt := s.now } }
  else
    let c := s.cu.setUnit u x.reloading
    { s with cu := { c with checkFails := sat32 c.checkFails } }

/-- FIRMWARE_LOAD (20 R447): the first load after a reset chooses the slot; a start-up load that verifies makes its unit ready.
DEDUCED: notes/assumptions/79. -/
def State.firmwareLoad (s : State) (unit : Nat) (flash : NorFlash) (slot0 slot1 : ImageSlot) : State :=
  if (s.cu.unit unit).state ≠ .loading then s
  else
    let first := !s.fw.chosen
    let (ok, s) := s.loadImage flash slot0 slot1
    let s := if first ∧ s.cu.holder = none then s.resumeIndex else s
    let x := s.cu.unit unit
    let x := if x.reload then { x with loaded := some ok } else if ok then { x with state := .ready, readyAt := s.now } else x
    let c := s.cu.setUnit unit x
    let verified := if ok && !c.claimed && c.verified.isNone && unit == s.regN 0x5C0002 then some s.now else c.verified
    { s with cu := { c with verified } }

/-- STANDBY_RELOAD_COMPLETE (14 R342): ready when the image verified; the third failure in a row is Failed, with its event.
DEDUCED: notes/assumptions/52. -/
def State.reloadDone (s : State) (unit : Nat) (ok : Bool) : State :=
  let x := s.cu.unit unit
  if x.state ≠ .loading ∨ !x.reload then s
  else
    let s := { s with cu := { s.cu with reloads := sat32 s.cu.reloads } }
    let put := fun (x : CtrlUnit) => { s with cu := s.cu.setUnit unit x }
    if ok && x.loaded.getD true then put { x with state := .ready, reload := false, loaded := none, fails := 0, readyAt := s.now }
    else if x.fails + 1 < 3 then put { x with loaded := none, fails := x.fails + 1 }
    else (put { x with state := .failed, reload := false, loaded := none, fails := 3 }).raise 0x5C03 0x05 2

/-- A unit held in reset under single; each entry raises StandbyUnavailable (14 R342, R343). A Failed unit stays Failed until the
next reset (14 R342). DEDUCED: notes/assumptions/79. -/
def State.holdUnit (s : State) (unit : Nat) : State :=
  let x := s.cu.unit unit
  if x.state = .heldInReset ∨ x.state = .failed then s
  else
    let x := { x with state := .heldInReset, reload := false, loaded := none }
    { s with cu := s.cu.setUnit unit x }.raise 0x5C03 0x05 3

/-- The Redundancy axis at FirstFrame and at a claim (14 R343, R349): single waits for a holder, a return to paired does not.
DEDUCED: notes/assumptions/55, 79. -/
def State.redundancy (s : State) (single : Bool) : State :=
  let u := s.standby
  let x := s.cu.unit u
  if single then (if s.cu.holder.isSome then s.holdUnit u else s)
  else if x.state = .heldInReset then { s with cu := s.cu.setUnit u x.reloading }
  else s

/-- SWITCHOVER (14 R347): the release that follows the answer. DEDUCED: notes/assumptions/30. -/
def State.switchover (s : State) (v : Nat) : State :=
  if v = 0x5357 ∧ s.cu.lease = .held ∧ s.unitActs ∧ s.standbyState = .ready ∧ !s.plan.single then s.expire 3 else s

/-! ### The checkpoint (14 R344) -/

/-- The body of a checkpoint: the firmware state (14 R344, R348). Spring registers and 0x5C00 values are not part of it. -/
def State.checkpoint (s : State) (frame : Word) : Checkpoint :=
  { frame, lease := s.cu.epoch, dests := s.kpp.dests, kept := s.kpp.kept.map KeptEp.ep
    rwp := s.rwp.filter fun x => x.1 / 256 / 256 != 0x5C, storing := s.mram.job.isSome
    integ := s.ntu.integ, servo := s.ntu.servo, forced := s.cal.forced, temps := s.cal.temps, times := s.cal.times
    limit := s.signatureLimit, refresh := (s.evr.blocks.filter fun x => x.2.refresh).map Prod.fst }

def Cu.setSlot (c : Cu) (k : Nat) (x : Checkpoint) : Cu := if k = 0 then { c with slot0 := x } else { c with slot1 := x }

def Cu.slot (c : Cu) (k : Nat) : Checkpoint := if k = 0 then c.slot0 else c.slot1

/-- The end of the time a checkpoint has: turnaround + 1,500 µs, or as long after a timer's start (14 R344).
DEDUCED: notes/assumptions/53. -/
def State.checkpointDue (s : State) (frame : Word) : Nat :=
  if frame = 0xFFFFFFFF then s.cu.ckAt + 1300000 else s.pipe.turnStart + 1500000

/-- A write of the slot not written last starts; until it completes its CRC-32 is wrong (14 R344, R349). The layout of the body is
not given, so its length is a free value. DEDUCED: notes/assumptions/53. DESIGN CHOICE: notes/assumptions/53. -/
def State.checkpointStart (s : State) (frame : Word) : State :=
  if !s.unitActs ∨ s.cu.writing.isSome then s
  else
    let k := 1 - s.cu.lastSlot
    let (length, s) := s.free
    let c := s.cu.setSlot k { s.checkpoint frame with length := length % 49152 }
    { s with cu := { c with writing := some (k, frame), ckAt := s.now } }

/-- CHECKPOINT_WRITE_START: turnaround + 200 µs, once per frame. -/
def State.checkpointTurn (s : State) : State :=
  if s.pipe.inTurn ∧ s.pipe.turnStart + 200000 ≤ s.now ∧ s.now < s.pipe.turnStart + 1500000 ∧
      s.cu.ckTurn ≠ some s.pipe.frame ∧ s.unitActs then
    ({ s with cu := { s.cu with ckTurn := some s.pipe.frame } } : State).checkpointStart s.pipe.frame
  else s

/-- CHECKPOINT_TIMER: 40 ms on the unit's own timer while no frames run. DEDUCED: notes/assumptions/53. -/
def State.checkpointTimer (s : State) : State :=
  if !s.pipe.running ∧ s.cu.ckAt + 40000000 ≤ s.now then s.checkpointStart 0xFFFFFFFF else s

/-- A write that is not complete in its time leaves the older slot in force (14 R344). -/
def State.checkpointFails (s : State) : State :=
  { s with cu := { s.cu with writing := none, ckFailures := sat32 s.cu.ckFailures } }

/-- CHECKPOINT_WRITE_COMPLETE (14 R344): past its time it is a failure. DEDUCED: notes/assumptions/53. -/
def State.checkpointDone (s : State) : State :=
  match s.cu.writing with
  | some (k, frame) =>
    if !s.unitActs then s
    else if s.checkpointDue frame < s.now then s.checkpointFails
    else
      let c := s.cu.setSlot k { s.cu.slot k with good := true }
      { s with cu := { c with writing := none, lastSlot := k, ckFrame := frame, ckCount := sat32 c.ckCount } }
  | none => s

/-- CHECKPOINT_DEADLINE: turnaround + 1,500 µs, or as long after a timer's start (14 R344). DEDUCED: notes/assumptions/53. -/
def State.checkpointDeadline (s : State) : State :=
  match s.cu.writing with
  | some (_, frame) =>
    if s.checkpointDue frame ≤ s.now then s.checkpointFails else s
  | none => s

/-! ### The commands -/

/-- Units no command of this file touches. -/
def cuFrame : List UnitId :=
  [.rw, .rwp, .txn, .pipe, .edu, .bsc, .rfe, .tda, .hac, .prx, .mcx, .fmt, .linkA, .linkB, .wcu, .mon, .thermal, .ntu,
   .spring, .cal, .part]

/-- Those of a command that only moves the lease, a unit or the checkpoint. -/
def leaseFrame : List UnitId := .mram :: .fw :: .emg :: cuFrame

def execLeaseRelease (t unit : Nat) (epoch : Word) : State → Host.Outcome State Fault Refusal :=
  runMain t (.kpp :: .evr :: leaseFrame) fun s => s.leaseRelease unit epoch 2

def execLeaseExpiry (t : Nat) : State → Host.Outcome State Fault Refusal :=
  runMain t (.kpp :: .evr :: leaseFrame) fun s => s.leaseExpiry

def execFenceTimerExpiry (t unit : Nat) : State → Host.Outcome State Fault Refusal :=
  runMain t (.kpp :: .evr :: leaseFrame) fun s => s.fence unit

def execLeaseGrant (t : Nat) : State → Host.Outcome State Fault Refusal :=
  runMain t (.kpp :: .evr :: leaseFrame) fun s => s.grant

def execOfferTimeout (t : Nat) : State → Host.Outcome State Fault Refusal :=
  runMain t leaseFrame fun s => s.offerTimeout

def execPreferredClaimTimeout (t : Nat) : State → Host.Outcome State Fault Refusal :=
  runMain t (.kpp :: .evr :: leaseFrame) fun s => s.preferredTimeout

def execAutonomyWindowEnd (t : Nat) : State → Host.Outcome State Fault Refusal :=
  runMain t (.mram :: .fw :: cuFrame) fun s => s.autonomyOver

def execHeartbeat (t unit : Nat) : State → Host.Outcome State Fault Refusal :=
  runMain t (.kpp :: .evr :: leaseFrame) fun s => s.heartbeat unit

def execHeartbeatLoss (t unit : Nat) : State → Host.Outcome State Fault Refusal :=
  runMain t leaseFrame fun s => s.heartbeatLoss unit

def execStandbyImageCheck (t : Nat) (ok : Bool) : State → Host.Outcome State Fault Refusal :=
  runMain t (.kpp :: .evr :: leaseFrame) fun s => s.imageCheck ok

def execStandbyReloadComplete (t unit : Nat) (ok : Bool) : State → Host.Outcome State Fault Refusal :=
  runMain t leaseFrame fun s => s.reloadDone unit ok

def execSwitchover (t : Nat) (v : Word) : State → Host.Outcome State Fault Refusal :=
  runUnit t (.kpp :: .evr :: leaseFrame) fun s => s.switchover v.toNat

def execFirmwareLoad (t unit : Nat) (flash : NorFlash) (slots : ImageSlot × ImageSlot) : State → Host.Outcome State Fault Refusal :=
  runMain t (.mram :: .emg :: cuFrame) fun s => s.firmwareLoad unit flash slots.1 slots.2

def execCheckpointWriteStart (t : Nat) : State → Host.Outcome State Fault Refusal :=
  runMain t (.kpp :: .evr :: leaseFrame) fun s => s.checkpointTurn

def execCheckpointWriteComplete (t : Nat) : State → Host.Outcome State Fault Refusal :=
  runMain t (.kpp :: .evr :: leaseFrame) fun s => s.checkpointDone

def execCheckpointDeadline (t : Nat) : State → Host.Outcome State Fault Refusal :=
  runMain t (.kpp :: .evr :: leaseFrame) fun s => s.checkpointDeadline

def execCheckpointTimer (t : Nat) : State → Host.Outcome State Fault Refusal :=
  runMain t (.kpp :: .evr :: leaseFrame) fun s => s.checkpointTimer

end Sys2Proof.Machine
end

