-- ==== Sys2Proof/Machine/Pipeline.lean ====
section
/-!
DEFINITION. The frame and column schedule (01, 03 R76, R86, R87): start-up plan, frame boundaries and plans taking effect,
prefetch and arming of columns, column and slot starts, the turnaround and the commit cut-off.
-/

namespace Sys2Proof.Machine

/-! ### The frame that comes next (02 R58, 03 R86, R87) -/

/-- A frame as a column is armed for it. -/
structure FrameInfo where
  plan : Plan
  number : Word
  epoch : BitVec 16
  gridGen : BitVec 16
  predict : Bool
  deriving DecidableEq, Repr

/-- The next frame: `commit` comes into force with it, `gridFrames` frames of its grid have written the Tarn, `lastH4` the last frame with shots ran H4.
DEDUCED: notes/assumptions/34. -/
structure NextFrame extends FrameInfo where
  commit : Option Commit
  gridChanged : Bool
  gridFrames : Nat
  lastH4 : Bool
  deriving DecidableEq, Repr

/-- Frames of a grid that write the Tarn before a frame can be predicted (03 R86, R87). DEDUCED: notes/assumptions/34. -/
def Plan.framesNeeded (p : Plan) : Nat := if p.steering = 2 then p.interlace else 1

/-- The frame in progress. DEDUCED: notes/assumptions/34. -/
def State.thisFrame (s : State) (p : Plan) : FrameInfo :=
  { plan := p, number := s.pipe.frame, epoch := s.txn.epoch, gridGen := s.pipe.gridGen, predict := s.pipe.predict }

/-- The frame after the present one, as the commits accepted so far make it. DEDUCED: notes/assumptions/34. -/
def State.nextFrame (s : State) (p : Plan) : NextFrame :=
  let x := s.pipe
  let number := if x.started then x.frame + 1 else 0
  let commit := s.txn.commitFor (number.toNat : Int)
  let q := (commit.map Commit.plan).getD p
  let gridChanged := commit.isSome && p.grid != q.grid
  let shots := x.started && !x.blank
  let frames := if shots && p.runsPrx then x.gridFrames + 1 else x.gridFrames
  let gridFrames := if gridChanged then 0 else frames
  let lastH4 := if shots then !p.runsPrx else x.lastH4
  { number, commit, plan := q, epoch := (commit.map Commit.epoch).getD s.txn.epoch, gridChanged
    gridGen := if gridChanged then x.gridGen + 1 else x.gridGen, gridFrames, lastH4
    predict := decide (q.framesNeeded ≤ gridFrames) && !lastH4 }

/-- The next frame boundary, once its turnaround has begun (01 R30, 17 R393); frame 0 follows the soft start (05 R138). -/
def Pipe.boundaryAt (x : Pipe) : Option Nat :=
  if x.plan.isNone then none
  else if !x.started then some x.firstAt
  else if x.inTurn then some (((x.turnStart + 1000 * x.timing.turnaround : Nat) : Int) + x.turnCorr).toNat
  else none

/-! ### Arming a column (01 R24, R32; 04 R103, R107; 06 R152 to R156; 08 R209) -/

/-- A column without its cells. DEDUCED: notes/assumptions/74. -/
def State.columnCtx (s : State) (f : FrameInfo) (visit : Nat) (late : Bool) : ColCtx :=
  let p := f.plan
  { plan := p, frame := f.number, epoch := f.epoch, gridGen := f.gridGen, visit
    column := p.columnAt f.number.toNat visit, start := p.columnStart visit, late, predict := f.predict && !late
    cells := [], dithers := ditherList s p f.number.toNat visit, posSet := p.setOf f.number.toNat, regs := s.tdaRegs }

/-- A cell as its record, where it is usable, makes it; its port's reduction and the marks of S_k follow. DEDUCED: notes/assumptions/37. -/
def ColCtx.cellAt (c : ColCtx) (m : Mcx) (r : Nat) : CellCtx :=
  let p := c.plan
  let prior := c.priorAt m c.predict r
  let ch := p.channelOf r
  { row := r, channel := ch, port := p.portOf r, measured := p.measured r c.column
    reduction := if p.adaptivePower then newReduction p prior else 0
    feedback := if !p.channelEnabled ch then 0
      else if p.adaptiveGain && c.predict then newFeedback p ch prior else p.groupFeedback ch
    settling := false, reduced := false, stale := false
    preds := if p.hist = 3 then ((prior.map Prior.taus).getD []).take p.zoomWindows else [] }

/-- The column loaded: shadow codes, feedback indices and thresholds (04 R103, 06 R155). DEDUCED: notes/assumptions/74. -/
def State.load (s : State) (c : ColCtx) : State :=
  let p := c.plan
  let cells := p.rowList.map (c.cellAt s.mcx)
  let edu := s.edu.load p c.column (p.adaptivePower && c.predict) cells
  let cells := cells.map fun (x : CellCtx) => 
    { x with reduced := p.used x.port && decide ((edu.ports.getD x.port {}).shadow < p.maxCode x.port) }
  let index := fun ch => ((cells.find? fun x => x.channel == ch).map CellCtx.feedback).getD 0
  { s with edu, rfe := s.rfe.load p index, pipe := { s.pipe with armed := some { c with cells }, prefetch := none } }

/-- A column armed from its prefetch, or without it where it is late or was discarded (01 R24, R32). -/
def State.arm (s : State) (f : FrameInfo) (visit : Nat) (late fetch : Bool) : State :=
  let c := s.columnCtx f visit late
  let s := if fetch && !late then (s.prefetchLines c).countRecords c c.predict else s
  s.load c

/-- The frame a prefetch of a visit is for, and the start of its column where it is known (01 R18, R24). -/
def State.prefetchFor (s : State) (p : Plan) (visit : Nat) : FrameInfo × Option Nat :=
  if visit = 0 then ((s.nextFrame p).toFrameInfo, s.pipe.boundaryAt)
  else (s.thisFrame p, some (s.pipe.frameStart + p.columnStart visit))

/-- PREFETCH_COMPLETE (01 R24, R30): past S_k − 2,000 ns it is late. Before the cut-off the plan of the next frame is open, so visit 0 is armed at the cut-off.
DEDUCED: notes/assumptions/36. -/
def State.prefetchDone (s : State) : State :=
  match s.pipe.plan, s.pipe.prefetch with
  | some p, some (_, k) =>
    let (f, start) := s.prefetchFor p k
    if k = 0 && s.pipe.started && !s.pipe.cutoffDone then
      let s := s.prefetchLines (s.columnCtx f k false)
      { s with pipe := { s.pipe with prefetch := none } }
    else
      let late := match start with
        | some t => decide (t < s.now + 2000)
        | none => false
      s.arm f k late true
  | _, _ => s

/-- PREFETCH_LATE (01 R24). DEDUCED: notes/assumptions/36. -/
def State.prefetchMissed (s : State) : State :=
  match s.pipe.plan, s.pipe.prefetch with
  | some p, some (_, k) =>
    let (f, start) := s.prefetchFor p k
    match start with
    | some t => if t ≤ s.now + 2000 then s.arm f k true false else s
    | none => s
  | _, _ => s

/-! ### Column and slot starts (01 R18, R22; 02 R47 of the slot layout) -/

/-- The column in progress gives way: one not swapped yet waits in the tail (08 R195). -/
def State.makeTail (s : State) : State :=
  match s.pipe.cur with
  | some c =>
    { s with pipe := { s.pipe with tail := some c, cur := none }
             hac := { s.hac with tail := s.hac.acc, acc := [], parked := [], placedAt := none } }
  | none => { s with hac := { s.hac with acc := [], parked := [], placedAt := none } }

/-- COLUMN_START (01 R18, R24; 06 R165; 09 R218): what was not armed in time runs without prediction.
DESIGN CHOICE: notes/assumptions/13. DEDUCED: notes/assumptions/36, 37. -/
def State.columnStart (s : State) : State :=
  match s.pipe.plan with
  | none => s
  | some p =>
    let x := s.pipe
    let k := if x.inColumn then x.visit + 1 else 0
    if !x.started || x.blank || x.inTurn || p.columns ≤ k || s.now < x.frameStart + p.columnStart k then s
    else
      let fits := match x.armed with
        | some c => c.visit == k && c.frame == x.frame && c.plan == p
        | none => false
      let s := if fits then s else s.arm (s.thisFrame p) k true false
      match s.pipe.armed with
      | none => s
      | some c =>
        let start := x.frameStart + c.start
        let cells := c.cells.map fun (y : CellCtx) =>
          { y with settling := s.settling y.channel start, stale := s.staleChannel y.channel }
        let c := { c with cells, probe := x.probeAt == some k, sk := start }
        let (prx, c) := s.prx.nextColumn c
        let s := s.makeTail
        let settling := count (fun (y : CellCtx) => y.measured && y.settling) cells
        { s with
          prx
          rfe := { s.rfe with settlingCells := sat32 s.rfe.settlingCells settling }
          mcx := { s.mcx with lines := [] }
          pipe := { s.pipe with
            cur := some c, armed := none, visit := k, inColumn := true, slot := 0, inSlot := false, lastColumn := c.column
            prefetch := if k + 1 < p.columns then some (x.frame.toNat, k + 1) else none } }

/-- The active codes a column fires with (04 R101). -/
def Edu.codes (u : Edu) : List Nat := u.ports.map PortState.active

/-- SHOT_SLOT_START (01 R22, R23; 04 R101, R113, R116; 06 R151, R155, R160; 07 R176; 08 R198; 13 R315, R316; 17 R395).
DESIGN CHOICE: notes/assumptions/13. DEDUCED: notes/assumptions/39. -/
def State.slotBegin (s : State) (cal : Sys2Proof.TdcCal) : State :=
  match s.pipe.cur with
  | none => s
  | some c =>
    let p := c.plan
    let j := if s.pipe.inSlot then s.pipe.slot + 1 else 0
    let start := s.pipe.frameStart + c.start + j * p.slot
    if s.pipe.inTurn || p.shots ≤ j || s.now < start then s
    else
      let s := s.endBlank.tdaSlotStart
      let rfe := { s.rfe with chans := s.rfe.chans.map fun (x : Chan) => x.slotStart (j == 0) start }
      let s := { s with rfe := if j = 0 then rfe.latch else rfe }
      let s := (s.calibrate cal).slotLatch p (j == 0)
      let silent := c.probe && p.silentSlot j
      let lit := p.slotLit j && !silent
      let c := if j = 0 then { c with codes := s.edu.codes } else c
      let s : State := { s with pipe := { s.pipe with
        cur := some c, slot := j, inSlot := true, slotStart := start, dither := c.dithers.getD j 0, lit } }
      if !lit then { s with emg := { s.emg with gated := [] } }
      else s.decideSlot p c.column start

/-! ### The turnaround (01 R30 to R32, 17 R393) -/

/-- TURNAROUND_START: the turnaround's length is decided (17 R393). -/
def State.turnBegin (s : State) : State :=
  let start := s.pipe.frameStart + s.pipe.timing.active
  if !s.pipe.started || s.pipe.inTurn || s.now < start then s
  else
    let (corr, s) := s.framePhase s.pipe.timing start
    let turned := fun (b : FrameBase) => { b with turn := ((1000 * s.pipe.timing.turnaround : Nat) + corr : Int).toNat }
    State.judgeSeam { s with
      bsc := { s.bsc with base := s.bsc.base.map turned }
      pipe := { s.pipe with
        inTurn := true, turnStart := start, turnCorr := corr, swapDone := false, diagDone := false, cutoffDone := false } }

/-- COMMIT_CUTOFF (01 R31, R32; 06 R164): the plan of the next frame is fixed, and its bias set. A grid change discards the prefetch.
DESIGN CHOICE: notes/assumptions/13. DEDUCED: notes/assumptions/36, 80. -/
def State.cutoff (s : State) : State :=
  match s.pipe.plan with
  | none => s
  | some p =>
    if !s.pipe.inTurn || s.pipe.cutoffDone || s.now < s.pipe.turnStart + 1900000 then s
    else
      let n := s.nextFrame p
      let s := { s with pipe := { s.pipe with cutoffDone := true } }
      let s := s.biasUpdate n.plan (s.pipe.turnStart + 1900000)
      if n.gridChanged then
        { s with mcx := { s.mcx with lines := [] } }.arm n.toFrameInfo 0 false false
      else if s.pipe.swapDone && s.pipe.prefetch.isNone && s.pipe.armed.isNone then s.arm n.toFrameInfo 0 false true
      else s

/-! ### The frame boundary (01 R20, R30; 02 R58; 03 R86, R87; 05 R136) -/

/-- What the boundary does for the frame it ends (06 R157; 07 R181; 08 R211; 09 R241). -/
def State.frameEnd (s : State) (p : Plan) : State :=
  if !s.pipe.started then s
  else
    let blank := s.pipe.blank
    let s := { s with rfe := s.rfe.frameEnd p }
    let s := s.tdaFrameEnd
    { s with hac := s.hac.frameEnd blank, prx := s.prx.frameEnd }

/-- The ledger at the boundary to a frame of `q` (13 R315, R332). A blank frame leaves LedgerPeak as it is. -/
def State.ledgerBoundary (s : State) (q : Plan) : State :=
  if !s.pipe.started then s
  else
    let g := (s.emg.reachAt s.now).frameBoundary (valueIn q 0x580008)
    { s with emg := if s.pipe.blank then { g with peak := s.emg.peak } else g }

/-- PLAN_TAKES_EFFECT (02 R58): the pending commit of this frame comes into force in place of `p`. -/
def State.takePlan (s : State) (p : Plan) (n : NextFrame) : State :=
  match n.commit with
  | none => s
  | some c =>
    let q := c.plan
    let s := s.codeChanged (effectiveCode s p) (effectiveCode s q)
    let s := { s with
      txn := { s.txn with pending := s.txn.pending.drop 1, inForce := some c, epoch := c.epoch }
      pipe := { s.pipe with plan := some q }
      prx := s.prx.planChange p q }
    if p.single = q.single then s else s.redundancy q.single

/-- The frame is blank (05 R136). -/
def Bsc.blanks (b : Bsc) : Bool := b.motion.isSome && (b.state == .transition || b.state == .softStart)

/-- The visit of the frame's code probe (17 R395). DEDUCED: notes/assumptions/37. -/
def State.probeVisit (s : State) (q : Plan) (number : Word) (blank : Bool) : Option Nat :=
  let every := s.regN 0x600050
  if blank || every == 0 || number.toNat % every != 0 then none
  else some (oliariV s.part.device (s.ntu.probes.toNat % 2048) 255 0 * q.columns / 65536)

/-- The frame that starts at `at_`. A column armed for it keeps what it holds, under the epoch of the frame (02 R58). -/
def State.frameBegin (s : State) (n : NextFrame) (q : Plan) (at_ : Nat) : State :=
  let first := !s.pipe.started
  let blank := s.bsc.blanks
  let timing := (s.bsc.base.map FrameBase.plan).getD q
  let armed := match s.pipe.armed with
    | some c => if !blank && c.frame == n.number && c.plan == q then some { c with epoch := n.epoch, gridGen := n.gridGen } else none
    | none => none
  let s := { s with
    bsc := { s.bsc with blankFrames := if blank then sat32 s.bsc.blankFrames else s.bsc.blankFrames }
    spring := if first then
        { s.spring with startTimes := setAt s.spring.startTimes 2 ((at_ - s.spring.wakeAt) / 1000) } else s.spring
    pipe := { s.pipe with
      running := true, started := true, timing, frame := n.number, frameStart := at_, stamp := s.localTimeAt at_, blank
      predict := n.predict && !blank, gridGen := n.gridGen, gridFrames := n.gridFrames, lastH4 := n.lastH4, visit := 0
      inColumn := false, slot := 0, inSlot := false, inTurn := false, turnCorr := 0, cutoffDone := false
      armed
      prefetch := none
      probeAt := s.probeVisit q n.number blank } }
  { s with edu := s.edu.boundary q }

/-- FRAME_BOUNDARY (01 R30). DESIGN CHOICE: notes/assumptions/13. -/
def State.boundary (s : State) : State :=
  match s.pipe.plan, s.pipe.boundaryAt with
  | some p, some at_ =>
    if s.now < at_ then s
    else
      let n := s.nextFrame p
      let s := (s.frameEnd p).mirrorBoundary p n.commit (n.number.toNat : Int) at_
      let s := (s.takePlan p n).ledgerBoundary n.plan
      let s := if !s.pipe.started && n.plan.single then s.redundancy true else s
      let had := s.pipe.armed.isSome
      let s := s.frameBegin n n.plan at_
      let s := if had && !s.pipe.blank && s.pipe.armed.isNone then s.arm (s.thisFrame n.plan) 0 false false else s
      let s := (s.recorderBoundary n.plan n.number (n.commit.isSome || n.number == 0)).calBoundary.ethBoundary
      let s := if bitOf (s.regN 0x540013) 0 then s.sequence else s
      let s := (s.queueHeader n.plan 0).queueHeader n.plan 1
      if s.pipe.blank then s.queueTrailers n.number else s
  | _, _ => s

/-! ### Start-up (03 R76; 05 R138; 06 R166) -/

/-- A plan accepted while none is in force: it comes into force now, and frame 0 follows. DEDUCED: notes/assumptions/29, 35. -/
def State.bringUp (s : State) (p : Plan) (epoch : BitVec 16) : State :=
  let s := { s with
    pipe := { s.pipe with plan := some p, timing := p, prefetch := some (0, 0) }
    txn := { s.txn with epoch } }
  (s.biasStartup p).startupSoftStart p

/-- STARTUP_PLAN_VALIDATION (03 R76), by the active unit after the boot calibration (19 R436). DEDUCED: notes/assumptions/35. -/
def State.startupPlan (s : State) : State :=
  if s.pipe.plan.isSome || s.pipe.startupStatus != 0 || !s.unitActs || !s.cal.bootRan then s
  else
    let note := fun (status : Nat) (reason : Nat) => { s with pipe := { s.pipe with
        startupStatus := BitVec.ofNat 8 status, startupReason := BitVec.ofNat 8 reason } }
    let defaults := fun (status reason : Nat) =>
      match validate s [] [] with
      | none => (note status reason).bringUp [] 0
      | some r =>
        let s := note 4 reason
        { s with txn := { s.txn with lastReason := BitVec.ofNat 8 r.1, lastObject := r.2 } }
    match s.mram.plan.body with
    | some p =>
      match validate s p [] with
      | none => (note 1 0).bringUp p 0
      | some r => defaults 3 r.1
    | none => defaults (if s.mram.plan.empty then 0 else 2) 0

/-! ### The commands -/

def execStartupPlanValidation (t : Nat) : State → Host.Outcome State Fault Refusal :=
  runMain t [.rw, .rwp, .mram, .edu, .tda, .hac, .mcx, .fmt, .linkA, .linkB, .cu, .wcu, .mon, .thermal, .ntu, .spring, .fw,
    .cal, .part] fun s => s.startupPlan

def execFrameBoundary (t : Nat) : State → Host.Outcome State Fault Refusal :=
  runMain t [.rw, .rwp, .mram, .mcx, .wcu, .thermal, .fw, .part] fun s => s.boundary

def execColumnStart (t : Nat) : State → Host.Outcome State Fault Refusal :=
  runMain t [.rw, .rwp, .kpp, .txn, .mram, .bsc, .tda, .fmt, .linkA, .linkB, .emg, .cu, .wcu, .mon, .thermal, .ntu, .evr,
    .spring, .fw, .cal, .part] fun s => s.columnStart

/-- What the prefetch leaves alone. -/
def prefetchFrame : List UnitId :=
  [.rw, .rwp, .txn, .mram, .bsc, .tda, .hac, .prx, .fmt, .linkA, .linkB, .cu, .wcu, .mon, .thermal, .ntu, .spring, .fw,
   .cal, .part]

def execPrefetchComplete (t : Nat) : State → Host.Outcome State Fault Refusal :=
  runMain t (.emg :: prefetchFrame) fun s => s.prefetchDone

def execPrefetchLate (t : Nat) : State → Host.Outcome State Fault Refusal :=
  runMain t (.emg :: .kpp :: .evr :: .mcx :: prefetchFrame) fun s => s.prefetchMissed

def execShotSlotStart (t : Nat) (cal : Sys2Proof.TdcCal) : State → Host.Outcome State Fault Refusal :=
  runMain t [.rw, .rwp, .txn, .mram, .bsc, .hac, .prx, .mcx, .fmt, .linkA, .linkB, .cu, .wcu, .mon, .thermal, .ntu, .spring,
    .fw, .cal, .part] fun s => s.slotBegin cal

def execTurnaroundStart (t : Nat) : State → Host.Outcome State Fault Refusal :=
  runMain t [.rw, .rwp, .txn, .mram, .edu, .rfe, .tda, .hac, .prx, .mcx, .fmt, .linkA, .linkB, .emg, .cu, .wcu, .mon,
    .thermal, .spring, .fw, .cal, .part] fun s => s.turnBegin

def execCommitCutoff (t : Nat) : State → Host.Outcome State Fault Refusal :=
  runMain t (.emg :: prefetchFrame) fun s => s.cutoff

end Sys2Proof.Machine
end

