-- ==== Sys2Proof/Machine/ReadObj.lean ====
section
/-!
DEFINITION. The value a READ returns for each RO and RC object (00 R5 to R7, R15), unit by unit as the object tables of
the chapters list them. An RO object that no table here lists is a constant and reads its default (00 R12).
-/

namespace Sys2Proof.Machine

/-- The objects of one unit: sub-index and value. -/
abbrev Readout := List (Nat × (State → List Byte))

def readU (n sub : Nat) (f : State → Nat) : Nat × (State → List Byte) := (sub, fun s => le n (f s))

def readW (sub : Nat) (f : State → Word) : Nat × (State → List Byte) := (sub, fun s => le 4 (f s).toNat)

def readQ (sub : Nat) (f : State → BitVec 64) : Nat × (State → List Byte) := (sub, fun s => le 8 (f s).toNat)

def readI (n sub : Nat) (f : State → Int) : Nat × (State → List Byte) := (sub, fun s => leInt n (f s))

def readB (sub : Nat) (f : State → Bool) : Nat × (State → List Byte) := (sub, fun s => le 1 (bNat (f s)))

def bitsOf (l : List Nat) : Nat := sumOf (l.map fun i => 2 ^ i)

/-! ### Identity, communication, transactions, events (00 R3; 02 R64 to R66; 17 R392) -/

def read1000 : Readout := [
  readU 4 0x03 fun s => s.part.variant.featureMask,
  readU 2 0x07 fun s => s.part.strap,
  readU 2 0x08 fun s => s.part.device]

def read1100 : Readout := [
  readW 0x06 fun s => s.kpp.duplicates, readW 0x07 fun s => s.kpp.malformed,
  readW 0x08 fun s => s.kpp.dropped, readW 0x09 fun s => s.kpp.misaddressed,
  readU 1 0x0A fun s => s.kpp.kept.length,
  readU 1 0x22 fun s => s.mram.status.toNat,
  readB 0x23 fun s => s.mram.recordLost]

def TxnState.code : TxnState → Nat
  | .idle => 0 | .opened => 1 | .validating => 2

/-- Time until expiry in ms; 0 when not Open (02 R65). DEDUCED: notes/assumptions/31. -/
def State.txnRemaining (s : State) : Nat := if s.txn.state = .opened then (s.txn.deadline - s.now) / 1000000 else 0

/-- Staging in use: a fixed-size object counts its size, a STR or BLOB each staged byte once (02 R51). DEDUCED: notes/assumptions/28. -/
def Txn.stagedBytes (x : Txn) : Nat :=
  sumOf (x.staged.map fun e =>
    match (objRow e.1).bind fun r => r.type.size with
    | some n => n
    | none => sumOf (((mget x.extents e.1).getD []).map fun i => i.2 - i.1))

/-- The newest pending commit (02 R55). -/
def Txn.newest (x : Txn) : Option Commit := x.pending.getLast?

def read1200 : Readout := [
  readU 1 0x01 fun s => s.txn.state.code,
  readU 4 0x02 State.txnRemaining,
  readU 2 0x03 fun s => s.txn.epoch.toNat,
  readU 2 0x04 fun s => ((s.txn.newest.map Commit.epoch).getD s.txn.epoch).toNat,
  readW 0x05 fun s => (s.txn.newest.map Commit.firstFrame).getD 0,
  readB 0x06 fun s => !s.txn.pending.isEmpty,
  readU 4 0x07 fun s => s.txn.stagedBytes,
  readU 1 0x09 fun s => s.txn.lastReason.toNat,
  readU 4 0x0A fun s => s.txn.lastObject,
  readW 0x0C fun s => s.txn.commits, readW 0x0D fun s => s.txn.rejects, readW 0x0E fun s => s.txn.expiries,
  readU 1 0x0F fun s => s.txn.pending.length]

def read1300 : Readout := [
  readW 0x01 fun s => s.kpp.nonexistent, readW 0x02 fun s => s.kpp.absentUnit,
  readW 0x03 fun s => s.kpp.accessCode, readW 0x04 fun s => s.kpp.txnAccess,
  readW 0x10 fun s => s.kpp.evSeq, readW 0x11 fun s => s.kpp.notSent,
  (0x12, fun s => s.kpp.ring.flatMap EventRec.bytes),
  readU 1 0x13 fun s => s.kpp.dests.length]

/-! ### Plan (03 R68, R69, R76, R86) -/

def read2000 : Readout := [
  readU 4 0x20 fun s => s.plan.active,
  readU 4 0x21 fun s => s.plan.columnTime,
  readU 2 0x22 fun s => s.plan.slot,
  readU 2 0x23 fun s => s.pipe.gridGen.toNat,
  readB 0x24 State.predictionValid,
  readU 1 0x31 fun s => s.pipe.startupStatus.toNat,
  readU 1 0x32 fun s => s.pipe.startupReason.toNat]

/-! ### Emitter Drive Unit (04 R118) -/

def read3000 : Readout := [
  (0x20, fun s => s.edu.ports.map fun x => BitVec.ofNat 8 x.status),
  readW 0x22 fun s => s.edu.diagFired, readW 0x23 fun s => s.edu.diagSkipped, readW 0x24 fun s => s.edu.faults,
  (0x25, fun s => s.edu.ports.flatMap fun x => le 2 x.sensePeak),
  (0x26, fun s => s.edu.ports.flatMap fun x => le 2 x.latched)]

/-! ### Beam Steering Controller (05 R146) -/

def read3400 : Readout := [
  readU 1 0x03 fun s => s.bsc.state.code,
  readI 4 0x1D fun s => s.bsc.ax0.y, readI 4 0x1E fun s => s.bsc.ax0.u,
  readI 4 0x2D fun s => s.bsc.ax1.y, readI 4 0x2E fun s => s.bsc.ax1.u,
  readB 0x30 fun s => s.bsc.miss, readW 0x31 fun s => s.bsc.misses, readW 0x32 fun s => s.bsc.saturations,
  readW 0x33 fun s => s.bsc.clamps, readU 1 0x34 fun s => s.bsc.fault.toNat, readW 0x36 fun s => s.bsc.overRange,
  readW 0x37 fun s => s.bsc.corrected, readW 0x38 fun s => s.bsc.blankFrames]

/-! ### Receive Front End (06 R171) -/

def read3800 : Readout := [
  (0x0C, fun s => s.rfe.chans.flatMap fun x => le 2 x.offset),
  (0x15, fun s => s.rfe.groups.flatMap fun g => le 2 g.code),
  readI 2 0x16 fun s => s.rfe.biasTemp,
  (0x21, fun s => s.rfe.groups.flatMap fun g => le 2 g.biasMon),
  (0x22, fun s => s.rfe.groups.flatMap fun g => le 2 g.gainMon),
  readW 0x30 fun s => s.endBlank.rfe.satEvents, readW 0x31 fun s => s.rfe.stuckCount, readW 0x32 fun s => s.rfe.blindCount,
  readW 0x33 fun s => s.rfe.settlingCells,
  (0x34, fun s => bitMap 64 fun n => s.rfe.blindedLast.contains n)]

/-! ### Time digitizer array (07 R191) -/

def read3C00 : Readout := [
  (0x15, fun s => s.tda.refs.flatMap fun r => le 2 r.measured),
  (0x16, fun s => s.tda.refs.flatMap fun r => leInt 2 r.offset),
  (0x30, fun s => s.tda.tdcs.flatMap fun x => le 2 (8 * x.pSum / x.k)),
  readW 0x31 fun s => s.tda.calFails,
  (0x32, fun s => bitMap 65 fun m => (s.tda.tdcs.getD m {}).held),
  (0x33, fun s => s.tda.refs.flatMap fun r => le 4 r.misses.toNat),
  readW 0x40 fun s => s.tda.pileUp,
  (0x41, fun s => (List.range 512).flatMap fun n => le 4 ((mget s.tda.chans n).getD {}).pileUp.toNat),
  readQ 0x42 fun s => s.tda.outside, readQ 0x43 fun s => s.tda.events]

/-! ### Histogram accumulator (08 R211) -/

def read4000 : Readout := [
  readU 2 0x03 fun s => if s.pipe.plan.isSome then effectiveCode s s.plan else 0,
  readU 1 0x04 fun s => if s.pipe.plan.isSome && s.plan.interference == 2 then s.plan.pairSpacing else 0,
  (0x20, fun s => s.hac.last),
  readQ 0x30 fun s => s.hac.accumulated, readQ 0x31 fun s => s.hac.pairRejects, readQ 0x32 fun s => s.hac.coincRejects,
  readQ 0x33 fun s => s.hac.zoomOutside, readQ 0x34 fun s => s.hac.unlit, readW 0x35 fun s => s.hac.parkedCount,
  readW 0x36 fun s => s.hac.counterSats, readW 0x37 fun s => s.hac.shown.correctedCells,
  readW 0x40 fun s => s.hac.shown.coarse, readW 0x41 fun s => s.hac.shown.confirmed,
  readW 0x42 fun s => s.hac.shown.moved, readW 0x43 fun s => s.hac.shown.kept,
  readW 0x44 fun s => s.hac.shown.noCandidate]

/-! ### Peak and Return Extractor (09 R221, R241) -/

/-- BankState: two bits to a bank (09 R221). With no plan in force it reads 0x00, and a bank not in use is stopped: so
both are under a plan that does not run the PRX (R219). DEDUCED: notes/assumptions/46. -/
def State.bankState (s : State) : Nat :=
  match s.pipe.plan, s.prx.fade with
  | none, _ => 0
  | some _, some f => 2 * 4 ^ f.old + 3 * 4 ^ f.new
  | some p, none => if p.runsPrx then 4 ^ (planN p 0x440010) else 0

def read4400 : Readout := [
  readU 1 0x14 State.bankState,
  readU 2 0x15 fun s => match s.prx.fade with | some f => f.total - f.finished | none => 0,
  readW 0x40 fun s => s.prx.shown.returns, readW 0x41 fun s => s.prx.shown.nullCells,
  readW 0x42 fun s => s.prx.shown.veilCells, readW 0x43 fun s => s.prx.shown.veilDiscarded,
  readW 0x44 fun s => s.prx.shown.weather, readW 0x45 fun s => s.prx.shown.interference,
  readW 0x46 fun s => s.prx.shown.refined, readW 0x47 fun s => s.prx.shown.predicted,
  readW 0x48 fun s => s.prx.shown.kept, readW 0x49 fun s => s.prx.shown.fallbacks,
  readW 0x4A fun s => s.prx.clampCount,
  (0x4B, fun s => (List.range 512).flatMap fun n => le 2 (min 65535 (mcount s.prx.mu n))),
  (0x4C, fun s => (List.range 512).flatMap fun n => le 2 (min 65535 (mcount s.prx.sigma n)))]

/-! ### Memory controller (10 R267) -/

/-- DEDUCED: notes/assumptions/43. -/
def Degraded.word (d : Degraded) : Nat := d.cause * 2 ^ 30 + d.page % 2 ^ 19

/-- DEDUCED: notes/assumptions/43. -/
def read4800 : Readout := [
  readB 0x03 fun s => s.mcx.tarnReady, readB 0x04 fun s => s.mcx.bootFill,
  readU 1 0x05 fun s => (s.pipe.plan.map Plan.recordSets).getD 1, readU 1 0x06 fun s => s.mcx.holding,
  readU 2 0x07 fun s => s.mcx.degradedIn 0, readU 2 0x08 fun s => s.mcx.degradedIn 1,
  readU 4 0x09 fun s => count (fun d => 2 ≤ d.page / 4096) s.mcx.degraded,
  (0x0A, fun s => (s.mcx.degraded.take 1024).flatMap fun d => le 4 d.word),
  readQ 0x10 fun s => s.mcx.corrected, readW 0x11 fun s => s.mcx.uncorrectable, readW 0x12 fun s => s.mcx.votes,
  readW 0x13 fun s => s.mcx.stamps, readW 0x14 fun s => s.mcx.dropped,
  readU 4 0x16 fun s => s.mcx.scrubPos % 2 ^ 25, readW 0x17 fun s => s.mcx.scrubPasses,
  readU 2 0x18 fun s => s.mcx.watch.length, readW 0x19 fun s => s.mcx.watchOverflow,
  readU 1 0x1A fun s => s.mcx.remap.length,
  (0x1B, fun s => fit 256 0 (s.mcx.remap.flatMap fun e => le 4 (2 ^ 31 + e.line))),
  readB 0x20 fun s => s.mcx.neverWritten, readW 0x21 fun s => s.mcx.neverWrittenCount,
  readU 4 0x22 fun s => s.mcx.written.length, readU 4 0x23 State.uptime,
  (0x40, fun s => s.mcx.userBytes.flatMap fun w => le 8 w.toNat),
  (0x41, fun s => (s.mcx.atSecond s.uptime).lastSecond.flatMap fun n => le 4 (n / 1000000))]

/-! ### Output Formatter and link (11 R285, 12 R307) -/

/-- Mbit/s of unit bytes over the last whole second (11 R285). DEDUCED: notes/assumptions/31. -/
def State.outputRate (s : State) (n : Nat) : Nat := ((s.outPort n).atSecond s.uptime).lastBytes * 8 / 1000000

/-- CreditStallTime in µs, a stall under way included (12 R299). DEDUCED: notes/assumptions/31. -/
def Link.stallUs (l : Link) (now : Nat) : Nat :=
  min 0xFFFFFFFF ((l.stallNs + (match l.stallFrom with | some a => now - a | none => 0)) / 1000)

/-- The objects of port n from sub-index 0x42 or 0x62 on (12 R307). -/
def readLink (n : Nat) : Readout :=
  let o := 0x20 * n
  [ readU 1 (0x42 + o) fun s => (s.link n).state,
    readU 1 (0x43 + o) fun s => (s.link n).lanes,
    readW (0x45 + o) fun s => (s.link n).attempts, readW (0x46 + o) fun s => (s.link n).phaseFails,
    readW (0x47 + o) fun s => (s.link n).equalFails, readW (0x48 + o) fun s => (s.link n).alignFails,
    readW (0x49 + o) fun s => (s.link n).losses, readW (0x4A + o) fun s => (s.link n).exits,
    readU 1 (0x4B + o) fun s => (s.link n).lastCause,
    readW (0x4C + o) fun s => (s.link n).errors, readW (0x4D + o) fun s => (s.link n).credit,
    readU 4 (0x4E + o) fun s => (s.link n).stallUs s.now,
    (0x4F + o, fun s => (s.link n).eqReports),
    (0x50 + o, fun s => (s.link n).deskew),
    readU 1 (0x51 + o) fun s => (s.link n).rxState]

def read4C00 : Readout := [
  readW 0x03 fun s => s.fmt.a.seq, readW 0x04 fun s => s.fmt.b.seq,
  readQ 0x05 fun s => s.fmt.a.sent, readQ 0x06 fun s => s.fmt.b.sent,
  readW 0x07 fun s => s.fmt.a.dropped, readW 0x08 fun s => s.fmt.b.dropped,
  readW 0x09 fun s => s.fmt.a.highWater, readW 0x0A fun s => s.fmt.b.highWater,
  readU 4 0x0B fun s => s.outputRate 0, readU 4 0x0C fun s => s.outputRate 1,
  readW 0x18 fun s => s.fmt.eth.sent, readW 0x19 fun s => s.fmt.eth.dropped] ++ readLink 0 ++ readLink 1

/-! ### Waveform Capture Unit (15 R364) -/

def read5000 : Readout := [
  readU 1 0x04 fun s => s.wcu.state.code,
  readU 1 0x23 fun s => s.wcu.calStatus,
  (0x29, State.captureData),
  readU 2 0x2A fun s => s.pairRecords.length,
  readW 0x30 fun s => s.wcu.missed,
  (0x31, fun s => s.wcu.stamps.flatMap fun x => x.1.bytes ++ le 1 x.2 ++ [0]),
  readW 0x32 fun s => s.wcu.ignored, readW 0x33 fun s => s.wcu.stampOverflow, readW 0x34 fun s => s.wcu.overRange,
  readW 0x35 fun s => s.wcu.triggers]

/-! ### Monitor converter (16 R381) -/

def read5400 : Readout := [
  readB 0x03 fun s => s.mon.settled,
  (0x11, fun s => s.mon.slots.flatMap fun m => le 2 m.result),
  readU 1 0x14 fun s => if s.mon.seqRunning then 1 + bNat s.mon.seqQueued else 0,
  readW 0x15 fun s => s.mon.overruns,
  readU 2 0x16 fun s => bitsOf ((List.range 16).filter s.slotError),
  readU 2 0x17 fun s => bitsOf ((List.range 16).filter fun i => (s.mon.slots.getD i {}).outBand),
  readW 0x18 fun s => s.mon.overRange, readW 0x19 fun s => s.mon.discarded,
  readI 2 0x40 fun s => s.thermal.dieFilt, readI 2 0x41 fun s => s.thermal.roundValue,
  readI 2 0x42 fun s => s.thermal.diode, readI 2 0x43 fun s => s.thermal.bandgap, readI 2 0x44 fun s => s.thermal.ring,
  readB 0x46 fun s => s.thermal.broken, readU 1 0x47 fun s => s.thermal.code]

/-! ### Emission Guard (13 R332) -/

def GuardState.code : GuardState → Nat
  | .tripped => 0 | .armed => 1 | .testing => 2

/-- LedgerView: the selected bin's sum rounded up to nJ, and the limit of its port, per window (13 R332). -/
def State.ledgerView (s : State) : List Byte :=
  let b := s.regN 0x580020 % 8192
  let ael := valueIn s.plan 0x580008
  let g := s.emg.reachAt s.now
  (List.range 3).flatMap fun i => le 4 (ceilDiv ((g.wins.getD i {}).value b) 16) ++ le 4 (aelLimit ael (b / 64) i)

def TripEntry.bytes (e : TripEntry) : List Byte := e.time.bytes ++ le 1 e.cause ++ [0] ++ le 4 e.frame.toNat

/-- DEDUCED: notes/assumptions/31. -/
def read5800 : Readout := [
  readU 1 0x01 fun s => s.emg.state.code, readU 1 0x02 fun s => s.emg.lastCause, readU 2 0x03 fun s => s.emg.sourcesAt s.now,
  readB 0x04 fun s => s.emg.source, readB 0x05 fun s => s.emg.fb,
  (0x07, fun s => s.emg.windows.flatMap (le 4)),
  readU 4 0x09 fun s => ceilDiv (s.emg.releasedAt + s.emg.holdOff - s.now) 1000000,
  (0x21, State.ledgerView),
  (0x22, fun s => s.emg.peak.flatMap fun x => le 2 x.1 ++ le 4 x.2),
  readW 0x30 fun s => s.emg.trips, readQ 0x31 fun s => s.emg.gatedPulses, readW 0x32 fun s => s.emg.passed,
  readW 0x33 fun s => s.emg.aborted, readW 0x34 fun s => s.emg.failures, readW 0x35 fun s => s.emg.accepted,
  readW 0x36 fun s => s.emg.ignored, readW 0x37 fun s => s.emg.ledgerCorrected,
  (0x38, fun s => s.emg.history.flatMap TripEntry.bytes)]

/-! ### Control units (14 R350) -/

def read5C00 : Readout := [
  readU 1 0x01 fun s => s.cu.holder.getD 0xFF,
  readW 0x03 fun s => s.cu.epoch, readU 1 0x04 fun s => s.cu.lease.code, readU 1 0x05 fun s => s.standbyState.code,
  readU 4 0x07 State.autonomyRemaining,
  readW 0x10 fun s => s.cu.ckFrame, readW 0x11 fun s => s.cu.ckCount, readW 0x12 fun s => s.cu.ckFailures,
  readB 0x13 fun s => s.cu.ckLost, readW 0x14 fun s => s.cu.ckUsed,
  readB 0x21 fun s => s.cu.mailboxLost, readW 0x22 fun s => s.cu.mailboxLosses,
  readW 0x30 fun s => s.cu.takeovers, readW 0x31 fun s => s.cu.lateTakeovers, readW 0x32 fun s => s.cu.lastTime,
  readU 1 0x33 fun s => s.cu.lastCause, readW 0x34 fun s => s.cu.checkFails, readW 0x35 fun s => s.cu.reloads,
  readW 0x37 fun s => s.cu.busErrors]

/-! ### Network and Time Unit (17 R398) -/

def read6000 : Readout := [
  (0x01, fun s => s.localTime.bytes),
  readI 4 0x04 fun s => s.ntu.servo, readI 4 0x05 State.rate, readU 1 0x06 fun s => s.ntu.sync.code,
  readI 4 0x07 fun s => s.ntu.offset, readU 4 0x08 fun s => s.ntu.linkDelay, readQ 0x09 fun s => s.ntu.gm,
  readW 0x10 fun s => s.ntu.steps, readW 0x11 fun s => s.ntu.accepted, readW 0x12 fun s => s.ntu.ignoredSyncs,
  readB 0x13 fun s => s.ntu.asCapable, readU 8 0x23 fun s => s.part.mac.toNat,
  (0x32, State.tsinStamps),
  (0x33, fun s => s.ntu.tsins.flatMap fun x => le 4 x.lost.toNat),
  (0x39, fun s => s.ntu.fmeas.flatMap Fmeas.bytes),
  readI 4 0x43 fun s => s.ntu.phaseError, readB 0x44 fun s => s.ntu.phaseLocked,
  readB 0x52 fun s => s.ntu.conflict, readU 2 0x53 fun s => s.ntu.conflictCode,
  readW 0x54 fun s => s.ntu.probes, readW 0x55 fun s => s.ntu.suspects]

/-! ### Event Recorder (18 R421) -/

def read6400 : Readout := [
  readU 1 0x01 fun s => s.evr.stateCode, readU 8 0x02 fun s => s.evr.ringBytes,
  readU 1 0x03 fun s => s.evr.excluded.length, readU 4 0x04 fun s => if s.evr.armed then s.evr.preMs else 0,
  readB 0x05 fun s => s.evr.reduced,
  readU 1 0x10 fun s => s.evr.queued, readW 0x11 fun s => s.evr.merged, readW 0x12 fun s => s.evr.lostTriggers,
  readW 0x13 fun s => s.evr.stallUnits, readU 4 0x15 fun s => s.evr.last,
  readU 1 0x20 fun s => s.evr.used, readU 1 0x21 fun s => s.evr.iface,
  readU 8 0x23 fun s => s.evr.dataBlocks.length * s.evr.bytesPerBlock,
  readU 8 0x24 fun s => s.evr.freeBlocks.length * s.evr.bytesPerBlock,
  readW 0x25 fun s => s.evr.factoryBad, readW 0x26 fun s => s.evr.grownBad, readU 4 0x27 fun s => s.evr.spread,
  readQ 0x28 fun s => s.evr.corrected, readW 0x29 fun s => s.evr.uncorrectable, readW 0x2C fun s => s.evr.refreshed,
  readB 0x33 fun s => s.evr.interlock, readU 4 0x34 State.interlockTime,
  (0x40, fun s => s.evr.directory), (0x43, State.incidentData)]

/-! ### The Spring (19 R441) -/

def read6800 : Readout := [
  readU 1 0x01 fun s => s.spring.state.code, readU 1 0x02 fun s => s.spring.cause,
  readU 1 0x03 fun s => s.spring.wakeSource, readW 0x04 fun s => s.spring.resets, readW 0x05 fun s => s.spring.rounds,
  (0x10, fun s => s.spring.raw.flatMap (leInt 2)), (0x11, fun s => s.spring.filt.flatMap (leInt 2)),
  readU 2 0x13 fun s => s.spring.chanOut, readU 1 0x1B fun s => s.spring.ntcBroken,
  readB 0x26 fun s => s.spring.crystal32, readI 2 0x27 fun s => s.spring.raw.getD 15 0,
  readB 0x30 fun s => s.spring.interlock, readW 0x31 fun s => s.spring.interlocks,
  readW 0x32 fun s => s.spring.railFaults, readU 1 0x33 State.restartAttempts,
  readW 0x34 fun s => s.spring.overMs, readW 0x35 fun s => s.spring.coldMs,
  (0x36, fun s => s.spring.startTimes.flatMap (le 4))]

/-! ### Calibration (21 R467) -/

def read6C00 : Readout := [
  readW 0x01 fun s => s.cal.count, (0x02, fun s => s.cal.last.bytes), readU 1 0x03 fun s => s.cal.reference,
  readU 4 0x04 fun s => s.cal.rext, readU 2 0x06 fun s => s.cal.vcal, readU 1 0x07 fun s => 2 - s.mram.factoryGood,
  (0x0B, fun s => s.cal.temps.flatMap (leInt 2)),
  (0x0C, fun s => (List.range 32).flatMap fun g => le 4 (s.calAge g / 1000000000)),
  readU 4 0x0D fun s => bitsOf s.cal.staleGroups,
  (0x0E, fun s => bitMap 64 fun n => s.cal.staleBits.contains n),
  readW 0x0F fun s => s.cal.failures, readU 1 0x11 fun s => s.cal.skewStatus,
  (0x13, fun s => (List.range 2048).flatMap fun i => leInt 2 ((mget s.cal.onDie i).getD 0)),
  (0x20, fun s => s.mram.recordStatus), readW 0x21 fun s => s.mram.writes]

/-! ### Firmware and identity (20 R454) -/

def read7000 : Readout := [
  readU 1 0x01 fun s => s.fw.running, readU 1 0x02 fun s => s.fw.imageState,
  readW 0x03 fun s => s.fw.version, readU 1 0x04 fun s => s.fw.security,
  (0x05, fun s => s.fw.payloadHash), (0x06, fun s => s.fw.slotStatus),
  (0x07, fun s => s.fw.record.1.bytes), readU 1 0x08 fun s => s.fw.fuse, (0x09, fun s => s.fw.vendorHash),
  readU 1 0x12 fun s => s.fw.update,
  (0x20, fun s => s.fw.deviceId), (0x21, fun s => s.fw.certificate), (0x22, fun s => s.fw.publicKey),
  readU 1 0x25 fun s => s.fw.attest, (0x26, fun s => s.fw.evidence),
  readU 4 0x27 fun s => s.fw.nextIndex, readU 4 0x28 State.signatureLimit,
  readU 4 0x29 fun s => signatureCount - s.fw.nextIndex]

/-! ### The read of an object -/

def readouts : List (Nat × Readout) := [
  (0x1000, read1000), (0x1100, read1100), (0x1200, read1200), (0x1300, read1300), (0x2000, read2000),
  (0x3000, read3000), (0x3400, read3400), (0x3800, read3800), (0x3C00, read3C00), (0x4000, read4000),
  (0x4400, read4400), (0x4800, read4800), (0x4C00, read4C00), (0x5000, read5000), (0x5400, read5400),
  (0x5800, read5800), (0x5C00, read5C00), (0x6000, read6000), (0x6400, read6400), (0x6800, read6800),
  (0x6C00, read6C00), (0x7000, read7000)]

/-- The present value of an RO or RC object; one with no entry holds its default (00 R12). -/
def State.roValue (s : State) (key : Nat) : List Byte :=
  match (readouts.lookup (key / 256)).bind fun l => l.lookup (key % 256) with
  | some f => f s
  | none => defaultOf key

/-- The clear of an RC object (00 R15). -/
def State.rcClear (s : State) (key : Nat) : State :=
  match key with
  | 0x110006 => { s with kpp := { s.kpp with duplicates := 0 } }
  | 0x110007 => { s with kpp := { s.kpp with malformed := 0 } }
  | 0x110008 => { s with kpp := { s.kpp with dropped := 0 } }
  | 0x110009 => { s with kpp := { s.kpp with misaddressed := 0 } }
  | 0x130011 => { s with kpp := { s.kpp with notSent := 0 } }
  | 0x300024 => { s with edu := { s.edu with faults := 0 } }
  | 0x340030 => { s with bsc := { s.bsc with miss := false } }
  | 0x380032 => { s with rfe := { s.rfe with blindCount := 0 } }
  | 0x3C0040 => { s with tda := { s.tda with pileUp := 0 } }
  | 0x400036 => { s with hac := { s.hac with counterSats := 0 } }
  | 0x44004A => { s with prx := { s.prx with clampCount := 0 } }
  | 0x480020 => { s with mcx := { s.mcx with neverWritten := false } }
  | 0x4C0009 => { s with fmt := { s.fmt with a := { s.fmt.a with highWater := 0 } } }
  | 0x4C000A => { s with fmt := { s.fmt with b := { s.fmt.b with highWater := 0 } } }
  | 0x500031 => { s with wcu := { s.wcu with stamps := [] } }
  | 0x540015 => { s with mon := { s.mon with overruns := 0 } }
  | 0x5C0013 => { s with cu := { s.cu with ckLost := false } }
  | 0x600032 =>
    { s with ntu := { s.ntu with
        tsins := updAt s.ntu.tsins (s.regN 0x600031) fun x => { x with fifo := [] } } }
  | _ => s

/-- The value of an existing object of a unit present, of any access code but WO, and what reading it does: an RC object is cleared (00 R15), TarnCellRecord reads its line (10 R253). -/
def State.readValue (s : State) (key : Nat) (access : Access) : List Byte × State :=
  match access with
  | .rwt => (valueIn s.plan key, s)
  | .rw => (s.reg key, s)
  | .rwp => (s.reg key, s)
  | .rc => (s.roValue key, s.rcClear key)
  | .ro =>
    if key = 0x480031 then
      let r := s.cellRecord
      (r.1, r.2.2)
    else (s.roValue key, s)
  | .wo => (defaultOf key, s)

end Sys2Proof.Machine
end

