-- ==== Sys2Proof/Machine/Kpp.lean ====
section
/-!
DEFINITION. The Kloune protocol: how a request arrives, which requests are refused or answered from the kept responses,
what each opcode does, and the transaction (02 R35 to R61; 00 R5 to R10). A request that arrives while a COMMIT is being
validated waits for it (notes/assumptions/11).
-/

namespace Sys2Proof.Machine

/-! ### Responses (02 R40, R41, R47) -/

def stOk : Nat := 0
def stBusy : Nat := 1
def stNoTransaction : Nat := 2
def stRejected : Nat := 3
def stMalformed : Nat := 4
def stTooLarge : Nat := 5
def stStageFull : Nat := 6

/-- The response to a request (02, KPP message header). -/
def State.response (s : State) (op : Byte) (m : KppMsg) (handle : BitVec 16) (status items : Nat) (payload : List Byte) :
    List Byte :=
  kppBytes op m.seq handle status items s.part.device payload

/-- The entries kept for an endpoint (02 R47). -/
def Kpp.entries (k : Kpp) (ep : Endpoint) : List Kept :=
  match k.kept.find? fun e => e.ep == ep with
  | some e => e.entries
  | none => []

/-- A response kept: the newest of 8 entries of its endpoint, the endpoint the most recently active of 4 (02 R47).
DEDUCED: notes/assumptions/25. -/
def Kpp.keep (k : Kpp) (ep : Endpoint) (e : Kept) : Kpp :=
  let others := k.kept.filter fun x => x.ep != ep
  let entries := (k.entries ep).filter fun x => !(x.seq == e.seq && x.op == e.op)
  { k with kept := ({ ep, entries := (e :: entries).take 8 } : KeptEp) :: others.take 3 }

/-- The kept response that a duplicate gets (02 R47). DEDUCED: notes/assumptions/25. -/
def Kpp.duplicate (k : Kpp) (ep : Endpoint) (op : Byte) (seq : BitVec 16) : Option (List Byte) :=
  ((k.entries ep).find? fun x => x.seq == seq && x.op == op).map Kept.resp

/-- The response of an accepted COMMIT that is pending or in force, by the bytes of its request (02 R57, R59).
DEDUCED: notes/assumptions/25. -/
def Txn.accepted (x : Txn) (ep : Endpoint) (bytes : List Byte) : Option (List Byte) :=
  ((x.inForce.toList ++ x.pending).find? fun c => c.ep == ep && c.req == bytes).map Commit.resp

/-- Sends a response and keeps it (02 R46, R47). -/
def State.respond (s : State) (ep : Endpoint) (op : Byte) (seq : BitVec 16) (resp : List Byte) : State :=
  let s := s.sendKpp ep resp
  { s with kpp := s.kpp.keep ep { seq, op, resp } }

/-! ### Counters of refused accesses (00 R8) -/

def Kpp.refuseNonexistent (k : Kpp) : Kpp := { k with nonexistent := sat32 k.nonexistent }
def Kpp.refuseAbsent (k : Kpp) : Kpp := { k with absentUnit := sat32 k.absentUnit }
/-- DEDUCED: notes/assumptions/28. -/
def Kpp.refuseAccess (k : Kpp) : Kpp := { k with accessCode := sat32 k.accessCode }
/-- DEDUCED: notes/assumptions/28. -/
def Kpp.refuseTxn (k : Kpp) : Kpp := { k with txnAccess := sat32 k.txnAccess }

/-! ### READ and READ_STAGED (02 R42, R52; 00 R5 to R7) -/

/-- What every answer to a read item holds at least: a BLOB or STR may be cut to nothing (02 R42). DEDUCED: notes/assumptions/19. -/
def ReadItem.minimum (i : ReadItem) : Nat :=
  match objRow i.key with
  | none => 14
  | some r => 10 + r.type.size.getD 0

/-- A value item in answer to a read item. -/
def ReadItem.answer (i : ReadItem) (type : Nat) (value : List Byte) : List Byte :=
  ({ key := i.key, type, offset := i.offset, value } : ValueItem).bytes

/-- Zero in the declared type (00 R6, R7). -/
def ObjRow.zero (r : ObjRow) : List Byte := List.replicate (r.type.size.getD 0) 0

/-- One read item: its answer, the bytes left for STR and BLOB values, and the state after it. An object of a fixed size answers
its whole value whatever the Offset, which is echoed: DESIGN CHOICE, notes/assumptions/19. -/
def State.readItem (s : State) (staged : Bool) (spare : Nat) (i : ReadItem) : List Byte × Nat × State :=
  match objRow i.key with
  | none => (i.answer 4 (List.replicate 4 0), spare, { s with kpp := s.kpp.refuseNonexistent })
  | some r =>
    if absentUnit s.part.variant i.key then (i.answer r.type.code r.zero, spare, { s with kpp := s.kpp.refuseAbsent })
    else if r.access = .wo then (i.answer r.type.code r.zero, spare, { s with kpp := s.kpp.refuseAccess })
    else
      let (full, t) :=
        match (if staged && r.access == .rwt then mget s.txn.staged i.key else none) with
        | some v => (v, s)
        | none => s.readValue i.key r.access
      match r.type.size with
      | some n => (i.answer r.type.code (fit n 0 full), spare, t)
      | none =>
        let v := (full.drop i.offset).take spare
        (i.answer r.type.code v, spare - v.length, t)

/-- The items of a READ in order. DEDUCED: notes/assumptions/19. -/
def State.readItems (s : State) (staged : Bool) (spare : Nat) : List ReadItem → List Byte × State
  | [] => ([], s)
  | i :: is =>
    let (bytes, spare, t) := s.readItem staged spare i
    let (rest, u) := t.readItems staged spare is
    (bytes ++ rest, u)

/-! ### WRITE (02 R43, R50, R51; 00 R7) -/

/-- The interval [a, b) joined to rising disjoint intervals. DEDUCED: notes/assumptions/28. -/
def addExtent (a b : Nat) : List (Nat × Nat) → List (Nat × Nat)
  | [] => [(a, b)]
  | (c, d) :: xs =>
    if b < c then (a, b) :: (c, d) :: xs
    else if d < a then (c, d) :: addExtent a b xs
    else addExtent (min a c) (max b d) xs

/-- A value staged, in place of one staged before (02 R50), with the bytes it wrote (02 R51). DEDUCED: notes/assumptions/28. -/
def Txn.stage (x : Txn) (v : ValueItem) (value : List Byte) : Txn :=
  let old := (mget x.extents v.key).getD []
  { x with
    staged := mset x.staged v.key value
    extents := mset x.extents v.key
      (if v.value.isEmpty then old else addExtent v.offset (v.offset + v.value.length) old) }

/-- The value `old` of the object of `r` after a write of the item (02 R43, 00 R14, R493). DEDUCED: notes/assumptions/75. -/
def ObjRow.merged (r : ObjRow) (old : List Byte) (v : ValueItem) : List Byte :=
  storedValue r v.offset v.value.length (if r.type.size.isSome then v.value else overlay old v.offset v.value)

/-- A write to an RW or RWP object that takes effect on receipt (00, access codes): some registers have effects of their own. -/
def State.writeReg (s : State) (r : ObjRow) (v : ValueItem) : State :=
  let value := r.merged (s.reg v.key) v
  match v.key with
  | 0x4C0040 => s.laneRateWrite 0 value
  | 0x4C0060 => s.laneRateWrite 1 value
  | 0x4C0041 => s.portEnableWrite 0 value
  | 0x4C0061 => s.portEnableWrite 1 value
  | 0x540010 => s.slotConfigWrite v.offset v.value
  | 0x600038 => s.setFmeasConfig value
  | _ => s.setReg v.key r.access value

/-- A write to a WO object: the command starts (00, access codes). Switchover follows the response (14 R347).
DEDUCED: notes/assumptions/30. -/
def State.startCommand (s : State) (v : ValueItem) : State :=
  let n := ofLe v.value
  match v.key with
  | 0x110020 => s.storeParameters n
  | 0x110021 => s.restoreDefaults n
  | 0x200030 => s.storePlan n
  | 0x300021 => s.portClear n
  | 0x340035 => s.restart n
  | 0x38000D => s.thresholdClear n
  | 0x48001C => s.remapClear n
  | 0x4C0044 => s.retrainWrite 0 n
  | 0x4C0064 => s.retrainWrite 1 n
  | 0x500005 => s.armWrite n
  | 0x500006 => s.forceTrigger n
  | 0x500022 => s.skewCalibrate n
  | 0x540012 => s.sequenceTrigger n
  | 0x580010 => s.rearmRequest n
  | 0x580011 => s.emissionStop n
  | 0x600002 => s.localTimeSet v.value
  | 0x640009 => s.recorderTrigger n
  | 0x64002D => s.flashFormat n
  | 0x640044 => s.protect (n % 2 ^ 31) (bitOf n 31)
  | 0x640045 => s.deleteIncident n
  | 0x680020 => s.sleepCommand n
  | 0x680021 => s.resetCommand n
  | 0x6C000A => s.calibrateNow n
  | 0x6C0010 => s.skewMeasure n
  | 0x700011 => s.updateCommand n
  | 0x700013 => s.fuseAdvance n
  | 0x700024 => s.attestRequest n
  | _ => s

/-- One value item of a WRITE; `staging` where the request carries the open handle (00 R8, 02 R43, R50). -/
def State.writeItem (staging : Bool) (s : State) (v : ValueItem) : State :=
  match objRow v.key with
  | none => { s with kpp := s.kpp.refuseNonexistent }
  | some r =>
    if absentUnit s.part.variant v.key then { s with kpp := s.kpp.refuseAbsent }
    else
      match r.access with
      | .ro => { s with kpp := s.kpp.refuseAccess }
      | .rc => { s with kpp := s.kpp.refuseAccess }
      | .rwt =>
        if staging then
          let old := (mget s.txn.staged v.key).getD (valueIn s.plan v.key)
          { s with txn := s.txn.stage v (r.merged old v) }
        else { s with kpp := s.kpp.refuseTxn }
      | .wo => s.startCommand v
      | .rw => s.writeReg r v
      | .rwp => s.writeReg r v

def stageCapacity : Nat := 196608

/-- The items of a WRITE stay within the staging capacity (02 R51). DEDUCED: notes/assumptions/28. -/
def State.stageFits (s : State) (items : List ValueItem) : Bool :=
  let stages := fun (v : ValueItem) =>
    !absentUnit s.part.variant v.key &&
      match objRow v.key with
      | some r => r.access == .rwt
      | none => false
  decide (((items.filter stages).foldl (fun (x : Txn) v => x.stage v []) s.txn).stagedBytes ≤ stageCapacity)

/-! ### The transaction (02 R49 to R59) -/

/-- `h` is the open handle (02 R49). -/
def Txn.holds (x : Txn) (h : BitVec 16) : Bool := x.state == .opened && h == x.handle

def idleLimit : Nat := 5000000000

/-- The idle timer starts again (02 R53). DEDUCED: notes/assumptions/24. -/
def Txn.restart (x : Txn) (now : Nat) : Txn := { x with deadline := now + idleLimit }

/-- The transaction closed with its staged values discarded. -/
def Txn.closed (x : Txn) : Txn := { x with state := .idle, staged := [], extents := [], validating := none }

/-- A new handle: non-zero and not the previous transaction's (02 R49); the part chooses it (notes/assumptions/10).
DESIGN CHOICE: notes/assumptions/27. -/
def Txn.newHandle (x : Txn) (choice : BitVec 16) : BitVec 16 :=
  if choice ≠ 0 ∧ choice ≠ x.handle then choice else if x.handle = 1 then 2 else 1

/-- BEGIN: the status, the handle of the response, and the transaction after it (02 R49, state table).
DESIGN CHOICE: notes/assumptions/27. -/
def Txn.begin_ (x : Txn) (choice : BitVec 16) (now : Nat) : Nat × BitVec 16 × Txn :=
  if x.state ≠ .idle then (stBusy, 0, x)
  else
    let h := x.newHandle choice
    (stOk, h, ({ x with state := .opened, handle := h, lastLost := none, staged := [], extents := [] }).restart now)

/-- The transaction is lost to expiry or a takeover (02 R54). -/
def Txn.lost (x : Txn) : Txn := { x.closed with lastLost := some x.handle, expiries := sat32 x.expiries }

/-- TRANSACTION_EXPIRY (02 R53, R54). DEDUCED: notes/assumptions/24. -/
def State.txnExpiry (s : State) : State :=
  if s.txn.state = .opened ∧ s.txn.deadline ≤ s.now ∧ s.unitActs then { s with txn := s.txn.lost } else s

/-- Records a Rejected COMMIT (02 R56, R65). -/
def Txn.rejected (x : Txn) (reason key : Nat) : Txn :=
  { x with lastReason := BitVec.ofNat 8 reason, lastObject := key, rejects := sat32 x.rejects }

/-- The payload of a Rejected result (02 R55). -/
def rejectBytes (reason key : Nat) : List Byte :=
  le 1 reason ++ [0] ++ le 2 (key / 256) ++ le 1 key ++ [0, 0, 0]

/-- The payload of an accepted result (02 R55). -/
def commitBytes (epoch : BitVec 16) (first : Word) (warning : Nat) : List Byte :=
  le 2 epoch.toNat ++ le 4 first.toNat ++ le 1 warning ++ [0]

/-- The first frame a validation that completes now can reach (01 R31, 03 R76): the next one before its commit cut-off, else the one after it.
DEDUCED: notes/assumptions/29. -/
def State.reachableFrame (s : State) : Word :=
  let x := s.pipe
  let cut : Int := if x.started then ((x.frameStart + x.timing.active + 1900000 : Nat) : Int)
    else (x.firstAt : Int) - ((1000 * x.timing.turnaround : Nat) : Int) + 1900000
  let next : Word := if x.started then x.frame + 1 else 0
  if cut ≤ (s.now : Int) ∨ (x.started = true ∧ x.cutoffDone = true) then next + 1 else next

/-- FirstFrame: never earlier than the newest pending commit's plus one (02 R58). DEDUCED: notes/assumptions/29. -/
def State.firstFrame (s : State) : Word :=
  match s.txn.newest with
  | none => s.reachableFrame
  | some c => if wordAfter s.reachableFrame (c.firstFrame + 1) then s.reachableFrame else c.firstFrame + 1

/-- The plan the staged values are laid over (02 R55, 03 R76). -/
def State.commitBase (s : State) : Plan :=
  match s.txn.newest with
  | some c => c.plan
  | none => s.plan

/-- An accepted COMMIT (02 R57, R58): the record first, then the response; with no plan in force the plan comes into force at once (03 R76).
DEDUCED: notes/assumptions/29. -/
def State.acceptCommit (s : State) (ep : Endpoint) (req : List Byte) (plan : Plan) : State :=
  let m := (KppMsg.ofBytes req).2
  let starts := s.pipe.plan.isNone
  let epoch := (s.txn.newest.map Commit.epoch).getD s.txn.epoch + 1
  let first := if starts then 0 else s.firstFrame
  let resp := s.response 0x11 m m.handle stOk 0 (commitBytes epoch first (warningOf plan))
  let c : Commit := { plan, epoch, firstFrame := first, ep, req, resp }
  let x := s.txn.closed
  let x := { x with commits := sat32 x.commits }
  let s : State := { s with txn := if starts then { x with inForce := some c } else { x with pending := x.pending ++ [c] } }
  let s := if starts then s.bringUp plan epoch
    else if s.pipe.inTurn && first == s.pipe.frame + 1 then s.judgeSeam else s
  s.respond ep 0x11 m.seq resp

/-- A COMMIT whose validation rejects (02 R55, R56, state table): the transaction stays open. -/
def State.rejectCommit (s : State) (ep : Endpoint) (req : List Byte) (reason key : Nat) : State :=
  let m := (KppMsg.ofBytes req).2
  let x := ({ s.txn with state := .opened, validating := none }).restart s.now
  let s : State := { s with txn := x.rejected reason key }
  s.respond ep 0x11 m.seq (s.response 0x11 m m.handle stRejected 0 (rejectBytes reason key))

/-! ### Execution of a request (02 R39 to R41, R47) -/

/-- Opcodes the host sends (02, KPP opcodes). -/
def opRead : Byte := 0x01
def opWrite : Byte := 0x02
def opReadStaged : Byte := 0x03
def opBegin : Byte := 0x10
def opCommit : Byte := 0x11
def opRollback : Byte := 0x12
def opSubscribe : Byte := 0x20
def opUnsubscribe : Byte := 0x21
def opEvent : Byte := 0x30

/-- A request that passed the checks of R40, with its items. -/
inductive Request where
  | read (staged : Bool) (items : List ReadItem)
  | write (items : List ValueItem)
  | begin_
  | commit
  | rollback
  | subscribe (on : Bool)
  deriving DecidableEq, Repr

/-- The request in a message, none where it is malformed (02 R40, R44). DEDUCED: notes/assumptions/20. -/
def requestOf (ep : Endpoint) (op : Byte) (m : KppMsg) : Option Request :=
  let n := m.itemCount.toNat
  let size := 12 + m.payload.length
  let tooLong := match ep with
    | .udp _ _ => decide (1472 < size)
    | .can => false
  if m.version ≠ 1 ∨ m.payloadLength.toNat ≠ m.payload.length ∨ 64 < n ∨ tooLong = true then none
  else
    let bare := n = 0 ∧ m.payload = []
    if op = opRead then (parseReads n m.payload).map (.read false)
    else if op = opReadStaged then (parseReads n m.payload).map (.read true)
    else if op = opWrite then
      match parseValues n m.payload with
      | some l => if l.all ValueItem.wellFormed then some (.write l) else none
      | none => none
    else if op = opBegin then if bare then some .begin_ else none
    else if op = opCommit then if bare then some .commit else none
    else if op = opRollback then if bare then some .rollback else none
    else if op = opSubscribe then if bare then some (.subscribe true) else none
    else if op = opUnsubscribe then if bare then some (.subscribe false) else none
    else none

/-- A third destination replaces the older one (02 R60); a destination that subscribes again keeps its place. DESIGN CHOICE: notes/assumptions/82. -/
def Kpp.subscribe (k : Kpp) (ep : Endpoint) (on : Bool) : Kpp :=
  if !on then { k with dests := k.dests.filter fun d => d != ep }
  else if k.dests.contains ep then k
  else { k with dests := (k.dests ++ [ep]).drop (k.dests.length - 1) }

/-- READ or READ_STAGED (02 R41, R42, R45, R52). DEDUCED: notes/assumptions/19. -/
def State.doRead (s : State) (ep : Endpoint) (op : Byte) (m : KppMsg) (staged : Bool) (items : List ReadItem) : State :=
  if staged && !s.txn.holds m.handle then s.respond ep op m.seq (s.response op m m.handle stNoTransaction 0 [])
  else
    let room := Endpoint.limit ep - 12
    let least := sumOf (items.map ReadItem.minimum)
    if room < least then s.respond ep op m.seq (s.response op m m.handle stTooLarge 0 [])
    else
      let (payload, t) := s.readItems staged (room - least) items
      t.respond ep op m.seq (s.response op m m.handle stOk items.length payload)

/-- WRITE (02 R43, R50, R51); a Switchover written runs after the response (14 R347). DEDUCED: notes/assumptions/30. -/
def State.doWrite (s : State) (ep : Endpoint) (op : Byte) (m : KppMsg) (items : List ValueItem) : State :=
  let staging := s.txn.holds m.handle
  if staging && !s.stageFits items then s.respond ep op m.seq (s.response op m m.handle stStageFull 0 [])
  else
    let t := items.foldl (State.writeItem staging) s
    let t := t.respond ep op m.seq (s.response op m m.handle stOk 0 [])
    if items.any fun v => v.key == 0x5C0020 && ofLe v.value == 0x5357 then t.switchover 0x5357 else t

/-- COMMIT (02 R41, R54, R58): Busy, the last lost handle, another handle, or the validation starts. -/
def State.doCommit (s : State) (ep : Endpoint) (m : KppMsg) (bytes : List Byte) : State :=
  let answer := fun (s : State) (status : Nat) (payload : List Byte) =>
    s.respond ep opCommit m.seq (s.response opCommit m m.handle status 0 payload)
  if s.txn.holds m.handle then
    if 2 ≤ s.txn.pending.length then answer s stBusy []
    else { s with txn := { s.txn with state := .validating, validating := some (ep, bytes) } }
  else if s.txn.state = .idle ∧ s.txn.lastLost = some m.handle then
    answer { s with txn := s.txn.rejected 0x0D 0 } stRejected (rejectBytes 0x0D 0)
  else answer s stNoTransaction []

/-- ROLLBACK (02 R54, state table). -/
def State.doRollback (s : State) (ep : Endpoint) (m : KppMsg) : State :=
  let answer := fun (s : State) (status : Nat) =>
    s.respond ep opRollback m.seq (s.response opRollback m m.handle status 0 [])
  if s.txn.holds m.handle then answer { s with txn := s.txn.closed } stOk
  else if s.txn.state = .idle ∧ s.txn.lastLost = some m.handle then answer s stOk
  else answer s stNoTransaction

/-- A request executed (02 R40 to R60). DEDUCED: notes/assumptions/24. Every response but that of an Ok BEGIN carries the
request's Handle: DESIGN CHOICE, notes/assumptions/82. -/
def State.perform (s : State) (ep : Endpoint) (op : Byte) (m : KppMsg) (bytes : List Byte) (choice : BitVec 16) (r : Request) :
    State :=
  let s : State := if s.txn.holds m.handle && r != .begin_ then { s with txn := s.txn.restart s.now } else s
  match r with
  | .read staged items => s.doRead ep op m staged items
  | .write items => s.doWrite ep op m items
  | .begin_ =>
    let (status, h, x) := s.txn.begin_ choice s.now
    let h := if status = stOk then h else m.handle
    ({ s with txn := x } : State).respond ep op m.seq (s.response op m h status 0 [])
  | .commit => s.doCommit ep m bytes
  | .rollback => s.doRollback ep m
  | .subscribe on =>
    ({ s with kpp := s.kpp.subscribe ep on } : State).respond ep op m.seq (s.response op m m.handle stOk 0 [])

/-- One more malformed request (02 R40). -/
def State.countMalformed (s : State) : State := { s with kpp := { s.kpp with malformed := sat32 s.kpp.malformed } }

/-- One more duplicate, answered again (02 R47, R59). -/
def State.resend (s : State) (ep : Endpoint) (op : Byte) (seq : BitVec 16) (resp : List Byte) : State :=
  ({ s with kpp := { s.kpp with duplicates := sat32 s.kpp.duplicates } } : State).respond ep op seq resp

/-- A request taken by the active unit (02 R39, R40, R47, R59). DEDUCED: notes/assumptions/25. -/
def State.execute (s : State) (ep : Endpoint) (bytes : List Byte) (choice : BitVec 16) : State :=
  if bytes.length < 12 then s.countMalformed
  else
    let (op, m) := KppMsg.ofBytes bytes
    if m.device.toNat % 512 ≠ s.part.device then
      { s with kpp := { s.kpp with misaddressed := sat32 s.kpp.misaddressed } }
    else
      match s.kpp.duplicate ep op m.seq with
      | some resp => s.resend ep op m.seq resp
      | none =>
        match (if op = opCommit then s.txn.accepted ep bytes else none) with
        | some resp => s.resend ep op m.seq resp
        | none =>
          match requestOf ep op m with
          | none => s.countMalformed.respond ep op m.seq (s.response op m m.handle stMalformed 0 [])
          | some r => s.perform ep op m bytes choice r

/-! ### Arrival (02 R46, R48) -/

def isCan : Endpoint → Bool
  | .can => true
  | .udp _ _ => false

/-- A request for which no unit acts: held up to 32 over UDP and 16 over CAN FD, of up to 2,048 bytes, else dropped (02 R48).
DEDUCED: notes/assumptions/21. -/
def State.holdRequest (s : State) (ep : Endpoint) (bytes : List Byte) (choice : BitVec 16) : State :=
  let room := if isCan ep then 16 else 32
  if count (fun (x : Endpoint × List Byte × BitVec 16) => isCan x.1 == isCan ep) s.kpp.held < room ∧ bytes.length ≤ 2048 then
    { s with kpp := { s.kpp with held := s.kpp.held ++ [(ep, bytes, choice)] } }
  else { s with kpp := { s.kpp with dropped := sat32 s.kpp.dropped } }

/-- A request completely received (02 R46, R48). A message shorter than the header is no request and is counted at once, also
while no unit acts: DESIGN CHOICE, notes/assumptions/21. DEDUCED: notes/assumptions/11. -/
def State.arrive (s : State) (ep : Endpoint) (bytes : List Byte) (choice : BitVec 16) : State :=
  if bytes.length < 12 then s.countMalformed
  else if !s.unitActs then s.holdRequest ep bytes choice
  else if s.txn.state = .validating then { s with kpp := { s.kpp with waiting := s.kpp.waiting ++ [(ep, bytes, choice)] } }
  else s.execute ep bytes choice

/-- The requests that waited, in order, until one starts a validation (02 R46). DEDUCED: notes/assumptions/11. -/
def State.drain (s : State) : List (Endpoint × List Byte × BitVec 16) → State
  | [] => { s with kpp := { s.kpp with waiting := [] } }
  | x :: xs =>
    if !s.unitActs ∨ s.txn.state = .validating then { s with kpp := { s.kpp with waiting := x :: xs } }
    else (s.execute x.1 x.2.1 x.2.2).drain xs

/-- CAN FD is on (17 R398, as sampled at reset). -/
def State.canOn (s : State) : Bool := ofLe (valueIn s.part.net 0x600025) != 0

/-- A partly received message is discarded and counted (02 R38). -/
def State.discardCan (s : State) : State :=
  match s.kpp.can with
  | none => s
  | some _ => ({ s with kpp := { s.kpp with can := none } } : State).countMalformed

/-- A request of an endpoint. Over CAN FD its First segment discards a message partly received, and only one of up to 2,048
bytes arrives whole (02 R38). -/
def State.kppArrive (s : State) (ep : Endpoint) (bytes : List Byte) (choice : BitVec 16) : State :=
  if !isCan ep then s.arrive ep bytes choice
  else if !s.canOn then s
  else if 2048 < bytes.length then s.discardCan.countMalformed
  else s.discardCan.arrive ep bytes choice

/-- COMMIT_VALIDATION_COMPLETE (02 R53, R55 to R58; 03 R95): the verdict, its response, and the requests that waited. -/
def State.validationDone (s : State) : State :=
  match s.txn.state, s.txn.validating with
  | .validating, some (ep, req) =>
    if !s.unitActs then s
    else
      let base := s.commitBase
      let s := match validate s base s.txn.staged with
        | none => s.acceptCommit ep req (layOver base s.txn.staged)
        | some r => s.rejectCommit ep req r.1 r.2
      s.drain s.kpp.waiting
  | _, _ => s

/-! ### Events (02 R61) -/

/-- EVENT_SEND: up to 16 records to every destination. Records left in the queue when the last destination unsubscribes leave it
unsent and uncounted: DESIGN CHOICE, notes/assumptions/22. -/
def State.sendEvents (s : State) : State :=
  let batch := s.kpp.txq.take 16
  if !s.unitActs || batch.isEmpty then s
  else
    let msg := kppBytes opEvent 0 0 stOk batch.length s.part.device (batch.flatMap EventRec.bytes)
    s.kpp.dests.foldl (fun (s : State) ep => s.sendKpp ep msg) { s with kpp := { s.kpp with txq := s.kpp.txq.drop 16 } }

/-! ### CAN FD segments (02 R37, R38) -/

/-- The message in received bytes, its padding ignored: the header gives its length (02 R37). -/
def cutMessage (bs : List Byte) : List Byte := if bs.length < 12 then bs else bs.take (12 + uAt bs 8 2)

/-- Segment bytes added to a message of which `got` has arrived, `counter` its number (02 R37, R38).
DEDUCED: notes/assumptions/26. DESIGN CHOICE: notes/assumptions/27. -/
def State.canBytes (s : State) (got : List Byte) (counter : Nat) (last : Bool) (bytes : List Byte) : State :=
  let all := got ++ bytes
  if last then
    let msg := cutMessage all
    let s : State := { s with kpp := { s.kpp with can := none } }
    if 2048 < msg.length then s.countMalformed
    else
      let (choice, s) := s.free
      s.arrive .can msg (BitVec.ofNat 16 choice)
  else if 2048 < all.length then ({ s with kpp := { s.kpp with can := none } } : State).countMalformed
  else { s with kpp := { s.kpp with can := some { bytes := all, next := counter + 1, lastAt := s.now } } }

/-- CanSegmentTimeout in ns (02 R38). -/
def State.canGap (s : State) : Nat := 1000000 * s.regN 0x110003

/-- The segment gap has passed. DEDUCED: notes/assumptions/26. -/
def State.canLate (s : State) : Bool :=
  match s.kpp.can with
  | some a => decide (s.canGap < s.now - a.lastAt)
  | none => false

/-- CAN_SEGMENT_RECEIVE (02 R37, R38): a segment that starts no message and continues none is ignored. DEDUCED: notes/assumptions/26. -/
def State.canSegment (s : State) (frame : List Byte) : State :=
  match frame with
  | [] => s
  | c :: bytes =>
    let s := if s.canLate then s.discardCan else s
    let first := bitOf c.toNat 7
    let last := bitOf c.toNat 6
    let counter := field c.toNat 5 0
    if first then
      let s := s.discardCan
      if counter = 0 then s.canBytes [] 0 last bytes else s
    else
      match s.kpp.can with
      | none => s
      | some a => if counter = a.next % 64 then s.canBytes a.bytes counter last bytes else s.discardCan

/-- CAN_SEGMENT_TIMEOUT (02 R38). DEDUCED: notes/assumptions/26. -/
def State.canTimeout (s : State) : State := if s.canLate then s.discardCan else s

/-! ### The commands -/

/-- What a CAN gap or an event message leaves alone: everything but the KPP unit. -/
def kppOnly : List UnitId :=
  [.rw, .rwp, .txn, .mram, .pipe, .edu, .bsc, .rfe, .tda, .hac, .prx, .mcx, .fmt, .linkA, .linkB, .emg, .cu, .wcu, .mon,
   .thermal, .ntu, .evr, .spring, .fw, .cal, .part]

/-- What a request that reads and writes no object leaves alone: everything but KPP and the transaction. -/
def requestFrame : List UnitId := kppOnly.filter fun u => u != .txn

/-- What a READ leaves alone: it clears RC objects (00 R15), and TarnCellRecord reads memory (10 R253). -/
def readFrame : List UnitId := [.rw, .rwp, .mram, .pipe, .linkA, .linkB, .emg, .thermal, .spring, .fw, .cal, .part]

def execKppRead (t : Nat) (ep : Endpoint) (m : KppMsg) : State → Host.Outcome State Fault Refusal :=
  runMain t readFrame fun s => s.kppArrive ep (KppMsg.bytes m opRead) 0

def execKppWrite (t : Nat) (ep : Endpoint) (m : KppMsg) : State → Host.Outcome State Fault Refusal :=
  runMain t [.part] fun s => s.kppArrive ep (KppMsg.bytes m opWrite) 0

def execKppReadStaged (t : Nat) (ep : Endpoint) (m : KppMsg) : State → Host.Outcome State Fault Refusal :=
  runMain t readFrame fun s => s.kppArrive ep (KppMsg.bytes m opReadStaged) 0

def execKppBegin (t : Nat) (ep : Endpoint) (m : KppMsg) (choice : BitVec 16) : State → Host.Outcome State Fault Refusal :=
  runMain t requestFrame fun s => s.kppArrive ep (KppMsg.bytes m opBegin) choice

def execKppCommit (t : Nat) (ep : Endpoint) (m : KppMsg) : State → Host.Outcome State Fault Refusal :=
  runMain t requestFrame fun s => s.kppArrive ep (KppMsg.bytes m opCommit) 0

def execKppRollback (t : Nat) (ep : Endpoint) (m : KppMsg) : State → Host.Outcome State Fault Refusal :=
  runMain t requestFrame fun s => s.kppArrive ep (KppMsg.bytes m opRollback) 0

def execKppSubscribe (t : Nat) (ep : Endpoint) (m : KppMsg) : State → Host.Outcome State Fault Refusal :=
  runMain t requestFrame fun s => s.kppArrive ep (KppMsg.bytes m opSubscribe) 0

def execKppUnsubscribe (t : Nat) (ep : Endpoint) (m : KppMsg) : State → Host.Outcome State Fault Refusal :=
  runMain t requestFrame fun s => s.kppArrive ep (KppMsg.bytes m opUnsubscribe) 0

def execShortMessage (t : Nat) (ep : Endpoint) (bytes : List Byte) : State → Host.Outcome State Fault Refusal :=
  runMain t [.part] fun s => s.kppArrive ep bytes 0

def execCommitValidationComplete (t : Nat) : State → Host.Outcome State Fault Refusal :=
  runMain t [.part] fun s => s.validationDone

/-- A frame on another identifier than the request identifier of the device is not a segment for it (02 R36). -/
def execCanSegmentReceive (t : Nat) (frame : CanFrame) : State → Host.Outcome State Fault Refusal :=
  runMain t [.part] fun s => if s.canOn && (frame.extended, frame.id) == s.canRequestId then s.canSegment frame.data else s

def execCanSegmentTimeout (t : Nat) : State → Host.Outcome State Fault Refusal :=
  runMain t kppOnly fun s => s.canTimeout

def execTransactionExpiry (t : Nat) : State → Host.Outcome State Fault Refusal :=
  runMain t (.kpp :: requestFrame) fun s => s.txnExpiry

def execEventSend (t : Nat) : State → Host.Outcome State Fault Refusal :=
  runMain t kppOnly fun s => s.sendEvents

end Sys2Proof.Machine
end

