-- ==== Sys2Proof/Machine/MemUse.lean ====
section
/-!
DEFINITION. A line read or written by one of the users of the DRAM (10 R245, R246, R264): what the user then does with it.
-/

namespace Sys2Proof.Machine

/-- What a user does with a line it has read: the prefetch holds it (10 R495), a readout marks its incident (18 R401), a control unit takes an uncorrectable read as a bus error (10 R262, 14 R336).
DEDUCED: notes/assumptions/32, 78. -/
def State.lineArrives (s : State) (user : MemUser) (line : Nat) (bytes : List Byte) (bad : Bool) : State :=
  match user with
  | .prefetch => if s.pipe.prefetch.isSome then { s with mcx := { s.mcx with lines := mset s.mcx.lines line bytes } } else s
  | .readout =>
    match bad, s.evr.writing with
    | true, some i =>
      { s with evr := { s.evr with incidents := updateIncident i.number (fun x => x.flag 4) s.evr.incidents } }
    | _, _ => s
  | .cuCode => if bad then s.expire 2 else s
  | .cuOther => if bad then { s with cu := { s.cu with busErrors := sat32 s.cu.busErrors } } else s
  | .tarnWrite | .ring | .scrub | .cellRecord => s

/-- A read of one line by a user that reaches it (10 R243, R245, R257). DEDUCED: notes/assumptions/32. -/
def State.lineRead (s : State) (user : MemUser) (line : Nat) (flips : List (Nat × BitVec 13)) : State :=
  if !s.mcx.ready || !s.reaches user line then s else
  let (bytes, bad, s) := s.readLine user line flips
  s.lineArrives user line bytes bad

/-- Units a memory access leaves alone. -/
def memFrame : List UnitId :=
  [.rw, .rwp, .txn, .mram, .pipe, .edu, .bsc, .rfe, .tda, .hac, .prx, .fmt, .linkA, .linkB, .emg, .wcu, .mon, .thermal,
   .ntu, .spring, .fw, .cal, .part]

def execMemoryRead (t : Nat) (user : MemUser) (line : Nat) (flips : List (Nat × BitVec 13)) :
    State → Host.Outcome State Fault Refusal :=
  runLine t line memFrame fun s => s.lineRead user line flips

def execMemoryWrite (t : Nat) (user : MemUser) (line : Nat) (bytes : List (Nat × Byte)) :
    State → Host.Outcome State Fault Refusal :=
  runLine t line (.cu :: memFrame) fun s => if s.reaches user line then s.writeLine user line bytes else s

end Sys2Proof.Machine
end

