-- ==== Sys2Proof/Machine/Takeover.lean ====
section
/-!
DEFINITION. Renewals and claims of the lease, and the end of a takeover (14 R335, R339, R340, R346 to R351).
-/

namespace Sys2Proof.Machine

/-! ### Claims (14 R339, R340) -/

/-- The events of the Spring and the lease that waited for a holder, each with its recorded time (14 R351, 19 R442).
DEDUCED: notes/assumptions/23. -/
def State.flushDeferred (s : State) : State :=
  let kpp := (s.spring.faults ++ s.kpp.deferred).foldl (fun (k : Kpp) d => k.record d.cycle d.time d.code d.sub d.detail)
    { s.kpp with deferred := [] }
  { s with kpp, spring := { s.spring with faults := [] } }

/-- A claim is late more than 2,000 µs after the grant, or from OfferOpen or None; the first claim from OfferStandby never is (14 R339, R346).
DEDUCED: notes/assumptions/49. -/
def State.claimLate (s : State) : Bool :=
  s.cu.lease != .offerStandby || (s.cu.claimed && decide (s.cu.grantedAt + 2000000 < s.now))

/-- Detail of 0x5C02 (14 R351). -/
def takeoverDetail (u : Nat) (late : Bool) (cause : Nat) (epoch : Word) : Nat :=
  u + 2 * bNat late + 4 * cause + 16 * (epoch.toNat % 2 ^ 28)

/-- The stored values of the 0x6800 objects, which the first holder writes into the Spring (19 R439). DEDUCED: notes/assumptions/55, 68. -/
def State.storedSpring (s : State) : ObjMap := (s.mram.params.body.getD []).filter fun x => x.1 / 256 == 0x6800

/-- The held requests in order of arrival (14 R346 step 5, 02 R48). DEDUCED: notes/assumptions/21. -/
def State.runHeld (s : State) : State :=
  let l := s.kpp.waiting ++ s.kpp.held
  ({ s with kpp := { s.kpp with waiting := [], held := [] } } : State).drain l

/-- An accepted claim (14 R339 to R341): the first one of a start-up is no takeover. DEDUCED: notes/assumptions/49, 50. -/
def State.claim (s : State) (u : Nat) : State :=
  let late := s.claimLate
  let c := s.cu
  let again := c.claimed
  let c := { c with
    lease := .held, holder := some u, epoch := c.claimEpoch, claimed := true, lastRenewal := s.now, priorRenewal := s.now, autonomyEnd := none
    late, takingOver := again, lastCause := if again then c.cause else c.lastCause
    takeovers := if again then sat32 c.takeovers else c.takeovers
    lateTakeovers := if again && late then sat32 c.lateTakeovers else c.lateTakeovers }
  let s : State := { s with cu := c.setUnit u { c.unit u with fenced := false } }
  let s := (s.setSource 10 false).flushDeferred
  let s := s.raise 0x5C02 0x30 (takeoverDetail u late (if again then c.cause else 0) c.epoch)
  let s := if s.pipe.started then s.redundancy s.plan.single else s
  if again then s
  else
    let x := { s.spring with
      regs := layOver s.spring.regs s.storedSpring
      startTimes := setAt s.spring.startTimes 1 ((s.now - s.spring.wakeAt) / 1000) }
    ({ s with spring := x } : State).runHeld

/-- LEASE_RENEWAL (14 R335, R339): a renewal of the holder under its epoch, or a claim of the offer. One at 4,080 µs or later
after the last finds the lease expired (14 R336, R349). DEDUCED: notes/assumptions/50. -/
def State.renewal (s : State) (u : Nat) (epoch : Word) : State :=
  if s.cu.lease = .held then
    if s.cu.holder = some u ∧ s.cu.epoch = epoch ∧ (s.cu.unit u).fenced = false ∧ s.now < s.cu.lastRenewal + 4080000 then
      { s with cu := { s.cu with lastRenewal := s.now, priorRenewal := s.cu.lastRenewal } }
    else s
  else if s.offeredTo u ∧ epoch = s.cu.claimEpoch then s.claim u
  else s

/-! ### The end of a takeover (14 R346, R348) -/

/-- The slot a takeover restores: correct, and of the higher frame number (14 R346 step 1). -/
def Cu.checkpointInForce (c : Cu) : Option Checkpoint :=
  if c.slot0.good then
    if c.slot1.good && wordAfter c.slot1.frame c.slot0.frame then some c.slot1 else some c.slot0
  else if c.slot1.good then some c.slot1 else none

/-- LaneRate and PortEnable live in the link hardware, on which a takeover has no effect (12 R306). -/
def linkKeys : List Nat := [linkKey 0 0x40, linkKey 0 0x41, linkKey 1 0x40, linkKey 1 0x41]

/-- The blocks of the recorder scheduled for refresh as a checkpoint holds them; allocation, erase counts and directory are those of
the journal mirror (14 R346 step 3; 18 R416, R420). -/
def Evr.restored (e : Evr) (refresh : List Nat) : Evr :=
  { e with blocks := e.blocks.map fun x => (x.1, { x.2 with refresh := refresh.contains x.1 }) }

/-- The firmware state of a checkpoint back in place (14 R346 step 3, R348); 0x5C00 values are held in the Spring (R350).
DEDUCED: notes/assumptions/55. -/
def State.restoreFirmware (s : State) (k : Checkpoint) : State :=
  let stays := fun (x : Nat × List Byte) => x.1 / 256 == 0x5C00 || linkKeys.contains x.1
  let held := s.rwp.filter stays
  { s with
    rwp := layOver (k.rwp.filter fun x => !stays x) held
    evr := s.evr.restored k.refresh
    kpp := { s.kpp with dests := k.dests, kept := k.kept.map fun ep => ({ ep, entries := [] } : KeptEp) }
    ntu := { s.ntu with integ := k.integ, servo := k.servo }
    cal := { s.cal with forced := k.forced, temps := fit 32 0 k.temps, times := fit 32 0 k.times } }

/-- LastTakeoverTime (14 R350). -/
def State.takeoverTime (s : State) : Word :=
  if s.cu.late then 0xFFFFFFFF else BitVec.ofNat 32 (min ((s.now - s.cu.formerRenewal) / 1000) 0xFFFFFFFF)

/-- Steps 1 and 3 of 14 R346. DEDUCED: notes/assumptions/55. -/
def State.takeCheckpoint (s : State) : State :=
  match s.cu.checkpointInForce with
  | some k => ({ s with cu := { s.cu with ckUsed := k.frame } } : State).restoreFirmware k
  | none => (({ s with cu := { s.cu with ckLost := true } } : State).raise 0x5C04 0x13 0).restoreFirmware {}

/-- TAKEOVER_COMPLETE (14 R346, R348; 17 R397; 20 R451, R453; 21 R466). DEDUCED: notes/assumptions/21, 55. -/
def State.takeoverDone (s : State) : State :=
  if !s.cu.takingOver || s.cu.holder.isNone then s
  else
    let s := s.takeCheckpoint
    let s : State := if s.txn.state = .idle then s else { s with txn := s.txn.lost }
    let s := s.loseStore.abortUpdate.loseSkew.resumeIndex
    let s : State := { s with cu := { s.cu with takingOver := false, lastTime := s.takeoverTime } }
    (s.declareConflict (effectiveCode s s.plan)).runHeld

/-! ### The commands -/

def execLeaseRenewal (t unit : Nat) (epoch : Word) : State → Host.Outcome State Fault Refusal :=
  runMain t [.part] fun s => s.renewal unit epoch

def execTakeoverComplete (t : Nat) : State → Host.Outcome State Fault Refusal :=
  runMain t [.part] fun s => s.takeoverDone

end Sys2Proof.Machine
end

