-- ==== Sys2Proof/Machine/Dispatch.lean ====
section
/-!
DEFINITION. One arm for each command, each a direct call of its meaning.
-/

namespace Sys2Proof.Machine

def exec (i : Instr) (s : State) : Host.Outcome State Fault Refusal :=
  match i with
  | .kppRead t ep m => Sys2Proof.Machine.execKppRead t ep m s
  | .kppWrite t ep m => Sys2Proof.Machine.execKppWrite t ep m s
  | .kppReadStaged t ep m => Sys2Proof.Machine.execKppReadStaged t ep m s
  | .kppBegin t ep m choice => Sys2Proof.Machine.execKppBegin t ep m choice s
  | .kppCommit t ep m => Sys2Proof.Machine.execKppCommit t ep m s
  | .commitValidationComplete t => Sys2Proof.Machine.execCommitValidationComplete t s
  | .kppRollback t ep m => Sys2Proof.Machine.execKppRollback t ep m s
  | .kppSubscribe t ep m => Sys2Proof.Machine.execKppSubscribe t ep m s
  | .kppUnsubscribe t ep m => Sys2Proof.Machine.execKppUnsubscribe t ep m s
  | .shortMessage t ep bytes => Sys2Proof.Machine.execShortMessage t ep bytes s
  | .canSegmentReceive t frame => Sys2Proof.Machine.execCanSegmentReceive t frame s
  | .canSegmentTimeout t => Sys2Proof.Machine.execCanSegmentTimeout t s
  | .transactionExpiry t => Sys2Proof.Machine.execTransactionExpiry t s
  | .eventSend t => Sys2Proof.Machine.execEventSend t s
  | .storeParameters t v => Sys2Proof.Machine.execStoreParameters t v s
  | .restoreDefaults t v => Sys2Proof.Machine.execRestoreDefaults t v s
  | .storePlan t v => Sys2Proof.Machine.execStorePlan t v s
  | .storeComplete t readBackOk => Sys2Proof.Machine.execStoreComplete t readBackOk s
  | .mramRecordWrite t recType readBackOk => Sys2Proof.Machine.execMramRecordWrite t recType readBackOk s
  | .startupPlanValidation t => Sys2Proof.Machine.execStartupPlanValidation t s
  | .frameBoundary t => Sys2Proof.Machine.execFrameBoundary t s
  | .columnStart t => Sys2Proof.Machine.execColumnStart t s
  | .prefetchComplete t => Sys2Proof.Machine.execPrefetchComplete t s
  | .prefetchLate t => Sys2Proof.Machine.execPrefetchLate t s
  | .shotSlotStart t cal => Sys2Proof.Machine.execShotSlotStart t cal s
  | .fireEdge t senses => Sys2Proof.Machine.execFireEdge t senses s
  | .ledgerBooking t corrected uncorrectable => Sys2Proof.Machine.execLedgerBooking t corrected uncorrectable s
  | .idleTdcCalibration t cal => Sys2Proof.Machine.execIdleTdcCalibration t cal s
  | .comparatorEdge t ps ch taps => Sys2Proof.Machine.execComparatorEdge t ps ch taps s
  | .referenceEdge t ps ref taps => Sys2Proof.Machine.execReferenceEdge t ps ref taps s
  | .referenceWindowClose t ref => Sys2Proof.Machine.execReferenceWindowClose t ref s
  | .eventHandover t ch => Sys2Proof.Machine.execEventHandover t ch s
  | .coincidenceRelease t ch => Sys2Proof.Machine.execCoincidenceRelease t ch s
  | .saturationAssert t ch => Sys2Proof.Machine.execSaturationAssert t ch s
  | .saturationRelease t ch => Sys2Proof.Machine.execSaturationRelease t ch s
  | .markEnd t ch => Sys2Proof.Machine.execMarkEnd t ch s
  | .stuckSlot t ch => Sys2Proof.Machine.execStuckSlot t ch s
  | .placementPoint t => Sys2Proof.Machine.execPlacementPoint t s
  | .parkedEventsApply t => Sys2Proof.Machine.execParkedEventsApply t s
  | .poolSwap t => Sys2Proof.Machine.execPoolSwap t s
  | .prxChannelSlot t engine => Sys2Proof.Machine.execPrxChannelSlot t engine s
  | .bufferRelease t => Sys2Proof.Machine.execBufferRelease t s
  | .tarnRecordWrite t => Sys2Proof.Machine.execTarnRecordWrite t s
  | .columnBlockQueue t => Sys2Proof.Machine.execColumnBlockQueue t s
  | .h4ColumnCopy t => Sys2Proof.Machine.execH4ColumnCopy t s
  | .ethStreamDatagram t => Sys2Proof.Machine.execEthStreamDatagram t s
  | .turnaroundStart t => Sys2Proof.Machine.execTurnaroundStart t s
  | .tarnBufferSwap t => Sys2Proof.Machine.execTarnBufferSwap t s
  | .diagnosticShot t senses => Sys2Proof.Machine.execDiagnosticShot t senses s
  | .testPulseStart t => Sys2Proof.Machine.execTestPulseStart t s
  | .testPulseCheck t => Sys2Proof.Machine.execTestPulseCheck t s
  | .testPulseEnd t => Sys2Proof.Machine.execTestPulseEnd t s
  | .testDueTimer t => Sys2Proof.Machine.execTestDueTimer t s
  | .commitCutoff t => Sys2Proof.Machine.execCommitCutoff t s
  | .driftCalibrationStep t m => Sys2Proof.Machine.execDriftCalibrationStep t m s
  | .checkpointWriteStart t => Sys2Proof.Machine.execCheckpointWriteStart t s
  | .checkpointWriteComplete t => Sys2Proof.Machine.execCheckpointWriteComplete t s
  | .checkpointDeadline t => Sys2Proof.Machine.execCheckpointDeadline t s
  | .bscPeriodStart t => Sys2Proof.Machine.execBscPeriodStart t s
  | .bscBurstComplete t axis burst => Sys2Proof.Machine.execBscBurstComplete t axis burst s
  | .bscProductComplete t axis corrected uncorrectable => Sys2Proof.Machine.execBscProductComplete t axis corrected uncorrectable s
  | .bscRestart t v => Sys2Proof.Machine.execBscRestart t v s
  | .ledgerBucketAdvance t window => Sys2Proof.Machine.execLedgerBucketAdvance t window s
  | .ledgerSweep t corrected uncorrectable mismatch => Sys2Proof.Machine.execLedgerSweep t corrected uncorrectable mismatch s
  | .clockMonitorFail t => Sys2Proof.Machine.execClockMonitorFail t s
  | .gateReadbackEdge t port => Sys2Proof.Machine.execGateReadbackEdge t port s
  | .emitEnFbChange t level => Sys2Proof.Machine.execEmitEnFbChange t level s
  | .feedbackStuck t => Sys2Proof.Machine.execFeedbackStuck t s
  | .supplyNotOn t => Sys2Proof.Machine.execSupplyNotOn t s
  | .rearmPinEdge t => Sys2Proof.Machine.execRearmPinEdge t s
  | .rearmRequest t v => Sys2Proof.Machine.execRearmRequest t v s
  | .emissionStop t v => Sys2Proof.Machine.execEmissionStop t v s
  | .portClear t v => Sys2Proof.Machine.execPortClear t v s
  | .thresholdOffsetClear t v => Sys2Proof.Machine.execThresholdOffsetClear t v s
  | .mcxReady t => Sys2Proof.Machine.execMcxReady t s
  | .bootFillComplete t => Sys2Proof.Machine.execBootFillComplete t s
  | .memoryRead t user line flips => Sys2Proof.Machine.execMemoryRead t user line flips s
  | .correctionWriteback t line => Sys2Proof.Machine.execCorrectionWriteback t line s
  | .memoryWrite t user line bytes => Sys2Proof.Machine.execMemoryWrite t user line bytes s
  | .scrubTick t flips => Sys2Proof.Machine.execScrubTick t flips s
  | .watchEntryExpiry t => Sys2Proof.Machine.execWatchEntryExpiry t s
  | .remapCopyComplete t => Sys2Proof.Machine.execRemapCopyComplete t s
  | .remapTableStore t readBackOk => Sys2Proof.Machine.execRemapTableStore t readBackOk s
  | .remapClear t v => Sys2Proof.Machine.execRemapClear t v s
  | .blockPeriod t port => Sys2Proof.Machine.execBlockPeriod t port s
  | .markerPeriod t port => Sys2Proof.Machine.execMarkerPeriod t port s
  | .statusMessage t port m => Sys2Proof.Machine.execStatusMessage t port m s
  | .eqReport t port m => Sys2Proof.Machine.execEqReport t port m s
  | .alignReport t port m => Sys2Proof.Machine.execAlignReport t port m s
  | .retrainMessage t port m => Sys2Proof.Machine.execRetrainMessage t port m s
  | .backChannelError t port => Sys2Proof.Machine.execBackChannelError t port s
  | .backChannelLoss t port => Sys2Proof.Machine.execBackChannelLoss t port s
  | .phaseLimit t port => Sys2Proof.Machine.execPhaseLimit t port s
  | .equalizeLimit t port => Sys2Proof.Machine.execEqualizeLimit t port s
  | .alignLimit t port => Sys2Proof.Machine.execAlignLimit t port s
  | .trainingAttemptStart t port => Sys2Proof.Machine.execTrainingAttemptStart t port s
  | .portPllLock t port => Sys2Proof.Machine.execPortPllLock t port s
  | .laneRateWrite t port v => Sys2Proof.Machine.execLaneRateWrite t port v s
  | .portEnableWrite t port v => Sys2Proof.Machine.execPortEnableWrite t port v s
  | .retrain4Lanes t port => Sys2Proof.Machine.execRetrain4Lanes t port s
  | .retrainPresentWidth t port => Sys2Proof.Machine.execRetrainPresentWidth t port s
  | .leaseRenewal t unit epoch => Sys2Proof.Machine.execLeaseRenewal t unit epoch s
  | .leaseRelease t unit epoch => Sys2Proof.Machine.execLeaseRelease t unit epoch s
  | .leaseExpiry t => Sys2Proof.Machine.execLeaseExpiry t s
  | .fenceTimerExpiry t unit => Sys2Proof.Machine.execFenceTimerExpiry t unit s
  | .leaseGrant t => Sys2Proof.Machine.execLeaseGrant t s
  | .offerTimeout t => Sys2Proof.Machine.execOfferTimeout t s
  | .autonomyWindowEnd t => Sys2Proof.Machine.execAutonomyWindowEnd t s
  | .takeoverComplete t => Sys2Proof.Machine.execTakeoverComplete t s
  | .heartbeat t unit => Sys2Proof.Machine.execHeartbeat t unit s
  | .heartbeatLoss t unit => Sys2Proof.Machine.execHeartbeatLoss t unit s
  | .standbyImageCheck t ok => Sys2Proof.Machine.execStandbyImageCheck t ok s
  | .standbyReloadComplete t unit ok => Sys2Proof.Machine.execStandbyReloadComplete t unit ok s
  | .switchover t v => Sys2Proof.Machine.execSwitchover t v s
  | .firmwareLoad t unit flash slots => Sys2Proof.Machine.execFirmwareLoad t unit flash slots s
  | .verifyImage t => Sys2Proof.Machine.execVerifyImage t s
  | .programImage t => Sys2Proof.Machine.execProgramImage t s
  | .activateTrial t => Sys2Proof.Machine.execActivateTrial t s
  | .confirmImage t => Sys2Proof.Machine.execConfirmImage t s
  | .updateComplete t image readBackOk => Sys2Proof.Machine.execUpdateComplete t image readBackOk s
  | .fuseAdvance t v => Sys2Proof.Machine.execFuseAdvance t v s
  | .attestRequest t v => Sys2Proof.Machine.execAttestRequest t v s
  | .attestComplete t => Sys2Proof.Machine.execAttestComplete t s
  | .syncReceive t m => Sys2Proof.Machine.execSyncReceive t m s
  | .followUpReceive t m => Sys2Proof.Machine.execFollowUpReceive t m s
  | .announceReceive t domain gm => Sys2Proof.Machine.execAnnounceReceive t domain gm s
  | .pdelayReqReceive t seqId => Sys2Proof.Machine.execPdelayReqReceive t seqId s
  | .pdelayReqSend t => Sys2Proof.Machine.execPdelayReqSend t s
  | .pdelayRespReceive t seqId peerRx peerTx => Sys2Proof.Machine.execPdelayRespReceive t seqId peerRx peerTx s
  | .syncReceiptTimeout t => Sys2Proof.Machine.execSyncReceiptTimeout t s
  | .holdoverLimit t => Sys2Proof.Machine.execHoldoverLimit t s
  | .localTimeSet t value => Sys2Proof.Machine.execLocalTimeSet t value s
  | .tsinEdge t input falling => Sys2Proof.Machine.execTsinEdge t input falling s
  | .fmeasGateEnd t input count => Sys2Proof.Machine.execFmeasGateEnd t input count s
  | .wcuArm t => Sys2Proof.Machine.execWcuArm t s
  | .wcuStop t => Sys2Proof.Machine.execWcuStop t s
  | .forceTrigger t v => Sys2Proof.Machine.execForceTrigger t v s
  | .wcuTrigger t source => Sys2Proof.Machine.execWcuTrigger t source s
  | .postfillComplete t samples => Sys2Proof.Machine.execPostfillComplete t samples s
  | .segmentRecordComplete t samples => Sys2Proof.Machine.execSegmentRecordComplete t samples s
  | .wcuRearm t => Sys2Proof.Machine.execWcuRearm t s
  | .skewCalibrate t v => Sys2Proof.Machine.execSkewCalibrate t v s
  | .skewCalibrationComplete t trims => Sys2Proof.Machine.execSkewCalibrationComplete t trims s
  | .monConversion t conv uV vrefUV => Sys2Proof.Machine.execMonConversion t conv uV vrefUV s
  | .muxSettleEnd t => Sys2Proof.Machine.execMuxSettleEnd t s
  | .sequenceTrigger t v => Sys2Proof.Machine.execSequenceTrigger t v s
  | .slotConfigWrite t offset bytes => Sys2Proof.Machine.execSlotConfigWrite t offset bytes s
  | .vrefExtCheck t mV => Sys2Proof.Machine.execVrefExtCheck t mV s
  | .referenceSettle t => Sys2Proof.Machine.execReferenceSettle t s
  | .springRound t r => Sys2Proof.Machine.execSpringRound t r s
  | .canWakePattern t => Sys2Proof.Machine.execCanWakePattern t s
  | .wakeTimerExpiry t => Sys2Proof.Machine.execWakeTimerExpiry t s
  | .vsysUndervoltage t => Sys2Proof.Machine.execVsysUndervoltage t s
  | .powerOn t crystal32 => Sys2Proof.Machine.execPowerOn t crystal32 s
  | .sleepCommand t v => Sys2Proof.Machine.execSleepCommand t v s
  | .resetCommand t v => Sys2Proof.Machine.execResetCommand t v s
  | .railSample t mV pmicPg => Sys2Proof.Machine.execRailSample t mV pmicPg s
  | .railConfirmTimeout t => Sys2Proof.Machine.execRailConfirmTimeout t s
  | .railRestartDelay t => Sys2Proof.Machine.execRailRestartDelay t s
  | .resetRelease t devnum safeCfg => Sys2Proof.Machine.execResetRelease t devnum safeCfg s
  | .shutdownStepComplete t => Sys2Proof.Machine.execShutdownStepComplete t s
  | .recorderTrigger t v => Sys2Proof.Machine.execRecorderTrigger t v s
  | .ringUnitWrite t => Sys2Proof.Machine.execRingUnitWrite t s
  | .pageProgramComplete t ok => Sys2Proof.Machine.execPageProgramComplete t ok s
  | .blockEraseComplete t target block ok => Sys2Proof.Machine.execBlockEraseComplete t target block ok s
  | .incidentStored t => Sys2Proof.Machine.execIncidentStored t s
  | .flashIdentify t vnandMV targets => Sys2Proof.Machine.execFlashIdentify t vnandMV targets s
  | .journalReplay t => Sys2Proof.Machine.execJournalReplay t s
  | .refreshRead t target block corrections uncorrectable => Sys2Proof.Machine.execRefreshRead t target block corrections uncorrectable s
  | .wearLevelMove t => Sys2Proof.Machine.execWearLevelMove t s
  | .incidentProtect t number => Sys2Proof.Machine.execIncidentProtect t number s
  | .incidentUnprotect t number => Sys2Proof.Machine.execIncidentUnprotect t number s
  | .incidentDelete t number => Sys2Proof.Machine.execIncidentDelete t number s
  | .flashFormat t v => Sys2Proof.Machine.execFlashFormat t v s
  | .bootCalibration t m => Sys2Proof.Machine.execBootCalibration t m s
  | .calibrateNow t v => Sys2Proof.Machine.execCalibrateNow t v s
  | .skewMeasure t v => Sys2Proof.Machine.execSkewMeasure t v s
  | .skewMeasureBurst t strobeSum times => Sys2Proof.Machine.execSkewMeasureBurst t strobeSum times s
  | .clockMonitorRecovery t => Sys2Proof.Machine.execClockMonitorRecovery t s
  | .checkpointTimer t => Sys2Proof.Machine.execCheckpointTimer t s
  | .driftCalibrationTimer t m => Sys2Proof.Machine.execDriftCalibrationTimer t m s
  | .preferredClaimTimeout t => Sys2Proof.Machine.execPreferredClaimTimeout t s

end Sys2Proof.Machine
end

