-- ==== Sys2Proof/Safety.lean ====
section
/-!
DEFINITION. The terms the claims use: a command that completes, what it leaves alone, and the invariants of a state.
-/

namespace Sys2Proof.Machine

/-- The command answers a next state, of which `P` holds. -/
def Gives (i : Instr) (s : State) (P : State → Prop) : Prop := ∃ u, exec i s = .next u ∧ P u

/-- Unit `x` is the same in both states. The local clock runs on with time in every command (17 R383), so it is left out. -/
def sameUnit (a b : State) : UnitId → Prop
  | .rw => a.rw = b.rw
  | .rwp => a.rwp = b.rwp
  | .kpp => a.kpp = b.kpp
  | .txn => a.txn = b.txn
  | .mram => a.mram = b.mram
  | .pipe => a.pipe = b.pipe
  | .edu => a.edu = b.edu
  | .bsc => a.bsc = b.bsc
  | .rfe => a.rfe = b.rfe
  | .tda => a.tda = b.tda
  | .hac => a.hac = b.hac
  | .prx => a.prx = b.prx
  | .mcx => a.mcx = b.mcx
  | .fmt => a.fmt = b.fmt
  | .linkA => a.linkA = b.linkA
  | .linkB => a.linkB = b.linkB
  | .emg => a.emg = b.emg
  | .cu => a.cu = b.cu
  | .wcu => a.wcu = b.wcu
  | .mon => a.mon = b.mon
  | .thermal => a.thermal = b.thermal
  | .ntu => { a.ntu with clock := 0 } = { b.ntu with clock := 0 }
  | .evr => a.evr = b.evr
  | .spring => a.spring = b.spring
  | .fw => a.fw = b.fw
  | .cal => a.cal = b.cal
  | .part => a.part = b.part

/-- Every unit outside `l` is as it was, and so is the queue. -/
def OnlyChanges (l : List UnitId) (s u : State) : Prop := u.pending = s.pending ∧ ∀ x, x ∉ l → sameUnit s u x

/-- A request over UDP that the active unit takes at once: addressed to this part, not a duplicate, and no COMMIT validated
meanwhile (02 R39, R46 to R48, R59). -/
def State.Takes (s : State) (ep : Endpoint) (op : Byte) (m : KppMsg) : Prop :=
  s.mainOn = true ∧ s.unitActs = true ∧ s.txn.state ≠ .validating ∧ (∃ a p, ep = .udp a p) ∧
    m.device.toNat % 512 = s.part.device ∧ s.kpp.duplicate ep op m.seq = none ∧
    (op = opCommit → s.txn.accepted ep (KppMsg.bytes m op) = none)

/-- What every end of a lease leaves (14 R336, R339): no holder, a guard time from this instant, the last holder and the
cause recorded. -/
def LeaseEnds (h cause : Nat) (s u : State) (now : Nat) : Prop :=
  OnlyChanges [.cu] s u ∧ u.cu.lease = .guard ∧ u.cu.holder = none ∧ u.cu.former = some h ∧ u.cu.cause = cause ∧
    u.cu.expiredAt = now ∧ u.cu.epoch = s.cu.epoch ∧ u.cu.takingOver = false ∧
    u.cu.autonomyEnd = if s.pipe.started then some (now + 1000000 * s.autonomyMs) else none

/-- A valid message of the back channel: 8 payload bytes under their CRC-8 (12 R300), on a port the variant has. -/
def ValidMessage (s : State) (port type : Nat) (m : BackMsg) : Prop :=
  s.mainOn = true ∧ s.hasPort port = true ∧ port < 2 ∧ m.payload.length = 8 ∧ crc8 (BitVec.ofNat 8 type :: m.payload) = m.crc

/-- Only the link of `port` changes, and it becomes `l`. -/
def LinkBecomes (s u : State) (port : Nat) (l : Link) : Prop :=
  OnlyChanges [.linkA, .linkB] s u ∧ u.link port = l ∧ u.link (1 - port) = s.link (1 - port)

/-- The registers whose write has no effect beyond its value (12 R307, 16 and 17 name those that have one). -/
def PlainKey (k : Nat) : Prop := k ∉ [0x4C0040, 0x4C0060, 0x4C0041, 0x4C0061, 0x540010, 0x600038]

/-- The canonical form of the memory: addresses rising with no zero listed, and so for the deviations of its check bits. -/
def MemoryCanonical (s : State) : Prop :=
  memWf s.mcx.data = true ∧ rising s.mcx.check = true ∧ s.mcx.check.all (fun x => x.2 != 0) = true

/-- What a trip of source `k` at instant `t` makes of the armed guard `g` with EMIT_EN high (13 R317): Tripped, EMIT_EN low,
the cause recorded and counted, and the source active: a condition until it ends, a detection in that cycle. -/
def TripsArmed (k t : Nat) (s : State) (g : Emg) (u : State) : Prop :=
  OnlyChanges [.emg, .kpp, .evr] s u ∧ u.emg = { g.arise k (max s.now t) with
    state := .tripped, emitEn := false, fellAt := max s.now t, lastCause := k, trips := sat32 g.trips, held := true
    history := addTrip g.history { time := (s.atTime t).localTime, cause := k, frame := s.frameNow } }

/-- EMIT_EN is high exactly in the state Armed, and low while the main domain is in reset (13 R321). -/
def EmissionSafe (s : State) : Prop :=
  s.emg.emitEn = (s.emg.state == .armed) ∧ (s.mainOn = false → s.emg.emitEn = false)

/-- At most two event destinations, in force and in both slots of the checkpoint (02 R60). -/
def DestinationsBounded (s : State) : Prop :=
  s.kpp.dests.length ≤ 2 ∧ s.cu.slot0.dests.length ≤ 2 ∧ s.cu.slot1.dests.length ≤ 2

/-- The device number and the strap lie within the nine bits the part has for them (22 R472). -/
def PartSafe (s : State) : Prop := s.part.device < 512 ∧ s.part.strap < 512

/-- The units a command may change. -/
def changesOf : Instr → List UnitId
  | .kppRead .. | .kppReadStaged .. =>
    [.kpp, .txn, .edu, .bsc, .rfe, .tda, .hac, .prx, .mcx, .fmt, .cu, .wcu, .mon, .ntu, .evr]
  | .kppWrite .. | .commitValidationComplete .. | .shortMessage .. | .canSegmentReceive .. | .leaseRenewal ..
  | .takeoverComplete .. | .springRound .. | .powerOn .. =>
    [.rw, .rwp, .kpp, .txn, .mram, .pipe, .edu, .bsc, .rfe, .tda, .hac, .prx, .mcx, .fmt, .linkA, .linkB, .emg, .cu, .wcu, .mon, .thermal, .ntu, .evr, .spring, .fw, .cal]
  | .kppBegin .. | .kppCommit .. | .kppRollback .. | .kppSubscribe .. | .kppUnsubscribe .. =>
    [.kpp, .txn]
  | .canSegmentTimeout .. | .eventSend .. =>
    [.kpp]
  | .transactionExpiry .. =>
    [.txn]
  | .storeParameters .. | .restoreDefaults .. | .storePlan .. | .storeComplete .. | .mramRecordWrite ..
  | .remapTableStore .. =>
    [.mram]
  | .startupPlanValidation .. =>
    [.kpp, .txn, .pipe, .bsc, .rfe, .prx, .emg, .evr]
  | .frameBoundary .. =>
    [.kpp, .txn, .pipe, .edu, .bsc, .rfe, .tda, .hac, .prx, .fmt, .linkA, .linkB, .emg, .cu, .mon, .ntu, .evr, .spring, .cal]
  | .columnStart .. =>
    [.pipe, .edu, .rfe, .hac, .prx, .mcx]
  | .prefetchComplete .. | .commitCutoff .. =>
    [.kpp, .pipe, .edu, .rfe, .mcx, .evr]
  | .prefetchLate .. =>
    [.pipe, .edu, .rfe]
  | .shotSlotStart .. =>
    [.kpp, .pipe, .edu, .rfe, .tda, .emg, .evr]
  | .fireEdge .. =>
    [.kpp, .pipe, .edu, .rfe, .emg, .evr]
  | .ledgerBooking .. | .testPulseCheck .. | .testPulseEnd .. | .ledgerSweep .. | .clockMonitorFail .. | .gateReadbackEdge ..
  | .emitEnFbChange .. | .feedbackStuck .. | .supplyNotOn .. | .rearmPinEdge .. | .rearmRequest ..
  | .emissionStop .. =>
    [.kpp, .emg, .evr]
  | .idleTdcCalibration .. =>
    [.kpp, .tda, .evr]
  | .comparatorEdge .. =>
    [.rfe, .tda]
  | .referenceEdge .. | .referenceWindowClose .. =>
    [.tda]
  | .eventHandover .. =>
    [.tda, .hac]
  | .coincidenceRelease .. | .placementPoint .. | .parkedEventsApply .. =>
    [.hac]
  | .saturationAssert .. =>
    [.rfe, .tda]
  | .saturationRelease .. | .markEnd .. | .thresholdOffsetClear .. =>
    [.rfe]
  | .stuckSlot .. =>
    [.pipe, .rfe]
  | .poolSwap .. =>
    [.kpp, .pipe, .hac, .prx, .ntu, .evr]
  | .prxChannelSlot .. =>
    [.prx]
  | .bufferRelease .. =>
    [.pipe, .hac, .prx]
  | .tarnRecordWrite .. =>
    [.kpp, .pipe, .mcx, .evr]
  | .columnBlockQueue .. =>
    [.kpp, .pipe, .fmt, .linkA, .linkB, .evr]
  | .h4ColumnCopy .. =>
    [.kpp, .pipe, .hac, .fmt, .linkA, .linkB, .evr]
  | .ethStreamDatagram .. =>
    [.fmt]
  | .turnaroundStart .. =>
    [.kpp, .pipe, .bsc, .ntu, .evr]
  | .tarnBufferSwap .. =>
    [.pipe, .mcx]
  | .diagnosticShot .. =>
    [.kpp, .pipe, .edu, .emg, .evr]
  | .testPulseStart .. | .testDueTimer .. | .ledgerBucketAdvance .. | .clockMonitorRecovery .. =>
    [.emg]
  | .driftCalibrationStep .. | .bootCalibration .. | .driftCalibrationTimer .. =>
    [.kpp, .mram, .evr, .cal]
  | .checkpointWriteStart .. | .checkpointWriteComplete .. | .checkpointDeadline .. | .leaseRelease ..
  | .leaseExpiry .. | .fenceTimerExpiry .. | .leaseGrant .. | .heartbeat .. | .standbyImageCheck .. | .switchover ..
  | .checkpointTimer .. | .preferredClaimTimeout .. =>
    [.cu]
  | .bscPeriodStart .. | .bscProductComplete .. | .bscRestart .. =>
    [.kpp, .pipe, .bsc, .emg, .evr]
  | .bscBurstComplete .. =>
    [.bsc, .mon]
  | .portClear .. =>
    [.edu]
  | .mcxReady .. | .correctionWriteback .. | .watchEntryExpiry .. | .remapClear .. =>
    [.mcx]
  | .bootFillComplete .. | .memoryWrite .. | .scrubTick .. | .remapCopyComplete .. | .ringUnitWrite .. =>
    [.kpp, .mcx, .evr]
  | .memoryRead .. =>
    [.kpp, .mcx, .cu, .evr]
  | .blockPeriod .. =>
    [.fmt, .linkA, .linkB]
  | .markerPeriod .. | .eqReport .. | .alignReport .. | .backChannelError .. | .phaseLimit .. | .equalizeLimit ..
  | .alignLimit .. | .trainingAttemptStart .. =>
    [.linkA, .linkB]
  | .portPllLock .. | .statusMessage .. | .retrainMessage .. | .backChannelLoss .. | .retrain4Lanes .. | .retrainPresentWidth .. =>
    [.kpp, .fmt, .linkA, .linkB, .evr]
  | .laneRateWrite .. | .portEnableWrite .. =>
    [.rwp, .kpp, .fmt, .linkA, .linkB, .evr]
  | .offerTimeout .. | .heartbeatLoss .. | .standbyReloadComplete .. =>
    [.kpp, .cu, .evr]
  | .autonomyWindowEnd .. =>
    [.kpp, .emg, .cu, .evr]
  | .firmwareLoad .. =>
    [.kpp, .cu, .evr, .fw]
  | .verifyImage .. | .programImage .. | .activateTrial .. | .confirmImage .. | .updateComplete .. | .fuseAdvance .. =>
    [.fw]
  | .attestRequest .. =>
    [.kpp, .evr, .fw]
  | .attestComplete .. | .incidentStored .. | .journalReplay .. =>
    [.kpp, .mram, .evr, .fw]
  | .syncReceive .. | .announceReceive .. | .pdelayReqReceive .. | .fmeasGateEnd .. =>
    [.ntu]
  | .followUpReceive .. | .pdelayReqSend .. | .pdelayRespReceive .. | .syncReceiptTimeout .. | .holdoverLimit ..
  | .localTimeSet .. =>
    [.kpp, .ntu, .evr]
  | .tsinEdge .. =>
    [.kpp, .wcu, .mon, .ntu, .evr]
  | .wcuArm .. | .wcuStop .. | .segmentRecordComplete .. | .skewCalibrate .. =>
    [.wcu]
  | .forceTrigger .. | .wcuTrigger .. | .postfillComplete .. | .wcuRearm .. =>
    [.kpp, .wcu, .evr]
  | .skewCalibrationComplete .. =>
    [.rwp, .kpp, .wcu, .evr]
  | .monConversion .. =>
    [.kpp, .rfe, .mon, .evr]
  | .muxSettleEnd .. =>
    [.rfe, .mon]
  | .sequenceTrigger .. | .vrefExtCheck .. | .referenceSettle .. =>
    [.kpp, .mon, .evr]
  | .slotConfigWrite .. =>
    [.rwp, .kpp, .mon, .evr]
  | .canWakePattern .. | .wakeTimerExpiry .. | .railSample .. | .railRestartDelay .. =>
    [.spring]
  | .vsysUndervoltage .. | .railConfirmTimeout .. | .shutdownStepComplete .. =>
    [.rw, .rwp, .kpp, .txn, .mram, .pipe, .edu, .bsc, .rfe, .tda, .hac, .prx, .mcx, .fmt, .linkA, .linkB, .emg, .cu, .wcu, .mon, .ntu, .evr, .spring, .fw, .cal]
  | .sleepCommand .. | .resetCommand .. =>
    [.kpp, .emg, .evr, .spring]
  | .resetRelease .. =>
    [.rw, .rwp, .kpp, .txn, .mram, .pipe, .edu, .bsc, .rfe, .tda, .hac, .prx, .mcx, .fmt, .linkA, .linkB, .emg, .cu, .wcu, .mon, .ntu, .evr, .spring, .fw, .cal, .part]
  | .recorderTrigger .. | .pageProgramComplete .. | .blockEraseComplete .. | .flashIdentify .. =>
    [.kpp, .evr]
  | .refreshRead .. | .wearLevelMove .. | .incidentProtect .. | .incidentUnprotect .. | .incidentDelete ..
  | .flashFormat .. =>
    [.evr]
  | .calibrateNow .. | .skewMeasure .. =>
    [.cal]
  | .skewMeasureBurst .. =>
    [.rwp, .rfe, .cal]

end Sys2Proof.Machine
end

