-- ==== Sys2Proof/Certificates/Slice0/Obligations.lean ====
section
/-!
DEFINITION. The statements about the block, each over every state and operand it names: what its commands do, what
they leave alone, and the invariants every step keeps.
-/

open Sys2Proof Sys2Proof.Machine

/-! ### The block as a whole -/

/-- A step takes the command at the front of the queue and runs it with the rest; with nothing waiting the block idles
(log 2). -/
def Obligations.StepRunsTheFrontCommand : Prop :=
  (∀ (s : State) (c : Instr) (rest : List Instr), s.pending = c :: rest → step s = exec c { s with pending := rest }) ∧
  (∀ s : State, s.pending = [] → step s = .next s)

/-- Every command answers a next state, in which the queue is as it was and time has not gone back; the one exception
is a line beyond 0x7FFF_FFFF, where no memory exists (10 R243): its commands fault, in every state. -/
def Obligations.EveryCommandAnswersButMemoryHoles : Prop :=
  (∀ (c : Instr) (s : State), (∃ u, exec c s = .next u ∧ u.pending = s.pending ∧ s.now ≤ u.now) ∨
    ∃ line, 33554432 ≤ line ∧ exec c s = .fault (.addressHole (64 * line))) ∧
  (∀ (s : State) (t line : Nat) (user : MemUser) (fl : List (Nat × BitVec 13)) (bs : List (Nat × Byte)), 33554432 ≤ line →
    exec (.memoryRead t user line fl) s = .fault (.addressHole (64 * line)) ∧
    exec (.memoryWrite t user line bs) s = .fault (.addressHole (64 * line)) ∧
    exec (.correctionWriteback t line) s = .fault (.addressHole (64 * line)))

/-- The frame of every command: a unit outside its list is as it was, and so is the queue. -/
def Obligations.CommandsKeepToTheirUnits : Prop :=
  ∀ (c : Instr) (s u : State), exec c s = .next u → OnlyChanges (changesOf c) s u

/-- The state at reset: nothing waits; the guard is Tripped with cause 1 and EMIT_EN low (13 R317, R321); no
transaction is open, no plan in force and no frame started (02 R48, 03 R76); the memory lists nothing and no unit
holds the lease. -/
def Obligations.TheStateAtReset : Prop :=
  State.reset.pending = [] ∧ State.reset.emg.state = .tripped ∧ State.reset.emg.lastCause = 1 ∧
    State.reset.emg.emitEn = false ∧ EmissionSafe State.reset ∧ State.reset.txn.state = .idle ∧
    State.reset.pipe.plan = none ∧ State.reset.pipe.started = false ∧ State.reset.mcx.data = [] ∧
    MemoryCanonical State.reset ∧ State.reset.cu.holder = none ∧ State.reset.mainOn = true ∧ PartSafe State.reset ∧
    DestinationsBounded State.reset

/-- Every step keeps the canonical form of the in-package memory. -/
def Obligations.TheMemoryStaysCanonical : Prop :=
  ∀ s u : State, MemoryCanonical s → step s = .next u → MemoryCanonical u

/-- Every step keeps the identity of the part: its variant is never changed, its device number and strap stay within 0
to 511, and only a reset release changes any of them (00 R1, 22 R472). -/
def Obligations.OnlyAResetChangesThePart : Prop :=
  (∀ s u : State, PartSafe s → step s = .next u → PartSafe u ∧ u.part.variant = s.part.variant) ∧
  (∀ (c : Instr) (s u : State), exec c s = .next u → (∀ t strap safe, c ≠ .resetRelease t strap safe) → u.part = s.part)

/-! ### The Kloune protocol (02) -/

/-- The header of a message and its payload read back as they were written: no bit of the 12 header bytes or of the
payload is lost (02 R39, KPP message header). Value items and read items of any number, each field at any value its
width admits, parse back to the same items and consume the payload exactly (02 R41 to R44). -/
def Obligations.KppMessagesReadBackAsWritten : Prop :=
  (∀ (op : Byte) (m : KppMsg), KppMsg.ofBytes (KppMsg.bytes m op) = (op, m)) ∧
  ((∀ l : List ReadItem, (∀ r ∈ l, r.key < 2 ^ 24 ∧ r.offset < 2 ^ 32) →
     parseReads l.length (l.flatMap ReadItem.bytes) = some l) ∧
   (∀ l : List ValueItem,
     (∀ v ∈ l, v.key < 2 ^ 24 ∧ v.type < 2 ^ 8 ∧ v.offset < 2 ^ 32 ∧ v.value.length < 2 ^ 16) →
     parseValues l.length (l.flatMap ValueItem.bytes) = some l))

/-- A message of up to 2,048 bytes cut into CAN FD segments: each segment's first byte says first, last and counter,
and the bytes after it, put together and cut to the header's length, are the message (02 R37). SHORT_MESSAGE is
counted and not answered; CAN_SEGMENT_RECEIVE starts an assembly with the first segment, on the device's own request
identifier alone, and CAN_SEGMENT_TIMEOUT discards one whose gap has passed (02 R36 to R38, R40). -/
def Obligations.SegmentsAndShortMessages : Prop :=
  (∀ bs : List Byte, 12 ≤ bs.length → bs.length ≤ 2048 → bs.length = 12 + uAt bs 8 2 →
     cutMessage ((canSegments bs).flatMap List.tail) = bs ∧
     (∀ i, i < (canSegments bs).length →
       ((canSegments bs).getD i []).head? =
         some (BitVec.ofNat 8 ((if i = 0 then 128 else 0) + (if i + 1 = (canSegments bs).length then 64 else 0) + i))) ∧
     (∀ seg ∈ canSegments bs, 1 ≤ seg.length ∧ seg.length ≤ 64)) ∧
  ((∀ (s : State) (t : Nat) (a : BitVec 32) (p : BitVec 16) (bs : List Byte), s.mainOn = true → s.unitActs = true →
     s.txn.state ≠ .validating → bs.length < 12 →
     Gives (.shortMessage t (.udp a p) bs) s fun u => OnlyChanges [.kpp] s u ∧ u.out = [] ∧
       u.kpp = { s.kpp with malformed := sat32 s.kpp.malformed }) ∧
   (∀ (s : State) (t id : Nat) (x : Bool) (bs : List Byte), s.mainOn = true → s.canOn = true → bs.length ≤ 63 →
     ((x, id) = s.canRequestId → s.kpp.can = none → Gives (.canSegmentReceive t { extended := x, id, data := 0x80 :: bs }) s fun u =>
       OnlyChanges [.kpp] s u ∧ u.kpp = { s.kpp with can := some { bytes := bs, next := 1, lastAt := max s.now t } }) ∧
     ((x, id) ≠ s.canRequestId → Gives (.canSegmentReceive t { extended := x, id, data := 0x80 :: bs }) s fun u => OnlyChanges [] s u)) ∧
   (∀ (s : State) (t : Nat) (a : CanAsm), s.mainOn = true → s.kpp.can = some a →
     1000000 * s.regN 0x110003 < max s.now t - a.lastAt →
     Gives (.canSegmentTimeout t) s fun u => OnlyChanges [.kpp] s u ∧
       u.kpp = { s.kpp with can := none, malformed := sat32 s.kpp.malformed }))

/-- A request whose DeviceNumber is not the part's own is dropped without a response and counted, whatever its opcode
and endpoint (02 R39). -/
def Obligations.MisaddressedRequestsAreDropped : Prop :=
  ∀ (s : State) (t : Nat) (ep : Endpoint) (m : KppMsg) (choice : BitVec 16), s.mainOn = true → s.unitActs = true →
    s.txn.state ≠ .validating → (ep = .can → s.canOn = true ∧ s.kpp.can = none ∧ m.payload.length ≤ 2036) →
    m.device.toNat % 512 ≠ s.part.device →
    let dropped := fun (u : State) => OnlyChanges [.kpp] s u ∧ u.out = [] ∧
      u.kpp = { s.kpp with misaddressed := sat32 s.kpp.misaddressed }
    Gives (.kppRead t ep m) s dropped ∧ Gives (.kppWrite t ep m) s dropped ∧ Gives (.kppReadStaged t ep m) s dropped ∧
      Gives (.kppBegin t ep m choice) s dropped ∧ Gives (.kppCommit t ep m) s dropped ∧
      Gives (.kppRollback t ep m) s dropped ∧ Gives (.kppSubscribe t ep m) s dropped ∧
      Gives (.kppUnsubscribe t ep m) s dropped

/-- READ and READ_STAGED of one object of fixed size that fits an answer (02 R41, R42, R52): the value, or with the
open handle the staged value, in the declared type and size, and nothing else sent. -/
def Obligations.ReadsAnswerTheValue : Prop :=
  (∀ (s : State) (t n : Nat) (ep : Endpoint) (m : KppMsg) (i : ReadItem) (r : ObjRow),
    s.Takes ep opRead m → requestOf ep opRead m = some (.read false [i]) → s.txn.holds m.handle = false →
    objRow i.key = some r → absentUnit s.part.variant i.key = false → r.access ≠ .wo → r.type.size = some n → n ≤ 1450 →
    Gives (.kppRead t ep m) s fun u =>
      u.out = [.kpp ep (kppBytes opRead m.seq m.handle 0 1 s.part.device
        (ValueItem.bytes { key := i.key, type := r.type.code, offset := i.offset
                           value := fit n 0 ((s.atTime t).readValue i.key r.access).1 }))]) ∧
  (∀ (s : State) (t n : Nat) (ep : Endpoint) (m : KppMsg) (i : ReadItem) (r : ObjRow) (v : List Byte),
    s.Takes ep opReadStaged m → requestOf ep opReadStaged m = some (.read true [i]) → s.txn.holds m.handle = true →
    objRow i.key = some r → absentUnit s.part.variant i.key = false → r.access = .rwt → r.type.size = some n → n ≤ 1450 →
    mget s.txn.staged i.key = some v →
    Gives (.kppReadStaged t ep m) s fun u => OnlyChanges [.kpp, .txn] s u ∧
      u.txn = { s.txn with deadline := max s.now t + 5000000000 } ∧
      u.out = [.kpp ep (kppBytes opReadStaged m.seq m.handle 0 1 s.part.device
        (ValueItem.bytes { key := i.key, type := r.type.code, offset := i.offset, value := fit n 0 v }))])

/-- WRITE of one item (02 R43, R50; 00 R8): an RWP register takes the value at once; an RWT object with the open
handle stages it and leaves the plan alone; without the handle it is refused, counted, and answered all the same. -/
def Obligations.WritesTakeEffectStageOrAreRefused : Prop :=
  ∀ (s : State) (t : Nat) (ep : Endpoint) (m : KppMsg) (v : ValueItem) (r : ObjRow),
    s.Takes ep opWrite m → requestOf ep opWrite m = some (.write [v]) → objRow v.key = some r →
    absentUnit s.part.variant v.key = false →
    let answer := [Output.kpp ep (kppBytes opWrite m.seq m.handle 0 0 s.part.device [])]
    (r.access = .rwp → PlainKey v.key → s.txn.holds m.handle = false →
      Gives (.kppWrite t ep m) s fun u => OnlyChanges [.kpp, .rwp, .spring] s u ∧ u.out = answer ∧
        u.reg v.key = r.merged (s.reg v.key) v ∧ ∀ k, k ≠ v.key → u.reg k = s.reg k) ∧
    (r.access = .rwt → s.txn.holds m.handle = true → s.stageFits [v] = true →
      Gives (.kppWrite t ep m) s fun u => OnlyChanges [.kpp, .txn] s u ∧ u.out = answer ∧
        mget u.txn.staged v.key = some (r.merged ((mget s.txn.staged v.key).getD (valueIn s.plan v.key)) v) ∧
        u.txn.state = .opened ∧ u.txn.deadline = max s.now t + 5000000000) ∧
    (r.access = .rwt → s.txn.holds m.handle = false →
      Gives (.kppWrite t ep m) s fun u => OnlyChanges [.kpp] s u ∧ u.out = answer ∧
        u.kpp.txnAccess = sat32 s.kpp.txnAccess) ∧
    ((r.access = .ro ∨ r.access = .rc) → s.txn.holds m.handle = false →
      Gives (.kppWrite t ep m) s fun u => OnlyChanges [.kpp] s u ∧ u.out = answer ∧
        u.kpp.accessCode = sat32 s.kpp.accessCode)

/-- BEGIN, COMMIT and ROLLBACK (02 R49, R53 to R55): BEGIN opens with a new handle and the 5,000 ms idle time; a
COMMIT of the open handle starts its validation and is not answered yet; ROLLBACK closes and discards. -/
def Obligations.TransactionsOpenValidateAndClose : Prop :=
  (∀ (s : State) (t : Nat) (ep : Endpoint) (m : KppMsg) (choice : BitVec 16),
    s.Takes ep opBegin m → requestOf ep opBegin m = some .begin_ → s.txn.state = .idle →
    Gives (.kppBegin t ep m choice) s fun u => OnlyChanges [.kpp, .txn] s u ∧ u.txn.state = .opened ∧
      u.txn.handle ≠ 0 ∧ u.txn.handle ≠ s.txn.handle ∧ u.txn.staged = [] ∧
      u.txn.deadline = max s.now t + 5000000000 ∧
      u.out = [.kpp ep (kppBytes opBegin m.seq u.txn.handle 0 0 s.part.device [])]) ∧
  (∀ (s : State) (t : Nat) (ep : Endpoint) (m : KppMsg),
    s.Takes ep opCommit m → requestOf ep opCommit m = some .commit → s.txn.holds m.handle = true →
    s.txn.pending.length < 2 →
    Gives (.kppCommit t ep m) s fun u => OnlyChanges [.txn] s u ∧ u.txn.state = .validating ∧
      u.txn.validating = some (ep, KppMsg.bytes m opCommit) ∧ u.txn.staged = s.txn.staged ∧ u.out = []) ∧
  (∀ (s : State) (t : Nat) (ep : Endpoint) (m : KppMsg),
    s.Takes ep opRollback m → requestOf ep opRollback m = some .rollback → s.txn.holds m.handle = true →
    Gives (.kppRollback t ep m) s fun u => OnlyChanges [.kpp, .txn] s u ∧ u.txn.state = .idle ∧ u.txn.staged = [] ∧
      u.out = [.kpp ep (kppBytes opRollback m.seq m.handle 0 0 s.part.device [])]) ∧
  (∀ (s : State) (t : Nat), s.mainOn = true → s.unitActs = true → s.txn.state = .opened → s.txn.deadline ≤ max s.now t →
    Gives (.transactionExpiry t) s fun u => OnlyChanges [.txn] s u ∧ u.txn.state = .idle ∧ u.txn.staged = [] ∧
      u.txn.lastLost = some s.txn.handle ∧ u.txn.expiries = sat32 s.txn.expiries)

/-- COMMIT_VALIDATION_COMPLETE with a plan in force and no request waiting (02 R55 to R58): a rejection leaves the
transaction open with its staged values and records reason and object; an acceptance queues the staged values over the
newest plan, under the next epoch, and closes the transaction. -/
def Obligations.ValidationAnswersTheCommit : Prop :=
  ∀ (s : State) (t : Nat) (a : BitVec 32) (p : BitVec 16) (req : List Byte), s.mainOn = true → s.unitActs = true →
    s.txn.state = .validating → s.txn.validating = some (.udp a p, req) → s.kpp.waiting = [] → s.pipe.plan.isSome = true →
    let m := (KppMsg.ofBytes req).2
    (∀ reason key, validate (s.atTime t) s.commitBase s.txn.staged = some (reason, key) →
      Gives (.commitValidationComplete t) s fun u => OnlyChanges [.kpp, .txn] s u ∧ u.txn.state = .opened ∧
        u.txn.staged = s.txn.staged ∧ u.txn.lastReason = BitVec.ofNat 8 reason ∧ u.txn.lastObject = key ∧
        u.txn.rejects = sat32 s.txn.rejects ∧
        u.out = [.kpp (.udp a p) (kppBytes 0x11 m.seq m.handle 3 0 s.part.device (rejectBytes reason key))]) ∧
    (validate (s.atTime t) s.commitBase s.txn.staged = none →
      Gives (.commitValidationComplete t) s fun u => OnlyChanges [.kpp, .txn, .bsc] s u ∧ u.txn.state = .idle ∧
        u.txn.staged = [] ∧ u.txn.commits = sat32 s.txn.commits ∧
        ∃ c : Commit, u.txn.pending = s.txn.pending ++ [c] ∧ c.plan = layOver s.commitBase s.txn.staged ∧
          c.epoch = (s.txn.newest.map Commit.epoch).getD s.txn.epoch + 1 ∧ u.out = [.kpp (.udp a p) c.resp])

/-- SUBSCRIBE makes its endpoint a destination and UNSUBSCRIBE removes it; no step leaves more than two destinations,
a third replaces the older one, and a checkpoint holds them (02 R60). EVENT_SEND sends up to 16 of the waiting records
to the destination (02 R61). -/
def Obligations.EventDestinations : Prop :=
  (∀ s u : State, DestinationsBounded s → step s = .next u → DestinationsBounded u) ∧
  (∀ (s : State) (f : Word), (s.checkpoint f).dests = s.kpp.dests) ∧
  (∀ (s : State) (t : Nat) (ep : Endpoint) (m : KppMsg),
    s.Takes ep opSubscribe m → requestOf ep opSubscribe m = some (.subscribe true) → s.txn.holds m.handle = false →
    s.kpp.dests.length ≤ 2 →
    Gives (.kppSubscribe t ep m) s fun u => OnlyChanges [.kpp] s u ∧ ep ∈ u.kpp.dests ∧ u.kpp.dests.length ≤ 2 ∧
      (s.kpp.dests.contains ep = false → s.kpp.dests.length = 2 → u.kpp.dests = s.kpp.dests.drop 1 ++ [ep]) ∧
      u.out = [.kpp ep (kppBytes opSubscribe m.seq m.handle 0 0 s.part.device [])]) ∧
  (∀ (s : State) (t : Nat) (ep : Endpoint) (m : KppMsg),
    s.Takes ep opUnsubscribe m → requestOf ep opUnsubscribe m = some (.subscribe false) → s.txn.holds m.handle = false →
    Gives (.kppUnsubscribe t ep m) s fun u => OnlyChanges [.kpp] s u ∧ ep ∉ u.kpp.dests ∧
      (∀ d, d ≠ ep → (d ∈ u.kpp.dests ↔ d ∈ s.kpp.dests)) ∧
      u.out = [.kpp ep (kppBytes opUnsubscribe m.seq m.handle 0 0 s.part.device [])]) ∧
  (∀ (s : State) (t : Nat) (a : BitVec 32) (p : BitVec 16), s.mainOn = true → s.unitActs = true → s.kpp.txq ≠ [] →
    s.kpp.dests = [.udp a p] →
    Gives (.eventSend t) s fun u => OnlyChanges [.kpp] s u ∧ u.kpp.txq = s.kpp.txq.drop 16 ∧
      u.out = [.kpp (.udp a p) (kppBytes opEvent 0 0 0 (s.kpp.txq.take 16).length s.part.device
        ((s.kpp.txq.take 16).flatMap EventRec.bytes))])

/-- A record written into the slot not in force is in force when it reads back; when it does not, the record before it
stays in force (02 R62, 21 R464). The commands of the stores: each starts where none is in progress, and
STORE_COMPLETE or MRAM_RECORD_WRITE ends it. -/
def Obligations.StoresStartAndComplete : Prop :=
  (∀ (x : Slots ObjMap) (b : ObjMap),
     (x.write b true).body = some b ∧ (x.write b true).seq = x.seq + 1 ∧
     (x.write b false).body = x.body ∧ (x.inForce.isSome = true → (x.write b false).seq = x.seq)) ∧
  ((∀ (s : State) (t : Nat), s.mainOn = true → s.unitActs = true → s.mram.job = none →
     Gives (.storeParameters t 0x5354) s (fun u => OnlyChanges [.mram] s u ∧
       u.mram = { s.mram with job := some (.params s.rwpValues), status := 1 }) ∧
     Gives (.restoreDefaults t 0x4446) s (fun u => OnlyChanges [.mram] s u ∧
       u.mram = { s.mram with job := some .empty, status := 1 }) ∧
     (∀ p, s.pipe.plan = some p → Gives (.storePlan t 0x504C) s fun u => OnlyChanges [.mram] s u ∧
       u.mram = { s.mram with job := some (.plan p), status := 1 })) ∧
   (∀ (s : State) (t : Nat) (b : ObjMap) (ok : Bool), s.mainOn = true → s.unitActs = true → s.mram.job = some (.params b) →
     Gives (.storeComplete t ok) s (fun u => OnlyChanges [.mram] s u ∧ u.mram.job = none ∧
       u.mram.status = (if ok then 2 else 3) ∧ u.mram.params = s.mram.params.write b ok) ∧
     Gives (.mramRecordWrite t 6 ok) s (fun u => OnlyChanges [.mram] s u ∧ u.mram.job = none ∧
       u.mram.status = (if ok then 2 else 3) ∧ u.mram.params = s.mram.params.write b ok)) ∧
   (∀ (s : State) (t : Nat) (p : Plan) (ok : Bool), s.mainOn = true → s.unitActs = true → s.mram.job = some (.plan p) →
     Gives (.storeComplete t ok) s (fun u => OnlyChanges [.mram] s u ∧ u.mram.job = none ∧
       u.mram.plan = s.mram.plan.write p ok)) ∧
   (∀ (s : State) (t : Nat) (ok : Bool), s.mainOn = true → s.mcx.ready = true → s.mram.remap.body.getD [] ≠ s.remapDone →
     Gives (.remapTableStore t ok) s (fun u => OnlyChanges [.mram] s u ∧
       u.mram.remap = s.mram.remap.write s.remapDone ok ∧ u.mram.writes = sat32 s.mram.writes)))

/-! ### Frames, columns and slots (01, 02 R58, 03, 08 R195, 10 R251) -/

/-- COLUMN_START and SHOT_SLOT_START (01 R18, R22, R24): the column armed for the next visit of the frame becomes the
one in progress and its successor's prefetch is issued; one that was not armed runs late and without prediction; each
slot starts its slot time after the one before, lit as its steering says, with its own dither. POOL_SWAP (08 R195):
256 ns after the last slot of a column its buffers go to the extraction; the HAC starts empty where the column was the
one in progress, and a column that was overtaken before its swap goes first. -/
def Obligations.ColumnsAndSlotsStart : Prop :=
  ((∀ (s : State) (t k : Nat) (p : Plan), s.mainOn = true → s.pipe.plan = some p → s.pipe.started = true →
     s.pipe.blank = false → s.pipe.inTurn = false → k = (if s.pipe.inColumn then s.pipe.visit + 1 else 0) → k < p.columns →
     s.pipe.frameStart + p.columnStart k ≤ max s.now t →
     let runs := fun (u : State) (late predict : Bool) => OnlyChanges [.pipe, .edu, .rfe, .hac, .prx, .mcx] s u ∧
       u.pipe.visit = k ∧ u.pipe.inColumn = true ∧ u.pipe.slot = 0 ∧ u.pipe.inSlot = false ∧ u.pipe.armed = none ∧
       u.pipe.prefetch = (if k + 1 < p.columns then some (s.pipe.frame.toNat, k + 1) else none) ∧
       ∃ c, u.pipe.cur = some c ∧ c.visit = k ∧ c.plan = p ∧ c.frame = s.pipe.frame ∧ c.late = late ∧
         c.predict = predict
     (∀ c, s.pipe.armed = some c → c.visit = k → c.frame = s.pipe.frame → c.plan = p →
       Gives (.columnStart t) s fun u => runs u c.late c.predict) ∧
     ((∀ c, s.pipe.armed = some c → c.visit ≠ k ∨ c.frame ≠ s.pipe.frame ∨ c.plan ≠ p) →
       Gives (.columnStart t) s fun u => runs u true false)) ∧
   (∀ (s : State) (t j : Nat) (c : ColCtx) (cal : TdcCal), s.mainOn = true → s.pipe.cur = some c → s.pipe.inTurn = false →
     j = (if s.pipe.inSlot then s.pipe.slot + 1 else 0) → j < c.plan.shots →
     s.pipe.frameStart + c.start + j * c.plan.slot ≤ max s.now t →
     Gives (.shotSlotStart t cal) s fun u => OnlyChanges [.pipe, .edu, .rfe, .tda, .emg, .kpp, .evr] s u ∧
       u.pipe.slot = j ∧ u.pipe.inSlot = true ∧ u.pipe.slotStart = s.pipe.frameStart + c.start + j * c.plan.slot ∧
       u.pipe.dither = c.dithers.getD j 0 ∧
       u.pipe.lit = (c.plan.slotLit j && !(c.probe && c.plan.silentSlot j)) ∧
       ∀ r ∈ u.tda.refs, r.tref = none ∧ r.last = none ∧ r.closed = false)) ∧
  (∀ (s : State) (t : Nat) (c : ColCtx), s.mainOn = true → c.sk + c.plan.shots * c.plan.slot + 256 ≤ max s.now t →
     (s.pipe.tail = none → s.pipe.cur = some c →
       Gives (.poolSwap t) s fun u => OnlyChanges [.pipe, .hac, .prx, .kpp, .ntu, .evr] s u ∧
         (c.probe = false → u.ntu = (s.atTime t).ntu) ∧
         u.pipe = { s.pipe with ext := some c, cur := none, inSlot := false } ∧ u.hac.ext = s.hac.acc ∧ u.hac.acc = [] ∧
         u.hac.parked = [] ∧ u.hac.held = [] ∧ u.hac.placedAt = none ∧ u.prx.done = [] ∧ u.prx.cells = []) ∧
     (s.pipe.tail = some c → Gives (.poolSwap t) s fun u => OnlyChanges [.pipe, .hac, .prx, .kpp, .ntu, .evr] s u ∧
       u.pipe = { s.pipe with ext := some c, tail := none } ∧ u.hac.ext = s.hac.tail ∧ u.hac.tail = [] ∧
       u.hac.acc = s.hac.acc))

/-- PREFETCH_COMPLETE and PREFETCH_LATE of a visit after the first (01 R24): complete by S_k − 2,000 ns the column is
armed in time, later or not at all it is armed late and runs without prediction. -/
def Obligations.PrefetchesArmColumns : Prop :=
  ∀ (s : State) (t f k : Nat) (p : Plan), s.mainOn = true → s.pipe.plan = some p → s.pipe.prefetch = some (f, k) → k ≠ 0 →
    let start := s.pipe.frameStart + p.columnStart k
    let arms := fun (u : State) (late : Bool) => u.pipe.prefetch = none ∧ ∃ c, u.pipe.armed = some c ∧ c.visit = k ∧
      c.plan = p ∧ c.frame = s.pipe.frame ∧ c.column = p.columnAt s.pipe.frame.toNat k ∧ c.late = late ∧
      c.predict = (s.pipe.predict && !late) ∧ c.cells.length = min p.rows 512
    (max s.now t + 2000 ≤ start → Gives (.prefetchComplete t) s fun u =>
      OnlyChanges [.pipe, .edu, .rfe, .mcx, .kpp, .evr] s u ∧ arms u false) ∧
    (start < max s.now t + 2000 → Gives (.prefetchComplete t) s fun u =>
      OnlyChanges [.pipe, .edu, .rfe, .mcx, .kpp, .evr] s u ∧ arms u true) ∧
    (start ≤ max s.now t + 2000 → Gives (.prefetchLate t) s fun u => OnlyChanges [.pipe, .edu, .rfe] s u ∧ arms u true)

/-- TURNAROUND_START, TARN_BUFFER_SWAP and COMMIT_CUTOFF (01 R30 to R32; 10 R251): the turnaround begins at the end of
the active time; 100 µs into it the buffers of the set change over, where the frame ran shots and the PRX, and the
first prefetch is issued; 1.9 ms into it the plan of the next frame is fixed. -/
def Obligations.TheTurnaroundRunsInOrder : Prop :=
  (∀ (s : State) (t : Nat), s.mainOn = true → s.pipe.started = true → s.pipe.inTurn = false →
    s.pipe.frameStart + s.pipe.timing.active ≤ max s.now t →
    Gives (.turnaroundStart t) s fun u => OnlyChanges [.pipe, .bsc, .ntu, .kpp, .evr] s u ∧ u.pipe = { s.pipe with
      inTurn := true, turnStart := s.pipe.frameStart + s.pipe.timing.active, turnCorr := u.pipe.turnCorr
      swapDone := false, diagDone := false, cutoffDone := false }) ∧
  (∀ (s : State) (t : Nat) (p : Plan), s.mainOn = true → s.pipe.plan = some p → s.pipe.inTurn = true →
    s.pipe.swapDone = false → s.pipe.turnStart + 100000 ≤ max s.now t →
    Gives (.tarnBufferSwap t) s fun u => OnlyChanges [.pipe, .mcx] s u ∧
      u.pipe = { s.pipe with swapDone := true, prefetch := some (s.pipe.frame.toNat + 1, 0) } ∧ u.mcx.data = s.mcx.data ∧
      ∀ set, u.mcx.holding.testBit set =
        (s.mcx.holding.testBit set ^^ (!s.pipe.blank && p.runsPrx && set == p.setOf s.pipe.frame.toNat))) ∧
  (∀ (s : State) (t : Nat) (p : Plan), s.mainOn = true → s.pipe.plan = some p → s.pipe.inTurn = true →
    s.pipe.cutoffDone = false → s.pipe.turnStart + 1900000 ≤ max s.now t → (s.nextFrame p).gridChanged = false →
    s.pipe.prefetch.isSome = true →
    Gives (.commitCutoff t) s fun u => OnlyChanges [.pipe, .rfe, .kpp, .evr] s u ∧
      u.pipe = { s.pipe with cutoffDone := true })

/-- FRAME_BOUNDARY (01 R30; 02 R58): at the boundary the next frame starts; the commit accepted for it comes into
force with its plan and epoch and leaves the queue; without one the plan and the epoch stay. STARTUP_PLAN_VALIDATION
(03 R76): a stored plan that is valid comes into force with epoch 0 and status 1; without a stored plan the defaults
do, where they are valid, and an invalid stored plan leaves its reason beside them. -/
def Obligations.PlansTakeEffectAtTheirFrame : Prop :=
  (∀ (s : State) (t at_ : Nat) (p : Plan), s.mainOn = true → s.pipe.plan = some p → s.pipe.boundaryAt = some at_ →
     at_ ≤ max s.now t →
     let number := if s.pipe.started then s.pipe.frame + 1 else 0
     let starts := fun (u : State) => u.pipe.started = true ∧ u.pipe.running = true ∧ u.pipe.frame = number ∧
       u.pipe.frameStart = at_ ∧ u.pipe.inTurn = false ∧ u.pipe.inColumn = false
     (s.txn.pending = [] → Gives (.frameBoundary t) s fun u => starts u ∧ u.pipe.plan = some p ∧
       u.txn.epoch = s.txn.epoch) ∧
     (∀ c rest, s.txn.pending = c :: rest → c.firstFrame = number → Gives (.frameBoundary t) s fun u => starts u ∧
       u.pipe.plan = some c.plan ∧ u.txn.epoch = c.epoch ∧ u.txn.pending = rest ∧ u.txn.inForce = some c) ∧
     (∀ c rest, s.txn.pending = c :: rest → c.firstFrame ≠ number → Gives (.frameBoundary t) s fun u => starts u ∧
       u.pipe.plan = some p ∧ u.txn.pending = s.txn.pending)) ∧
  (∀ (s : State) (t : Nat), s.mainOn = true → s.pipe.plan = none → s.pipe.startupStatus = 0 → s.unitActs = true →
     s.cal.bootRan = true →
     (∀ p, s.mram.plan.body = some p → validate (s.atTime t) p [] = none →
       Gives (.startupPlanValidation t) s fun u => u.pipe.plan = some p ∧ u.txn.epoch = 0 ∧ u.pipe.startupStatus = 1 ∧
         u.pipe.startupReason = 0 ∧ u.pipe.started = s.pipe.started) ∧
     (∀ p r, s.mram.plan.body = some p → validate (s.atTime t) p [] = some r → validate (s.atTime t) [] [] = none →
       Gives (.startupPlanValidation t) s fun u => u.pipe.plan = some [] ∧ u.txn.epoch = 0 ∧ u.pipe.startupStatus = 3 ∧
         u.pipe.startupReason = BitVec.ofNat 8 r.1) ∧
     (s.mram.plan.body = none → validate (s.atTime t) [] [] = none →
       Gives (.startupPlanValidation t) s fun u => u.pipe.plan = some [] ∧ u.txn.epoch = 0 ∧
         u.pipe.startupStatus = if s.mram.plan.empty then 0 else 2))

/-! ### Emitter ports and the Emission Guard (04, 13) -/

/-- Every step keeps EMIT_EN high exactly in Armed, so low in Tripped and in Testing, and low while the main domain is
in reset (13 R321). -/
def Obligations.EmissionIsEnabledExactlyWhenArmed : Prop :=
  ∀ s u : State, EmissionSafe s → step s = .next u → EmissionSafe u

/-- The trips of the commands (13 R317, R331): an armed guard with EMIT_EN high, not re-armed in this very cycle, goes to
Tripped with cause 8 on a clock failure, 9 on an edge of a gated output, 7 on a ledger fault, 11 on EmissionStop; the
clock's recovery ends its condition and nothing else. A re-arm accepted in the cycle of a trip source is refused after
all: the guard is Tripped and the edge counts as ignored. -/
def Obligations.TripsEndEmission : Prop :=
  (∀ (s : State) (t port n : Nat), s.mainOn = true → s.emg.state = .armed → s.emg.emitEn = true →
    (∀ m, s.emg.rearmed ≠ some (max s.now t, m)) →
    (s.emg.sourceActive 8 = false → Gives (.clockMonitorFail t) s (TripsArmed 8 t s s.emg)) ∧
    (s.emg.gated.contains port = true → Gives (.gateReadbackEdge t port) s (TripsArmed 9 t s s.emg)) ∧
    (s.unitActs = true → Gives (.emissionStop t 0x4553) s (TripsArmed 11 t s s.emg)) ∧
    (let g : Emg := { s.emg with ledgerCorrected := sat32 s.emg.ledgerCorrected n };
      Gives (.ledgerSweep t n true false) s (TripsArmed 7 t s g) ∧ Gives (.ledgerSweep t n false true) s (TripsArmed 7 t s g) ∧
      Gives (.ledgerSweep t n false false) s fun u => OnlyChanges [.emg, .kpp, .evr] s u ∧ u.emg = g)) ∧
  (∀ (s : State) (t : Nat) (m : Word), s.mainOn = true → s.unitActs = true → s.emg.state = .armed →
    s.emg.rearmed = some (max s.now t, m) → Gives (.emissionStop t 0x4553) s fun u => OnlyChanges [.emg, .kpp, .evr] s u ∧
      u.emg.state = .tripped ∧ u.emg.emitEn = false ∧ u.emg.accepted = m ∧ u.emg.ignored = sat32 s.emg.ignored) ∧
  (∀ (s : State) (t : Nat), s.mainOn = true → s.emg.sourceActive 8 = true →
    Gives (.clockMonitorRecovery t) s fun u => OnlyChanges [.emg] s u ∧
      u.emg = { s.emg with sources := s.emg.sources - 2 ^ 8 })

/-- EMIT_EN_FB (13 R322): its level is taken, with the main domain in reset too; source 5 is active from a level high
more than 20 µs after EMIT_EN fell until the level falls; a level that stayed low for 1,000 µs after EMIT_EN rose is
reported once and trips nothing. TEST_PULSE_START, TEST_DUE_TIMER, TEST_PULSE_CHECK and TEST_PULSE_END (13 R323): the
test lowers EMIT_EN 500 µs into a turnaround, or at once where no frames run; a level low within 20 µs passes it, one
still high then is a failure that trips with cause 5; 50 µs after its fall EMIT_EN rises again. -/
def Obligations.FeedbackAndTestPulses : Prop :=
  (∀ (s : State) (t : Nat) (level : Bool), s.mainOn = false → Gives (.emitEnFbChange t level) s fun u =>
     OnlyChanges [.emg] s u ∧ u.emg = { s.emg with fb := level }) ∧
  (∀ (s : State) (t : Nat), s.mainOn = true →
     let rises := { s.emg with
       sources := s.emg.sources ||| 2 ^ 5
       history := addTrip s.emg.history { time := (s.atTime t).localTime, cause := 5, frame := s.frameNow } }
     (s.emg.state ≠ .testing → Gives (.emitEnFbChange t false) s fun u => OnlyChanges [.emg, .kpp, .evr] s u ∧
       u.emg = { s.emg with
         fb := false, sources := if s.emg.sourceActive 5 then s.emg.sources - 2 ^ 5 else s.emg.sources }) ∧
     (s.emg.state = .testing → s.emg.checked = false → s.emg.sourceActive 5 = false → max s.now t ≤ s.emg.fellAt + 20000 →
       Gives (.emitEnFbChange t false) s fun u => OnlyChanges [.emg, .kpp, .evr] s u ∧
         u.emg = { s.emg with fb := false, checked := true, passed := sat32 s.emg.passed }) ∧
     (s.emg.emitEn = true → Gives (.emitEnFbChange t true) s fun u => OnlyChanges [.emg, .kpp, .evr] s u ∧
       u.emg = { s.emg with fb := true, onSeen := true }) ∧
     (s.emg.emitEn = false → max s.now t ≤ s.emg.fellAt + 20000 → Gives (.emitEnFbChange t true) s fun u =>
       OnlyChanges [.emg, .kpp, .evr] s u ∧ u.emg = { s.emg with fb := true }) ∧
     (s.emg.emitEn = false → s.emg.state = .tripped → s.emg.sourceActive 5 = false → s.emg.fellAt + 20000 < max s.now t →
       (Gives (.emitEnFbChange t true) s fun u => OnlyChanges [.emg, .kpp, .evr] s u ∧ u.emg = { rises with fb := true }) ∧
       (s.emg.fb = true → Gives (.feedbackStuck t) s fun u => OnlyChanges [.emg, .kpp, .evr] s u ∧ u.emg = rises)) ∧
     (s.emg.emitEn = true → s.emg.fb = false → s.emg.onSeen = false → s.emg.notOnRaised = false →
       s.emg.roseAt + 1000000 ≤ max s.now t →
       Gives (.supplyNotOn t) s fun u => OnlyChanges [.emg, .kpp, .evr] s u ∧
         u.emg = { s.emg with notOnRaised := true })) ∧
  (∀ (s : State) (t : Nat), s.mainOn = true →
     (s.emg.state = .armed → s.emg.emitEn = true →
       let test := fun (at_ : Nat) => { s.emg with
         state := .testing, emitEn := false, fellAt := at_, checked := false, testFrom := at_ }
       (let at_ := s.pipe.turnStart + 500000
        s.pipe.inTurn = true → s.emg.testFrom + 1000000000 ≤ at_ → at_ ≤ max s.now t → max s.now t < at_ + 50000 →
          Gives (.testPulseStart t) s fun u => OnlyChanges [.emg] s u ∧ u.emg = test at_) ∧
       (s.pipe.running = false → s.emg.testFrom + 1000000000 ≤ max s.now t →
         Gives (.testDueTimer t) s fun u => OnlyChanges [.emg] s u ∧ u.emg = test (max s.now t))) ∧
     (s.emg.state = .testing → s.emg.checked = false →
       (s.emg.fb = false → Gives (.testPulseCheck t) s fun u => OnlyChanges [.emg, .kpp, .evr] s u ∧
         u.emg = { s.emg with checked := true, passed := sat32 s.emg.passed }) ∧
       (s.emg.fb = true → s.emg.fellAt + 20000 ≤ max s.now t →
         Gives (.testPulseCheck t) s fun u => OnlyChanges [.emg, .kpp, .evr] s u ∧
         u.emg.state = .tripped ∧ u.emg.emitEn = false ∧ u.emg.failures = sat32 s.emg.failures ∧ u.emg.lastCause = 5 ∧
         u.emg.sources.testBit 5 = true ∧ u.emg.aborted = s.emg.aborted ∧ u.emg.passed = s.emg.passed)) ∧
     (s.emg.state = .testing → s.emg.checked = true ∨ s.emg.fb = false → s.emg.fellAt + 50000 ≤ max s.now t →
       Gives (.testPulseEnd t) s fun u => OnlyChanges [.emg, .kpp, .evr] s u ∧ u.emg = { s.emg with
         state := .armed, emitEn := true, roseAt := s.emg.fellAt + 50000, onSeen := s.emg.fb, notOnRaised := false
         checked := true, passed := if s.emg.checked then s.emg.passed else sat32 s.emg.passed }))

/-- REARM_PIN_EDGE and REARM_REQUEST (13 R325 to R328): an edge of the selected source arms a tripped guard with every
source inactive and the hold-off over, and raises EMIT_EN; with a source active, or in another state, it changes nothing
but the count. An edge of the pin takes the 10,016 samples of its debouncing after the one before. -/
def Obligations.RearmNeedsEverySourceInactive : Prop :=
  ∀ (s : State) (t : Nat) (v : Byte), s.mainOn = true → v ≠ 0 →
    let now := max s.now t
    let armed := { s.emg with state := .armed, emitEn := true, roseAt := now, onSeen := s.emg.fb, notOnRaised := false
                              testFrom := now, accepted := sat32 s.emg.accepted
                              rearmed := some (now, s.emg.accepted) }
    let ignored := { s.emg with ignored := sat32 s.emg.ignored }
    let pin := fun (P : Emg) => Gives (.rearmPinEdge t) s fun u => OnlyChanges [.emg, .kpp, .evr] s u ∧
      u.emg = { P with pinFrom := now + 10016000 }
    let request := fun (w : Byte) (P : Emg) => Gives (.rearmRequest t w) s fun u => OnlyChanges [.emg, .kpp, .evr] s u ∧ u.emg = P
    (s.emg.state = .tripped → s.emg.sourcesAt now = 0 → s.emg.releasedAt + s.emg.holdOff ≤ now →
      (s.emg.source = false → s.emg.pinFrom ≤ now → pin armed) ∧
      (s.emg.source = true → s.unitActs = true → s.emg.held = false → request v { armed with held := true })) ∧
    (s.emg.state ≠ .tripped ∨ s.emg.sourcesAt now ≠ 0 ∨ now - s.emg.releasedAt < s.emg.holdOff →
      (s.emg.source = false → s.emg.pinFrom ≤ now → pin ignored) ∧
      (s.emg.source = true → s.unitActs = true → s.emg.held = false → request v { ignored with held := true })) ∧
    (s.emg.source = true → s.emg.pinFrom ≤ now → pin s.emg) ∧
    (now < s.emg.pinFrom → Gives (.rearmPinEdge t) s fun u => OnlyChanges [.emg, .kpp, .evr] s u ∧ u.emg = s.emg) ∧
    (s.emg.source = false → s.unitActs = true → request v ignored) ∧
    (s.emg.source = true → s.unitActs = true → request 0 { s.emg with held := false })

/-- The ledger's window (13 R310, R312): a booking adds its energy to the bin's total and to the bucket of its fire
instant, while the window still holds that bucket, and the total stays the sum of the window's buckets, of which there
are at most 33, as buckets come and go. LEDGER_BOOKING and LEDGER_BUCKET_ADVANCE (13 R310, R312): every pulse that
waits is booked in each of its bins and in every window; the time base of a window reaches the bucket of the present
instant. -/
def Obligations.TheLedgerCountsEveryPulse : Prop :=
  (let sound := fun (w : LedgerWin) => rising w.total = true ∧ (∀ m ∈ w.buckets, rising m = true) ∧
     1 ≤ w.buckets.length ∧ w.buckets.length ≤ 33 ∧
     ∀ b, mcount w.total b = sumOf (w.buckets.map fun m => mcount m b)
   (∀ w, sound w → ∀ i b e, sound (w.book i b e) ∧ (33 ≤ i → w.book i b e = w) ∧
     (i < 33 → (w.book i b e).value b = min (mcount w.total b + e) 0xFFFFFFFF ∧
       mcount ((w.book i b e).buckets.getD i []) b = mcount (w.buckets.getD i []) b + e ∧
       ∀ b', b' ≠ b → (w.book i b e).value b' = w.value b')) ∧
   (∀ w k, sound w → sound (w.reach k) ∧ (w.reach k).bucket = max w.bucket k ∧
     (w.bucket + 33 ≤ k → ∀ b, (w.reach k).value b = 0))) ∧
  ((∀ (s : State) (t n : Nat) (bad : Bool), s.mainOn = true → s.emg.bookings ≠ [] →
     Gives (.ledgerBooking t n bad) s fun u => OnlyChanges [.emg, .kpp, .evr] s u ∧ u.emg.bookings = [] ∧
       u.emg.wins = mapIdx s.emg.wins (fun i w =>
         s.emg.bookings.foldl (fun w b => w.bookIn (s.emg.bucketAt i b.at_) b) w) ∧
       u.emg.ledgerCorrected = sat32 s.emg.ledgerCorrected n ∧ (bad = true → u.emg.state = .tripped)) ∧
   (∀ (s : State) (t i : Nat), s.mainOn = true →
     Gives (.ledgerBucketAdvance t i) s fun u => OnlyChanges [.emg] s u ∧ u.emg = { s.emg with
       wins := s.emg.wins.modify i fun w => w.reach ((max s.now t - s.emg.releasedAt) / bucketNs (s.emg.windows.getD i 20)) }))

/-- The ledger decision (13 R315): the pulses of ports not decided yet in the slot are gated where a bin and a window
have a limit that the energy of every pulse fired before and the pulse would reach together; a gated port counts each
of its pulses; a port the slot's decision has covered stays as decided. -/
def Obligations.TheGateHoldsTheLimits : Prop :=
  ∀ (s : State) (p : Plan) (c each at_ : Nat) (pulses : List (Nat × Nat)), s.emg.state = .armed →
    let u := s.decideGate p c pulses each at_
    let ledger := s.ledgerNow p
    u.emg.wins = s.emg.wins ∧ u.emg.state = .armed ∧ u.emg.decidedFor = some at_ ∧
    (s.emg.decidedFor ≠ some at_ →
      (∀ e, e ∈ u.emg.gated ↔ ∃ x ∈ pulses, x.1 = e ∧ ∃ b ∈ binsOf p e c, ∃ i, i < 3 ∧
        16 * aelLimit (valueIn p 0x580008) e i ≤ (ledger.wins.getD i {}).value b + x.2) ∧
      u.emg.gatedPulses = wrap64 s.emg.gatedPulses (each * u.emg.gated.length)) ∧
    (s.emg.decidedFor = some at_ → (∀ x ∈ pulses, x.1 ∈ s.emg.decided) →
      u.emg.gated = s.emg.gated ∧ u.emg.gatedPulses = s.emg.gatedPulses)

/-- FIRE_EDGE in a lit slot (04 R104, R105; 13 R312, R315, R319): with emission off no pulse leaves; in Armed with the
slot decided, every port that fires in the column and is not gated sends its pulse, or its pair under I2, at its active
code, and each is booked at its fire instant. -/
def Obligations.PulsesLeaveOnlyUngatedPorts : Prop :=
  ∀ (s : State) (t : Nat) (c : ColCtx) (senses : List Sense), s.mainOn = true → s.pipe.cur = some c →
    (s.atTime t).inShotSlot = true → s.pipe.lit = true → mget c.fired s.pipe.slot = none →
    s.pipe.slotStart + 16 + s.pipe.dither ≤ max s.now t →
    (s.emissionOn = false → Gives (.fireEdge t senses) s fun u =>
      OnlyChanges [.pipe, .edu, .rfe, .emg, .kpp, .evr] s u ∧ u.out = [] ∧ u.emg = s.emg ∧
      u.pipe = { s.pipe with cur := some { c with fired := mset c.fired s.pipe.slot [] } }) ∧
    (s.emissionOn = true → s.emg.decidedFor = some s.pipe.slotStart →
      let ports := (List.range 128).filter fun e => s.wouldFire c.plan c.column e && !s.emg.gated.contains e
      let code := fun e => (s.port e).active
      let skew := fun e => uAt (s.reg 0x300010) e 1
      let pair := c.plan.interference == 2
      let energy := fun e => e16 (s.reg 0x300012) e (code e) c.plan.pulseWidth
      Gives (.fireEdge t senses) s fun u => OnlyChanges [.pipe, .edu, .rfe, .emg, .kpp, .evr] s u ∧
        u.out = ports.flatMap (fun e => Output.fire e (code e) c.plan.pulseWidth (skew e) ::
          if pair then [.fire e (code e) c.plan.pulseWidth (skew e + 4 * c.plan.pairSpacing)] else []) ∧
        u.pipe = { s.pipe with cur := some { c with fired := mset c.fired s.pipe.slot ports } } ∧
        u.emg = { s.emg with bookings := (s.emg.bookings ++
          ports.map fun e => bookingOf c.plan (s.pipe.slotStart + 16 + s.pipe.dither + skew e / 64) e c.column
            (if pair then 2 * energy e else energy e)) })

/-- DIAGNOSTIC_SHOT (04 R112): 300 µs into the turnaround of a plan that asks for it, once; with EMIT_EN low it is
skipped and counted; in Armed with no limit in reach, every used port that is not masked after the latch fires at its
low code, 9 ns (72 × 0.125 ns) wide. PORT_CLEAR (04 R116): the clear of a port, or of every faulty one, waits for the
next latch. -/
def Obligations.DiagnosticShotsAndPortClears : Prop :=
  (∀ (s : State) (t : Nat) (p : Plan) (senses : List Sense), s.mainOn = true → s.pipe.plan = some p → s.pipe.inTurn = true →
    s.pipe.blank = false → s.pipe.diagDone = false → planN p 0x300003 = 1 → s.pipe.turnStart + 300000 ≤ max s.now t →
    (s.emg.emitEn = false → Gives (.diagnosticShot t senses) s fun u => OnlyChanges [.pipe, .edu] s u ∧
      u.pipe = { s.pipe with diagDone := true } ∧ u.out = [] ∧
      u.edu = { s.edu with diagSkipped := sat32 s.edu.diagSkipped }) ∧
    (s.emg.emitEn = true → s.emg.state = .armed → s.emg.decidedFor ≠ some (s.pipe.turnStart + 300000) →
      let energy := fun e => e16 (s.reg 0x300012) e (lowCode (p.maxCode e)) 72
      (∀ e, e < 128 → gateCause ((s.atTime t).ledgerNow p) (valueIn p 0x580008) e (binsOf p e s.pipe.lastColumn) (energy e) =
        none) →
      let ports := (List.range 128).filter fun e => (s.port e).used && !((s.port e).latch p).masked
      Gives (.diagnosticShot t senses) s fun u => OnlyChanges [.pipe, .edu, .emg, .kpp, .evr] s u ∧
        u.pipe = { s.pipe with diagDone := true } ∧ u.edu.diagFired = sat32 s.edu.diagFired (bNat (!ports.isEmpty)) ∧
        u.out = ports.map fun e => .fire e (lowCode (p.maxCode e)) 72 (uAt (s.reg 0x300010) e 1))) ∧
  (∀ (s : State) (t : Nat) (v : Word), s.mainOn = true → s.unitActs = true →
    (v.toNat < 128 → (s.port v.toNat).maskPending = false →
      Gives (.portClear t v) s fun u => OnlyChanges [.edu] s u ∧
        u.edu = { s.edu with ports := s.edu.ports.set v.toNat { s.port v.toNat with clearPending := true } }) ∧
    (v = 0xFF → Gives (.portClear t v) s fun u => OnlyChanges [.edu] s u ∧
      u.edu = { s.edu with ports := s.edu.ports.map fun x =>
        if (x.status = psOpen ∨ x.status = psShort) ∧ x.maskPending = false then { x with clearPending := true } else x }) ∧
    (128 ≤ v.toNat → v ≠ 0xFF → Gives (.portClear t v) s fun u => OnlyChanges [] s u))

/-! ### Beam steering (05) -/

/-- BSC_PERIOD_START, BSC_BURST_COMPLETE, BSC_PRODUCT_COMPLETE and BSC_RESTART (05 R122 to R129, R144): a period in
which every product was ready drives each axis with it; a burst gives the measured angle of its axis; a product gives
the next states of its axis, saturated, and one whose coefficients could not be corrected is not taken; the restart
leaves Parked and ends source 2. -/
def Obligations.TheMirrorLoop : Prop :=
  (∀ (s : State) (t : Nat), s.mainOn = true → s.bsc.axes = 1 ∨ s.bsc.axes = 2 → s.bsc.state = .tracking →
    s.bsc.motion = none → s.bsc.due = none → s.bsc.loopOn = true → s.bsc.running = true →
    s.bsc.periodStart + 10000 ≤ max s.now t →
    (∀ i, i < s.bsc.axes → (s.axis i).productDone = true) →
    Gives (.bscPeriodStart t) s fun u => OnlyChanges [.bsc, .kpp, .evr] s u ∧ u.bsc.state = .tracking ∧
      u.bsc.periodStart = s.bsc.periodStart + 10000 ∧ u.bsc.running = true ∧ u.bsc.misses = s.bsc.misses ∧
      ∀ i, i < s.bsc.axes → (u.axis i).u = (s.axis i).uNext ∧ (u.axis i).productDone = false ∧
        (u.axis i).burstDone = false ∧ (u.axis i).missRun = 0) ∧
  (∀ (s : State) (t axis : Nat) (burst : Burst), s.mainOn = true → axis < 2 → axis < s.bsc.axes →
    (s.axis axis).burstDone = false → s.bsc.running = true → s.mon.settled = true →
    max s.bsc.periodStart s.mon.settledAt + 1600 ≤ max s.now t → max s.now t ≤ s.bsc.periodStart + 10000 →
    Gives (.bscBurstComplete t axis burst) s fun u => OnlyChanges [.bsc, .mon] s u ∧ u.axis (1 - axis) = s.axis (1 - axis) ∧
      u.axis axis = { s.axis axis with
        burstDone := true
        y := burstAngle (s.regI (0x340012 + 16 * axis)) (s.regI (0x340013 + 16 * axis)) burst }) ∧
  (∀ (s : State) (t axis n : Nat), s.mainOn = true → axis < 2 → axis < s.bsc.axes → s.bsc.loopOn = true →
    s.bsc.loops = true → (s.axis axis).burstDone = true → (s.axis axis).tried = false →
    (axis = 1 → (s.axis 0).tried = true) → max s.now t ≤ s.bsc.periodStart + 10000 →
    (Gives (.bscProductComplete t axis n true) s fun u => OnlyChanges [.bsc] s u ∧
      u.bsc.corrected = sat32 s.bsc.corrected n ∧ u.axis axis = { s.axis axis with tried := true } ∧
      u.axis (1 - axis) = s.axis (1 - axis)) ∧
    ((s.axis axis).innovRun < 9 → (s.axis axis).ys.length < 19 → Gives (.bscProductComplete t axis n false) s fun u =>
      OnlyChanges [.bsc] s u ∧ (u.axis axis).productDone = true ∧ (u.axis axis).u = (s.axis axis).u ∧
        (u.axis axis).states = (List.range 8).map (fun r => satI32 (productRow (s.axis axis).coeffs (s.axis axis).count
          ((s.axis axis).states ++ [(s.axis axis).y, (s.axis axis).ref, (s.axis axis).u]) r)))) ∧
  (∀ (s : State) (t : Nat) (p : Plan), s.mainOn = true → s.unitActs = true → s.pipe.plan = some p →
    s.bsc.state = .parked → s.bsc.axes = 1 ∨ s.bsc.axes = 2 → s.emg.sourceActive 2 = true →
    Gives (.bscRestart t 0x5253) s fun u => OnlyChanges [.bsc, .emg] s u ∧ u.bsc.state = .softStart ∧
      u.bsc.loopOn = false ∧ u.bsc.motion.isSome = true ∧ u.emg = { s.emg with sources := s.emg.sources - 2 ^ 2 })

/-! ### Receive front end, time digitizers and histograms (06 to 08) -/

/-- SATURATION_ASSERT, SATURATION_RELEASE, MARK_END, STUCK_SLOT and THRESHOLD_OFFSET_CLEAR (06 R151, R157 to R160),
with no detector waiting for the end of a comparator blank: an assertion outside the blank on a channel in use marks
it, counts, and tags the events of that clock cycle on it and its neighbours; the mark ends 30 ns after the release; a
comparator high for more than 64 ns since offset 16 ns is a stuck slot, and the 16th in a row masks the channel and
raises its offset. -/
def Obligations.SaturationMarksAndStuckSlots : Prop :=
  ∀ (s : State) (t ch : Nat), s.mainOn = true → ch < s.rfe.chans.length →
    (∀ n, n < 512 → (s.chan n).sat = true → (s.chan n).seen = true) →
    let c := s.chan ch
    let becomes := fun (c' : Chan) => s.rfe.chans.set ch c'
    (c.sat = false → s.chanInUse ch = true → (s.atTime t).inBlank = false →
      Gives (.saturationAssert t ch) s fun u => OnlyChanges [.rfe, .tda] s u ∧ u.rfe = { s.rfe with
        chans := becomes { c with sat := true, seen := true, marked := true }, satEvents := sat32 s.rfe.satEvents } ∧
        u.tda = s.tda.tagCycle ch (max s.now t)) ∧
    (c.sat = false → (s.atTime t).inBlank = true → Gives (.saturationAssert t ch) s fun u => OnlyChanges [.rfe] s u ∧
      u.rfe = { s.rfe with chans := becomes { c with sat := true } }) ∧
    (c.seen = true → Gives (.saturationRelease t ch) s fun u => OnlyChanges [.rfe] s u ∧
      u.rfe = { s.rfe with chans := becomes { c with sat := false, seen := false, releasedAt := max s.now t } }) ∧
    (c.seen = false → c.releasedAt + 30 ≤ max s.now t → Gives (.markEnd t ch) s fun u => OnlyChanges [.rfe] s u ∧
      u.rfe = { s.rfe with chans := becomes { c with marked := false } }) ∧
    (s.chanInUse ch = true → (s.atTime t).inShotSlot = true → s.pipe.slotStart + 80 < max s.now t → c.stuckSlot = false →
      (c.stuckRun ≠ 15 → Gives (.stuckSlot t ch) s fun u => OnlyChanges [.rfe] s u ∧ u.rfe = { s.rfe with
        chans := becomes { c with stuckSlot := true, stuckRun := c.stuckRun + 1 }, stuckCount := sat32 s.rfe.stuckCount }) ∧
      (c.stuckRun = 15 → c.masked = false → c.maskNext = false →
        Gives (.stuckSlot t ch) s fun u => OnlyChanges [.rfe, .pipe] s u ∧ u.rfe = { s.rfe with
          chans := becomes { c with
            stuckSlot := true, stuckRun := 16, maskNext := true, maskedFrame := true
            offset := if planN s.plan 0x380009 = 1 then min 1023 (c.offset + planN s.plan 0x38000A) else c.offset }
          stuckCount := sat32 s.rfe.stuckCount, blindCount := sat32 s.rfe.blindCount })) ∧
    (s.unitActs = true →
      (∀ v : Word, v.toNat = ch → v.toNat < 512 → Gives (.thresholdOffsetClear t v) s fun u => OnlyChanges [.rfe] s u ∧
        u.rfe = { s.rfe with chans := becomes { c with clearPending := true } }) ∧
      Gives (.thresholdOffsetClear t 0xFFFF) s fun u => OnlyChanges [.rfe] s u ∧
        u.rfe = { s.rfe with chans := s.rfe.chans.map fun c => { c with clearPending := true } })

/-- IDLE_TDC_CALIBRATION, REFERENCE_EDGE and REFERENCE_WINDOW_CLOSE (07 R176 to R183): every TDC takes its
measurement, and none within 4,000 ns of the last; the first edge inside the window of an enabled reference channel is
t_ref, and of one whose port fired RefOffset says how far it lies from the middle; a window that closes, at its end and
not before, without one counts a miss, and no event of the channel's cells waits any more. -/
def Obligations.ReferencesAndCalibrations : Prop :=
  (∀ (s : State) (t : Nat) (x : TdcCal), s.mainOn = true → (s.atTime t).inShotSlot = false →
    (s.tda.idleDue (max s.now t) = true →
      Gives (.idleTdcCalibration t x) s fun u => OnlyChanges [.tda, .kpp, .evr] s u ∧
        u.tda.tdcs.length = s.tda.tdcs.length ∧ u.tda.idleAt = some (max s.now t) ∧
        (∀ m, m < s.tda.tdcs.length →
          u.tda.tdcs.getD m {} = (s.tda.tdcs.getD m {}).measure (measureOf x m).1 (measureOf x m).2) ∧
        u.tda.chans = s.tda.chans ∧ u.tda.refs = s.tda.refs) ∧
    (∀ a, s.tda.idleAt = some a → max s.now t < a + 4000 →
      Gives (.idleTdcCalibration t x) s fun u => OnlyChanges [] s u)) ∧
  (∀ (s : State) (t ps ref taps : Nat) (c : ColCtx), s.mainOn = true → s.pipe.cur = some c → ref < s.tda.refs.length →
    (s.atTime t).inShotSlot = true → (s.atTime t).inBlank = false → s.pipe.lit = true →
    let r := s.tda.refs.getD ref {}
    let tdc := s.tda.tdcs.getD (512 + ref) {}
    let traw := tdc.rawTime (counterEdge (max s.now t * 1000 + ps % 1000) s.pipe.slotStart) taps
    let middle := s.fireLsb + c.refDelay ref
    outOfDeadTime r.last traw = true → tdc.k ≠ 0 → r.firstSeen = true → c.refEnabled ref = true →
    r.tref = none → r.closed = false → middle - c.refWindow ≤ traw → traw ≤ middle + c.refWindow →
    Gives (.referenceEdge t ps ref taps) s fun u => OnlyChanges [.tda] s u ∧ u.tda = { s.tda with
      refs := s.tda.refs.set ref { r with
        last := some traw, tref := some traw, frameFound := true
        offset := if c.refFired s.pipe.slot ref then traw - middle else r.offset } }) ∧
  (∀ (s : State) (t ref : Nat) (c : ColCtx), s.mainOn = true → s.pipe.cur = some c → (s.atTime t).inShotSlot = true →
    s.pipe.lit = true → (s.tda.refs.getD ref {}).closed = false → s.refWindowEnd c ref ≤ max s.now t →
    let r := s.tda.refs.getD ref {}
    let counts := c.refFired s.pipe.slot ref && c.refEnabled ref
    let miss := counts && r.tref.isNone
    Gives (.referenceWindowClose t ref) s fun u => OnlyChanges [.tda] s u ∧
      u.tda.refs = s.tda.refs.set ref { r with
        closed := true, misses := if miss then sat32 r.misses else r.misses
        frameCounted := r.frameCounted + bNat counts, frameMissed := r.frameMissed + bNat miss
        measured := if c.refFired s.pipe.slot ref && !r.firstSeen then 0xFFFF else r.measured } ∧
      ∀ x ∈ c.cells, c.plan.refOf x.port = some ref → ∀ q, mget u.tda.chans x.channel = some q →
        ∀ e ∈ q.events, e.tau.isSome = true) ∧
  (∀ (s : State) (t ref : Nat) (c : ColCtx), s.mainOn = true → s.pipe.cur = some c → max s.now t < s.refWindowEnd c ref →
    Gives (.referenceWindowClose t ref) s fun u => OnlyChanges [] s u)

/-- COMPARATOR_EDGE on a channel in use, outside the blank, with no detector waiting and no reference window open (07
R182 to R187): within the dead time it counts as pile-up; else its event time decides: inside the window it is handed
on, outside it is counted and dropped. -/
def Obligations.EdgesBecomeTimedEvents : Prop :=
  ∀ (s : State) (t ps ch taps : Nat) (c : ColCtx) (x : CellCtx), s.mainOn = true → s.chanInUse ch = true →
    (∀ n, n < 512 → (s.chan n).sat = true → (s.chan n).seen = true) → s.plan.interference ≠ 2 →
    s.pipe.cur = some c → c.cellOf ch = some x → (s.atTime t).inShotSlot = true → (s.atTime t).inBlank = false →
    (s.chan ch).masked = false → (s.tda.tdcs.getD ch {}).k ≠ 0 → c.plan.slotLit s.pipe.slot = true →
    s.waitsForRef c x = false →
    let q := (mget s.tda.chans ch).getD {}
    let atPs := max s.now t * 1000 + ps % 1000
    let traw := (s.tda.tdcs.getD ch {}).rawTime (counterEdge atPs s.pipe.slotStart) taps
    let tau := s.eventTime c x traw
    (outOfDeadTime q.last traw = false → Gives (.comparatorEdge t ps ch taps) s fun u => OnlyChanges [.tda] s u ∧
      u.tda.pileUp = sat32 s.tda.pileUp ∧ mget u.tda.chans ch = some { q with pileUp := sat32 q.pileUp } ∧
      u.tda.outside = s.tda.outside) ∧
    (outOfDeadTime q.last traw = true → (tau < 0 ∨ c.plan.bound ≤ tau) →
      Gives (.comparatorEdge t ps ch taps) s fun u => OnlyChanges [.tda] s u ∧ u.tda.outside = wrap64 s.tda.outside ∧
        mget u.tda.chans ch = some { q with last := some traw } ∧ u.tda.pileUp = s.tda.pileUp) ∧
    (outOfDeadTime q.last traw = true → 0 ≤ tau → tau < c.plan.bound →
      Gives (.comparatorEdge t ps ch taps) s fun u => OnlyChanges [.tda] s u ∧ u.tda.outside = s.tda.outside ∧
        u.tda.pileUp = s.tda.pileUp ∧
        mget u.tda.chans ch = some { q with
          last := some traw
          events := q.events ++ [{ traw, atPs, readyPs := s.readyPs c x atPs, visit := c.visit, slot := s.pipe.slot
                                   sat := s.satMark ch
                                   outside := s.satMark ch || s.recoveryMark ch, paired := false, handsOn := true
                                   tau := some tau }] })

/-- EVENT_HANDOVER (08 R200, R201, R204): the channel's oldest timed event, once its reference window has closed and
its pair verdict is there and not before (07 R185, 08 R202), in a column of its visit; without its
port's pulse in the slot it is counted unlit; in a coarse slot of a plan without pile-up correction and coincidence it
adds 8 to its bin, clamped at 4,095, and to no other; in a zoom slot before the windows are placed it is parked.
COINCIDENCE_RELEASE (08 R206): 160 ns plus the window after its edge, a held event without enough supporting channels
is rejected and counted in its buffer; a supported one in a coarse slot accumulates. -/
def Obligations.EventsReachTheirBins : Prop :=
  (∀ (s : State) (t ch : Nat) (c : ColCtx) (x : CellCtx) (q : TdaChan) (e : TimedEvent) (rest : List TimedEvent) (tau : Nat),
     s.mainOn = true → mget s.tda.chans ch = some q → q.events = e :: rest → e.tau = some (tau : Int) →
     s.pipe.cur = some c → c.visit = e.visit → c.cellOf ch = some x → c.probe = false →
     (max s.now t * 1000 < e.readyPs → Gives (.eventHandover t ch) s fun u => OnlyChanges [] s u) ∧
     (e.readyPs ≤ max s.now t * 1000 →
     let leaves := fun (u : State) => OnlyChanges [.tda, .hac] s u ∧ u.tda.events = wrap64 s.tda.events ∧
       mget u.tda.chans ch = some { q with events := rest }
     let fired := ((mget c.fired e.slot).getD []).contains x.port
     (fired = false → Gives (.eventHandover t ch) s fun u => leaves u ∧
       u.hac = { s.hac with unlit := wrap64 s.hac.unlit }) ∧
     (fired = true → c.plan.interference ≠ 2 → planN c.plan 0x400011 ≤ 1 →
       (c.plan.zoomSlot e.slot = false → planN c.plan 0x400010 = 0 →
         let bin := tau / c.plan.binLsb
         let old := s.hac.buf true ch
         Gives (.eventHandover t ch) s fun u => leaves u ∧ u.hac.accumulated = wrap64 s.hac.accumulated ∧
           mcount (u.hac.buf true ch).coarse bin = min 4095 (mcount old.coarse bin + 8) ∧
           (∀ b, b ≠ bin → mcount (u.hac.buf true ch).coarse b = mcount old.coarse b) ∧
           (∀ ch', ch' ≠ ch → u.hac.buf true ch' = s.hac.buf true ch') ∧ u.hac.tail = s.hac.tail) ∧
       (c.plan.zoomSlot e.slot = true → s.hac.placedAt = none →
         Gives (.eventHandover t ch) s fun u => leaves u ∧ u.hac = { s.hac with
           parked := (s.hac.parked ++ [{ ch, visit := e.visit, slot := e.slot, tau, sat := e.sat, outside := e.outside
                                         atPs := e.atPs }])
           parkedCount := sat32 s.hac.parkedCount })))) ∧
  (∀ (s : State) (t ch : Nat) (c : ColCtx) (x : CellCtx) (e : HacEvent), s.mainOn = true →
     s.hac.held.find? (fun e => e.ch == ch) = some e → s.pipe.cur = some c → c.visit = e.visit → c.cellOf ch = some x →
     e.atPs + (160 + planN c.plan 0x400012) * 1000 ≤ max s.now t * 1000 →
     (s.hac.supported c x.port e = false → Gives (.coincidenceRelease t ch) s fun u => OnlyChanges [.hac] s u ∧
       u.hac.held = s.hac.held.erase e ∧ u.hac.coincRejects = wrap64 s.hac.coincRejects ∧
       u.hac.buf true ch = { s.hac.buf true ch with coincRejects := (s.hac.buf true ch).coincRejects + 1 } ∧
       u.hac.accumulated = s.hac.accumulated) ∧
     (s.hac.supported c x.port e = true → c.plan.zoomSlot e.slot = false →
       Gives (.coincidenceRelease t ch) s fun u => OnlyChanges [.hac] s u ∧ u.hac.held = s.hac.held.erase e ∧
         u.hac.accumulated = wrap64 s.hac.accumulated ∧ u.hac.coincRejects = s.hac.coincRejects ∧
         u.hac.buf true ch = ((s.hac.buf true ch).addCoarse c x.port e).1))

/-- PLACEMENT_POINT and PARKED_EVENTS_APPLY (08 R203 to R205, R208, R209): the windows of a column are placed once,
each on a multiple of 4 LSB and wholly within the coarse range; then every parked event either accumulates or is
counted outside. -/
def Obligations.ZoomWindowsArePlacedInRange : Prop :=
  (∀ (p : Plan) (x : CellCtx) (b : Buf) (w : Win), 1 ≤ p.binLsb → w ∈ placeWindows p x b → w.valid = true →
    w.start % 4 = 0 ∧ w.start + 256 ≤ 2048 * p.binLsb) ∧
  (∀ (s : State) (t : Nat) (c : ColCtx), s.mainOn = true → s.pipe.cur = some c → (s.atTime t).placementDue c = true →
    (c.cells.map CellCtx.channel).Nodup →
    Gives (.placementPoint t) s fun u => OnlyChanges [.hac] s u ∧ u.hac.placedAt = some (max s.now t) ∧
      u.hac.parked = s.hac.parked ∧ ∀ x ∈ c.cells,
        let b := s.hac.buf true x.channel
        let ws := placeWindows c.plan x b
        u.hac.buf true x.channel = if ws.any (fun w => w.valid) = true then { b with wins := ws } else b) ∧
  (∀ (s : State) (t at_ : Nat) (c : ColCtx), s.mainOn = true → s.pipe.cur = some c → s.hac.placedAt = some at_ →
    Gives (.parkedEventsApply t) s fun u => OnlyChanges [.hac] s u ∧ u.hac.parked = [] ∧
      u.hac.accumulated + u.hac.zoomOutside =
        s.hac.accumulated + s.hac.zoomOutside + BitVec.ofNat 64 s.hac.parked.length)

/-! ### Extraction, the Tarn and the formatter (09 to 11) -/

/-- PRX_CHANNEL_SLOT and BUFFER_RELEASE (08 R196; 09 R212, R237): an engine takes its next channel, the n-th
2,048 × n ns after the swap and not before; a measured cell
hands on one result of exactly the records a cell has, an unmeasured one none; when the last engine has finished, the
results wait for the write engine and the formatter and the buffer is released. TARN_RECORD_WRITE (10 R249, R252): the
record of a cell of the finished column goes to the buffer that is not holding, at the line its set, column and row
give. -/
def Obligations.CellsAreExtractedAndWritten : Prop :=
  ((∀ (s : State) (t engine ch : Nat) (c : ColCtx) (x : CellCtx), s.mainOn = true → s.pipe.ext = some c →
     c.plan.runsPrx = true → engine < 16 → (c.plan.engineChannels engine)[mcount s.prx.done engine]? = some ch →
     c.cellOf ch = some x →
     (max s.now t < c.swapAt + 2048 * mcount s.prx.done engine →
       Gives (.prxChannelSlot t engine) s fun u => OnlyChanges [] s u) ∧
     (c.swapAt + 2048 * mcount s.prx.done engine ≤ max s.now t →
     Gives (.prxChannelSlot t engine) s fun u => OnlyChanges [.prx] s u ∧
       mcount u.prx.done engine = mcount s.prx.done engine + 1 ∧
       (x.measured = false → u.prx.cells = s.prx.cells) ∧
       (x.measured = true → ∃ o, u.prx.cells = s.prx.cells ++ [o] ∧ o.row = x.row ∧
         o.points.length = c.plan.recordsPerCell ∧ o.survivors.length ≤ 3))) ∧
   (∀ (s : State) (t : Nat) (c : ColCtx), s.mainOn = true → s.pipe.ext = some c → c.plan.runsPrx = true →
     s.extracted c = true → c.enginesEnd ≤ max s.now t →
     Gives (.bufferRelease t) s fun u => OnlyChanges [.pipe, .hac, .prx] s u ∧ u.hac = { s.hac with ext := [] } ∧
       u.pipe = { s.pipe with ext := none, done := some c, doneTarn := false, doneQueued := false } ∧
       u.prx.outCells = s.prx.cells ∧ u.prx.cells = [] ∧ u.prx.done = [])) ∧
  (∀ (s : State) (t : Nat) (c : ColCtx) (x : CellCtx), s.mainOn = true → s.pipe.done = some c → s.pipe.doneTarn = false →
     s.mcx.ready = true → c.cells = [x] → MemoryCanonical s →
     let line := tarnLine c.plan (1 - s.mcx.holdingOf c.posSet) c.posSet x.row c.column
     let r := recordOf c x (outOf s.prx.outCells x.row)
     Gives (.tarnRecordWrite t) s fun u => OnlyChanges [.pipe, .mcx, .kpp, .evr] s u ∧
       u.pipe = { s.pipe with doneTarn := true } ∧ u.mcx.holding = s.mcx.holding ∧
       ∀ i, i < 64 → memGet u.mcx.data (64 * s.mcx.physical line + i) = r.bytes.getD i 0)

/-- The record of a cell (10 R253 to R255) is one line, and what the write engine puts into it the prefetch reads
back: the marks, the grid, the codes, and the time of every survivor. -/
def Obligations.TarnRecordsReadBackAsWritten : Prop :=
  ∀ (c : ColCtx) (x : CellCtx) (o : CellOut), o.survivors.length ≤ 3 → x.feedback < 4 → x.reduction ≤ 96 → c.posSet < 8 →
    (recordOf c x (some o)).bytes.length = 64 ∧
    priorOf (recordOf c x (some o)).bytes =
      { valid := true, grid := c.gridGen.toNat % 16, saturated := o.saturated, feedback := x.feedback
        reduction := x.reduction, amplitude := o.amplitude % 4096
        taus := o.survivors.map fun v => v.tau % 2 ^ 18 } ∧
    (priorOf (recordOf c x none).bytes).valid = false ∧
    outvoted (recordOf c x (some o)).bytes 0 = false ∧ outvoted (recordOf c x (some o)).bytes 12 = false

/-- COLUMN_BLOCK_QUEUE, H4_COLUMN_COPY and ETH_STREAM_DATAGRAM (11 R275 to R283): a finished column's point block
takes the next number of its port and is queued there while the port is Active and the store has room, else it is
dropped and counted; a column of H4 is copied and its buffer released; a datagram of a stream that is on leaves where
its tokens suffice and no KPP message waits to go first. -/
def Obligations.BlocksAreQueuedOrDropped : Prop :=
  (∀ (s : State) (t : Nat) (c : ColCtx), s.mainOn = true → s.pipe.done = some c → s.pipe.doneQueued = false →
    c.visit + 1 ≠ c.plan.columns → c.plan.output = 1 → c.plan.pointPort < 2 →
    let n := c.plan.pointPort
    let o := s.outPort n
    let outs := c.outs s.prx.outCells
    let body := outs.flatMap fun o => (cellRecords c o).flatMap Prod.snd
    let bytes := blockHeader s.part.device unitPoints c outs.length body.length c.plan.recordsPerCell o.seq o.gap ++ body
    Gives (.columnBlockQueue t) s fun u => OnlyChanges [.pipe, .fmt, .linkA, .linkB, .kpp, .evr] s u ∧
      u.pipe = { s.pipe with doneQueued := true } ∧ (u.outPort n).seq = o.seq + 1 ∧
      ((s.link n).state = linkActive → o.waitHeader = false → o.store + bytes.length ≤ 4190208 →
        (u.outPort n).queue = o.queue ++ [{ kind := unitPoints, seq := o.seq, frame := c.frame, bytes }] ∧
        (u.outPort n).store = o.store + bytes.length ∧ (u.outPort n).dropped = o.dropped) ∧
      ((s.link n).state ≠ linkActive ∨ o.waitHeader = true ∨ 4190208 < o.store + bytes.length →
        (u.outPort n).queue = o.queue ∧ (u.outPort n).dropped = sat32 o.dropped ∧ (u.outPort n).gap = true)) ∧
  (∀ (s : State) (t : Nat) (c : ColCtx), s.mainOn = true → s.pipe.ext = some c → c.plan.runsPrx = false →
    Gives (.h4ColumnCopy t) s fun u => OnlyChanges [.pipe, .hac, .fmt, .linkA, .linkB, .kpp, .evr] s u ∧
      u.pipe = { s.pipe with ext := none } ∧ u.hac = { s.hac with ext := [] }) ∧
  (∀ (s : State) (t : Nat) (d : List Byte) (rest : List (List Byte)), s.mainOn = true → s.fmt.eth.ready = d :: rest →
    s.fmt.eth.on = true → s.kppReady = false →
    let e := s.fmt.eth.refill (max s.now t)
    (8000 * d.length ≤ e.tokens → Gives (.ethStreamDatagram t) s fun u => OnlyChanges [.fmt] s u ∧
      u.out = [.datagram s.ipv4 udpPort e.addr e.port d] ∧
      u.fmt = { s.fmt with eth := { e with ready := rest, tokens := e.tokens - 8000 * d.length, sent := sat32 e.sent } }) ∧
    (e.tokens < 8000 * d.length → Gives (.ethStreamDatagram t) s fun u => OnlyChanges [.fmt] s u ∧ u.out = [] ∧
      u.fmt = { s.fmt with eth := { e with ready := rest, dropped := sat32 e.dropped } }))

/-! ### The in-package memory (10) -/

/-- MCX_READY takes the remap table of MRAM; BOOT_FILL_COMPLETE ends the fill of the Tarn region; REMAP_CLEAR waits
for the next reset (10 R257, R261). SCRUB_TICK reads a line once ScrubInterval has passed and none before;
WATCH_ENTRY_EXPIRY, REMAP_COPY_COMPLETE (10 R259 to R261). -/
def Obligations.MemoryBecomesReadyAndIsScrubbed : Prop :=
  ((∀ (s : State) (t : Nat), s.mainOn = true → s.mcx.ready = false →
     Gives (.mcxReady t) s fun u => OnlyChanges [.mcx] s u ∧
       u.mcx = { s.mcx with ready := true, remap := s.mram.remap.body.getD [], scrubAt := max s.now t }) ∧
   (∀ (s : State) (t h : Nat), s.mainOn = true → s.mcx.ready = true → s.mcx.bootFill = false → s.cu.holder = some h →
     Gives (.bootFillComplete t) s fun u => OnlyChanges [.mcx, .kpp, .evr] s u ∧ u.mcx.bootFill = true ∧
       (∀ a, a < 33554432 → memGet u.mcx.data a = 0) ∧ (∀ p, p < 8192 → u.mcx.isWritten p = true)) ∧
   (∀ (s : State) (t : Nat), s.mainOn = true → s.unitActs = true →
     Gives (.remapClear t 0x5243) s fun u => OnlyChanges [.mcx] s u ∧ u.mcx = { s.mcx with clearAtReset := true })) ∧
  ((∀ (s : State) (t n line : Nat), s.mainOn = true → s.mcx.ready = true → s.mcx.scrubFrom s.mcx.scrubPos = some (n, line) →
     (s.mcx.decodeLine line).2 = ([], false) → s.mcx.isWritten (line / 64) = true →
     s.mcx.scrubAt + s.regN 0x480015 ≤ max s.now t →
     Gives (.scrubTick t []) s fun u => OnlyChanges [.mcx, .kpp, .evr] s u ∧ u.mcx.data = s.mcx.data ∧
       (u.mcx.scrubPos = n + 1 ∨ (u.mcx.scrubPos = 0 ∧ u.mcx.scrubPasses = sat32 s.mcx.scrubPasses))) ∧
   (∀ (s : State) (t : Nat) (fl : List (Nat × BitVec 13)), s.mainOn = true → max s.now t < s.mcx.scrubAt + s.regN 0x480015 →
     Gives (.scrubTick t fl) s fun u => OnlyChanges [] s u) ∧
   (∀ (s : State) (t : Nat), s.mainOn = true →
     Gives (.watchEntryExpiry t) s fun u => OnlyChanges [.mcx] s u ∧
       u.mcx = { s.mcx with watch := s.mcx.watch.filter fun w => !w.expired ((max s.now t - s.emg.releasedAt) / 1000000000) }) ∧
   (∀ (s : State) (t line : Nat) (rest : List Nat) (x : Nat × Nat), s.mainOn = true → s.mcx.copies = line :: rest →
     s.mcx.freeSpare line = some x → MemoryCanonical s →
     Gives (.remapCopyComplete t) s fun u => OnlyChanges [.mcx, .kpp, .evr] s u ∧ u.mcx.copies = rest ∧
       u.mcx.remap = s.mcx.remap ++ [{ line, chan := x.1, spare := x.2 }] ∧
       (∀ i, i < 64 → memGet u.mcx.data (64 * (33554432 + 32 * x.1 + x.2) + i) = (s.mcx.decodeLine line).1.getD i 0) ∧
       (∀ w, w ∈ u.mcx.watch → w.line ≠ line)))

/-- MEMORY_WRITE stores its bytes with their check bits and nothing else: every other byte of a page already written
reads as before, and a read of the line finds the bytes clean (10 R243, R246). The code of 10 R244 and R245: a byte
read with its own check bits is clean, and any one of the 13 stored bits that flips is corrected to the byte that was
stored. Any two of the 13 stored bits of a byte that flip are detected as uncorrectable (10 R244, R245). -/
def Obligations.WritesAndTheirCheckBits : Prop :=
  (∀ (s : State) (t line i : Nat) (user : MemUser) (b : Byte), s.mainOn = true → line < 33554432 → i < 64 →
     MemoryCanonical s → s.mcx.ready = true → s.reaches user line = true → s.mcx.isWritten (line / 64) = true →
     Gives (.memoryWrite t user line [(i, b)]) s fun u => OnlyChanges [.mcx, .kpp, .evr] s u ∧
       memGet u.mcx.data (64 * s.mcx.physical line + i) = b ∧
       u.mcx.storedCheck (64 * s.mcx.physical line + i) = checkBits b ∧
       (∀ a, a ≠ 64 * s.mcx.physical line + i → memGet u.mcx.data a = memGet s.mcx.data a)) ∧
  (∀ d : Byte, decodeByte d (checkBits d) = (d, .clean) ∧
     (∀ i, i < 8 → decodeByte (d ^^^ BitVec.ofNat 8 (2 ^ i)) (checkBits d) = (d, .corrected)) ∧
     (∀ i, i < 5 → decodeByte d (checkBits d ^^^ BitVec.ofNat 5 (2 ^ i)) = (d, .corrected))) ∧
  (∀ (d : Byte) (i j : Nat), i < j → j < 13 →
     let e := BitVec.ofNat 13 (2 ^ i + 2 ^ j)
     (decodeByte (d ^^^ BitVec.ofNat 8 (e.toNat % 256)) (checkBits d ^^^ BitVec.ofNat 5 (e.toNat / 256))).2 = .bad)

/-- MEMORY_READ of a page never written sets the mark and counts (10 R247); of a written page with clean bytes it
changes no byte, no check bit and no count of errors (10 R245); CORRECTION_WRITEBACK writes the bytes that were
corrected and no other, and is done (10 R258). A command of a user outside its regions of the map (10 R243) does nothing:
the model's choice (log 16). -/
def Obligations.MemoryReadOfALine : Prop :=
  (∀ (s : State) (t line : Nat) (fl : List (Nat × BitVec 13)), s.mainOn = true → line < 33554432 →
    s.mcx.ready = true → s.reaches .scrub line = true → s.mcx.isWritten (line / 64) = false →
    Gives (.memoryRead t .scrub line fl) s fun u => OnlyChanges [.mcx] s u ∧
      u.mcx = { s.mcx with neverWritten := true, neverWrittenCount := sat32 s.mcx.neverWrittenCount }) ∧
  (∀ (s : State) (t line : Nat) (user : MemUser), s.mainOn = true → line < 33554432 → s.mcx.ready = true →
    s.reaches user line = true → s.mcx.isWritten (line / 64) = true → (s.mcx.decodeLine line).2 = ([], false) →
    Gives (.memoryRead t user line []) s fun u => OnlyChanges [.mcx] s u ∧ u.mcx.data = s.mcx.data ∧
      u.mcx.check = s.mcx.check ∧ u.mcx.corrected = s.mcx.corrected ∧ u.mcx.uncorrectable = s.mcx.uncorrectable) ∧
  (∀ (s : State) (t line : Nat) (w : List (Nat × Byte)), s.mainOn = true → line < 33554432 →
    MemoryCanonical s → s.mcx.writebacks = [(line, w)] → (∀ x, x ∈ w → x.1 < 64) → (w.map Prod.fst).Nodup →
    Gives (.correctionWriteback t line) s fun u => OnlyChanges [.mcx] s u ∧ u.mcx.writebacks = [] ∧
      (∀ x, x ∈ w → memGet u.mcx.data (64 * s.mcx.physical line + x.1) = x.2) ∧
      ∀ a, (∀ x, x ∈ w → a ≠ 64 * s.mcx.physical line + x.1) → memGet u.mcx.data a = memGet s.mcx.data a) ∧
  (∀ (s : State) (t line : Nat) (user : MemUser) (fl : List (Nat × BitVec 13)) (bs : List (Nat × Byte)), s.mainOn = true →
    line < 33554432 → s.reaches user line = false →
    Gives (.memoryRead t user line fl) s (fun u => OnlyChanges [] s u) ∧
    Gives (.memoryWrite t user line bs) s fun u => OnlyChanges [] s u)

/-! ### The Druelo link (12) -/

/-- EQ_REPORT, ALIGN_REPORT, STATUS_MESSAGE in Detect and RETRAIN_MESSAGE in an attempt (12 R301, R303). A message
whose CRC-8 is wrong is ignored and counted, whatever its type, as BACK_CHANNEL_ERROR is (12 R300); the back channel
of a port is lost when no valid message has arrived for 500 µs, in any state and not before (12 R302). -/
def Obligations.BackChannelMessages : Prop :=
  ((∀ (s : State) (t port : Nat) (m : BackMsg), ValidMessage s port 2 m →
     Gives (.eqReport t port m) s fun u => LinkBecomes s u port
       { s.link port with lastMsg := max s.now t, lost := false
                          eqReports := overlay (s.link port).eqReports (8 * (uAt m.payload 0 1 % 4)) m.payload }) ∧
   (∀ (s : State) (t port : Nat) (m : BackMsg), ValidMessage s port 3 m →
     Gives (.alignReport t port m) s fun u => LinkBecomes s u port
       { s.link port with lastMsg := max s.now t, lost := false, deskew := bytesAt m.payload 0 4 }) ∧
   (∀ (s : State) (t port : Nat) (m : BackMsg), ValidMessage s port 1 m → (s.link port).state = 1 →
     Gives (.statusMessage t port m) s fun u => LinkBecomes s u port
       { s.link port with
         lastMsg := max s.now t, lost := false, rxState := uAt m.payload 0 1, phase := uAt m.payload 1 1 % 16
         equal := uAt m.payload 2 1 % 16, lock := uAt m.payload 3 1 % 16, statusRun := min 4 ((s.link port).statusRun + 1) }) ∧
   (∀ (s : State) (t port : Nat) (m : BackMsg), ValidMessage s port 4 m → (s.link port).training = true →
     Gives (.retrainMessage t port m) s fun u => OnlyChanges [.linkA, .linkB, .fmt, .kpp, .evr] s u ∧
       (u.link port).state = 1 ∧ (u.link port).spaceFrom = some (s.link port).attemptAt ∧
       ((uAt m.payload 0 1).testBit 0 = true → (u.link port).width = 4 ∧ (u.link port).lanes = 15) ∧
       ((uAt m.payload 0 1).testBit 0 = false →
         (u.link port).width = (s.link port).width ∧ (u.link port).lanes = (s.link port).lanes))) ∧
  ((∀ (s : State) (t port : Nat), s.mainOn = true → s.hasPort port = true → port < 2 →
     let l := { s.link port with errors := sat32 (s.link port).errors, statusRun := 0 }
     Gives (.backChannelError t port) s (fun u => LinkBecomes s u port l) ∧
     ∀ m : BackMsg, m.payload.length = 8 →
       (crc8 (1 :: m.payload) ≠ m.crc → ∃ u, exec (.statusMessage t port m) s = .next u ∧ u.link port = l) ∧
       (crc8 (2 :: m.payload) ≠ m.crc → ∃ u, exec (.eqReport t port m) s = .next u ∧ u.link port = l) ∧
       (crc8 (3 :: m.payload) ≠ m.crc → ∃ u, exec (.alignReport t port m) s = .next u ∧ u.link port = l) ∧
       (crc8 (4 :: m.payload) ≠ m.crc → ∃ u, exec (.retrainMessage t port m) s = .next u ∧ u.link port = l)) ∧
   (∀ (s : State) (t port : Nat), s.mainOn = true → s.hasPort port = true → port < 2 → (s.link port).lost = false →
     (max s.now t < (s.link port).lastMsg + 500000 → Gives (.backChannelLoss t port) s fun u => OnlyChanges [] s u) ∧
     ((s.link port).lastMsg + 500000 ≤ max s.now t → Gives (.backChannelLoss t port) s fun u =>
       OnlyChanges [.linkA, .linkB, .fmt, .kpp, .evr] s u ∧ (u.link port).lost = true ∧
       ((s.link port).state ≠ 0 → (u.link port).state = 1) ∧ (u.link port).losses = sat32 (s.link port).losses ∧
       ((s.link port).state ≤ 1 → u.link port =
         { s.link port with lost := true, losses := sat32 (s.link port).losses, statusRun := 0 }))))

/-- TRAINING_ATTEMPT_START from Detect, and the three limits, each of which, with no loss of the back channel in its
microsecond, counts its own failure and goes back to Detect (12 R303, R304, R306). The width of the attempt after a
failed one of 4 lanes (12 R304): lanes 0 and 1, else lanes 2 and 3, else the lowest lane seen; with none seen the
width stays until the third such failure in a row, and then lanes 0 and 1. -/
def Obligations.TrainingAttemptsAndWidths : Prop :=
  (∀ (s : State) (t port : Nat), s.mainOn = true → s.hasPort port = true → port < 2 →
     ((s.link port).state = 1 → (s.link port).pll = true → 4 ≤ (s.link port).statusRun → (s.link port).spaceFrom = none →
       Gives (.trainingAttemptStart t port) s fun u => LinkBecomes s u port
         { s.link port with state := 2, stateAt := max s.now t, attemptAt := max s.now t, statusRun := 0
                            attempts := sat32 (s.link port).attempts }) ∧
     ((s.link port).state = 2 → (s.link port).stateAt + 1000000 ≤ max s.now t →
       (s.link port).lossBy ((s.link port).stateAt + 1000000) = false →
       Gives (.phaseLimit t port) s fun u => OnlyChanges [.linkA, .linkB] s u ∧ (u.link port).state = 1 ∧
         (u.link port).phaseFails = sat32 (s.link port).phaseFails ∧ (u.link port).spaceFrom = some (s.link port).attemptAt ∧
         (u.link port).scram = (List.range 4).map scrambleSeed) ∧
     ((s.link port).state = 3 → (s.link port).stateAt + 2000000 ≤ max s.now t →
       (s.link port).lossBy ((s.link port).stateAt + 2000000) = false →
       Gives (.equalizeLimit t port) s fun u => OnlyChanges [.linkA, .linkB] s u ∧ (u.link port).state = 1 ∧
         (u.link port).equalFails = sat32 (s.link port).equalFails ∧ (u.link port).spaceFrom = some (s.link port).attemptAt) ∧
     ((s.link port).state = 4 →
       (s.link port).stateAt + ceilDiv (6 * 16384 * 66 * 1000) (s.laneRate port) ≤ max s.now t →
       (s.link port).lossBy ((s.link port).stateAt + ceilDiv (6 * 16384 * 66 * 1000) (s.laneRate port)) = false →
       Gives (.alignLimit t port) s fun u => OnlyChanges [.linkA, .linkB] s u ∧ (u.link port).state = 1 ∧
         (u.link port).alignFails = sat32 (s.link port).alignFails ∧ (u.link port).spaceFrom = some (s.link port).attemptAt)) ∧
  (∀ (l : Link) (p : Nat), l.width = 4 → l.lanes = 15 → p < 16 →
     let n := l.nextWidth p
     (p.testBit 0 = true ∧ p.testBit 1 = true → n.width = 2 ∧ n.lanes = 3) ∧
     (¬ (p.testBit 0 = true ∧ p.testBit 1 = true) ∧ p.testBit 2 = true ∧ p.testBit 3 = true → n.width = 2 ∧ n.lanes = 12) ∧
     (¬ (p.testBit 0 = true ∧ p.testBit 1 = true) ∧ ¬ (p.testBit 2 = true ∧ p.testBit 3 = true) ∧ p ≠ 0 →
       n.width = 1 ∧ ∃ i, i < 4 ∧ p.testBit i = true ∧ (∀ j, j < i → p.testBit j = false) ∧ n.lanes = 2 ^ i) ∧
     (p = 0 → l.blind < 2 → n.width = 4 ∧ n.lanes = 15 ∧ n.blind = l.blind + 1) ∧
     (p = 0 → l.blind = 2 → n.width = 2 ∧ n.lanes = 3 ∧ n.blind = 0))

/-- PORT_PLL_LOCK, LANE_RATE_WRITE, PORT_ENABLE_WRITE and the two retrain commands (12 R303, R306, R307): the port is
in Detect once the PLL has locked again. BLOCK_PERIOD, one every 66 UI, in Detect sends an idle block on all four
lanes, each scrambled by its own lane; MARKER_PERIOD sends the marker on all four, past the scramblers, and starts the
count of periods again (12 R292 to R295). -/
def Obligations.PortControlBlocksAndMarkers : Prop :=
  (∀ (s : State) (t port : Nat), s.mainOn = true → s.hasPort port = true → port < 2 →
     ((s.link port).pll = false → s.regN (0x4C0041 + 0x20 * port) = 1 →
       Gives (.portPllLock t port) s fun u => OnlyChanges [.linkA, .linkB, .fmt, .kpp, .evr] s u ∧
         (u.link port).pll = true ∧ (u.link port).state = 1 ∧ (u.link port).width = 4 ∧ (u.link port).lanes = 15 ∧
         (u.link port).blockCount = 0 ∧ (u.link port).periods = 0 ∧ (u.link port).lockAt = max s.now t) ∧
     (s.unitActs = true → ∀ v : Byte,
       Gives (.laneRateWrite t port v) s fun u => OnlyChanges [.linkA, .linkB, .rwp] s u ∧
         u.reg (0x4C0040 + 0x20 * port) = [if v.toNat < 5 then v else 5] ∧ (u.link port).pll = false ∧
         (u.link port).state = (s.link port).state) ∧
     (s.unitActs = true →
       Gives (.portEnableWrite t port 0) s fun u => OnlyChanges [.linkA, .linkB, .rwp, .fmt, .kpp, .evr] s u ∧
         u.reg (0x4C0041 + 0x20 * port) = [0] ∧ (u.link port).state = 0) ∧
     (s.unitActs = true → (s.link port).state = 0 → (s.link port).pll = true → ∀ v : Byte, v ≠ 0 →
       Gives (.portEnableWrite t port v) s fun u => OnlyChanges [.linkA, .linkB, .rwp, .fmt, .kpp, .evr] s u ∧
         u.reg (0x4C0041 + 0x20 * port) = [1] ∧ (u.link port).state = 1 ∧ (u.link port).width = 4) ∧
     (s.unitActs = true → (s.link port).training = true →
       Gives (.retrain4Lanes t port) s (fun u => OnlyChanges [.linkA, .linkB, .fmt, .kpp, .evr] s u ∧
         (u.link port).state = 1 ∧ (u.link port).width = 4 ∧ (u.link port).lanes = 15) ∧
       Gives (.retrainPresentWidth t port) s (fun u => OnlyChanges [.linkA, .linkB, .fmt, .kpp, .evr] s u ∧
         (u.link port).state = 1 ∧ (u.link port).width = (s.link port).width ∧ (u.link port).lanes = (s.link port).lanes))) ∧
  (∀ (s : State) (t port : Nat), s.mainOn = true → s.hasPort port = true → port < 2 → (s.link port).pll = true →
     (s.atTime t).periodDue port = true →
     ((s.link port).state = 1 → (s.link port).abort = none → (s.link port).blockCount < 16383 →
       Gives (.blockPeriod t port) s fun u => OnlyChanges [.linkA, .linkB, .fmt] s u ∧
         (u.link port).blockCount = (s.link port).blockCount + 1 ∧ (u.link port).periods = (s.link port).periods + 1 ∧
         u.out = (List.range 4).map fun lane => Output.block port lane true
           (scramble ((s.link port).scram.getD lane (scrambleSeed lane)) (payload (idleBlock (s.link port)))).2) ∧
     ((s.link port).state = 1 → (s.link port).blockCount = 16383 →
       Gives (.markerPeriod t port) s fun u => LinkBecomes s u port
           { s.link port with blockCount := 0, periods := (s.link port).periods + 1 } ∧
         u.out = (List.range 4).map fun lane =>
           Output.block port lane true (payload (markerBlock (s.link port).width lane))))

/-! ### The control lease (14) -/

/-- LEASE_RELEASE, LEASE_EXPIRY and SWITCHOVER end the lease with causes 2, 1 and 3 (14 R336, R339, R347). -/
def Obligations.LeaseEndsByReleaseExpiryOrSwitchover : Prop :=
  ∀ (s : State) (t h : Nat), s.mainOn = true → s.cu.lease = .held → s.cu.holder = some h →
    Gives (.leaseRelease t h s.cu.epoch) s (fun u => LeaseEnds h 2 s u (max s.now t)) ∧
    (s.cu.lastRenewal + 3920000 ≤ max s.now t →
      Gives (.leaseExpiry t) s (fun u => LeaseEnds h 1 s u (max s.now t))) ∧
    (s.unitActs = true → s.standbyState = .ready → s.plan.single = false →
      Gives (.switchover t 0x5357) s (fun u => LeaseEnds h 3 s u (max s.now t)))

/-- LEASE_GRANT, OFFER_TIMEOUT, PREFERRED_CLAIM_TIMEOUT and, with no claim of the same instant waiting (14 R349),
AUTONOMY_WINDOW_END move the offer on (14 R339 to R342). -/
def Obligations.OffersFollowTheGuardTime : Prop :=
  (∀ (s : State) (t f : Nat), s.mainOn = true → s.cu.lease = .guard → s.cu.former = some f →
    s.cu.expiredAt + 1000000 ≤ max s.now t →
    Gives (.leaseGrant t) s fun u => OnlyChanges [.cu] s u ∧ u.cu.lease = .offerStandby ∧ u.cu.epoch = s.cu.epoch + 1 ∧
      u.cu.grantedAt = max s.now t ∧ (u.cu.unit f).state = .loading) ∧
  (∀ (s : State) (t : Nat), s.mainOn = true → s.cu.lease = .offerStandby → s.cu.claimed = true →
    s.cu.expiredAt + 30000000 ≤ max s.now t →
    Gives (.offerTimeout t) s fun u => OnlyChanges [.cu, .kpp, .evr] s u ∧ u.cu = { s.cu with lease := .offerOpen }) ∧
  (∀ (s : State) (t v : Nat), s.mainOn = true → s.cu.lease = .offerStandby → s.cu.claimed = false →
    s.cu.verified = some v → v + 30000000 ≤ max s.now t →
    Gives (.preferredClaimTimeout t) s fun u => OnlyChanges [.cu] s u ∧ u.cu = { s.cu with lease := .offerOpen }) ∧
  (∀ (s : State) (t e : Nat), s.mainOn = true → s.cu.holder = none → s.cu.autonomyEnd = some e → e ≤ max s.now t →
    (s.atTime t).claimWaits = false →
    Gives (.autonomyWindowEnd t) s fun u => OnlyChanges [.cu, .emg, .kpp, .evr] s u ∧ u.cu.lease = .none ∧
      u.cu.autonomyEnd = none ∧ bitOf u.emg.sources 10 = true)

/-- LEASE_RENEWAL: the holder's renewal under its epoch moves the time of the last renewal; the claim of an offer
makes the claimer the holder, under the epoch of the offer, and starts a takeover (14 R335, R339, R340).
TAKEOVER_COMPLETE restores the checkpoint in force and ends the takeover (14 R346, R348); no request was held. -/
def Obligations.ClaimsAndTakeovers : Prop :=
  ((∀ (s : State) (t h : Nat), s.mainOn = true → s.cu.lease = .held → s.cu.holder = some h →
     (s.cu.unit h).fenced = false → max s.now t < s.cu.lastRenewal + 4080000 →
     Gives (.leaseRenewal t h s.cu.epoch) s fun u =>
       OnlyChanges [.cu] s u ∧ u.cu = { s.cu with lastRenewal := max s.now t, priorRenewal := s.cu.lastRenewal }) ∧
   (∀ (s : State) (t h : Nat), s.mainOn = true → s.cu.lease ≠ .held → s.offeredTo h = true → s.cu.claimed = true →
     Gives (.leaseRenewal t h s.cu.epoch) s fun u =>
       u.cu.lease = .held ∧ u.cu.holder = some h ∧ u.cu.epoch = s.cu.epoch ∧ u.cu.lastRenewal = max s.now t ∧
       u.cu.takingOver = true ∧ u.cu.takeovers = sat32 s.cu.takeovers ∧ (u.cu.unit h).fenced = false ∧
       u.cu.autonomyEnd = none)) ∧
  (∀ (s : State) (t h : Nat) (k : Checkpoint), s.mainOn = true → s.cu.holder = some h → s.cu.takingOver = true →
     s.cu.checkpointInForce = some k → s.kpp.held = [] → s.kpp.waiting = [] →
     Gives (.takeoverComplete t) s fun u =>
       u.cu.takingOver = false ∧ u.cu.holder = some h ∧ u.cu.ckUsed = k.frame ∧ u.kpp.dests = k.dests ∧
       u.ntu.integ = k.integ ∧ u.ntu.servo = k.servo ∧ u.txn.state = .idle)

/-- FENCE_TIMER_EXPIRY fences the holder after 3,000 µs (14 R338); ten heartbeats in a row end a loss, and a loss sets
MailboxLost (14 R345); that a second unit's loss meanwhile counts nothing is the model's reading (log 51).
STANDBY_IMAGE_CHECK, 10 s after the last, that fails starts a reload; STANDBY_RELOAD_COMPLETE ends one, and the third
failure in a row leaves the unit Failed (14 R334, R342); that StandbyReloads counts the failed ones too is the model's
reading (log 52). -/
def Obligations.FencesHeartbeatsAndReloads : Prop :=
  ((∀ (s : State) (t h : Nat), h < 2 → s.mainOn = true → s.cu.holder = some h → s.cu.lastRenewal + 3000000 ≤ max s.now t →
     Gives (.fenceTimerExpiry t h) s fun u => OnlyChanges [.cu] s u ∧ u.unitActs = false ∧
       u.cu = s.cu.setUnit h { s.cu.unit h with fenced := true }) ∧
   (∀ (s : State) (t n : Nat), n < 2 → s.mainOn = true →
     Gives (.heartbeat t n) s fun u => OnlyChanges [.cu] s u ∧ (u.cu.unit n).lastHeartbeat = max s.now t ∧
       u.cu.unit (1 - n) = s.cu.unit (1 - n) ∧
       ((s.cu.unit n).lost = true → (s.cu.unit n).beats < 9 → (u.cu.unit n).lost = true) ∧
       ((s.cu.unit n).beats = 9 → max s.now t < (s.cu.unit n).lastHeartbeat + 2000000 → (u.cu.unit n).lost = false)) ∧
   (∀ (s : State) (t n : Nat), n < 2 → s.mainOn = true → (s.cu.unit n).lost = false →
     (s.cu.unit n).lastHeartbeat + 10000000 ≤ max s.now t →
     Gives (.heartbeatLoss t n) s fun u => OnlyChanges [.cu, .kpp, .evr] s u ∧ u.cu.mailboxLost = true ∧
       u.cu.mailboxLosses = if s.cu.mailboxLost then s.cu.mailboxLosses else sat32 s.cu.mailboxLosses)) ∧
  ((∀ (s : State) (t : Nat), s.mainOn = true → s.standby < 2 → s.standbyState = .ready →
     (s.cu.unit s.standby).readyAt + 10000000000 ≤ max s.now t →
     Gives (.standbyImageCheck t false) s fun u => OnlyChanges [.cu] s u ∧
       (u.cu.unit s.standby).state = .loading ∧ u.cu.checkFails = sat32 s.cu.checkFails) ∧
   (∀ (s : State) (t n : Nat), n < 2 → s.mainOn = true → (s.cu.unit n).state = .loading → (s.cu.unit n).reload = true →
     (s.cu.unit n).loaded = some true →
     Gives (.standbyReloadComplete t n true) s fun u => OnlyChanges [.cu, .kpp, .evr] s u ∧ (u.cu.unit n).state = .ready ∧
       u.cu.reloads = sat32 s.cu.reloads) ∧
   (∀ (s : State) (t n : Nat), n < 2 → s.mainOn = true → (s.cu.unit n).state = .loading → (s.cu.unit n).reload = true →
     (s.cu.unit n).fails = 2 →
     Gives (.standbyReloadComplete t n false) s fun u => OnlyChanges [.cu, .kpp, .evr] s u ∧
       (u.cu.unit n).state = .failed ∧ u.cu.reloads = sat32 s.cu.reloads))

/-- The four commands of the checkpoint (14 R344): a write, one in a turnaround, takes the slot not written last and
leaves it incorrect until it completes; past its deadline it is given up and counted (what a slot holds before its
write completes, and the body's length: log 53). -/
def Obligations.CheckpointWrites : Prop :=
  (∀ (s : State) (t : Nat), s.mainOn = true → s.unitActs = true → s.cu.writing = none → s.pipe.inTurn = true →
    s.pipe.turnStart + 200000 ≤ max s.now t → max s.now t < s.pipe.turnStart + 1500000 →
    s.cu.ckTurn ≠ some s.pipe.frame →
    Gives (.checkpointWriteStart t) s fun u => OnlyChanges [.cu] s u ∧
      u.cu.writing = some (1 - s.cu.lastSlot, s.pipe.frame) ∧
      (∃ n, n < 49152 ∧ u.cu.slot (1 - s.cu.lastSlot) = { s.checkpoint s.pipe.frame with length := n }) ∧
      (u.cu.slot (1 - s.cu.lastSlot)).good = false) ∧
  (∀ (s : State) (t : Nat), s.mainOn = true → s.unitActs = true → s.cu.writing = none → s.pipe.running = false →
    s.cu.ckAt + 40000000 ≤ max s.now t →
    Gives (.checkpointTimer t) s fun u => OnlyChanges [.cu] s u ∧
      u.cu.writing = some (1 - s.cu.lastSlot, 0xFFFFFFFF) ∧ u.cu.ckAt = max s.now t) ∧
  (∀ (s : State) (t k : Nat) (f : Word), k < 2 → s.mainOn = true → s.unitActs = true → s.cu.writing = some (k, f) →
    (max s.now t ≤ s.checkpointDue f →
      Gives (.checkpointWriteComplete t) s fun u => OnlyChanges [.cu] s u ∧ u.cu.writing = none ∧ u.cu.lastSlot = k ∧
        (u.cu.slot k).good = true ∧ u.cu.ckFrame = f ∧ u.cu.ckCount = sat32 s.cu.ckCount) ∧
    (s.checkpointDue f < max s.now t → Gives (.checkpointWriteComplete t) s fun u => OnlyChanges [.cu] s u ∧
      u.cu = { s.cu with writing := none, ckFailures := sat32 s.cu.ckFailures })) ∧
  (∀ (s : State) (t k : Nat) (f : Word), s.mainOn = true → s.cu.writing = some (k, f) → f ≠ 0xFFFFFFFF →
    s.pipe.turnStart + 1500000 ≤ max s.now t →
    Gives (.checkpointDeadline t) s fun u => OnlyChanges [.cu] s u ∧
      u.cu = { s.cu with writing := none, ckFailures := sat32 s.cu.ckFailures })

/-! ### Waveform capture, monitors, time and the event recorder (15 to 18) -/

/-- The commands of the WCU (15 R355 to R360) on a variant that has it: Arm, a trigger in circular and in segmented
mode, the post-fill and the segment record once their samples have passed, the re-arm, Stop, and the skew calibration
once its pulses have been injected, each from the state it needs. -/
def Obligations.CapturesRunThroughTheirStates : Prop :=
  ∀ (s : State) (t : Nat), s.mainOn = true → s.part.variant.hasRecorder = true →
    (s.unitActs = true → (s.wcu.state = .idle ∧ s.regN 0x500010 ≠ 0 ∨ s.wcu.state = .done) →
      Gives (.wcuArm t) s fun u => OnlyChanges [.wcu] s u ∧
      u.wcu.state = .armed ∧ u.wcu.set = s.wcuSettings ∧ u.wcu.armedAt = max s.now t ∧ u.wcu.records = [] ∧
      u.wcu.missed = 0 ∧ u.wcu.ignored = 0) ∧
    (s.wcu.state = .armed →
      let goes := fun (u : State) (source at64 : Nat) => OnlyChanges [.wcu] s u ∧
        u.wcu.state = (if s.wcu.set.mode = 0 then .postFill else .capturing) ∧ u.wcu.triggers = sat32 s.wcu.triggers ∧
        ∃ h, u.wcu.head = some h ∧ h.source = source ∧ h.at64 = at64 ∧ h.frame = s.pipe.frame
      (s.unitActs = true → s.wcu.lastTrig ≠ some (max s.now t) →
        Gives (.forceTrigger t 0x4654) s fun u => goes u 0x30 (64 * max s.now t)) ∧
      ∀ x source at64, (s.atTime t).triggerSource x = some (source, at64) → s.wcu.lastTrig ≠ some (at64 / 64) →
        Gives (.wcuTrigger t x) s fun u => goes u source at64) ∧
    (∀ (h : WcuHead) (samples : List (Nat × List WcuSample)), s.wcu.head = some h →
      (s.wcu.state = .postFill → h.past s.wcu.set.post (64 * max s.now t) = true →
        Gives (.postfillComplete t samples) s fun u => OnlyChanges [.wcu, .kpp, .evr] s u ∧
        u.wcu.state = .done ∧ u.wcu.head = none ∧ ∀ p, p < 16 → bitOf s.wcu.set.pairs p = true →
          ((mget u.wcu.records p).getD []).length = ((mget s.wcu.records p).getD []).length + 1) ∧
      (s.wcu.state = .capturing → h.past (s.wcu.set.segLen - s.wcu.set.segPre) (64 * max s.now t) = true →
        Gives (.segmentRecordComplete t samples) s fun u => OnlyChanges [.wcu] s u ∧
        u.wcu.state = .rearming ∧ ∀ p, p < 16 → bitOf s.wcu.set.pairs p = true →
          ((mget u.wcu.records p).getD []).length = ((mget s.wcu.records p).getD []).length + 1) ∧
      (s.wcu.state = .rearming → s.wcu.busyOver (64 * max s.now t) = true →
        Gives (.wcuRearm t) s fun u => OnlyChanges [.wcu, .kpp, .evr] s u ∧ u.wcu.head = none ∧
          u.wcu.records = s.wcu.records ∧
          u.wcu.state = if s.wcu.set.capacity ≤ s.wcu.recordsPerPair then .done else .armed)) ∧
    (s.unitActs = true → s.wcu.state = .armed → s.wcu.lastTrig ≠ some (max s.now t) →
      Gives (.wcuStop t) s fun u => OnlyChanges [.wcu] s u ∧
      u.wcu = { s.wcu with state := .done, head := none, stopped := true }) ∧
    (s.unitActs = true → s.wcu.state = .idle ∨ s.wcu.state = .done →
      Gives (.skewCalibrate t 0x5343) s fun u => OnlyChanges [.wcu] s u ∧ u.wcu = { s.wcu with
        state := .calibrating, calStatus := 1, head := none, calAt := max s.now t, calFrames := s.pipe.running }) ∧
    (s.wcu.state = .calibrating → (s.atTime t).skewPulsed = true → ∀ trims, Gives (.skewCalibrationComplete t trims) s fun u =>
      OnlyChanges [.wcu, .rwp, .kpp, .evr] s u ∧ u.wcu.state = .idle ∧
      (u.wcu.calStatus = 2 ∨ u.wcu.calStatus = 3) ∧
      (u.wcu.calStatus = 2 ↔ ∀ p, p < 16 → bitOf (s.regN 0x500010) p = true →
        ∃ x ∈ trims, x.1 = p ∧ trimOk x.2 = true))

/-- MON_CONVERSION, MUX_SETTLE_END, SEQUENCE_TRIGGER, SLOT_CONFIG_WRITE, VREF_EXT_CHECK and REFERENCE_SETTLE (16 R366
to R373): a slot's sample is taken while the reference is settled; a slot whose configuration stays keeps its samples;
a second trigger waits and the third is an overrun; the external reference settles after 64 good checks, 10 µs apart,
and is lost with one bad. -/
def Obligations.MonitorSlotsAndReferences : Prop :=
  (∀ (s : State) (t conv i vref : Nat) (uV : Int), s.mainOn = true → s.mon.settled = true → conv < 4 → i < 16 →
    (s.atTime t).inBurst conv = false → max s.mon.settledAt (s.mon.convAt.getD conv 0) + 200 ≤ max s.now t →
    s.nextSlot conv = some i → i < s.mon.slots.length →
    (s.mon.slots.getD i {}).taken + 1 < (s.slotCfg i).ratio → mcount s.mon.recovery (s.slotCfg i).input = 0 →
    let x := monSample (monInput (s.slotCfg i).input uV) (s.mon.vref vref)
    Gives (.monConversion t conv uV vref) s fun u => OnlyChanges [.mon] s u ∧
      (u.mon.slots.getD i {}).taken = (s.mon.slots.getD i {}).taken + 1 ∧
      (u.mon.slots.getD i {}).samples.head? = some x ∧
      (u.mon.slots.getD i {}).result = (s.mon.slots.getD i {}).result ∧
      u.mon.overRange = (if x.2 then sat32 s.mon.overRange else s.mon.overRange)) ∧
  (∀ (s : State) (t : Nat), s.mainOn = true → s.rfe.muxWait = true → s.rfe.muxAt + s.muxSettleNs ≤ max s.now t →
    Gives (.muxSettleEnd t) s fun u => OnlyChanges [.rfe, .mon] s u ∧ u.rfe = { s.rfe with muxWait := false }) ∧
  (∀ (s : State) (t : Nat), s.mainOn = true → s.unitActs = true → s.mon.seqRunning = true →
    (s.mon.seqQueued = false → Gives (.sequenceTrigger t 0x5351) s fun u => OnlyChanges [.mon] s u ∧
      u.mon = { s.mon with seqQueued := true }) ∧
    (s.mon.seqQueued = true → Gives (.sequenceTrigger t 0x5351) s fun u => OnlyChanges [.mon, .kpp, .evr] s u ∧
      u.mon = { s.mon with
        overruns := sat32 s.mon.overruns, seqOverrun := true, overrunAt := max s.now t
        overrunNow := (if s.mon.overrunAt = max s.now t then s.mon.overrunNow else 0) + 1 })) ∧
  (∀ (s : State) (t : Nat) (v : List Byte), s.mainOn = true → s.unitActs = true → s.mon.seqRunning = false → v.length = 128 →
    Gives (.slotConfigWrite t 0 v) s fun u => OnlyChanges [.rwp, .mon] s u ∧
      (∀ i, i < 128 → i % 8 ≠ 1 → (u.reg 0x540010).getD i 0 = v.getD i 0) ∧
      ∀ i, i < 16 → bytesAt (s.reg 0x540010) (8 * i) 8 = bytesAt (u.reg 0x540010) (8 * i) 8 →
        u.mon.slots.getD i {} = s.mon.slots.getD i {}) ∧
  (∀ (s : State) (t mV : Nat), s.mainOn = true → s.mon.select = 1 → (∀ x, s.mon.checkAt = some x → x + 10000 ≤ max s.now t) →
    (50 * (max mV (s.regN 0x540004) - min mV (s.regN 0x540004)) ≤ s.regN 0x540004 →
      Gives (.vrefExtCheck t mV) s fun u => OnlyChanges [.mon] s u ∧ u.mon.run = min 64 (s.mon.run + 1) ∧
        u.mon.settled = (s.mon.settled || decide (63 ≤ s.mon.run))) ∧
    (s.regN 0x540004 < 50 * (max mV (s.regN 0x540004) - min mV (s.regN 0x540004)) →
      Gives (.vrefExtCheck t mV) s fun u => OnlyChanges [.mon, .kpp, .evr] s u ∧ u.mon.run = 0 ∧
        u.mon.settled = false)) ∧
  (∀ (s : State) (t : Nat), s.mainOn = true → s.mon.select = 0 → s.emg.releasedAt + 1500000 ≤ max s.now t →
    Gives (.referenceSettle t) s fun u => OnlyChanges [.mon] s u ∧ u.mon.settled = true)

/-- SYNC_RECEIVE, FOLLOW_UP_RECEIVE, ANNOUNCE_RECEIVE, SYNC_RECEIPT_TIMEOUT and HOLDOVER_LIMIT (17 R386, R388) while a
unit serves: a two-step Sync of the domain waits for its Follow_Up, which is accepted and counted and takes Free to
Acquiring; which without asCapable stays Free with no correction; a missing one ends Acquiring in Free and Locked in
Holdover, and Holdover ends in Free with no correction. -/
def Obligations.SynchronisationStates : Prop :=
  (∀ (s : State) (t : Nat) (m : SyncMsg), s.mainOn = true → s.serving = true →
    (m.domain = s.domain → m.twoStep = true → Gives (.syncReceive t m) s fun u => OnlyChanges [.ntu] s u ∧
      u.ntu.sawSync = some (m.seqId, ((s.atTime t).clockNs : Int) - (s.regN 0x60000C : Nat),
        ((syncInterval m.logInterval : Nat) : Int))) ∧
    (m.domain ≠ s.domain ∨ m.twoStep = false → Gives (.syncReceive t m) s fun u => OnlyChanges [.ntu] s u ∧
      u.ntu.ignoredSyncs = sat32 s.ntu.ignoredSyncs ∧ u.ntu.sawSync = s.ntu.sawSync)) ∧
  (∀ (s : State) (t seq : Nat) (rx interval : Int) (m : FollowUpMsg), s.mainOn = true → s.serving = true →
    s.ntu.sawSync = some (seq, rx, interval) → m.domain = s.domain → m.seqId = seq →
    let offset := rx - (m.originNs + m.correctionNs + (s.ntu.linkDelay : Int))
    (s.ntu.sync = .free → s.ntu.asCapable = true → Gives (.followUpReceive t m) s fun u =>
      OnlyChanges [.ntu, .kpp, .evr] s u ∧ u.ntu.accepted = sat32 s.ntu.accepted ∧ u.ntu.sawSync = none ∧
      u.ntu.offset = sat32i offset ∧ u.ntu.sync = .acquiring ∧ u.ntu.integ = 0) ∧
    (s.ntu.sync = .free → s.ntu.asCapable = false → Gives (.followUpReceive t m) s fun u =>
      OnlyChanges [.ntu, .kpp, .evr] s u ∧ u.ntu.accepted = sat32 s.ntu.accepted ∧ u.ntu.sawSync = none ∧
      u.ntu.offset = sat32i offset ∧ u.ntu.sync = .free ∧ u.ntu.servo = 0 ∧
      ((offset.natAbs : Int) ≤ s.regN 0x60000D → u.ntu.clock = (s.atTime t).ntu.clock)) ∧
    (s.ntu.sync = .acquiring → s.ntu.goodRun = 7 → (offset.natAbs : Int) ≤ s.regN 0x60000E →
      (s.regN 0x60000D : Int) ≥ offset.natAbs → Gives (.followUpReceive t m) s fun u =>
      OnlyChanges [.ntu, .kpp, .evr] s u ∧ u.ntu.sync = .locked ∧ u.ntu.clock = (s.atTime t).ntu.clock)) ∧
  (∀ (s : State) (t : Nat) (gm : BitVec 64), s.mainOn = true → s.serving = true →
    Gives (.announceReceive t s.domain gm) s fun u => OnlyChanges [.ntu] s u ∧ u.ntu = { (s.atTime t).ntu with gm }) ∧
  (∀ (s : State) (t : Nat), s.mainOn = true → s.ntu.lastSyncAt + 3 * s.ntu.intervalNs ≤ max s.now t →
    (s.ntu.sync = .acquiring → Gives (.syncReceiptTimeout t) s fun u => OnlyChanges [.ntu, .kpp, .evr] s u ∧
      u.ntu.sync = .free ∧ u.ntu.servo = 0) ∧
    (s.ntu.sync = .locked → Gives (.syncReceiptTimeout t) s fun u => OnlyChanges [.ntu, .kpp, .evr] s u ∧
      u.ntu.sync = .holdover ∧ u.ntu.servo = s.ntu.servo ∧ u.ntu.holdoverAt = max s.now t)) ∧
  (∀ (s : State) (t : Nat), s.mainOn = true → s.ntu.sync = .holdover →
    s.ntu.holdoverAt + 1000000 * s.regN 0x60000F ≤ max s.now t →
    Gives (.holdoverLimit t) s fun u => OnlyChanges [.ntu, .kpp, .evr] s u ∧ u.ntu.sync = .free ∧ u.ntu.servo = 0)

/-- PDELAY_REQ_SEND, PDELAY_REQ_RECEIVE and PDELAY_RESP_RECEIVE (17 R386; the exchange itself is presumed, log 62): a
request leaves with its time, a second after the last and not before, one received is answered twice, and an answer
within the delay limit makes the port capable. LOCAL_TIME_SET in Free, with no first Sync of the same instant waiting
(17 R397), TSIN_EDGE, and FMEAS_GATE_END once a gate has run (17 R385, R390, R391). -/
def Obligations.PeerDelayAndClocks : Prop :=
  ((∀ (s : State) (t : Nat), s.mainOn = true → s.serving = true → s.ntu.pdelayDue (max s.now t) = true →
     s.ntu.reqAt = none → s.ntu.lostResp ≤ 9 → Gives (.pdelayReqSend t) s fun u => OnlyChanges [.ntu] s u ∧
       u.ntu.sentAt = some (max s.now t) ∧
       u.ntu.reqSeq = (s.ntu.reqSeq + 1) % 65536 ∧ u.ntu.reqAt = some (s.atTime t).txStamp ∧
       u.out = [.gptp 0 ((s.ntu.reqSeq + 1) % 65536) (s.atTime t).txStamp]) ∧
   (∀ (s : State) (t a : Nat), s.mainOn = true → s.ntu.sentAt = some a → max s.now t < a + 1000000000 →
     Gives (.pdelayReqSend t) s fun u => OnlyChanges [] s u ∧ u.out = []) ∧
   (∀ (s : State) (t seqId : Nat), s.mainOn = true → s.serving = true →
     Gives (.pdelayReqReceive t seqId) s fun u => OnlyChanges [.ntu] s u ∧ u.ntu = (s.atTime t).ntu ∧
       u.out = [.gptp 1 seqId (s.atTime t).rxStamp, .gptp 2 seqId (s.atTime t).txStamp]) ∧
   (∀ (s : State) (t : Nat) (t1 peerRx peerTx : Int), s.mainOn = true → s.serving = true → s.ntu.reqAt = some t1 →
     s.ntu.prevPeer = none →
     let delay := max 0 (((s.atTime t).rxStamp - t1 - (peerTx - peerRx)) / 2)
     Gives (.pdelayRespReceive t s.ntu.reqSeq peerRx peerTx) s fun u => OnlyChanges [.ntu, .kpp, .evr] s u ∧
       u.ntu.reqAt = none ∧ u.ntu.lostResp = 0 ∧ u.ntu.linkDelay = min 0xFFFFFFFF delay.toNat ∧
       (delay ≤ 800 → u.ntu.asCapable = true ∧ u.ntu.sync = s.ntu.sync) ∧
       (800 < delay → u.ntu.asCapable = false ∧ u.ntu.sync ≠ .locked))) ∧
  ((∀ (s : State) (t : Nat) (v : List Byte), s.mainOn = true → s.unitActs = true → s.ntu.sync = .free →
     (s.atTime t).syncWaits = false → uAt v 6 4 < 1000000000 →
     Gives (.localTimeSet t v) s fun u => OnlyChanges [.ntu, .kpp, .evr] s u ∧
       u.localTime = { sec := uAt v 0 6, ns := uAt v 6 4 } ∧ u.ntu.steps = sat32 s.ntu.steps ∧
       ∀ m ∈ u.ntu.fmeas, m.valid = false) ∧
   (∀ (s : State) (t : Nat) (v : List Byte), s.mainOn = true → s.ntu.sync ≠ .free →
     Gives (.localTimeSet t v) s fun u => OnlyChanges [.ntu] s u ∧ u.ntu = (s.atTime t).ntu) ∧
   (∀ (s : State) (t input : Nat) (falling : Bool) (x : Tsin), s.mainOn = true → input < 8 →
     s.ntu.tsins[input]? = some x → s.tsinEnabled input falling = true → x.lastAt = none →
     (x.fifo.length < 32 → Gives (.tsinEdge t input falling) s fun u => OnlyChanges [.ntu, .mon, .wcu, .kpp, .evr] s u ∧
       u.ntu.tsins = s.ntu.tsins.set input
         { x with fifo := x.fifo ++ [((s.atTime t).localTime, falling)], lastAt := some (max s.now t) }) ∧
     (32 ≤ x.fifo.length → Gives (.tsinEdge t input falling) s fun u => OnlyChanges [.ntu, .mon, .wcu, .kpp, .evr] s u ∧
       u.ntu.tsins = s.ntu.tsins.set input { x with lost := sat32 x.lost, lastAt := some (max s.now t) })) ∧
   (∀ (s : State) (t input n p g : Nat), s.mainOn = true → input < 4 → s.fmeasCfg input = (true, p, g) →
     let old := s.ntu.fmeas.getD input {}
     let gates := (s.atTime t).gatesRun old g
     (gates = 0 → Gives (.fmeasGateEnd t input n) s fun u => OnlyChanges [] s u) ∧
     (gates ≠ 0 → Gives (.fmeasGateEnd t input n) s fun u => OnlyChanges [.ntu] s u ∧ u.ntu.fmeas = s.ntu.fmeas.set input
       { since := (old.since + 1000000 * g * gates) % (2 ^ 48 * 1000000000), valid := true
         overRange := decide (400000000 * g < n * 1000), count := n, mHz := n * 2 ^ p * 1000000 / g })))

/-- RECORDER_TRIGGER and RING_UNIT_WRITE (18 R400, R404, R405): a trigger of an enabled source with no incident open
starts one, numbered next; with four queued it is lost and counted; a unit goes into the segment being filled, its
bytes into the memory there and into no other byte, and into the open incident. -/
def Obligations.TriggersAndTheRing : Prop :=
  (∀ (s : State) (t : Nat), s.mainOn = true → s.unitActs = true → s.part.variant.hasRecorder = true → s.evr.armed = true →
    bitOf (s.regN 0x640007) 0 = true → s.evr.trigAt ≠ some (max s.now t) → s.evr.openIncident (max s.now t) = none →
    (s.evr.queued < 4 → Gives (.recorderTrigger t 0x5452) s fun u => OnlyChanges [.evr, .kpp] s u ∧
      u.evr.last = s.evr.last + 1 ∧ ∃ i, u.evr.incidents = s.evr.incidents ++ [i] ∧ i.number = s.evr.last + 1 ∧
        i.source = 0 ∧ i.opened = true ∧ i.trigFrame = s.pipe.frame ∧
        i.endFrame = s.pipe.frame + BitVec.ofNat 32 (planN s.plan 0x640006)) ∧
    (4 ≤ s.evr.queued → Gives (.recorderTrigger t 0x5452) s fun u => OnlyChanges [.evr, .kpp] s u ∧
      u.evr.incidents = s.evr.incidents ∧ u.evr.lostTriggers = sat32 s.evr.lostTriggers)) ∧
  (∀ (s : State) (t seg : Nat) (x : RingUnit) (rest : List RingUnit), s.mainOn = true →
    s.part.variant.hasRecorder = true → s.evr.feed = x :: rest → x.last = false → s.evr.place x.size = some seg →
    seg = s.evr.segment → x.bytes ≠ [] → MemoryCanonical s → s.mcx.ready = true → s.mcx.remap = [] →
    let base := segmentBase seg + s.evr.segFill
    (∀ i, i < x.size → s.mcx.isWritten ((base + i) / 4096) = true) →
    Gives (.ringUnitWrite t) s fun u => OnlyChanges [.evr, .mcx, .kpp] s u ∧ u.evr.feed = rest ∧
      u.evr.ring = s.evr.ring ++ [{ x with seg }] ∧ u.evr.segFill = s.evr.segFill + x.size ∧
      u.evr.incidents = s.evr.incidents.map (fun i => i.take { x with seg }) ∧
      (∀ i, i < x.size → memGet u.mcx.data (base + i) = x.bytes.getD i 0) ∧
      ∀ a, (∀ i, i < x.size → a ≠ base + i) → memGet u.mcx.data a = memGet s.mcx.data a)

/-- PAGE_PROGRAM_COMPLETE, BLOCK_ERASE_COMPLETE, INCIDENT_STORED and JOURNAL_REPLAY (18 R407, R413, R416): a page that
passed counts into its incident; a block that failed its program or its erase is retired; an incident whose bytes are
all written is stored with its commit entry; the replay of a whole journal with every incident committed changes no
incident. -/
def Obligations.IncidentsAreWrittenAndRecovered : Prop :=
  (∀ (s : State) (t n k : Nat) (i : Incident), s.mainOn = true → s.part.variant.hasRecorder = true →
    s.evr.writing = some i → s.evr.pageSize i = some n → s.evr.pageMayEnd i n (max s.now t) = true →
    i.blocks[i.written / max 1 s.evr.bytesPerBlock]? = some k → (s.evr.incidents.map Incident.number).Nodup →
    (Gives (.pageProgramComplete t true) s fun u => OnlyChanges [.evr] s u ∧ u.evr.blocks = s.evr.blocks ∧
      ∃ j ∈ u.evr.incidents, j.number = i.number ∧ j.written = i.written + n ∧ j.blocks = i.blocks) ∧
    (Gives (.pageProgramComplete t false) s fun u => OnlyChanges [.evr, .kpp] s u ∧ (u.evr.block k).bad = true ∧
      u.evr.grownBad = sat32 s.evr.grownBad ∧ ∃ j ∈ u.evr.incidents, j.number = i.number ∧ k ∉ j.blocks)) ∧
  (∀ (s : State) (t target b : Nat), s.mainOn = true → s.part.variant.hasRecorder = true →
    s.evr.interlock = false → (s.evr.block (blockKey target b)).erasing = true →
    (Gives (.blockEraseComplete t target b true) s fun u => OnlyChanges [.evr] s u ∧
      u.evr.block (blockKey target b) = { s.evr.block (blockKey target b) with
        erases := (s.evr.block (blockKey target b)).erases + 1, erasing := false, free := true }) ∧
    (Gives (.blockEraseComplete t target b false) s fun u => OnlyChanges [.evr, .kpp] s u ∧
      (u.evr.block (blockKey target b)).bad = true ∧ (u.evr.block (blockKey target b)).free = false)) ∧
  (∀ (s : State) (t : Nat) (i : Incident), s.mainOn = true → s.unitActs = true → s.part.variant.hasRecorder = true →
    s.evr.writing = some i → i.opened = false → s.evr.interlock = false →
    s.evr.replayed = true → i.bytes ≤ i.written → s.evr.used ≠ 0 →
    Gives (.incidentStored t) s fun u => OnlyChanges [.evr, .mram, .fw, .kpp] s u ∧
      u.evr.journal = s.evr.journal ++ [.commit i.number] ∧
      ∃ j ∈ u.evr.incidents, j.number = i.number ∧ j.state = .stored ∧ j.segs = [] ∧ j.signature.length = 5076) ∧
  (∀ (s : State) (t : Nat), s.mainOn = true → s.part.variant.hasRecorder = true →
    s.evr.identified = true → s.evr.replayed = false → s.evr.journal.length ≤ s.evr.entriesGood →
    (∀ i ∈ s.evr.incidents, i.state ≠ .queued ∧ s.evr.journal.contains (.commit i.number) = true) →
    Gives (.journalReplay t) s fun u => OnlyChanges [.evr, .mram, .fw, .kpp] s u ∧
      u.evr = { s.evr with replayed := true })

/-- FLASH_IDENTIFY, REFRESH_READ, WEAR_LEVEL_MOVE, INCIDENT_PROTECT, INCIDENT_UNPROTECT, INCIDENT_DELETE and
FLASH_FORMAT (18 R407, R410, R412 to R415, R421): no target is used at a wrong VNAND; correction counts add up; an
incident changes or goes only under its own number, and never while protected; a format with every incident stored
empties the directory. -/
def Obligations.FlashUpkeep : Prop :=
  ∀ (s : State) (t : Nat), s.mainOn = true → s.unitActs = true → s.part.variant.hasRecorder = true →
    (∀ (mV : Nat) (targets : List FlashTarget), s.evr.identified = false → outside mV 1164 1236 = true → outside mV 1746 1854 = true →
      Gives (.flashIdentify t mV targets) s fun u => OnlyChanges [.evr, .kpp] s u ∧ u.evr.used = 0 ∧ u.evr.iface = 0) ∧
    (∀ (target b n : Nat) (fixed : List Nat) (i : Incident), s.evr.owner (blockKey target b) = some i →
      s.evr.writing = none → s.evr.refreshDue (max s.now t) = true → s.evr.nextBlock = none → Gives (.refreshRead t target b fixed n) s fun u =>
        OnlyChanges [.evr] s u ∧ u.evr.uncorrectable = sat32 s.evr.uncorrectable n ∧
        u.evr.corrected = wrap64 s.evr.corrected (count (fun n => n != 0) fixed)) ∧
    (s.evr.spread ≤ 1000 → Gives (.wearLevelMove t) s fun u => OnlyChanges [] s u) ∧
    (∀ (old new : Nat) (i : Incident), 1000 < s.evr.spread → s.evr.writing = none → s.evr.interlock = false →
      leastBy (fun k => (s.evr.block k).erases)
        (s.evr.dataBlocks.filter fun k => ((s.evr.owner k).map Incident.settled).getD false) = some old →
      leastBy (fun k => maxOf (s.evr.freeBlocks.map fun x => (s.evr.block x).erases) - (s.evr.block k).erases)
        s.evr.freeBlocks = some new → s.evr.owner old = some i → old ≠ new →
      Gives (.wearLevelMove t) s fun u => OnlyChanges [.evr] s u ∧ (u.evr.block old).erasing = true ∧
        (u.evr.block new).free = false ∧ u.evr.journal = s.evr.journal ++ [.allocate i.number new]) ∧
    (∀ n : BitVec 31, (Gives (.incidentProtect t n) s fun u => OnlyChanges [.evr] s u ∧ u.evr.incidents =
        s.evr.incidents.map fun i => if i.number = n.toNat then { i with isProtected := true } else i) ∧
      (Gives (.incidentUnprotect t n) s fun u => OnlyChanges [.evr] s u ∧ u.evr.incidents =
        s.evr.incidents.map fun i => if i.number = n.toNat then { i with isProtected := false } else i)) ∧
    (∀ n : Word, (∀ i ∈ s.evr.incidents, i.number = n.toNat → i.settled = true → i.isProtected = false →
        Gives (.incidentDelete t n) s fun u => OnlyChanges [.evr] s u ∧
          u.evr.incidents = s.evr.incidents.filter fun x => x.number != n.toNat) ∧
      ((∀ i ∈ s.evr.incidents, i.number = n.toNat → i.isProtected = true) →
        Gives (.incidentDelete t n) s fun u => OnlyChanges [] s u)) ∧
    ((∀ i ∈ s.evr.incidents, i.state = .stored) → s.evr.used ≠ 0 → s.evr.interlock = false →
      Gives (.flashFormat t 0x464D) s fun u => OnlyChanges [.evr] s u ∧ u.evr.incidents = [] ∧ u.evr.last = 0 ∧
        u.evr.journal = [])

/-! ### The Spring, firmware and calibration (19 to 21) -/

/-- POWER_ON, RAIL_SAMPLE, RAIL_CONFIRM_TIMEOUT, RAIL_RESTART_DELAY and VSYS_UNDERVOLTAGE (19 R430, R432, R433): a
rail in its window for the fifth time in a row, 100 µs apart, is confirmed and the next one follows; one not confirmed
20 ms after its enable is a fault that powers everything down, to a restart after 100 ms, or to FaultHold at the
fourth within 60 s; a VSYS too low powers everything down at once. -/
def Obligations.RailsAreSequencedAndSupervised : Prop :=
  (∀ (s : State) (t : Nat) (x : Bool), Gives (.powerOn t x) s fun u => u.pending = s.pending ∧ u.spring.state = .sleep ∧
    u.spring.powerWake = true ∧ u.spring.pmicEn = 0 ∧ u.emg.state = .tripped ∧ u.emg.emitEn = false ∧
    u.mram.params = s.mram.params ∧ u.part = s.part) ∧
  (∀ (s : State) (t mV : Nat) (pg : Bool), s.spring.state = .sequencing → s.spring.restartWait = false →
    s.spring.vsysWait = false → s.spring.rail < 5 → s.spring.sampleDue (max s.now t) = true →
    let w := railWindow (railChannels.getD s.spring.rail 6)
    (outside mV w.1 w.2 = true → Gives (.railSample t mV pg) s fun u => OnlyChanges [.spring] s u ∧
      u.spring = { s.spring with railRun := 0, sampleAt := some (max s.now t) }) ∧
    (outside mV w.1 w.2 = false → s.spring.railRun < 4 → Gives (.railSample t mV pg) s fun u =>
      OnlyChanges [.spring] s u ∧
      u.spring = { s.spring with railRun := s.spring.railRun + 1, sampleAt := some (max s.now t) }) ∧
    (outside mV w.1 w.2 = false → s.spring.railRun = 4 → Gives (.railSample t mV pg) s fun u =>
      OnlyChanges [.spring] s u ∧ u.spring.rail = s.spring.rail + 1 ∧ u.spring.railRun = 0 ∧
      u.spring.railAt = max s.now t ∧ u.spring.state = .sequencing)) ∧
  (∀ (s : State) (t : Nat), s.spring.state = .sequencing → s.spring.restartWait = false →
    s.spring.vsysWait = false → s.spring.rail < 5 →
    (s.spring.railAt + 20000000 ≤ max s.now t → Gives (.railConfirmTimeout t) s fun u =>
      u.spring.pmicEn = 0 ∧ u.spring.railFaults = sat32 s.spring.railFaults ∧ u.emg.state = .tripped ∧
      u.spring.faultTimes = faultWindow s.spring.faultTimes (max s.now t) ∧
      if 4 ≤ (faultWindow s.spring.faultTimes (max s.now t)).length then u.spring.state = .faultHold
      else u.spring.state = .sequencing ∧ u.spring.restartWait = true ∧ u.spring.railAt = max s.now t)) ∧
  (∀ (s : State) (t : Nat), s.spring.restartWait = true → s.spring.railAt + 100000000 ≤ max s.now t →
    Gives (.railRestartDelay t) s fun u => OnlyChanges [.spring] s u ∧ u.spring.state = .sequencing ∧ u.spring.rail = 0 ∧
      u.spring.pmicEn = 1 ∧ u.spring.restartWait = false) ∧
  (∀ (s : State) (t : Nat), s.mainOn = true → Gives (.vsysUndervoltage t) s fun u => u.spring.state = .sequencing ∧
    u.spring.vsysWait = true ∧ u.spring.pmicEn = 0 ∧ u.spring.nextCause = 6 ∧ u.mainOn = false ∧
    u.emg.state = .tripped ∧ u.emg.emitEn = false)

/-- SPRING_ROUND, CAN_WAKE_PATTERN, WAKE_TIMER_EXPIRY, SLEEP_COMMAND, RESET_COMMAND, SHUTDOWN_STEP_COMPLETE and
RESET_RELEASE (19 R424, R428, R429, R435, R437): every round counts; a shutdown begins with the interlock and goes
step by step, each complete or at its limit, its last one dropping the enables in turn, to Sleep or to a restart; the release starts the main domain Tripped,
from the stored values, with the straps of a power-on. -/
def Obligations.SleepResetAndRelease : Prop :=
  (∀ (s : State) (t : Nat) (r : RoundIn), s.spring.state = .faultHold → s.spring.faultLow = 0 →
    s.spring.roundDue (max s.now t) = true →
    Gives (.springRound t r) s fun u => u.spring.rounds = s.spring.rounds + 1 ∧ u.spring.state = .faultHold ∧
      u.part = s.part) ∧
  (∀ (s : State) (t : Nat), Gives (.canWakePattern t) s fun u => OnlyChanges [.spring] s u ∧
    u.spring = { s.spring with canWake := true }) ∧
  (∀ (s : State) (t : Nat), s.spring.state = .sleep → s.regN 0x680023 ≠ 0 →
    s.spring.sleepAt + 1000000000 * s.regN 0x680023 ≤ max s.now t →
    Gives (.wakeTimerExpiry t) s fun u => OnlyChanges [.spring] s u ∧ u.spring = { s.spring with timerWake := true }) ∧
  (∀ (s : State) (t : Nat), s.mainOn = true → s.unitActs = true → s.spring.state = .running →
    (Gives (.sleepCommand t 0x534C) s fun u => OnlyChanges [.spring, .emg, .kpp, .evr] s u ∧
      u.spring.state = .shuttingDown ∧ u.spring.shutStep = 1 ∧ u.spring.shutTo = 0 ∧ u.spring.interlock = true) ∧
    (Gives (.resetCommand t 0x5258) s fun u => OnlyChanges [.spring, .emg, .kpp, .evr] s u ∧
      u.spring.state = .shuttingDown ∧ u.spring.shutStep = 1 ∧ u.spring.shutTo = 2 ∧ u.spring.interlock = true)) ∧
  (∀ (s : State) (t : Nat), s.spring.state = .shuttingDown →
    ((s.atTime t).shutdownStepOver = false → Gives (.shutdownStepComplete t) s fun u => OnlyChanges [] s u) ∧
    (s.spring.shutStep < 6 → (s.atTime t).shutdownStepOver = true →
      Gives (.shutdownStepComplete t) s fun u => u.spring.state = .shuttingDown ∧
      u.spring.shutStep = s.spring.shutStep + 1 ∧ (s.spring.shutStep = 4 → u.emg.state = .tripped ∧ u.rwp = [])) ∧
    (s.spring.shutStep = 6 → s.spring.pmicEn ≠ 0 → Gives (.shutdownStepComplete t) s fun u => OnlyChanges [.spring] s u ∧
      u.spring = { s.spring with pmicEn := s.spring.pmicEn / 2, shutAt := max s.now t }) ∧
    (s.spring.shutStep = 6 → s.spring.pmicEn = 0 → s.thermal.shutdown = false → s.spring.shutTo = 0 →
      Gives (.shutdownStepComplete t) s fun u => OnlyChanges [.spring] s u ∧ u.spring.state = .sleep ∧
        u.spring.sleepAt = max s.now t) ∧
    (s.spring.shutStep = 6 → s.spring.pmicEn = 0 → s.thermal.shutdown = false → s.spring.shutTo = 2 →
      Gives (.shutdownStepComplete t) s fun u => OnlyChanges [.spring] s u ∧ u.spring.state = .sequencing ∧
        u.spring.rail = 0 ∧ u.spring.nextCause = 5)) ∧
  (∀ (s : State) (t : Nat) (strap : BitVec 9) (safe : Bool), s.spring.state = .sequencing →
    s.spring.restartWait = false → s.spring.vsysWait = false → s.spring.rail = 5 → s.spring.powerGood = true →
    s.spring.railAt + 500000 ≤ max s.now t →
    Gives (.resetRelease t strap safe) s fun u => u.spring.state = .running ∧ u.spring.cause = s.spring.nextCause ∧
      u.rwp = s.storedRwp ∧ u.emg.state = .tripped ∧ u.emg.emitEn = false ∧ u.emg.releasedAt = max s.now t ∧
      u.txn = {} ∧ u.pipe = {} ∧ u.mcx = {} ∧
      u.cu = { ({} : Cu) with a := { ({} : Cu).a with lastHeartbeat := max s.now t }
                              b := { ({} : Cu).b with lastHeartbeat := max s.now t } } ∧
      (s.spring.nextCause = 1 → u.part.strap = strap.toNat ∧ u.emg.source = safe) ∧
      (s.spring.nextCause ≠ 1 → u.part.strap = s.part.strap ∧ u.part.device = s.part.device ∧
        u.emg.source = s.emg.source))

/-- VERIFY_IMAGE, PROGRAM_IMAGE, ACTIVATE_TRIAL, CONFIRM_IMAGE and UPDATE_COMPLETE (20 R445, R448): one command runs
at a time, and one written meanwhile changes nothing; a confirmation is allowed in Trial and Fallback alone;
programming answers by the code of the image and fills or empties the slot that does not run, and touches no boot
record. -/
def Obligations.UpdatesChangeOnlyTheOtherSlot : Prop :=
  (∀ (s : State) (t : Nat), s.mainOn = true → s.unitActs = true →
    let begins := fun (j : UpdateJob) (u : State) => OnlyChanges [.fw] s u ∧
      u.fw = { s.fw with job := some j, jobImage := s.reg 0x700010, update := 1 }
    (s.fw.update ≠ 1 → Gives (.verifyImage t) s (begins .verify) ∧ Gives (.programImage t) s (begins .program) ∧
      Gives (.activateTrial t) s (begins .trial)) ∧
    (s.fw.update = 1 → Gives (.verifyImage t) s (fun u => OnlyChanges [] s u) ∧
      Gives (.programImage t) s (fun u => OnlyChanges [] s u) ∧ Gives (.activateTrial t) s fun u => OnlyChanges [] s u)) ∧
  (∀ (s : State) (t : Nat), s.mainOn = true → s.unitActs = true → s.fw.update ≠ 1 →
    (s.fw.imageState ≠ 0 → Gives (.confirmImage t) s fun u => OnlyChanges [.fw] s u ∧ u.fw.update = 2 ∧
      u.fw.imageState = 0 ∧ u.fw.running = s.fw.running ∧ u.fw.programmed = s.fw.programmed) ∧
    (s.fw.imageState = 0 → Gives (.confirmImage t) s fun u => OnlyChanges [.fw] s u ∧
      u.fw = { s.fw with update := 5 })) ∧
  (∀ (s : State) (t : Nat) (image : ImageSlot) (ok : Bool), s.mainOn = true → s.unitActs = true → s.fw.job = some .program →
    let code := imageCode (imageOf s.fw.vendorHash s.fw.jobImage image) s.fw.fuse
    Gives (.updateComplete t image ok) s fun u => OnlyChanges [.fw] s u ∧ u.fw.job = none ∧
      u.fw.running = s.fw.running ∧ u.fw.boot0 = s.fw.boot0 ∧ u.fw.boot1 = s.fw.boot1 ∧
      u.fw.update = (if code ≠ 0 then 3 else if ok then 2 else 4) ∧
      u.fw.programmed = (if code ≠ 0 then s.fw.programmed
        else if ok then mset s.fw.programmed (1 - s.fw.running) s.fw.jobImage
        else mdel s.fw.programmed (1 - s.fw.running)))

/-- A boot record written is the one in force afterwards, with the values given (20 R446). FIRMWARE_LOAD after the
first of a reset reads the running slot alone, and with a flash that has no valid SFDP none, so that no unit boots (20
R443); FUSE_ADVANCE only raises the fuse count, to at most the running image's
security version (20 R447, R449). -/
def Obligations.BootRecordsLoadsAndFuses : Prop :=
  (∀ (f : Firmware) (preferred trial : Nat),
     (f.writeRecord preferred trial).record.1.preferred = preferred ∧ (f.writeRecord preferred trial).record.1.trial = trial ∧
     (f.writeRecord preferred trial).programmed = f.programmed) ∧
  ((∀ (s : State) (t n : Nat) (flash : NorFlash) (a b : ImageSlot), n < 2 → flash.sfdp = true → s.mainOn = true →
     (s.cu.unit n).state = .loading →
     (s.cu.unit n).reload = false → s.fw.chosen = true → s.fw.noImage = false → s.fw.running = 0 → mget s.fw.programmed 0 = none →
     Gives (.firmwareLoad t n flash (a, b)) s fun u => OnlyChanges [.cu, .fw, .kpp, .evr] s u ∧
       u.fw.nor = norMode flash ∧ (imageCode a s.fw.fuse = 0 → (u.cu.unit n).state = .ready) ∧
       (imageCode a s.fw.fuse ≠ 0 → (u.cu.unit n).state = .loading) ∧ u.fw.running = 0 ∧ u.fw.boot0 = s.fw.boot0 ∧
       (s.fw.slotStatus.length = 16 → uAt u.fw.slotStatus 0 1 = imageCode a s.fw.fuse)) ∧
   (∀ (s : State) (t n : Nat) (flash : NorFlash) (a b : ImageSlot), n < 2 → flash.sfdp = false → s.mainOn = true →
     (s.cu.unit n).state = .loading →
     Gives (.firmwareLoad t n flash (a, b)) s fun u => OnlyChanges [.cu, .fw, .kpp, .evr] s u ∧ u.fw.nor = none ∧
       (u.cu.unit n).state = .loading ∧ u.fw.slotStatus = s.fw.slotStatus ∧ (s.fw.chosen = false → u.fw.noImage = true)) ∧
   (∀ (s : State) (t : Nat) (v : Word), s.mainOn = true → s.unitActs = true →
     Gives (.fuseAdvance t v) s fun u => OnlyChanges [.fw] s u ∧ u.fw = { s.fw with fuse := u.fw.fuse } ∧
       s.fw.fuse ≤ u.fw.fuse ∧ (u.fw.fuse = s.fw.fuse ∨ u.fw.fuse ≤ s.fw.security) ∧
       (s.fw.imageState = 0 → 0x464100 ≤ v.toNat → s.fw.fuse < v.toNat - 0x464100 → v.toNat - 0x464100 ≤ s.fw.security →
         v.toNat - 0x464100 ≤ 64 → u.fw.fuse = v.toNat - 0x464100)))

/-- ATTEST_REQUEST and ATTEST_COMPLETE (20 R450 to R452): a request waits, or fails with no signature left; the
evidence is its record of 128 bytes and the signature of 5,076; each signature takes a new index, reserved in MRAM
before it is used. -/
def Obligations.NoSignatureIndexIsUsedTwice : Prop :=
  (∀ (s : State) (t : Nat), s.mainOn = true → s.unitActs = true → s.fw.attest ≠ 1 →
    (s.fw.nextIndex < 1048576 → Gives (.attestRequest t 0x4154) s fun u => OnlyChanges [.fw] s u ∧
      u.fw = { s.fw with attest := 1 }) ∧
    (1048576 ≤ s.fw.nextIndex → Gives (.attestRequest t 0x4154) s fun u => OnlyChanges [.fw, .kpp, .evr] s u ∧
      u.fw.attest = 3 ∧ u.fw.evidence = [] ∧ u.fw.nextIndex = s.fw.nextIndex)) ∧
  (∀ (s : State) (t : Nat), s.mainOn = true → s.unitActs = true → s.fw.attest = 1 → s.fw.nextIndex < 1048576 →
    s.fw.nextIndex ≤ s.signatureLimit →
    Gives (.attestComplete t) s fun u => OnlyChanges [.fw, .mram, .kpp, .evr] s u ∧ u.fw.attest = 2 ∧
      u.fw.nextIndex = s.fw.nextIndex + 1 ∧ u.fw.nextIndex ≤ u.signatureLimit ∧ s.signatureLimit ≤ u.signatureLimit ∧
      u.fw.evidence.length = 5204)

/-- The commands of the calibration (21 R456 to R463): the boot calibration serves every group once; CalibrateNow
makes every group due; a drift step, once in a turnaround or by its timer while no frames run, serves the
lowest-numbered due group alone; the delay measurement starts on its key and counts its bursts, one in a turnaround. -/
def Obligations.CalibrationsServeTheirGroups : Prop :=
  (∀ (s : State) (t : Nat) (m : CalMeas), s.mainOn = true → s.unitActs = true → s.mcx.bootFill = true →
    s.cal.bootRan = false → Gives (.bootCalibration t m) s fun u => OnlyChanges [.cal, .mram, .kpp, .evr] s u ∧ u.cal.bootRan = true ∧
      u.cal.count = sat32 s.cal.count ∧ (∀ g, g < 32 → g < s.cal.times.length → u.cal.times.getD g 0 = max s.now t) ∧
      u.cal.bootNoRef = (s.calReference m == 2)) ∧
  (∀ (s : State) (t : Nat), s.mainOn = true → s.unitActs = true →
    Gives (.calibrateNow t 0x4341) s fun u => OnlyChanges [.cal] s u ∧
    u.cal = { s.cal with forced := List.range 32 }) ∧
  (∀ (s : State) (t g : Nat) (m : CalMeas), s.mainOn = true → s.unitActs = true →
    (List.range 32).find? (s.atTime t).calDue = some g → s.calReference m ≠ 2 →
    let served := fun (u : State) => OnlyChanges [.cal, .mram, .kpp, .evr] s u ∧ u.cal.count = sat32 s.cal.count ∧
      u.cal.stepAt = max s.now t ∧ g ∉ u.cal.forced ∧ (∀ k, k ≠ g → u.cal.times.getD k 0 = s.cal.times.getD k 0) ∧
      (g < s.cal.times.length → u.cal.times.getD g 0 = max s.now t)
    (s.pipe.inTurn = true → s.pipe.turnStart + 1750000 ≤ max s.now t → max s.now t ≤ s.pipe.turnStart + 1850000 →
      s.cal.stepAt < s.pipe.turnStart → Gives (.driftCalibrationStep t m) s served) ∧
    (s.pipe.running = false → s.cal.stepAt + 40000000 ≤ max s.now t → Gives (.driftCalibrationTimer t m) s served)) ∧
  (∀ (s : State) (t : Nat), s.mainOn = true → s.unitActs = true → s.cal.skewStatus ≠ 1 →
    Gives (.skewMeasure t 0x534B) s fun u => OnlyChanges [.cal] s u ∧
      u.cal = { s.cal with skewStatus := 1, skewBurst := 0, strobe := [0, 0, 0, 0], sums := [] }) ∧
  (∀ (s : State) (t : Nat) (x : Int) (times : List (Nat × Nat × Int)), s.mainOn = true → s.unitActs = true →
    s.pipe.inTurn = true → s.pipe.turnStart + 664000 ≤ max s.now t → s.cal.skewAt < s.pipe.turnStart →
    s.cal.skewStatus = 1 → s.cal.skewBurst < 15 → Gives (.skewMeasureBurst t x times) s fun u => OnlyChanges [.cal, .rfe] s u ∧
      u.cal.skewBurst = s.cal.skewBurst + 1 ∧ u.cal.skewAt = max s.now t ∧ u.cal.skewStatus = 1 ∧
      u.reg 0x3C0020 = s.reg 0x3C0020 ∧
      u.rfe = { s.rfe with chans := s.rfe.chans.map fun c => { c with fb := s.cal.skewBurst / 4 } })
end

