-- ==== Sys2Proof/Laws/Exec.lean ====
section
/-!
SUPPORT. Each arm of `exec` as the meaning of its command.
-/

namespace Sys2Proof.Machine

theorem exec_kppRead (s : State) {t} {ep} {m} : exec (.kppRead t ep m) s = execKppRead t ep m s := rfl
theorem exec_kppWrite (s : State) {t} {ep} {m} : exec (.kppWrite t ep m) s = execKppWrite t ep m s := rfl
theorem exec_kppReadStaged (s : State) {t} {ep} {m} : exec (.kppReadStaged t ep m) s = execKppReadStaged t ep m s := rfl
theorem exec_kppBegin (s : State) {t} {ep} {m} {choice} : exec (.kppBegin t ep m choice) s = execKppBegin t ep m choice s := rfl
theorem exec_kppCommit (s : State) {t} {ep} {m} : exec (.kppCommit t ep m) s = execKppCommit t ep m s := rfl
theorem exec_commitValidationComplete (s : State) {t} : exec (.commitValidationComplete t) s = execCommitValidationComplete t s := rfl
theorem exec_kppRollback (s : State) {t} {ep} {m} : exec (.kppRollback t ep m) s = execKppRollback t ep m s := rfl
theorem exec_kppSubscribe (s : State) {t} {ep} {m} : exec (.kppSubscribe t ep m) s = execKppSubscribe t ep m s := rfl
theorem exec_kppUnsubscribe (s : State) {t} {ep} {m} : exec (.kppUnsubscribe t ep m) s = execKppUnsubscribe t ep m s := rfl
theorem exec_shortMessage (s : State) {t} {ep} {bytes} : exec (.shortMessage t ep bytes) s = execShortMessage t ep bytes s := rfl
theorem exec_canSegmentReceive (s : State) {t} {frame} : exec (.canSegmentReceive t frame) s = execCanSegmentReceive t frame s := rfl
theorem exec_canSegmentTimeout (s : State) {t} : exec (.canSegmentTimeout t) s = execCanSegmentTimeout t s := rfl
theorem exec_transactionExpiry (s : State) {t} : exec (.transactionExpiry t) s = execTransactionExpiry t s := rfl
theorem exec_eventSend (s : State) {t} : exec (.eventSend t) s = execEventSend t s := rfl
theorem exec_storeParameters (s : State) {t} {v} : exec (.storeParameters t v) s = execStoreParameters t v s := rfl
theorem exec_restoreDefaults (s : State) {t} {v} : exec (.restoreDefaults t v) s = execRestoreDefaults t v s := rfl
theorem exec_storePlan (s : State) {t} {v} : exec (.storePlan t v) s = execStorePlan t v s := rfl
theorem exec_storeComplete (s : State) {t} {readBackOk} : exec (.storeComplete t readBackOk) s = execStoreComplete t readBackOk s := rfl
theorem exec_mramRecordWrite (s : State) {t} {recType} {readBackOk} : exec (.mramRecordWrite t recType readBackOk) s = execMramRecordWrite t recType readBackOk s := rfl
theorem exec_startupPlanValidation (s : State) {t} : exec (.startupPlanValidation t) s = execStartupPlanValidation t s := rfl
theorem exec_frameBoundary (s : State) {t} : exec (.frameBoundary t) s = execFrameBoundary t s := rfl
theorem exec_columnStart (s : State) {t} : exec (.columnStart t) s = execColumnStart t s := rfl
theorem exec_prefetchComplete (s : State) {t} : exec (.prefetchComplete t) s = execPrefetchComplete t s := rfl
theorem exec_prefetchLate (s : State) {t} : exec (.prefetchLate t) s = execPrefetchLate t s := rfl
theorem exec_shotSlotStart (s : State) {t} {cal} : exec (.shotSlotStart t cal) s = execShotSlotStart t cal s := rfl
theorem exec_fireEdge (s : State) {t} {senses} : exec (.fireEdge t senses) s = execFireEdge t senses s := rfl
theorem exec_ledgerBooking (s : State) {t} {corrected} {uncorrectable} : exec (.ledgerBooking t corrected uncorrectable) s = execLedgerBooking t corrected uncorrectable s := rfl
theorem exec_idleTdcCalibration (s : State) {t} {cal} : exec (.idleTdcCalibration t cal) s = execIdleTdcCalibration t cal s := rfl
theorem exec_comparatorEdge (s : State) {t} {ps} {ch} {taps} : exec (.comparatorEdge t ps ch taps) s = execComparatorEdge t ps ch taps s := rfl
theorem exec_referenceEdge (s : State) {t} {ps} {ref} {taps} : exec (.referenceEdge t ps ref taps) s = execReferenceEdge t ps ref taps s := rfl
theorem exec_referenceWindowClose (s : State) {t} {ref} : exec (.referenceWindowClose t ref) s = execReferenceWindowClose t ref s := rfl
theorem exec_eventHandover (s : State) {t} {ch} : exec (.eventHandover t ch) s = execEventHandover t ch s := rfl
theorem exec_coincidenceRelease (s : State) {t} {ch} : exec (.coincidenceRelease t ch) s = execCoincidenceRelease t ch s := rfl
theorem exec_saturationAssert (s : State) {t} {ch} : exec (.saturationAssert t ch) s = execSaturationAssert t ch s := rfl
theorem exec_saturationRelease (s : State) {t} {ch} : exec (.saturationRelease t ch) s = execSaturationRelease t ch s := rfl
theorem exec_markEnd (s : State) {t} {ch} : exec (.markEnd t ch) s = execMarkEnd t ch s := rfl
theorem exec_stuckSlot (s : State) {t} {ch} : exec (.stuckSlot t ch) s = execStuckSlot t ch s := rfl
theorem exec_placementPoint (s : State) {t} : exec (.placementPoint t) s = execPlacementPoint t s := rfl
theorem exec_parkedEventsApply (s : State) {t} : exec (.parkedEventsApply t) s = execParkedEventsApply t s := rfl
theorem exec_poolSwap (s : State) {t} : exec (.poolSwap t) s = execPoolSwap t s := rfl
theorem exec_prxChannelSlot (s : State) {t} {engine} : exec (.prxChannelSlot t engine) s = execPrxChannelSlot t engine s := rfl
theorem exec_bufferRelease (s : State) {t} : exec (.bufferRelease t) s = execBufferRelease t s := rfl
theorem exec_tarnRecordWrite (s : State) {t} : exec (.tarnRecordWrite t) s = execTarnRecordWrite t s := rfl
theorem exec_columnBlockQueue (s : State) {t} : exec (.columnBlockQueue t) s = execColumnBlockQueue t s := rfl
theorem exec_h4ColumnCopy (s : State) {t} : exec (.h4ColumnCopy t) s = execH4ColumnCopy t s := rfl
theorem exec_ethStreamDatagram (s : State) {t} : exec (.ethStreamDatagram t) s = execEthStreamDatagram t s := rfl
theorem exec_turnaroundStart (s : State) {t} : exec (.turnaroundStart t) s = execTurnaroundStart t s := rfl
theorem exec_tarnBufferSwap (s : State) {t} : exec (.tarnBufferSwap t) s = execTarnBufferSwap t s := rfl
theorem exec_diagnosticShot (s : State) {t} {senses} : exec (.diagnosticShot t senses) s = execDiagnosticShot t senses s := rfl
theorem exec_testPulseStart (s : State) {t} : exec (.testPulseStart t) s = execTestPulseStart t s := rfl
theorem exec_testPulseCheck (s : State) {t} : exec (.testPulseCheck t) s = execTestPulseCheck t s := rfl
theorem exec_testPulseEnd (s : State) {t} : exec (.testPulseEnd t) s = execTestPulseEnd t s := rfl
theorem exec_testDueTimer (s : State) {t} : exec (.testDueTimer t) s = execTestDueTimer t s := rfl
theorem exec_commitCutoff (s : State) {t} : exec (.commitCutoff t) s = execCommitCutoff t s := rfl
theorem exec_driftCalibrationStep (s : State) {t} {m} : exec (.driftCalibrationStep t m) s = execDriftCalibrationStep t m s := rfl
theorem exec_checkpointWriteStart (s : State) {t} : exec (.checkpointWriteStart t) s = execCheckpointWriteStart t s := rfl
theorem exec_checkpointWriteComplete (s : State) {t} : exec (.checkpointWriteComplete t) s = execCheckpointWriteComplete t s := rfl
theorem exec_checkpointDeadline (s : State) {t} : exec (.checkpointDeadline t) s = execCheckpointDeadline t s := rfl
theorem exec_bscPeriodStart (s : State) {t} : exec (.bscPeriodStart t) s = execBscPeriodStart t s := rfl
theorem exec_bscBurstComplete (s : State) {t} {axis} {burst} : exec (.bscBurstComplete t axis burst) s = execBscBurstComplete t axis burst s := rfl
theorem exec_bscProductComplete (s : State) {t} {axis} {corrected} {uncorrectable} : exec (.bscProductComplete t axis corrected uncorrectable) s = execBscProductComplete t axis corrected uncorrectable s := rfl
theorem exec_bscRestart (s : State) {t} {v} : exec (.bscRestart t v) s = execBscRestart t v s := rfl
theorem exec_ledgerBucketAdvance (s : State) {t} {window} : exec (.ledgerBucketAdvance t window) s = execLedgerBucketAdvance t window s := rfl
theorem exec_ledgerSweep (s : State) {t} {corrected} {uncorrectable} {mismatch} : exec (.ledgerSweep t corrected uncorrectable mismatch) s = execLedgerSweep t corrected uncorrectable mismatch s := rfl
theorem exec_clockMonitorFail (s : State) {t} : exec (.clockMonitorFail t) s = execClockMonitorFail t s := rfl
theorem exec_gateReadbackEdge (s : State) {t} {port} : exec (.gateReadbackEdge t port) s = execGateReadbackEdge t port s := rfl
theorem exec_emitEnFbChange (s : State) {t} {level} : exec (.emitEnFbChange t level) s = execEmitEnFbChange t level s := rfl
theorem exec_feedbackStuck (s : State) {t} : exec (.feedbackStuck t) s = execFeedbackStuck t s := rfl
theorem exec_supplyNotOn (s : State) {t} : exec (.supplyNotOn t) s = execSupplyNotOn t s := rfl
theorem exec_rearmPinEdge (s : State) {t} : exec (.rearmPinEdge t) s = execRearmPinEdge t s := rfl
theorem exec_rearmRequest (s : State) {t} {v} : exec (.rearmRequest t v) s = execRearmRequest t v s := rfl
theorem exec_emissionStop (s : State) {t} {v} : exec (.emissionStop t v) s = execEmissionStop t v s := rfl
theorem exec_portClear (s : State) {t} {v} : exec (.portClear t v) s = execPortClear t v s := rfl
theorem exec_thresholdOffsetClear (s : State) {t} {v} : exec (.thresholdOffsetClear t v) s = execThresholdOffsetClear t v s := rfl
theorem exec_mcxReady (s : State) {t} : exec (.mcxReady t) s = execMcxReady t s := rfl
theorem exec_bootFillComplete (s : State) {t} : exec (.bootFillComplete t) s = execBootFillComplete t s := rfl
theorem exec_memoryRead (s : State) {t} {user} {line} {flips} : exec (.memoryRead t user line flips) s = execMemoryRead t user line flips s := rfl
theorem exec_correctionWriteback (s : State) {t} {line} : exec (.correctionWriteback t line) s = execCorrectionWriteback t line s := rfl
theorem exec_memoryWrite (s : State) {t} {user} {line} {bytes} : exec (.memoryWrite t user line bytes) s = execMemoryWrite t user line bytes s := rfl
theorem exec_scrubTick (s : State) {t} {flips} : exec (.scrubTick t flips) s = execScrubTick t flips s := rfl
theorem exec_watchEntryExpiry (s : State) {t} : exec (.watchEntryExpiry t) s = execWatchEntryExpiry t s := rfl
theorem exec_remapCopyComplete (s : State) {t} : exec (.remapCopyComplete t) s = execRemapCopyComplete t s := rfl
theorem exec_remapTableStore (s : State) {t} {readBackOk} : exec (.remapTableStore t readBackOk) s = execRemapTableStore t readBackOk s := rfl
theorem exec_remapClear (s : State) {t} {v} : exec (.remapClear t v) s = execRemapClear t v s := rfl
theorem exec_blockPeriod (s : State) {t} {port} : exec (.blockPeriod t port) s = execBlockPeriod t port s := rfl
theorem exec_markerPeriod (s : State) {t} {port} : exec (.markerPeriod t port) s = execMarkerPeriod t port s := rfl
theorem exec_statusMessage (s : State) {t} {port} {m} : exec (.statusMessage t port m) s = execStatusMessage t port m s := rfl
theorem exec_eqReport (s : State) {t} {port} {m} : exec (.eqReport t port m) s = execEqReport t port m s := rfl
theorem exec_alignReport (s : State) {t} {port} {m} : exec (.alignReport t port m) s = execAlignReport t port m s := rfl
theorem exec_retrainMessage (s : State) {t} {port} {m} : exec (.retrainMessage t port m) s = execRetrainMessage t port m s := rfl
theorem exec_backChannelError (s : State) {t} {port} : exec (.backChannelError t port) s = execBackChannelError t port s := rfl
theorem exec_backChannelLoss (s : State) {t} {port} : exec (.backChannelLoss t port) s = execBackChannelLoss t port s := rfl
theorem exec_phaseLimit (s : State) {t} {port} : exec (.phaseLimit t port) s = execPhaseLimit t port s := rfl
theorem exec_equalizeLimit (s : State) {t} {port} : exec (.equalizeLimit t port) s = execEqualizeLimit t port s := rfl
theorem exec_alignLimit (s : State) {t} {port} : exec (.alignLimit t port) s = execAlignLimit t port s := rfl
theorem exec_trainingAttemptStart (s : State) {t} {port} : exec (.trainingAttemptStart t port) s = execTrainingAttemptStart t port s := rfl
theorem exec_portPllLock (s : State) {t} {port} : exec (.portPllLock t port) s = execPortPllLock t port s := rfl
theorem exec_laneRateWrite (s : State) {t} {port} {v} : exec (.laneRateWrite t port v) s = execLaneRateWrite t port v s := rfl
theorem exec_portEnableWrite (s : State) {t} {port} {v} : exec (.portEnableWrite t port v) s = execPortEnableWrite t port v s := rfl
theorem exec_retrain4Lanes (s : State) {t} {port} : exec (.retrain4Lanes t port) s = execRetrain4Lanes t port s := rfl
theorem exec_retrainPresentWidth (s : State) {t} {port} : exec (.retrainPresentWidth t port) s = execRetrainPresentWidth t port s := rfl
theorem exec_leaseRenewal (s : State) {t} {unit} {epoch} : exec (.leaseRenewal t unit epoch) s = execLeaseRenewal t unit epoch s := rfl
theorem exec_leaseRelease (s : State) {t} {unit} {epoch} : exec (.leaseRelease t unit epoch) s = execLeaseRelease t unit epoch s := rfl
theorem exec_leaseExpiry (s : State) {t} : exec (.leaseExpiry t) s = execLeaseExpiry t s := rfl
theorem exec_fenceTimerExpiry (s : State) {t} {unit} : exec (.fenceTimerExpiry t unit) s = execFenceTimerExpiry t unit s := rfl
theorem exec_leaseGrant (s : State) {t} : exec (.leaseGrant t) s = execLeaseGrant t s := rfl
theorem exec_offerTimeout (s : State) {t} : exec (.offerTimeout t) s = execOfferTimeout t s := rfl
theorem exec_autonomyWindowEnd (s : State) {t} : exec (.autonomyWindowEnd t) s = execAutonomyWindowEnd t s := rfl
theorem exec_takeoverComplete (s : State) {t} : exec (.takeoverComplete t) s = execTakeoverComplete t s := rfl
theorem exec_heartbeat (s : State) {t} {unit} : exec (.heartbeat t unit) s = execHeartbeat t unit s := rfl
theorem exec_heartbeatLoss (s : State) {t} {unit} : exec (.heartbeatLoss t unit) s = execHeartbeatLoss t unit s := rfl
theorem exec_standbyImageCheck (s : State) {t} {ok} : exec (.standbyImageCheck t ok) s = execStandbyImageCheck t ok s := rfl
theorem exec_standbyReloadComplete (s : State) {t} {unit} {ok} : exec (.standbyReloadComplete t unit ok) s = execStandbyReloadComplete t unit ok s := rfl
theorem exec_switchover (s : State) {t} {v} : exec (.switchover t v) s = execSwitchover t v s := rfl
theorem exec_firmwareLoad (s : State) {t} {unit} {flash} {slots} :
    exec (.firmwareLoad t unit flash slots) s = execFirmwareLoad t unit flash slots s := rfl
theorem exec_verifyImage (s : State) {t} : exec (.verifyImage t) s = execVerifyImage t s := rfl
theorem exec_programImage (s : State) {t} : exec (.programImage t) s = execProgramImage t s := rfl
theorem exec_activateTrial (s : State) {t} : exec (.activateTrial t) s = execActivateTrial t s := rfl
theorem exec_confirmImage (s : State) {t} : exec (.confirmImage t) s = execConfirmImage t s := rfl
theorem exec_updateComplete (s : State) {t} {image} {readBackOk} : exec (.updateComplete t image readBackOk) s = execUpdateComplete t image readBackOk s := rfl
theorem exec_fuseAdvance (s : State) {t} {v} : exec (.fuseAdvance t v) s = execFuseAdvance t v s := rfl
theorem exec_attestRequest (s : State) {t} {v} : exec (.attestRequest t v) s = execAttestRequest t v s := rfl
theorem exec_attestComplete (s : State) {t} : exec (.attestComplete t) s = execAttestComplete t s := rfl
theorem exec_syncReceive (s : State) {t} {m} : exec (.syncReceive t m) s = execSyncReceive t m s := rfl
theorem exec_followUpReceive (s : State) {t} {m} : exec (.followUpReceive t m) s = execFollowUpReceive t m s := rfl
theorem exec_announceReceive (s : State) {t} {domain} {gm} : exec (.announceReceive t domain gm) s = execAnnounceReceive t domain gm s := rfl
theorem exec_pdelayReqReceive (s : State) {t} {seqId} : exec (.pdelayReqReceive t seqId) s = execPdelayReqReceive t seqId s := rfl
theorem exec_pdelayReqSend (s : State) {t} : exec (.pdelayReqSend t) s = execPdelayReqSend t s := rfl
theorem exec_pdelayRespReceive (s : State) {t} {seqId} {peerRx} {peerTx} : exec (.pdelayRespReceive t seqId peerRx peerTx) s = execPdelayRespReceive t seqId peerRx peerTx s := rfl
theorem exec_syncReceiptTimeout (s : State) {t} : exec (.syncReceiptTimeout t) s = execSyncReceiptTimeout t s := rfl
theorem exec_holdoverLimit (s : State) {t} : exec (.holdoverLimit t) s = execHoldoverLimit t s := rfl
theorem exec_localTimeSet (s : State) {t} {value} : exec (.localTimeSet t value) s = execLocalTimeSet t value s := rfl
theorem exec_tsinEdge (s : State) {t} {input} {falling} : exec (.tsinEdge t input falling) s = execTsinEdge t input falling s := rfl
theorem exec_fmeasGateEnd (s : State) {t} {input} {count} : exec (.fmeasGateEnd t input count) s = execFmeasGateEnd t input count s := rfl
theorem exec_wcuArm (s : State) {t} : exec (.wcuArm t) s = execWcuArm t s := rfl
theorem exec_wcuStop (s : State) {t} : exec (.wcuStop t) s = execWcuStop t s := rfl
theorem exec_forceTrigger (s : State) {t} {v} : exec (.forceTrigger t v) s = execForceTrigger t v s := rfl
theorem exec_wcuTrigger (s : State) {t} {source} : exec (.wcuTrigger t source) s = execWcuTrigger t source s := rfl
theorem exec_postfillComplete (s : State) {t} {samples} : exec (.postfillComplete t samples) s = execPostfillComplete t samples s := rfl
theorem exec_segmentRecordComplete (s : State) {t} {samples} : exec (.segmentRecordComplete t samples) s = execSegmentRecordComplete t samples s := rfl
theorem exec_wcuRearm (s : State) {t} : exec (.wcuRearm t) s = execWcuRearm t s := rfl
theorem exec_skewCalibrate (s : State) {t} {v} : exec (.skewCalibrate t v) s = execSkewCalibrate t v s := rfl
theorem exec_skewCalibrationComplete (s : State) {t} {trims} : exec (.skewCalibrationComplete t trims) s = execSkewCalibrationComplete t trims s := rfl
theorem exec_monConversion (s : State) {t} {conv} {uV} {vrefUV} : exec (.monConversion t conv uV vrefUV) s = execMonConversion t conv uV vrefUV s := rfl
theorem exec_muxSettleEnd (s : State) {t} : exec (.muxSettleEnd t) s = execMuxSettleEnd t s := rfl
theorem exec_sequenceTrigger (s : State) {t} {v} : exec (.sequenceTrigger t v) s = execSequenceTrigger t v s := rfl
theorem exec_slotConfigWrite (s : State) {t} {offset} {bytes} : exec (.slotConfigWrite t offset bytes) s = execSlotConfigWrite t offset bytes s := rfl
theorem exec_vrefExtCheck (s : State) {t} {mV} : exec (.vrefExtCheck t mV) s = execVrefExtCheck t mV s := rfl
theorem exec_referenceSettle (s : State) {t} : exec (.referenceSettle t) s = execReferenceSettle t s := rfl
theorem exec_springRound (s : State) {t} {r} : exec (.springRound t r) s = execSpringRound t r s := rfl
theorem exec_canWakePattern (s : State) {t} : exec (.canWakePattern t) s = execCanWakePattern t s := rfl
theorem exec_wakeTimerExpiry (s : State) {t} : exec (.wakeTimerExpiry t) s = execWakeTimerExpiry t s := rfl
theorem exec_vsysUndervoltage (s : State) {t} : exec (.vsysUndervoltage t) s = execVsysUndervoltage t s := rfl
theorem exec_powerOn (s : State) {t} {crystal32} : exec (.powerOn t crystal32) s = execPowerOn t crystal32 s := rfl
theorem exec_sleepCommand (s : State) {t} {v} : exec (.sleepCommand t v) s = execSleepCommand t v s := rfl
theorem exec_resetCommand (s : State) {t} {v} : exec (.resetCommand t v) s = execResetCommand t v s := rfl
theorem exec_railSample (s : State) {t} {mV} {pmicPg} : exec (.railSample t mV pmicPg) s = execRailSample t mV pmicPg s := rfl
theorem exec_railConfirmTimeout (s : State) {t} : exec (.railConfirmTimeout t) s = execRailConfirmTimeout t s := rfl
theorem exec_railRestartDelay (s : State) {t} : exec (.railRestartDelay t) s = execRailRestartDelay t s := rfl
theorem exec_resetRelease (s : State) {t} {devnum} {safeCfg} : exec (.resetRelease t devnum safeCfg) s = execResetRelease t devnum safeCfg s := rfl
theorem exec_shutdownStepComplete (s : State) {t} : exec (.shutdownStepComplete t) s = execShutdownStepComplete t s := rfl
theorem exec_recorderTrigger (s : State) {t} {v} : exec (.recorderTrigger t v) s = execRecorderTrigger t v s := rfl
theorem exec_ringUnitWrite (s : State) {t} : exec (.ringUnitWrite t) s = execRingUnitWrite t s := rfl
theorem exec_pageProgramComplete (s : State) {t} {ok} : exec (.pageProgramComplete t ok) s = execPageProgramComplete t ok s := rfl
theorem exec_blockEraseComplete (s : State) {t} {target} {block} {ok} : exec (.blockEraseComplete t target block ok) s = execBlockEraseComplete t target block ok s := rfl
theorem exec_incidentStored (s : State) {t} : exec (.incidentStored t) s = execIncidentStored t s := rfl
theorem exec_flashIdentify (s : State) {t} {vnandMV} {targets} : exec (.flashIdentify t vnandMV targets) s = execFlashIdentify t vnandMV targets s := rfl
theorem exec_journalReplay (s : State) {t} : exec (.journalReplay t) s = execJournalReplay t s := rfl
theorem exec_refreshRead (s : State) {t} {target} {block} {corrections} {uncorrectable} : exec (.refreshRead t target block corrections uncorrectable) s = execRefreshRead t target block corrections uncorrectable s := rfl
theorem exec_wearLevelMove (s : State) {t} : exec (.wearLevelMove t) s = execWearLevelMove t s := rfl
theorem exec_incidentProtect (s : State) {t} {number} : exec (.incidentProtect t number) s = execIncidentProtect t number s := rfl
theorem exec_incidentUnprotect (s : State) {t} {number} : exec (.incidentUnprotect t number) s = execIncidentUnprotect t number s := rfl
theorem exec_incidentDelete (s : State) {t} {number} : exec (.incidentDelete t number) s = execIncidentDelete t number s := rfl
theorem exec_flashFormat (s : State) {t} {v} : exec (.flashFormat t v) s = execFlashFormat t v s := rfl
theorem exec_bootCalibration (s : State) {t} {m} : exec (.bootCalibration t m) s = execBootCalibration t m s := rfl
theorem exec_calibrateNow (s : State) {t} {v} : exec (.calibrateNow t v) s = execCalibrateNow t v s := rfl
theorem exec_skewMeasure (s : State) {t} {v} : exec (.skewMeasure t v) s = execSkewMeasure t v s := rfl
theorem exec_skewMeasureBurst (s : State) {t} {strobeSum} {times} : exec (.skewMeasureBurst t strobeSum times) s = execSkewMeasureBurst t strobeSum times s := rfl
theorem exec_clockMonitorRecovery (s : State) {t} : exec (.clockMonitorRecovery t) s = execClockMonitorRecovery t s := rfl
theorem exec_checkpointTimer (s : State) {t} : exec (.checkpointTimer t) s = execCheckpointTimer t s := rfl
theorem exec_driftCalibrationTimer (s : State) {t} {m} : exec (.driftCalibrationTimer t m) s = execDriftCalibrationTimer t m s := rfl
theorem exec_preferredClaimTimeout (s : State) {t} : exec (.preferredClaimTimeout t) s = execPreferredClaimTimeout t s := rfl

end Sys2Proof.Machine
end

