-- ==== Sys2Proof/Laws/State.lean ====
section
/-!
SUPPORT. Each field of the state after each of its updates: true by rfl, and for the simplifier, so that no proof unfolds an
update of a record.
-/

namespace Sys2Proof.Machine

/-! ### Time -/

@[simp] theorem State.atTime_pending (s : State) (t : Nat) : (s.atTime t).pending = s.pending := rfl
@[simp] theorem State.atTime_freeCount (s : State) (t : Nat) : (s.atTime t).freeCount = s.freeCount := rfl
@[simp] theorem State.atTime_part (s : State) (t : Nat) : (s.atTime t).part = s.part := rfl
@[simp] theorem State.atTime_rw (s : State) (t : Nat) : (s.atTime t).rw = s.rw := rfl
@[simp] theorem State.atTime_rwp (s : State) (t : Nat) : (s.atTime t).rwp = s.rwp := rfl
@[simp] theorem State.atTime_kpp (s : State) (t : Nat) : (s.atTime t).kpp = s.kpp := rfl
@[simp] theorem State.atTime_txn (s : State) (t : Nat) : (s.atTime t).txn = s.txn := rfl
@[simp] theorem State.atTime_mram (s : State) (t : Nat) : (s.atTime t).mram = s.mram := rfl
@[simp] theorem State.atTime_pipe (s : State) (t : Nat) : (s.atTime t).pipe = s.pipe := rfl
@[simp] theorem State.atTime_edu (s : State) (t : Nat) : (s.atTime t).edu = s.edu := rfl
@[simp] theorem State.atTime_bsc (s : State) (t : Nat) : (s.atTime t).bsc = s.bsc := rfl
@[simp] theorem State.atTime_rfe (s : State) (t : Nat) : (s.atTime t).rfe = s.rfe := rfl
@[simp] theorem State.atTime_tda (s : State) (t : Nat) : (s.atTime t).tda = s.tda := rfl
@[simp] theorem State.atTime_hac (s : State) (t : Nat) : (s.atTime t).hac = s.hac := rfl
@[simp] theorem State.atTime_prx (s : State) (t : Nat) : (s.atTime t).prx = s.prx := rfl
@[simp] theorem State.atTime_mcx (s : State) (t : Nat) : (s.atTime t).mcx = s.mcx := rfl
@[simp] theorem State.atTime_fmt (s : State) (t : Nat) : (s.atTime t).fmt = s.fmt := rfl
@[simp] theorem State.atTime_linkA (s : State) (t : Nat) : (s.atTime t).linkA = s.linkA := rfl
@[simp] theorem State.atTime_linkB (s : State) (t : Nat) : (s.atTime t).linkB = s.linkB := rfl
@[simp] theorem State.atTime_emg (s : State) (t : Nat) : (s.atTime t).emg = s.emg := rfl
@[simp] theorem State.atTime_cu (s : State) (t : Nat) : (s.atTime t).cu = s.cu := rfl
@[simp] theorem State.atTime_wcu (s : State) (t : Nat) : (s.atTime t).wcu = s.wcu := rfl
@[simp] theorem State.atTime_mon (s : State) (t : Nat) : (s.atTime t).mon = s.mon := rfl
@[simp] theorem State.atTime_thermal (s : State) (t : Nat) : (s.atTime t).thermal = s.thermal := rfl
@[simp] theorem State.atTime_evr (s : State) (t : Nat) : (s.atTime t).evr = s.evr := rfl
@[simp] theorem State.atTime_spring (s : State) (t : Nat) : (s.atTime t).spring = s.spring := rfl
@[simp] theorem State.atTime_fw (s : State) (t : Nat) : (s.atTime t).fw = s.fw := rfl
@[simp] theorem State.atTime_cal (s : State) (t : Nat) : (s.atTime t).cal = s.cal := rfl
@[simp] theorem State.atTime_now (s : State) (t : Nat) : (s.atTime t).now = max s.now t := rfl
@[simp] theorem State.atTime_out (s : State) (t : Nat) : (s.atTime t).out = [] := rfl

/-! ### What a command sends -/

@[simp] theorem State.send_now (s : State) (o : Output) : (s.send o).now = s.now := rfl
@[simp] theorem State.send_pending (s : State) (o : Output) : (s.send o).pending = s.pending := rfl
@[simp] theorem State.send_freeCount (s : State) (o : Output) : (s.send o).freeCount = s.freeCount := rfl
@[simp] theorem State.send_part (s : State) (o : Output) : (s.send o).part = s.part := rfl
@[simp] theorem State.send_rw (s : State) (o : Output) : (s.send o).rw = s.rw := rfl
@[simp] theorem State.send_rwp (s : State) (o : Output) : (s.send o).rwp = s.rwp := rfl
@[simp] theorem State.send_kpp (s : State) (o : Output) : (s.send o).kpp = s.kpp := rfl
@[simp] theorem State.send_txn (s : State) (o : Output) : (s.send o).txn = s.txn := rfl
@[simp] theorem State.send_mram (s : State) (o : Output) : (s.send o).mram = s.mram := rfl
@[simp] theorem State.send_pipe (s : State) (o : Output) : (s.send o).pipe = s.pipe := rfl
@[simp] theorem State.send_edu (s : State) (o : Output) : (s.send o).edu = s.edu := rfl
@[simp] theorem State.send_bsc (s : State) (o : Output) : (s.send o).bsc = s.bsc := rfl
@[simp] theorem State.send_rfe (s : State) (o : Output) : (s.send o).rfe = s.rfe := rfl
@[simp] theorem State.send_tda (s : State) (o : Output) : (s.send o).tda = s.tda := rfl
@[simp] theorem State.send_hac (s : State) (o : Output) : (s.send o).hac = s.hac := rfl
@[simp] theorem State.send_prx (s : State) (o : Output) : (s.send o).prx = s.prx := rfl
@[simp] theorem State.send_mcx (s : State) (o : Output) : (s.send o).mcx = s.mcx := rfl
@[simp] theorem State.send_fmt (s : State) (o : Output) : (s.send o).fmt = s.fmt := rfl
@[simp] theorem State.send_linkA (s : State) (o : Output) : (s.send o).linkA = s.linkA := rfl
@[simp] theorem State.send_linkB (s : State) (o : Output) : (s.send o).linkB = s.linkB := rfl
@[simp] theorem State.send_emg (s : State) (o : Output) : (s.send o).emg = s.emg := rfl
@[simp] theorem State.send_cu (s : State) (o : Output) : (s.send o).cu = s.cu := rfl
@[simp] theorem State.send_wcu (s : State) (o : Output) : (s.send o).wcu = s.wcu := rfl
@[simp] theorem State.send_mon (s : State) (o : Output) : (s.send o).mon = s.mon := rfl
@[simp] theorem State.send_thermal (s : State) (o : Output) : (s.send o).thermal = s.thermal := rfl
@[simp] theorem State.send_ntu (s : State) (o : Output) : (s.send o).ntu = s.ntu := rfl
@[simp] theorem State.send_evr (s : State) (o : Output) : (s.send o).evr = s.evr := rfl
@[simp] theorem State.send_spring (s : State) (o : Output) : (s.send o).spring = s.spring := rfl
@[simp] theorem State.send_fw (s : State) (o : Output) : (s.send o).fw = s.fw := rfl
@[simp] theorem State.send_cal (s : State) (o : Output) : (s.send o).cal = s.cal := rfl
@[simp] theorem State.send_out (s : State) (o : Output) : (s.send o).out = s.out ++ [o] := rfl

/-! ### Free values -/

@[simp] theorem State.free_now (s : State) : s.free.2.now = s.now := rfl
@[simp] theorem State.free_out (s : State) : s.free.2.out = s.out := rfl
@[simp] theorem State.free_pending (s : State) : s.free.2.pending = s.pending := rfl
@[simp] theorem State.free_part (s : State) : s.free.2.part = s.part := rfl
@[simp] theorem State.free_rw (s : State) : s.free.2.rw = s.rw := rfl
@[simp] theorem State.free_rwp (s : State) : s.free.2.rwp = s.rwp := rfl
@[simp] theorem State.free_kpp (s : State) : s.free.2.kpp = s.kpp := rfl
@[simp] theorem State.free_txn (s : State) : s.free.2.txn = s.txn := rfl
@[simp] theorem State.free_mram (s : State) : s.free.2.mram = s.mram := rfl
@[simp] theorem State.free_pipe (s : State) : s.free.2.pipe = s.pipe := rfl
@[simp] theorem State.free_edu (s : State) : s.free.2.edu = s.edu := rfl
@[simp] theorem State.free_bsc (s : State) : s.free.2.bsc = s.bsc := rfl
@[simp] theorem State.free_rfe (s : State) : s.free.2.rfe = s.rfe := rfl
@[simp] theorem State.free_tda (s : State) : s.free.2.tda = s.tda := rfl
@[simp] theorem State.free_hac (s : State) : s.free.2.hac = s.hac := rfl
@[simp] theorem State.free_prx (s : State) : s.free.2.prx = s.prx := rfl
@[simp] theorem State.free_mcx (s : State) : s.free.2.mcx = s.mcx := rfl
@[simp] theorem State.free_fmt (s : State) : s.free.2.fmt = s.fmt := rfl
@[simp] theorem State.free_linkA (s : State) : s.free.2.linkA = s.linkA := rfl
@[simp] theorem State.free_linkB (s : State) : s.free.2.linkB = s.linkB := rfl
@[simp] theorem State.free_emg (s : State) : s.free.2.emg = s.emg := rfl
@[simp] theorem State.free_cu (s : State) : s.free.2.cu = s.cu := rfl
@[simp] theorem State.free_wcu (s : State) : s.free.2.wcu = s.wcu := rfl
@[simp] theorem State.free_mon (s : State) : s.free.2.mon = s.mon := rfl
@[simp] theorem State.free_thermal (s : State) : s.free.2.thermal = s.thermal := rfl
@[simp] theorem State.free_ntu (s : State) : s.free.2.ntu = s.ntu := rfl
@[simp] theorem State.free_evr (s : State) : s.free.2.evr = s.evr := rfl
@[simp] theorem State.free_spring (s : State) : s.free.2.spring = s.spring := rfl
@[simp] theorem State.free_fw (s : State) : s.free.2.fw = s.fw := rfl
@[simp] theorem State.free_cal (s : State) : s.free.2.cal = s.cal := rfl
@[simp] theorem State.free_freeCount (s : State) : s.free.2.freeCount = s.freeCount + 1 := rfl

/-! ### Link ports, output ports, channels, axes, emitter ports -/

@[simp] theorem State.setLink_now (s : State) (n : Nat) (l : Link) : (s.setLink n l).now = s.now := by
  unfold State.setLink; split <;> rfl
@[simp] theorem State.setLink_out (s : State) (n : Nat) (l : Link) : (s.setLink n l).out = s.out := by
  unfold State.setLink; split <;> rfl
@[simp] theorem State.setLink_pending (s : State) (n : Nat) (l : Link) : (s.setLink n l).pending = s.pending := by
  unfold State.setLink; split <;> rfl
@[simp] theorem State.setLink_freeCount (s : State) (n : Nat) (l : Link) : (s.setLink n l).freeCount = s.freeCount := by
  unfold State.setLink; split <;> rfl
@[simp] theorem State.setLink_part (s : State) (n : Nat) (l : Link) : (s.setLink n l).part = s.part := by
  unfold State.setLink; split <;> rfl
@[simp] theorem State.setLink_rw (s : State) (n : Nat) (l : Link) : (s.setLink n l).rw = s.rw := by
  unfold State.setLink; split <;> rfl
@[simp] theorem State.setLink_rwp (s : State) (n : Nat) (l : Link) : (s.setLink n l).rwp = s.rwp := by
  unfold State.setLink; split <;> rfl
@[simp] theorem State.setLink_kpp (s : State) (n : Nat) (l : Link) : (s.setLink n l).kpp = s.kpp := by
  unfold State.setLink; split <;> rfl
@[simp] theorem State.setLink_txn (s : State) (n : Nat) (l : Link) : (s.setLink n l).txn = s.txn := by
  unfold State.setLink; split <;> rfl
@[simp] theorem State.setLink_mram (s : State) (n : Nat) (l : Link) : (s.setLink n l).mram = s.mram := by
  unfold State.setLink; split <;> rfl
@[simp] theorem State.setLink_pipe (s : State) (n : Nat) (l : Link) : (s.setLink n l).pipe = s.pipe := by
  unfold State.setLink; split <;> rfl
@[simp] theorem State.setLink_edu (s : State) (n : Nat) (l : Link) : (s.setLink n l).edu = s.edu := by
  unfold State.setLink; split <;> rfl
@[simp] theorem State.setLink_bsc (s : State) (n : Nat) (l : Link) : (s.setLink n l).bsc = s.bsc := by
  unfold State.setLink; split <;> rfl
@[simp] theorem State.setLink_rfe (s : State) (n : Nat) (l : Link) : (s.setLink n l).rfe = s.rfe := by
  unfold State.setLink; split <;> rfl
@[simp] theorem State.setLink_tda (s : State) (n : Nat) (l : Link) : (s.setLink n l).tda = s.tda := by
  unfold State.setLink; split <;> rfl
@[simp] theorem State.setLink_hac (s : State) (n : Nat) (l : Link) : (s.setLink n l).hac = s.hac := by
  unfold State.setLink; split <;> rfl
@[simp] theorem State.setLink_prx (s : State) (n : Nat) (l : Link) : (s.setLink n l).prx = s.prx := by
  unfold State.setLink; split <;> rfl
@[simp] theorem State.setLink_mcx (s : State) (n : Nat) (l : Link) : (s.setLink n l).mcx = s.mcx := by
  unfold State.setLink; split <;> rfl
@[simp] theorem State.setLink_fmt (s : State) (n : Nat) (l : Link) : (s.setLink n l).fmt = s.fmt := by
  unfold State.setLink; split <;> rfl
@[simp] theorem State.setLink_emg (s : State) (n : Nat) (l : Link) : (s.setLink n l).emg = s.emg := by
  unfold State.setLink; split <;> rfl
@[simp] theorem State.setLink_cu (s : State) (n : Nat) (l : Link) : (s.setLink n l).cu = s.cu := by
  unfold State.setLink; split <;> rfl
@[simp] theorem State.setLink_wcu (s : State) (n : Nat) (l : Link) : (s.setLink n l).wcu = s.wcu := by
  unfold State.setLink; split <;> rfl
@[simp] theorem State.setLink_mon (s : State) (n : Nat) (l : Link) : (s.setLink n l).mon = s.mon := by
  unfold State.setLink; split <;> rfl
@[simp] theorem State.setLink_thermal (s : State) (n : Nat) (l : Link) : (s.setLink n l).thermal = s.thermal := by
  unfold State.setLink; split <;> rfl
@[simp] theorem State.setLink_ntu (s : State) (n : Nat) (l : Link) : (s.setLink n l).ntu = s.ntu := by
  unfold State.setLink; split <;> rfl
@[simp] theorem State.setLink_evr (s : State) (n : Nat) (l : Link) : (s.setLink n l).evr = s.evr := by
  unfold State.setLink; split <;> rfl
@[simp] theorem State.setLink_spring (s : State) (n : Nat) (l : Link) : (s.setLink n l).spring = s.spring := by
  unfold State.setLink; split <;> rfl
@[simp] theorem State.setLink_fw (s : State) (n : Nat) (l : Link) : (s.setLink n l).fw = s.fw := by
  unfold State.setLink; split <;> rfl
@[simp] theorem State.setLink_cal (s : State) (n : Nat) (l : Link) : (s.setLink n l).cal = s.cal := by
  unfold State.setLink; split <;> rfl
@[simp] theorem State.setOutPort_now (s : State) (n : Nat) (o : OutPort) : (s.setOutPort n o).now = s.now := by
  unfold State.setOutPort; split <;> rfl
@[simp] theorem State.setOutPort_out (s : State) (n : Nat) (o : OutPort) : (s.setOutPort n o).out = s.out := by
  unfold State.setOutPort; split <;> rfl
@[simp] theorem State.setOutPort_pending (s : State) (n : Nat) (o : OutPort) : (s.setOutPort n o).pending = s.pending := by
  unfold State.setOutPort; split <;> rfl
@[simp] theorem State.setOutPort_freeCount (s : State) (n : Nat) (o : OutPort) : (s.setOutPort n o).freeCount = s.freeCount := by
  unfold State.setOutPort; split <;> rfl
@[simp] theorem State.setOutPort_part (s : State) (n : Nat) (o : OutPort) : (s.setOutPort n o).part = s.part := by
  unfold State.setOutPort; split <;> rfl
@[simp] theorem State.setOutPort_rw (s : State) (n : Nat) (o : OutPort) : (s.setOutPort n o).rw = s.rw := by
  unfold State.setOutPort; split <;> rfl
@[simp] theorem State.setOutPort_rwp (s : State) (n : Nat) (o : OutPort) : (s.setOutPort n o).rwp = s.rwp := by
  unfold State.setOutPort; split <;> rfl
@[simp] theorem State.setOutPort_kpp (s : State) (n : Nat) (o : OutPort) : (s.setOutPort n o).kpp = s.kpp := by
  unfold State.setOutPort; split <;> rfl
@[simp] theorem State.setOutPort_txn (s : State) (n : Nat) (o : OutPort) : (s.setOutPort n o).txn = s.txn := by
  unfold State.setOutPort; split <;> rfl
@[simp] theorem State.setOutPort_mram (s : State) (n : Nat) (o : OutPort) : (s.setOutPort n o).mram = s.mram := by
  unfold State.setOutPort; split <;> rfl
@[simp] theorem State.setOutPort_pipe (s : State) (n : Nat) (o : OutPort) : (s.setOutPort n o).pipe = s.pipe := by
  unfold State.setOutPort; split <;> rfl
@[simp] theorem State.setOutPort_edu (s : State) (n : Nat) (o : OutPort) : (s.setOutPort n o).edu = s.edu := by
  unfold State.setOutPort; split <;> rfl
@[simp] theorem State.setOutPort_bsc (s : State) (n : Nat) (o : OutPort) : (s.setOutPort n o).bsc = s.bsc := by
  unfold State.setOutPort; split <;> rfl
@[simp] theorem State.setOutPort_rfe (s : State) (n : Nat) (o : OutPort) : (s.setOutPort n o).rfe = s.rfe := by
  unfold State.setOutPort; split <;> rfl
@[simp] theorem State.setOutPort_tda (s : State) (n : Nat) (o : OutPort) : (s.setOutPort n o).tda = s.tda := by
  unfold State.setOutPort; split <;> rfl
@[simp] theorem State.setOutPort_hac (s : State) (n : Nat) (o : OutPort) : (s.setOutPort n o).hac = s.hac := by
  unfold State.setOutPort; split <;> rfl
@[simp] theorem State.setOutPort_prx (s : State) (n : Nat) (o : OutPort) : (s.setOutPort n o).prx = s.prx := by
  unfold State.setOutPort; split <;> rfl
@[simp] theorem State.setOutPort_mcx (s : State) (n : Nat) (o : OutPort) : (s.setOutPort n o).mcx = s.mcx := by
  unfold State.setOutPort; split <;> rfl
@[simp] theorem State.setOutPort_linkA (s : State) (n : Nat) (o : OutPort) : (s.setOutPort n o).linkA = s.linkA := by
  unfold State.setOutPort; split <;> rfl
@[simp] theorem State.setOutPort_linkB (s : State) (n : Nat) (o : OutPort) : (s.setOutPort n o).linkB = s.linkB := by
  unfold State.setOutPort; split <;> rfl
@[simp] theorem State.setOutPort_emg (s : State) (n : Nat) (o : OutPort) : (s.setOutPort n o).emg = s.emg := by
  unfold State.setOutPort; split <;> rfl
@[simp] theorem State.setOutPort_cu (s : State) (n : Nat) (o : OutPort) : (s.setOutPort n o).cu = s.cu := by
  unfold State.setOutPort; split <;> rfl
@[simp] theorem State.setOutPort_wcu (s : State) (n : Nat) (o : OutPort) : (s.setOutPort n o).wcu = s.wcu := by
  unfold State.setOutPort; split <;> rfl
@[simp] theorem State.setOutPort_mon (s : State) (n : Nat) (o : OutPort) : (s.setOutPort n o).mon = s.mon := by
  unfold State.setOutPort; split <;> rfl
@[simp] theorem State.setOutPort_thermal (s : State) (n : Nat) (o : OutPort) : (s.setOutPort n o).thermal = s.thermal := by
  unfold State.setOutPort; split <;> rfl
@[simp] theorem State.setOutPort_ntu (s : State) (n : Nat) (o : OutPort) : (s.setOutPort n o).ntu = s.ntu := by
  unfold State.setOutPort; split <;> rfl
@[simp] theorem State.setOutPort_evr (s : State) (n : Nat) (o : OutPort) : (s.setOutPort n o).evr = s.evr := by
  unfold State.setOutPort; split <;> rfl
@[simp] theorem State.setOutPort_spring (s : State) (n : Nat) (o : OutPort) : (s.setOutPort n o).spring = s.spring := by
  unfold State.setOutPort; split <;> rfl
@[simp] theorem State.setOutPort_fw (s : State) (n : Nat) (o : OutPort) : (s.setOutPort n o).fw = s.fw := by
  unfold State.setOutPort; split <;> rfl
@[simp] theorem State.setOutPort_cal (s : State) (n : Nat) (o : OutPort) : (s.setOutPort n o).cal = s.cal := by
  unfold State.setOutPort; split <;> rfl
@[simp] theorem State.setAxis_now (s : State) (i : Nat) (a : Axis) : (s.setAxis i a).now = s.now := by
  unfold State.setAxis; split <;> rfl
@[simp] theorem State.setAxis_out (s : State) (i : Nat) (a : Axis) : (s.setAxis i a).out = s.out := by
  unfold State.setAxis; split <;> rfl
@[simp] theorem State.setAxis_pending (s : State) (i : Nat) (a : Axis) : (s.setAxis i a).pending = s.pending := by
  unfold State.setAxis; split <;> rfl
@[simp] theorem State.setAxis_freeCount (s : State) (i : Nat) (a : Axis) : (s.setAxis i a).freeCount = s.freeCount := by
  unfold State.setAxis; split <;> rfl
@[simp] theorem State.setAxis_part (s : State) (i : Nat) (a : Axis) : (s.setAxis i a).part = s.part := by
  unfold State.setAxis; split <;> rfl
@[simp] theorem State.setAxis_rw (s : State) (i : Nat) (a : Axis) : (s.setAxis i a).rw = s.rw := by
  unfold State.setAxis; split <;> rfl
@[simp] theorem State.setAxis_rwp (s : State) (i : Nat) (a : Axis) : (s.setAxis i a).rwp = s.rwp := by
  unfold State.setAxis; split <;> rfl
@[simp] theorem State.setAxis_kpp (s : State) (i : Nat) (a : Axis) : (s.setAxis i a).kpp = s.kpp := by
  unfold State.setAxis; split <;> rfl
@[simp] theorem State.setAxis_txn (s : State) (i : Nat) (a : Axis) : (s.setAxis i a).txn = s.txn := by
  unfold State.setAxis; split <;> rfl
@[simp] theorem State.setAxis_mram (s : State) (i : Nat) (a : Axis) : (s.setAxis i a).mram = s.mram := by
  unfold State.setAxis; split <;> rfl
@[simp] theorem State.setAxis_pipe (s : State) (i : Nat) (a : Axis) : (s.setAxis i a).pipe = s.pipe := by
  unfold State.setAxis; split <;> rfl
@[simp] theorem State.setAxis_edu (s : State) (i : Nat) (a : Axis) : (s.setAxis i a).edu = s.edu := by
  unfold State.setAxis; split <;> rfl
@[simp] theorem State.setAxis_rfe (s : State) (i : Nat) (a : Axis) : (s.setAxis i a).rfe = s.rfe := by
  unfold State.setAxis; split <;> rfl
@[simp] theorem State.setAxis_tda (s : State) (i : Nat) (a : Axis) : (s.setAxis i a).tda = s.tda := by
  unfold State.setAxis; split <;> rfl
@[simp] theorem State.setAxis_hac (s : State) (i : Nat) (a : Axis) : (s.setAxis i a).hac = s.hac := by
  unfold State.setAxis; split <;> rfl
@[simp] theorem State.setAxis_prx (s : State) (i : Nat) (a : Axis) : (s.setAxis i a).prx = s.prx := by
  unfold State.setAxis; split <;> rfl
@[simp] theorem State.setAxis_mcx (s : State) (i : Nat) (a : Axis) : (s.setAxis i a).mcx = s.mcx := by
  unfold State.setAxis; split <;> rfl
@[simp] theorem State.setAxis_fmt (s : State) (i : Nat) (a : Axis) : (s.setAxis i a).fmt = s.fmt := by
  unfold State.setAxis; split <;> rfl
@[simp] theorem State.setAxis_linkA (s : State) (i : Nat) (a : Axis) : (s.setAxis i a).linkA = s.linkA := by
  unfold State.setAxis; split <;> rfl
@[simp] theorem State.setAxis_linkB (s : State) (i : Nat) (a : Axis) : (s.setAxis i a).linkB = s.linkB := by
  unfold State.setAxis; split <;> rfl
@[simp] theorem State.setAxis_emg (s : State) (i : Nat) (a : Axis) : (s.setAxis i a).emg = s.emg := by
  unfold State.setAxis; split <;> rfl
@[simp] theorem State.setAxis_cu (s : State) (i : Nat) (a : Axis) : (s.setAxis i a).cu = s.cu := by
  unfold State.setAxis; split <;> rfl
@[simp] theorem State.setAxis_wcu (s : State) (i : Nat) (a : Axis) : (s.setAxis i a).wcu = s.wcu := by
  unfold State.setAxis; split <;> rfl
@[simp] theorem State.setAxis_mon (s : State) (i : Nat) (a : Axis) : (s.setAxis i a).mon = s.mon := by
  unfold State.setAxis; split <;> rfl
@[simp] theorem State.setAxis_thermal (s : State) (i : Nat) (a : Axis) : (s.setAxis i a).thermal = s.thermal := by
  unfold State.setAxis; split <;> rfl
@[simp] theorem State.setAxis_ntu (s : State) (i : Nat) (a : Axis) : (s.setAxis i a).ntu = s.ntu := by
  unfold State.setAxis; split <;> rfl
@[simp] theorem State.setAxis_evr (s : State) (i : Nat) (a : Axis) : (s.setAxis i a).evr = s.evr := by
  unfold State.setAxis; split <;> rfl
@[simp] theorem State.setAxis_spring (s : State) (i : Nat) (a : Axis) : (s.setAxis i a).spring = s.spring := by
  unfold State.setAxis; split <;> rfl
@[simp] theorem State.setAxis_fw (s : State) (i : Nat) (a : Axis) : (s.setAxis i a).fw = s.fw := by
  unfold State.setAxis; split <;> rfl
@[simp] theorem State.setAxis_cal (s : State) (i : Nat) (a : Axis) : (s.setAxis i a).cal = s.cal := by
  unfold State.setAxis; split <;> rfl
@[simp] theorem State.setChan_now (s : State) (n : Nat) (c : Chan) : (s.setChan n c).now = s.now := rfl
@[simp] theorem State.setChan_out (s : State) (n : Nat) (c : Chan) : (s.setChan n c).out = s.out := rfl
@[simp] theorem State.setChan_pending (s : State) (n : Nat) (c : Chan) : (s.setChan n c).pending = s.pending := rfl
@[simp] theorem State.setChan_freeCount (s : State) (n : Nat) (c : Chan) : (s.setChan n c).freeCount = s.freeCount := rfl
@[simp] theorem State.setChan_part (s : State) (n : Nat) (c : Chan) : (s.setChan n c).part = s.part := rfl
@[simp] theorem State.setChan_rw (s : State) (n : Nat) (c : Chan) : (s.setChan n c).rw = s.rw := rfl
@[simp] theorem State.setChan_rwp (s : State) (n : Nat) (c : Chan) : (s.setChan n c).rwp = s.rwp := rfl
@[simp] theorem State.setChan_kpp (s : State) (n : Nat) (c : Chan) : (s.setChan n c).kpp = s.kpp := rfl
@[simp] theorem State.setChan_txn (s : State) (n : Nat) (c : Chan) : (s.setChan n c).txn = s.txn := rfl
@[simp] theorem State.setChan_mram (s : State) (n : Nat) (c : Chan) : (s.setChan n c).mram = s.mram := rfl
@[simp] theorem State.setChan_pipe (s : State) (n : Nat) (c : Chan) : (s.setChan n c).pipe = s.pipe := rfl
@[simp] theorem State.setChan_edu (s : State) (n : Nat) (c : Chan) : (s.setChan n c).edu = s.edu := rfl
@[simp] theorem State.setChan_bsc (s : State) (n : Nat) (c : Chan) : (s.setChan n c).bsc = s.bsc := rfl
@[simp] theorem State.setChan_tda (s : State) (n : Nat) (c : Chan) : (s.setChan n c).tda = s.tda := rfl
@[simp] theorem State.setChan_hac (s : State) (n : Nat) (c : Chan) : (s.setChan n c).hac = s.hac := rfl
@[simp] theorem State.setChan_prx (s : State) (n : Nat) (c : Chan) : (s.setChan n c).prx = s.prx := rfl
@[simp] theorem State.setChan_mcx (s : State) (n : Nat) (c : Chan) : (s.setChan n c).mcx = s.mcx := rfl
@[simp] theorem State.setChan_fmt (s : State) (n : Nat) (c : Chan) : (s.setChan n c).fmt = s.fmt := rfl
@[simp] theorem State.setChan_linkA (s : State) (n : Nat) (c : Chan) : (s.setChan n c).linkA = s.linkA := rfl
@[simp] theorem State.setChan_linkB (s : State) (n : Nat) (c : Chan) : (s.setChan n c).linkB = s.linkB := rfl
@[simp] theorem State.setChan_emg (s : State) (n : Nat) (c : Chan) : (s.setChan n c).emg = s.emg := rfl
@[simp] theorem State.setChan_cu (s : State) (n : Nat) (c : Chan) : (s.setChan n c).cu = s.cu := rfl
@[simp] theorem State.setChan_wcu (s : State) (n : Nat) (c : Chan) : (s.setChan n c).wcu = s.wcu := rfl
@[simp] theorem State.setChan_mon (s : State) (n : Nat) (c : Chan) : (s.setChan n c).mon = s.mon := rfl
@[simp] theorem State.setChan_thermal (s : State) (n : Nat) (c : Chan) : (s.setChan n c).thermal = s.thermal := rfl
@[simp] theorem State.setChan_ntu (s : State) (n : Nat) (c : Chan) : (s.setChan n c).ntu = s.ntu := rfl
@[simp] theorem State.setChan_evr (s : State) (n : Nat) (c : Chan) : (s.setChan n c).evr = s.evr := rfl
@[simp] theorem State.setChan_spring (s : State) (n : Nat) (c : Chan) : (s.setChan n c).spring = s.spring := rfl
@[simp] theorem State.setChan_fw (s : State) (n : Nat) (c : Chan) : (s.setChan n c).fw = s.fw := rfl
@[simp] theorem State.setChan_cal (s : State) (n : Nat) (c : Chan) : (s.setChan n c).cal = s.cal := rfl
@[simp] theorem State.setPort_now (s : State) (e : Nat) (x : PortState) : (s.setPort e x).now = s.now := rfl
@[simp] theorem State.setPort_out (s : State) (e : Nat) (x : PortState) : (s.setPort e x).out = s.out := rfl
@[simp] theorem State.setPort_pending (s : State) (e : Nat) (x : PortState) : (s.setPort e x).pending = s.pending := rfl
@[simp] theorem State.setPort_freeCount (s : State) (e : Nat) (x : PortState) : (s.setPort e x).freeCount = s.freeCount := rfl
@[simp] theorem State.setPort_part (s : State) (e : Nat) (x : PortState) : (s.setPort e x).part = s.part := rfl
@[simp] theorem State.setPort_rw (s : State) (e : Nat) (x : PortState) : (s.setPort e x).rw = s.rw := rfl
@[simp] theorem State.setPort_rwp (s : State) (e : Nat) (x : PortState) : (s.setPort e x).rwp = s.rwp := rfl
@[simp] theorem State.setPort_kpp (s : State) (e : Nat) (x : PortState) : (s.setPort e x).kpp = s.kpp := rfl
@[simp] theorem State.setPort_txn (s : State) (e : Nat) (x : PortState) : (s.setPort e x).txn = s.txn := rfl
@[simp] theorem State.setPort_mram (s : State) (e : Nat) (x : PortState) : (s.setPort e x).mram = s.mram := rfl
@[simp] theorem State.setPort_pipe (s : State) (e : Nat) (x : PortState) : (s.setPort e x).pipe = s.pipe := rfl
@[simp] theorem State.setPort_bsc (s : State) (e : Nat) (x : PortState) : (s.setPort e x).bsc = s.bsc := rfl
@[simp] theorem State.setPort_rfe (s : State) (e : Nat) (x : PortState) : (s.setPort e x).rfe = s.rfe := rfl
@[simp] theorem State.setPort_tda (s : State) (e : Nat) (x : PortState) : (s.setPort e x).tda = s.tda := rfl
@[simp] theorem State.setPort_hac (s : State) (e : Nat) (x : PortState) : (s.setPort e x).hac = s.hac := rfl
@[simp] theorem State.setPort_prx (s : State) (e : Nat) (x : PortState) : (s.setPort e x).prx = s.prx := rfl
@[simp] theorem State.setPort_mcx (s : State) (e : Nat) (x : PortState) : (s.setPort e x).mcx = s.mcx := rfl
@[simp] theorem State.setPort_fmt (s : State) (e : Nat) (x : PortState) : (s.setPort e x).fmt = s.fmt := rfl
@[simp] theorem State.setPort_linkA (s : State) (e : Nat) (x : PortState) : (s.setPort e x).linkA = s.linkA := rfl
@[simp] theorem State.setPort_linkB (s : State) (e : Nat) (x : PortState) : (s.setPort e x).linkB = s.linkB := rfl
@[simp] theorem State.setPort_emg (s : State) (e : Nat) (x : PortState) : (s.setPort e x).emg = s.emg := rfl
@[simp] theorem State.setPort_cu (s : State) (e : Nat) (x : PortState) : (s.setPort e x).cu = s.cu := rfl
@[simp] theorem State.setPort_wcu (s : State) (e : Nat) (x : PortState) : (s.setPort e x).wcu = s.wcu := rfl
@[simp] theorem State.setPort_mon (s : State) (e : Nat) (x : PortState) : (s.setPort e x).mon = s.mon := rfl
@[simp] theorem State.setPort_thermal (s : State) (e : Nat) (x : PortState) : (s.setPort e x).thermal = s.thermal := rfl
@[simp] theorem State.setPort_ntu (s : State) (e : Nat) (x : PortState) : (s.setPort e x).ntu = s.ntu := rfl
@[simp] theorem State.setPort_evr (s : State) (e : Nat) (x : PortState) : (s.setPort e x).evr = s.evr := rfl
@[simp] theorem State.setPort_spring (s : State) (e : Nat) (x : PortState) : (s.setPort e x).spring = s.spring := rfl
@[simp] theorem State.setPort_fw (s : State) (e : Nat) (x : PortState) : (s.setPort e x).fw = s.fw := rfl
@[simp] theorem State.setPort_cal (s : State) (e : Nat) (x : PortState) : (s.setPort e x).cal = s.cal := rfl

/-! ### Register writes -/

@[simp] theorem State.setReg_now (s : State) (k : Nat) (a : Access) (v : List Byte) : (s.setReg k a v).now = s.now := by
  unfold State.setReg; (repeat' split) <;> rfl
@[simp] theorem State.setReg_out (s : State) (k : Nat) (a : Access) (v : List Byte) : (s.setReg k a v).out = s.out := by
  unfold State.setReg; (repeat' split) <;> rfl
@[simp] theorem State.setReg_pending (s : State) (k : Nat) (a : Access) (v : List Byte) : (s.setReg k a v).pending = s.pending := by
  unfold State.setReg; (repeat' split) <;> rfl
@[simp] theorem State.setReg_freeCount (s : State) (k : Nat) (a : Access) (v : List Byte) : (s.setReg k a v).freeCount = s.freeCount := by
  unfold State.setReg; (repeat' split) <;> rfl
@[simp] theorem State.setReg_part (s : State) (k : Nat) (a : Access) (v : List Byte) : (s.setReg k a v).part = s.part := by
  unfold State.setReg; (repeat' split) <;> rfl
@[simp] theorem State.setReg_kpp (s : State) (k : Nat) (a : Access) (v : List Byte) : (s.setReg k a v).kpp = s.kpp := by
  unfold State.setReg; (repeat' split) <;> rfl
@[simp] theorem State.setReg_txn (s : State) (k : Nat) (a : Access) (v : List Byte) : (s.setReg k a v).txn = s.txn := by
  unfold State.setReg; (repeat' split) <;> rfl
@[simp] theorem State.setReg_mram (s : State) (k : Nat) (a : Access) (v : List Byte) : (s.setReg k a v).mram = s.mram := by
  unfold State.setReg; (repeat' split) <;> rfl
@[simp] theorem State.setReg_pipe (s : State) (k : Nat) (a : Access) (v : List Byte) : (s.setReg k a v).pipe = s.pipe := by
  unfold State.setReg; (repeat' split) <;> rfl
@[simp] theorem State.setReg_edu (s : State) (k : Nat) (a : Access) (v : List Byte) : (s.setReg k a v).edu = s.edu := by
  unfold State.setReg; (repeat' split) <;> rfl
@[simp] theorem State.setReg_bsc (s : State) (k : Nat) (a : Access) (v : List Byte) : (s.setReg k a v).bsc = s.bsc := by
  unfold State.setReg; (repeat' split) <;> rfl
@[simp] theorem State.setReg_rfe (s : State) (k : Nat) (a : Access) (v : List Byte) : (s.setReg k a v).rfe = s.rfe := by
  unfold State.setReg; (repeat' split) <;> rfl
@[simp] theorem State.setReg_tda (s : State) (k : Nat) (a : Access) (v : List Byte) : (s.setReg k a v).tda = s.tda := by
  unfold State.setReg; (repeat' split) <;> rfl
@[simp] theorem State.setReg_hac (s : State) (k : Nat) (a : Access) (v : List Byte) : (s.setReg k a v).hac = s.hac := by
  unfold State.setReg; (repeat' split) <;> rfl
@[simp] theorem State.setReg_prx (s : State) (k : Nat) (a : Access) (v : List Byte) : (s.setReg k a v).prx = s.prx := by
  unfold State.setReg; (repeat' split) <;> rfl
@[simp] theorem State.setReg_mcx (s : State) (k : Nat) (a : Access) (v : List Byte) : (s.setReg k a v).mcx = s.mcx := by
  unfold State.setReg; (repeat' split) <;> rfl
@[simp] theorem State.setReg_fmt (s : State) (k : Nat) (a : Access) (v : List Byte) : (s.setReg k a v).fmt = s.fmt := by
  unfold State.setReg; (repeat' split) <;> rfl
@[simp] theorem State.setReg_linkA (s : State) (k : Nat) (a : Access) (v : List Byte) : (s.setReg k a v).linkA = s.linkA := by
  unfold State.setReg; (repeat' split) <;> rfl
@[simp] theorem State.setReg_linkB (s : State) (k : Nat) (a : Access) (v : List Byte) : (s.setReg k a v).linkB = s.linkB := by
  unfold State.setReg; (repeat' split) <;> rfl
@[simp] theorem State.setReg_emg (s : State) (k : Nat) (a : Access) (v : List Byte) : (s.setReg k a v).emg = s.emg := by
  unfold State.setReg; (repeat' split) <;> rfl
@[simp] theorem State.setReg_cu (s : State) (k : Nat) (a : Access) (v : List Byte) : (s.setReg k a v).cu = s.cu := by
  unfold State.setReg; (repeat' split) <;> rfl
@[simp] theorem State.setReg_wcu (s : State) (k : Nat) (a : Access) (v : List Byte) : (s.setReg k a v).wcu = s.wcu := by
  unfold State.setReg; (repeat' split) <;> rfl
@[simp] theorem State.setReg_mon (s : State) (k : Nat) (a : Access) (v : List Byte) : (s.setReg k a v).mon = s.mon := by
  unfold State.setReg; (repeat' split) <;> rfl
@[simp] theorem State.setReg_thermal (s : State) (k : Nat) (a : Access) (v : List Byte) : (s.setReg k a v).thermal = s.thermal := by
  unfold State.setReg; (repeat' split) <;> rfl
@[simp] theorem State.setReg_ntu (s : State) (k : Nat) (a : Access) (v : List Byte) : (s.setReg k a v).ntu = s.ntu := by
  unfold State.setReg; (repeat' split) <;> rfl
@[simp] theorem State.setReg_evr (s : State) (k : Nat) (a : Access) (v : List Byte) : (s.setReg k a v).evr = s.evr := by
  unfold State.setReg; (repeat' split) <;> rfl
@[simp] theorem State.setReg_fw (s : State) (k : Nat) (a : Access) (v : List Byte) : (s.setReg k a v).fw = s.fw := by
  unfold State.setReg; (repeat' split) <;> rfl
@[simp] theorem State.setReg_cal (s : State) (k : Nat) (a : Access) (v : List Byte) : (s.setReg k a v).cal = s.cal := by
  unfold State.setReg; (repeat' split) <;> rfl

end Sys2Proof.Machine
end

