-- ==== Sys2Proof/Laws/Frame.lean ====
section
/-!
SUPPORT. What a command leaves alone: each unit of the state after `keep` and after a whole list of them, and after time has run on.
-/

namespace Sys2Proof.Machine

@[simp] theorem State.keep_now (s o : State) (x : UnitId) : (s.keep o x).now = s.now := by
  cases x <;> rfl
@[simp] theorem State.keep_out (s o : State) (x : UnitId) : (s.keep o x).out = s.out := by
  cases x <;> rfl
@[simp] theorem State.keep_pending (s o : State) (x : UnitId) : (s.keep o x).pending = s.pending := by
  cases x <;> rfl
@[simp] theorem State.keep_freeCount (s o : State) (x : UnitId) : (s.keep o x).freeCount = s.freeCount := by
  cases x <;> rfl
theorem State.keep_part (s o : State) (x : UnitId) :
    (s.keep o x).part = if x = .part then o.part else s.part := by
  cases x <;> rfl
theorem State.keep_rw (s o : State) (x : UnitId) :
    (s.keep o x).rw = if x = .rw then o.rw else s.rw := by
  cases x <;> rfl
theorem State.keep_rwp (s o : State) (x : UnitId) :
    (s.keep o x).rwp = if x = .rwp then o.rwp else s.rwp := by
  cases x <;> rfl
theorem State.keep_kpp (s o : State) (x : UnitId) :
    (s.keep o x).kpp = if x = .kpp then o.kpp else s.kpp := by
  cases x <;> rfl
theorem State.keep_txn (s o : State) (x : UnitId) :
    (s.keep o x).txn = if x = .txn then o.txn else s.txn := by
  cases x <;> rfl
theorem State.keep_mram (s o : State) (x : UnitId) :
    (s.keep o x).mram = if x = .mram then o.mram else s.mram := by
  cases x <;> rfl
theorem State.keep_pipe (s o : State) (x : UnitId) :
    (s.keep o x).pipe = if x = .pipe then o.pipe else s.pipe := by
  cases x <;> rfl
theorem State.keep_edu (s o : State) (x : UnitId) :
    (s.keep o x).edu = if x = .edu then o.edu else s.edu := by
  cases x <;> rfl
theorem State.keep_bsc (s o : State) (x : UnitId) :
    (s.keep o x).bsc = if x = .bsc then o.bsc else s.bsc := by
  cases x <;> rfl
theorem State.keep_rfe (s o : State) (x : UnitId) :
    (s.keep o x).rfe = if x = .rfe then o.rfe else s.rfe := by
  cases x <;> rfl
theorem State.keep_tda (s o : State) (x : UnitId) :
    (s.keep o x).tda = if x = .tda then o.tda else s.tda := by
  cases x <;> rfl
theorem State.keep_hac (s o : State) (x : UnitId) :
    (s.keep o x).hac = if x = .hac then o.hac else s.hac := by
  cases x <;> rfl
theorem State.keep_prx (s o : State) (x : UnitId) :
    (s.keep o x).prx = if x = .prx then o.prx else s.prx := by
  cases x <;> rfl
theorem State.keep_mcx (s o : State) (x : UnitId) :
    (s.keep o x).mcx = if x = .mcx then o.mcx else s.mcx := by
  cases x <;> rfl
theorem State.keep_fmt (s o : State) (x : UnitId) :
    (s.keep o x).fmt = if x = .fmt then o.fmt else s.fmt := by
  cases x <;> rfl
theorem State.keep_linkA (s o : State) (x : UnitId) :
    (s.keep o x).linkA = if x = .linkA then o.linkA else s.linkA := by
  cases x <;> rfl
theorem State.keep_linkB (s o : State) (x : UnitId) :
    (s.keep o x).linkB = if x = .linkB then o.linkB else s.linkB := by
  cases x <;> rfl
theorem State.keep_emg (s o : State) (x : UnitId) :
    (s.keep o x).emg = if x = .emg then o.emg else s.emg := by
  cases x <;> rfl
theorem State.keep_cu (s o : State) (x : UnitId) :
    (s.keep o x).cu = if x = .cu then o.cu else s.cu := by
  cases x <;> rfl
theorem State.keep_wcu (s o : State) (x : UnitId) :
    (s.keep o x).wcu = if x = .wcu then o.wcu else s.wcu := by
  cases x <;> rfl
theorem State.keep_mon (s o : State) (x : UnitId) :
    (s.keep o x).mon = if x = .mon then o.mon else s.mon := by
  cases x <;> rfl
theorem State.keep_thermal (s o : State) (x : UnitId) :
    (s.keep o x).thermal = if x = .thermal then o.thermal else s.thermal := by
  cases x <;> rfl
theorem State.keep_ntu (s o : State) (x : UnitId) :
    (s.keep o x).ntu = if x = .ntu then o.ntu else s.ntu := by
  cases x <;> rfl
theorem State.keep_evr (s o : State) (x : UnitId) :
    (s.keep o x).evr = if x = .evr then o.evr else s.evr := by
  cases x <;> rfl
theorem State.keep_spring (s o : State) (x : UnitId) :
    (s.keep o x).spring = if x = .spring then o.spring else s.spring := by
  cases x <;> rfl
theorem State.keep_fw (s o : State) (x : UnitId) :
    (s.keep o x).fw = if x = .fw then o.fw else s.fw := by
  cases x <;> rfl
theorem State.keep_cal (s o : State) (x : UnitId) :
    (s.keep o x).cal = if x = .cal then o.cal else s.cal := by
  cases x <;> rfl

/-- The state with every unit of a list as it was. -/
abbrev State.keepAll (s o : State) (fr : List UnitId) : State := fr.foldl (fun acc u => acc.keep o u) s

@[simp] theorem State.keepAll_now (s o : State) (fr : List UnitId) : (s.keepAll o fr).now = s.now := by
  induction fr generalizing s with
  | nil => rfl
  | cons x xs ih => exact (ih _).trans (State.keep_now s o x)
@[simp] theorem State.keepAll_out (s o : State) (fr : List UnitId) : (s.keepAll o fr).out = s.out := by
  induction fr generalizing s with
  | nil => rfl
  | cons x xs ih => exact (ih _).trans (State.keep_out s o x)
@[simp] theorem State.keepAll_pending (s o : State) (fr : List UnitId) : (s.keepAll o fr).pending = s.pending := by
  induction fr generalizing s with
  | nil => rfl
  | cons x xs ih => exact (ih _).trans (State.keep_pending s o x)
@[simp] theorem State.keepAll_freeCount (s o : State) (fr : List UnitId) : (s.keepAll o fr).freeCount = s.freeCount := by
  induction fr generalizing s with
  | nil => rfl
  | cons x xs ih => exact (ih _).trans (State.keep_freeCount s o x)
theorem State.keepAll_part (s o : State) (fr : List UnitId) :
    (s.keepAll o fr).part = if UnitId.part ∈ fr then o.part else s.part := by
  induction fr generalizing s with
  | nil => rfl
  | cons x xs ih =>
    refine (ih (s.keep o x)).trans ?_
    simp only [State.keep_part, List.mem_cons]
    by_cases hx : x = .part
    · subst hx; simp
    · have hy : ¬ UnitId.part = x := fun h => hx h.symm
      simp [hx, hy]
theorem State.keepAll_rw (s o : State) (fr : List UnitId) :
    (s.keepAll o fr).rw = if UnitId.rw ∈ fr then o.rw else s.rw := by
  induction fr generalizing s with
  | nil => rfl
  | cons x xs ih =>
    refine (ih (s.keep o x)).trans ?_
    simp only [State.keep_rw, List.mem_cons]
    by_cases hx : x = .rw
    · subst hx; simp
    · have hy : ¬ UnitId.rw = x := fun h => hx h.symm
      simp [hx, hy]
theorem State.keepAll_rwp (s o : State) (fr : List UnitId) :
    (s.keepAll o fr).rwp = if UnitId.rwp ∈ fr then o.rwp else s.rwp := by
  induction fr generalizing s with
  | nil => rfl
  | cons x xs ih =>
    refine (ih (s.keep o x)).trans ?_
    simp only [State.keep_rwp, List.mem_cons]
    by_cases hx : x = .rwp
    · subst hx; simp
    · have hy : ¬ UnitId.rwp = x := fun h => hx h.symm
      simp [hx, hy]
theorem State.keepAll_kpp (s o : State) (fr : List UnitId) :
    (s.keepAll o fr).kpp = if UnitId.kpp ∈ fr then o.kpp else s.kpp := by
  induction fr generalizing s with
  | nil => rfl
  | cons x xs ih =>
    refine (ih (s.keep o x)).trans ?_
    simp only [State.keep_kpp, List.mem_cons]
    by_cases hx : x = .kpp
    · subst hx; simp
    · have hy : ¬ UnitId.kpp = x := fun h => hx h.symm
      simp [hx, hy]
theorem State.keepAll_txn (s o : State) (fr : List UnitId) :
    (s.keepAll o fr).txn = if UnitId.txn ∈ fr then o.txn else s.txn := by
  induction fr generalizing s with
  | nil => rfl
  | cons x xs ih =>
    refine (ih (s.keep o x)).trans ?_
    simp only [State.keep_txn, List.mem_cons]
    by_cases hx : x = .txn
    · subst hx; simp
    · have hy : ¬ UnitId.txn = x := fun h => hx h.symm
      simp [hx, hy]
theorem State.keepAll_mram (s o : State) (fr : List UnitId) :
    (s.keepAll o fr).mram = if UnitId.mram ∈ fr then o.mram else s.mram := by
  induction fr generalizing s with
  | nil => rfl
  | cons x xs ih =>
    refine (ih (s.keep o x)).trans ?_
    simp only [State.keep_mram, List.mem_cons]
    by_cases hx : x = .mram
    · subst hx; simp
    · have hy : ¬ UnitId.mram = x := fun h => hx h.symm
      simp [hx, hy]
theorem State.keepAll_pipe (s o : State) (fr : List UnitId) :
    (s.keepAll o fr).pipe = if UnitId.pipe ∈ fr then o.pipe else s.pipe := by
  induction fr generalizing s with
  | nil => rfl
  | cons x xs ih =>
    refine (ih (s.keep o x)).trans ?_
    simp only [State.keep_pipe, List.mem_cons]
    by_cases hx : x = .pipe
    · subst hx; simp
    · have hy : ¬ UnitId.pipe = x := fun h => hx h.symm
      simp [hx, hy]
theorem State.keepAll_edu (s o : State) (fr : List UnitId) :
    (s.keepAll o fr).edu = if UnitId.edu ∈ fr then o.edu else s.edu := by
  induction fr generalizing s with
  | nil => rfl
  | cons x xs ih =>
    refine (ih (s.keep o x)).trans ?_
    simp only [State.keep_edu, List.mem_cons]
    by_cases hx : x = .edu
    · subst hx; simp
    · have hy : ¬ UnitId.edu = x := fun h => hx h.symm
      simp [hx, hy]
theorem State.keepAll_bsc (s o : State) (fr : List UnitId) :
    (s.keepAll o fr).bsc = if UnitId.bsc ∈ fr then o.bsc else s.bsc := by
  induction fr generalizing s with
  | nil => rfl
  | cons x xs ih =>
    refine (ih (s.keep o x)).trans ?_
    simp only [State.keep_bsc, List.mem_cons]
    by_cases hx : x = .bsc
    · subst hx; simp
    · have hy : ¬ UnitId.bsc = x := fun h => hx h.symm
      simp [hx, hy]
theorem State.keepAll_rfe (s o : State) (fr : List UnitId) :
    (s.keepAll o fr).rfe = if UnitId.rfe ∈ fr then o.rfe else s.rfe := by
  induction fr generalizing s with
  | nil => rfl
  | cons x xs ih =>
    refine (ih (s.keep o x)).trans ?_
    simp only [State.keep_rfe, List.mem_cons]
    by_cases hx : x = .rfe
    · subst hx; simp
    · have hy : ¬ UnitId.rfe = x := fun h => hx h.symm
      simp [hx, hy]
theorem State.keepAll_tda (s o : State) (fr : List UnitId) :
    (s.keepAll o fr).tda = if UnitId.tda ∈ fr then o.tda else s.tda := by
  induction fr generalizing s with
  | nil => rfl
  | cons x xs ih =>
    refine (ih (s.keep o x)).trans ?_
    simp only [State.keep_tda, List.mem_cons]
    by_cases hx : x = .tda
    · subst hx; simp
    · have hy : ¬ UnitId.tda = x := fun h => hx h.symm
      simp [hx, hy]
theorem State.keepAll_hac (s o : State) (fr : List UnitId) :
    (s.keepAll o fr).hac = if UnitId.hac ∈ fr then o.hac else s.hac := by
  induction fr generalizing s with
  | nil => rfl
  | cons x xs ih =>
    refine (ih (s.keep o x)).trans ?_
    simp only [State.keep_hac, List.mem_cons]
    by_cases hx : x = .hac
    · subst hx; simp
    · have hy : ¬ UnitId.hac = x := fun h => hx h.symm
      simp [hx, hy]
theorem State.keepAll_prx (s o : State) (fr : List UnitId) :
    (s.keepAll o fr).prx = if UnitId.prx ∈ fr then o.prx else s.prx := by
  induction fr generalizing s with
  | nil => rfl
  | cons x xs ih =>
    refine (ih (s.keep o x)).trans ?_
    simp only [State.keep_prx, List.mem_cons]
    by_cases hx : x = .prx
    · subst hx; simp
    · have hy : ¬ UnitId.prx = x := fun h => hx h.symm
      simp [hx, hy]
theorem State.keepAll_mcx (s o : State) (fr : List UnitId) :
    (s.keepAll o fr).mcx = if UnitId.mcx ∈ fr then o.mcx else s.mcx := by
  induction fr generalizing s with
  | nil => rfl
  | cons x xs ih =>
    refine (ih (s.keep o x)).trans ?_
    simp only [State.keep_mcx, List.mem_cons]
    by_cases hx : x = .mcx
    · subst hx; simp
    · have hy : ¬ UnitId.mcx = x := fun h => hx h.symm
      simp [hx, hy]
theorem State.keepAll_fmt (s o : State) (fr : List UnitId) :
    (s.keepAll o fr).fmt = if UnitId.fmt ∈ fr then o.fmt else s.fmt := by
  induction fr generalizing s with
  | nil => rfl
  | cons x xs ih =>
    refine (ih (s.keep o x)).trans ?_
    simp only [State.keep_fmt, List.mem_cons]
    by_cases hx : x = .fmt
    · subst hx; simp
    · have hy : ¬ UnitId.fmt = x := fun h => hx h.symm
      simp [hx, hy]
theorem State.keepAll_linkA (s o : State) (fr : List UnitId) :
    (s.keepAll o fr).linkA = if UnitId.linkA ∈ fr then o.linkA else s.linkA := by
  induction fr generalizing s with
  | nil => rfl
  | cons x xs ih =>
    refine (ih (s.keep o x)).trans ?_
    simp only [State.keep_linkA, List.mem_cons]
    by_cases hx : x = .linkA
    · subst hx; simp
    · have hy : ¬ UnitId.linkA = x := fun h => hx h.symm
      simp [hx, hy]
theorem State.keepAll_linkB (s o : State) (fr : List UnitId) :
    (s.keepAll o fr).linkB = if UnitId.linkB ∈ fr then o.linkB else s.linkB := by
  induction fr generalizing s with
  | nil => rfl
  | cons x xs ih =>
    refine (ih (s.keep o x)).trans ?_
    simp only [State.keep_linkB, List.mem_cons]
    by_cases hx : x = .linkB
    · subst hx; simp
    · have hy : ¬ UnitId.linkB = x := fun h => hx h.symm
      simp [hx, hy]
theorem State.keepAll_emg (s o : State) (fr : List UnitId) :
    (s.keepAll o fr).emg = if UnitId.emg ∈ fr then o.emg else s.emg := by
  induction fr generalizing s with
  | nil => rfl
  | cons x xs ih =>
    refine (ih (s.keep o x)).trans ?_
    simp only [State.keep_emg, List.mem_cons]
    by_cases hx : x = .emg
    · subst hx; simp
    · have hy : ¬ UnitId.emg = x := fun h => hx h.symm
      simp [hx, hy]
theorem State.keepAll_cu (s o : State) (fr : List UnitId) :
    (s.keepAll o fr).cu = if UnitId.cu ∈ fr then o.cu else s.cu := by
  induction fr generalizing s with
  | nil => rfl
  | cons x xs ih =>
    refine (ih (s.keep o x)).trans ?_
    simp only [State.keep_cu, List.mem_cons]
    by_cases hx : x = .cu
    · subst hx; simp
    · have hy : ¬ UnitId.cu = x := fun h => hx h.symm
      simp [hx, hy]
theorem State.keepAll_wcu (s o : State) (fr : List UnitId) :
    (s.keepAll o fr).wcu = if UnitId.wcu ∈ fr then o.wcu else s.wcu := by
  induction fr generalizing s with
  | nil => rfl
  | cons x xs ih =>
    refine (ih (s.keep o x)).trans ?_
    simp only [State.keep_wcu, List.mem_cons]
    by_cases hx : x = .wcu
    · subst hx; simp
    · have hy : ¬ UnitId.wcu = x := fun h => hx h.symm
      simp [hx, hy]
theorem State.keepAll_mon (s o : State) (fr : List UnitId) :
    (s.keepAll o fr).mon = if UnitId.mon ∈ fr then o.mon else s.mon := by
  induction fr generalizing s with
  | nil => rfl
  | cons x xs ih =>
    refine (ih (s.keep o x)).trans ?_
    simp only [State.keep_mon, List.mem_cons]
    by_cases hx : x = .mon
    · subst hx; simp
    · have hy : ¬ UnitId.mon = x := fun h => hx h.symm
      simp [hx, hy]
theorem State.keepAll_thermal (s o : State) (fr : List UnitId) :
    (s.keepAll o fr).thermal = if UnitId.thermal ∈ fr then o.thermal else s.thermal := by
  induction fr generalizing s with
  | nil => rfl
  | cons x xs ih =>
    refine (ih (s.keep o x)).trans ?_
    simp only [State.keep_thermal, List.mem_cons]
    by_cases hx : x = .thermal
    · subst hx; simp
    · have hy : ¬ UnitId.thermal = x := fun h => hx h.symm
      simp [hx, hy]
theorem State.keepAll_ntu (s o : State) (fr : List UnitId) :
    (s.keepAll o fr).ntu = if UnitId.ntu ∈ fr then o.ntu else s.ntu := by
  induction fr generalizing s with
  | nil => rfl
  | cons x xs ih =>
    refine (ih (s.keep o x)).trans ?_
    simp only [State.keep_ntu, List.mem_cons]
    by_cases hx : x = .ntu
    · subst hx; simp
    · have hy : ¬ UnitId.ntu = x := fun h => hx h.symm
      simp [hx, hy]
theorem State.keepAll_evr (s o : State) (fr : List UnitId) :
    (s.keepAll o fr).evr = if UnitId.evr ∈ fr then o.evr else s.evr := by
  induction fr generalizing s with
  | nil => rfl
  | cons x xs ih =>
    refine (ih (s.keep o x)).trans ?_
    simp only [State.keep_evr, List.mem_cons]
    by_cases hx : x = .evr
    · subst hx; simp
    · have hy : ¬ UnitId.evr = x := fun h => hx h.symm
      simp [hx, hy]
theorem State.keepAll_spring (s o : State) (fr : List UnitId) :
    (s.keepAll o fr).spring = if UnitId.spring ∈ fr then o.spring else s.spring := by
  induction fr generalizing s with
  | nil => rfl
  | cons x xs ih =>
    refine (ih (s.keep o x)).trans ?_
    simp only [State.keep_spring, List.mem_cons]
    by_cases hx : x = .spring
    · subst hx; simp
    · have hy : ¬ UnitId.spring = x := fun h => hx h.symm
      simp [hx, hy]
theorem State.keepAll_fw (s o : State) (fr : List UnitId) :
    (s.keepAll o fr).fw = if UnitId.fw ∈ fr then o.fw else s.fw := by
  induction fr generalizing s with
  | nil => rfl
  | cons x xs ih =>
    refine (ih (s.keep o x)).trans ?_
    simp only [State.keep_fw, List.mem_cons]
    by_cases hx : x = .fw
    · subst hx; simp
    · have hy : ¬ UnitId.fw = x := fun h => hx h.symm
      simp [hx, hy]
theorem State.keepAll_cal (s o : State) (fr : List UnitId) :
    (s.keepAll o fr).cal = if UnitId.cal ∈ fr then o.cal else s.cal := by
  induction fr generalizing s with
  | nil => rfl
  | cons x xs ih =>
    refine (ih (s.keep o x)).trans ?_
    simp only [State.keep_cal, List.mem_cons]
    by_cases hx : x = .cal
    · subst hx; simp
    · have hy : ¬ UnitId.cal = x := fun h => hx h.symm
      simp [hx, hy]

end Sys2Proof.Machine
end

