-- ==== Sys2Proof/Laws/Run.lean ====
section
/-!
SUPPORT. What `run` and `runMain` answer, and how a command's frame says what it leaves alone.
-/

namespace Sys2Proof.Machine

/-- A command of the main domain, with the domain out of reset. -/
theorem runMain_eq {t : Nat} {fr : List UnitId} {f : State → State} {s : State} (h : s.mainOn = true) :
    runMain t fr f s = .next { (f (s.atTime t)).keepAll (s.atTime t) fr with pending := s.pending, now := max s.now t } := by
  have h' : (s.atTime t).mainOn = true := h
  simp only [runMain, run, h', if_true]; rfl
theorem run_eq {t : Nat} {fr : List UnitId} {f : State → State} {s : State} :
    run t fr f s = .next { (f (s.atTime t)).keepAll (s.atTime t) fr with pending := s.pending, now := max s.now t } := rfl
theorem gives_main {i : Instr} {t : Nat} {fr : List UnitId} {f : State → State} {s : State} {P : State → Prop}
    (he : exec i s = runMain t fr f s) (hm : s.mainOn = true)
    (hp : P { (f (s.atTime t)).keepAll (s.atTime t) fr with pending := s.pending, now := max s.now t }) : Gives i s P :=
  ⟨_, by rw [he, runMain_eq hm], hp⟩
theorem gives_run {i : Instr} {t : Nat} {fr : List UnitId} {f : State → State} {s : State} {P : State → Prop}
    (he : exec i s = run t fr f s)
    (hp : P { (f (s.atTime t)).keepAll (s.atTime t) fr with pending := s.pending, now := max s.now t }) : Gives i s P :=
  ⟨_, by rw [he, run_eq], hp⟩
/-- The units outside `l` are as they were where the frame covers them. -/
theorem onlyChanges_of {t : Nat} {fr l : List UnitId} {a : State} {s : State}
    (h : ∀ x, x ∉ l → x ∈ fr) :
    OnlyChanges l s { a.keepAll (s.atTime t) fr with pending := s.pending, now := max s.now t } := by
  refine ⟨rfl, fun x hx => ?_⟩
  have hm := h x hx
  cases x <;> simp only [sameUnit, State.keepAll_part, State.keepAll_rw, State.keepAll_rwp, State.keepAll_kpp, State.keepAll_txn, State.keepAll_mram, State.keepAll_pipe, State.keepAll_edu, State.keepAll_bsc, State.keepAll_rfe, State.keepAll_tda, State.keepAll_hac, State.keepAll_prx, State.keepAll_mcx, State.keepAll_fmt, State.keepAll_linkA, State.keepAll_linkB, State.keepAll_emg, State.keepAll_cu, State.keepAll_wcu, State.keepAll_mon, State.keepAll_thermal, State.keepAll_ntu, State.keepAll_evr, State.keepAll_spring, State.keepAll_fw, State.keepAll_cal, hm, if_true] <;> rfl

/-- Units outside `l` lie in the frame `fr`; decided once for each pair of lists. -/
theorem frame_covers {l fr : List UnitId} (h : ([.rw, .rwp, .kpp, .txn, .mram, .pipe, .edu, .bsc, .rfe, .tda, .hac, .prx, .mcx, .fmt, .linkA, .linkB, .emg, .cu, .wcu, .mon, .thermal, .ntu, .evr, .spring, .fw, .cal, .part] : List UnitId).all (fun x => l.contains x || fr.contains x) = true) :
    ∀ x, x ∉ l → x ∈ fr := by
  intro x hx
  have : (l.contains x || fr.contains x) = true := by
    cases x <;> simp_all
  simpa [hx] using this


theorem gives_next {u : State} {P : State → Prop} (h : P u) :
    ∃ v, (Host.Outcome.next u : Host.Outcome State Fault Refusal) = .next v ∧ P v := ⟨u, rfl, h⟩

end Sys2Proof.Machine
end

