-- ==== Sys2Proof/Laws/Raise.lean ====
section
/-!
SUPPORT. An event and a trigger of the recorder change the records and the recorder, and nothing else.
-/

namespace Sys2Proof.Machine

/-! ### Records, incidents, triggers and events -/
@[simp] theorem State.record_now (s : State) (c n : Nat) (d : Word) : (s.record c n d).now = s.now := by
  unfold State.record; simp only []; (repeat' split) <;> rfl
@[simp] theorem State.record_out (s : State) (c n : Nat) (d : Word) : (s.record c n d).out = s.out := by
  unfold State.record; simp only []; (repeat' split) <;> rfl
@[simp] theorem State.record_pending (s : State) (c n : Nat) (d : Word) : (s.record c n d).pending = s.pending := by
  unfold State.record; simp only []; (repeat' split) <;> rfl
@[simp] theorem State.record_freeCount (s : State) (c n : Nat) (d : Word) : (s.record c n d).freeCount = s.freeCount := by
  unfold State.record; simp only []; (repeat' split) <;> rfl
@[simp] theorem State.record_part (s : State) (c n : Nat) (d : Word) : (s.record c n d).part = s.part := by
  unfold State.record; simp only []; (repeat' split) <;> rfl
@[simp] theorem State.record_rw (s : State) (c n : Nat) (d : Word) : (s.record c n d).rw = s.rw := by
  unfold State.record; simp only []; (repeat' split) <;> rfl
@[simp] theorem State.record_rwp (s : State) (c n : Nat) (d : Word) : (s.record c n d).rwp = s.rwp := by
  unfold State.record; simp only []; (repeat' split) <;> rfl
@[simp] theorem State.record_txn (s : State) (c n : Nat) (d : Word) : (s.record c n d).txn = s.txn := by
  unfold State.record; simp only []; (repeat' split) <;> rfl
@[simp] theorem State.record_mram (s : State) (c n : Nat) (d : Word) : (s.record c n d).mram = s.mram := by
  unfold State.record; simp only []; (repeat' split) <;> rfl
@[simp] theorem State.record_pipe (s : State) (c n : Nat) (d : Word) : (s.record c n d).pipe = s.pipe := by
  unfold State.record; simp only []; (repeat' split) <;> rfl
@[simp] theorem State.record_edu (s : State) (c n : Nat) (d : Word) : (s.record c n d).edu = s.edu := by
  unfold State.record; simp only []; (repeat' split) <;> rfl
@[simp] theorem State.record_bsc (s : State) (c n : Nat) (d : Word) : (s.record c n d).bsc = s.bsc := by
  unfold State.record; simp only []; (repeat' split) <;> rfl
@[simp] theorem State.record_rfe (s : State) (c n : Nat) (d : Word) : (s.record c n d).rfe = s.rfe := by
  unfold State.record; simp only []; (repeat' split) <;> rfl
@[simp] theorem State.record_tda (s : State) (c n : Nat) (d : Word) : (s.record c n d).tda = s.tda := by
  unfold State.record; simp only []; (repeat' split) <;> rfl
@[simp] theorem State.record_hac (s : State) (c n : Nat) (d : Word) : (s.record c n d).hac = s.hac := by
  unfold State.record; simp only []; (repeat' split) <;> rfl
@[simp] theorem State.record_prx (s : State) (c n : Nat) (d : Word) : (s.record c n d).prx = s.prx := by
  unfold State.record; simp only []; (repeat' split) <;> rfl
@[simp] theorem State.record_mcx (s : State) (c n : Nat) (d : Word) : (s.record c n d).mcx = s.mcx := by
  unfold State.record; simp only []; (repeat' split) <;> rfl
@[simp] theorem State.record_fmt (s : State) (c n : Nat) (d : Word) : (s.record c n d).fmt = s.fmt := by
  unfold State.record; simp only []; (repeat' split) <;> rfl
@[simp] theorem State.record_linkA (s : State) (c n : Nat) (d : Word) : (s.record c n d).linkA = s.linkA := by
  unfold State.record; simp only []; (repeat' split) <;> rfl
@[simp] theorem State.record_linkB (s : State) (c n : Nat) (d : Word) : (s.record c n d).linkB = s.linkB := by
  unfold State.record; simp only []; (repeat' split) <;> rfl
@[simp] theorem State.record_emg (s : State) (c n : Nat) (d : Word) : (s.record c n d).emg = s.emg := by
  unfold State.record; simp only []; (repeat' split) <;> rfl
@[simp] theorem State.record_cu (s : State) (c n : Nat) (d : Word) : (s.record c n d).cu = s.cu := by
  unfold State.record; simp only []; (repeat' split) <;> rfl
@[simp] theorem State.record_wcu (s : State) (c n : Nat) (d : Word) : (s.record c n d).wcu = s.wcu := by
  unfold State.record; simp only []; (repeat' split) <;> rfl
@[simp] theorem State.record_mon (s : State) (c n : Nat) (d : Word) : (s.record c n d).mon = s.mon := by
  unfold State.record; simp only []; (repeat' split) <;> rfl
@[simp] theorem State.record_thermal (s : State) (c n : Nat) (d : Word) : (s.record c n d).thermal = s.thermal := by
  unfold State.record; simp only []; (repeat' split) <;> rfl
@[simp] theorem State.record_ntu (s : State) (c n : Nat) (d : Word) : (s.record c n d).ntu = s.ntu := by
  unfold State.record; simp only []; (repeat' split) <;> rfl
@[simp] theorem State.record_spring (s : State) (c n : Nat) (d : Word) : (s.record c n d).spring = s.spring := by
  unfold State.record; simp only []; (repeat' split) <;> rfl
@[simp] theorem State.record_fw (s : State) (c n : Nat) (d : Word) : (s.record c n d).fw = s.fw := by
  unfold State.record; simp only []; (repeat' split) <;> rfl
@[simp] theorem State.record_cal (s : State) (c n : Nat) (d : Word) : (s.record c n d).cal = s.cal := by
  unfold State.record; simp only []; (repeat' split) <;> rfl
@[simp] theorem State.record_evr (s : State) (c n : Nat) (d : Word) : (s.record c n d).evr = s.evr := by
  unfold State.record; simp only []; (repeat' split) <;> rfl
@[simp] theorem State.newIncident_now (s : State) (c : Nat) : (s.newIncident c).now = s.now := rfl
@[simp] theorem State.newIncident_out (s : State) (c : Nat) : (s.newIncident c).out = s.out := rfl
@[simp] theorem State.newIncident_pending (s : State) (c : Nat) : (s.newIncident c).pending = s.pending := rfl
@[simp] theorem State.newIncident_freeCount (s : State) (c : Nat) : (s.newIncident c).freeCount = s.freeCount := rfl
@[simp] theorem State.newIncident_part (s : State) (c : Nat) : (s.newIncident c).part = s.part := rfl
@[simp] theorem State.newIncident_rw (s : State) (c : Nat) : (s.newIncident c).rw = s.rw := rfl
@[simp] theorem State.newIncident_rwp (s : State) (c : Nat) : (s.newIncident c).rwp = s.rwp := rfl
@[simp] theorem State.newIncident_txn (s : State) (c : Nat) : (s.newIncident c).txn = s.txn := rfl
@[simp] theorem State.newIncident_mram (s : State) (c : Nat) : (s.newIncident c).mram = s.mram := rfl
@[simp] theorem State.newIncident_pipe (s : State) (c : Nat) : (s.newIncident c).pipe = s.pipe := rfl
@[simp] theorem State.newIncident_edu (s : State) (c : Nat) : (s.newIncident c).edu = s.edu := rfl
@[simp] theorem State.newIncident_bsc (s : State) (c : Nat) : (s.newIncident c).bsc = s.bsc := rfl
@[simp] theorem State.newIncident_rfe (s : State) (c : Nat) : (s.newIncident c).rfe = s.rfe := rfl
@[simp] theorem State.newIncident_tda (s : State) (c : Nat) : (s.newIncident c).tda = s.tda := rfl
@[simp] theorem State.newIncident_hac (s : State) (c : Nat) : (s.newIncident c).hac = s.hac := rfl
@[simp] theorem State.newIncident_prx (s : State) (c : Nat) : (s.newIncident c).prx = s.prx := rfl
@[simp] theorem State.newIncident_mcx (s : State) (c : Nat) : (s.newIncident c).mcx = s.mcx := rfl
@[simp] theorem State.newIncident_fmt (s : State) (c : Nat) : (s.newIncident c).fmt = s.fmt := rfl
@[simp] theorem State.newIncident_linkA (s : State) (c : Nat) : (s.newIncident c).linkA = s.linkA := rfl
@[simp] theorem State.newIncident_linkB (s : State) (c : Nat) : (s.newIncident c).linkB = s.linkB := rfl
@[simp] theorem State.newIncident_emg (s : State) (c : Nat) : (s.newIncident c).emg = s.emg := rfl
@[simp] theorem State.newIncident_cu (s : State) (c : Nat) : (s.newIncident c).cu = s.cu := rfl
@[simp] theorem State.newIncident_wcu (s : State) (c : Nat) : (s.newIncident c).wcu = s.wcu := rfl
@[simp] theorem State.newIncident_mon (s : State) (c : Nat) : (s.newIncident c).mon = s.mon := rfl
@[simp] theorem State.newIncident_thermal (s : State) (c : Nat) : (s.newIncident c).thermal = s.thermal := rfl
@[simp] theorem State.newIncident_ntu (s : State) (c : Nat) : (s.newIncident c).ntu = s.ntu := rfl
@[simp] theorem State.newIncident_spring (s : State) (c : Nat) : (s.newIncident c).spring = s.spring := rfl
@[simp] theorem State.newIncident_fw (s : State) (c : Nat) : (s.newIncident c).fw = s.fw := rfl
@[simp] theorem State.newIncident_cal (s : State) (c : Nat) : (s.newIncident c).cal = s.cal := rfl
@[simp] theorem State.trigger_now (s : State) (c : Nat) : (s.trigger c).now = s.now := by
  unfold State.trigger; simp only []; (repeat' split) <;> simp
@[simp] theorem State.trigger_out (s : State) (c : Nat) : (s.trigger c).out = s.out := by
  unfold State.trigger; simp only []; (repeat' split) <;> simp
@[simp] theorem State.trigger_pending (s : State) (c : Nat) : (s.trigger c).pending = s.pending := by
  unfold State.trigger; simp only []; (repeat' split) <;> simp
@[simp] theorem State.trigger_freeCount (s : State) (c : Nat) : (s.trigger c).freeCount = s.freeCount := by
  unfold State.trigger; simp only []; (repeat' split) <;> simp
@[simp] theorem State.trigger_part (s : State) (c : Nat) : (s.trigger c).part = s.part := by
  unfold State.trigger; simp only []; (repeat' split) <;> simp
@[simp] theorem State.trigger_rw (s : State) (c : Nat) : (s.trigger c).rw = s.rw := by
  unfold State.trigger; simp only []; (repeat' split) <;> simp
@[simp] theorem State.trigger_rwp (s : State) (c : Nat) : (s.trigger c).rwp = s.rwp := by
  unfold State.trigger; simp only []; (repeat' split) <;> simp
@[simp] theorem State.trigger_txn (s : State) (c : Nat) : (s.trigger c).txn = s.txn := by
  unfold State.trigger; simp only []; (repeat' split) <;> simp
@[simp] theorem State.trigger_mram (s : State) (c : Nat) : (s.trigger c).mram = s.mram := by
  unfold State.trigger; simp only []; (repeat' split) <;> simp
@[simp] theorem State.trigger_pipe (s : State) (c : Nat) : (s.trigger c).pipe = s.pipe := by
  unfold State.trigger; simp only []; (repeat' split) <;> simp
@[simp] theorem State.trigger_edu (s : State) (c : Nat) : (s.trigger c).edu = s.edu := by
  unfold State.trigger; simp only []; (repeat' split) <;> simp
@[simp] theorem State.trigger_bsc (s : State) (c : Nat) : (s.trigger c).bsc = s.bsc := by
  unfold State.trigger; simp only []; (repeat' split) <;> simp
@[simp] theorem State.trigger_rfe (s : State) (c : Nat) : (s.trigger c).rfe = s.rfe := by
  unfold State.trigger; simp only []; (repeat' split) <;> simp
@[simp] theorem State.trigger_tda (s : State) (c : Nat) : (s.trigger c).tda = s.tda := by
  unfold State.trigger; simp only []; (repeat' split) <;> simp
@[simp] theorem State.trigger_hac (s : State) (c : Nat) : (s.trigger c).hac = s.hac := by
  unfold State.trigger; simp only []; (repeat' split) <;> simp
@[simp] theorem State.trigger_prx (s : State) (c : Nat) : (s.trigger c).prx = s.prx := by
  unfold State.trigger; simp only []; (repeat' split) <;> simp
@[simp] theorem State.trigger_mcx (s : State) (c : Nat) : (s.trigger c).mcx = s.mcx := by
  unfold State.trigger; simp only []; (repeat' split) <;> simp
@[simp] theorem State.trigger_fmt (s : State) (c : Nat) : (s.trigger c).fmt = s.fmt := by
  unfold State.trigger; simp only []; (repeat' split) <;> simp
@[simp] theorem State.trigger_linkA (s : State) (c : Nat) : (s.trigger c).linkA = s.linkA := by
  unfold State.trigger; simp only []; (repeat' split) <;> simp
@[simp] theorem State.trigger_linkB (s : State) (c : Nat) : (s.trigger c).linkB = s.linkB := by
  unfold State.trigger; simp only []; (repeat' split) <;> simp
@[simp] theorem State.trigger_emg (s : State) (c : Nat) : (s.trigger c).emg = s.emg := by
  unfold State.trigger; simp only []; (repeat' split) <;> simp
@[simp] theorem State.trigger_cu (s : State) (c : Nat) : (s.trigger c).cu = s.cu := by
  unfold State.trigger; simp only []; (repeat' split) <;> simp
@[simp] theorem State.trigger_wcu (s : State) (c : Nat) : (s.trigger c).wcu = s.wcu := by
  unfold State.trigger; simp only []; (repeat' split) <;> simp
@[simp] theorem State.trigger_mon (s : State) (c : Nat) : (s.trigger c).mon = s.mon := by
  unfold State.trigger; simp only []; (repeat' split) <;> simp
@[simp] theorem State.trigger_thermal (s : State) (c : Nat) : (s.trigger c).thermal = s.thermal := by
  unfold State.trigger; simp only []; (repeat' split) <;> simp
@[simp] theorem State.trigger_ntu (s : State) (c : Nat) : (s.trigger c).ntu = s.ntu := by
  unfold State.trigger; simp only []; (repeat' split) <;> simp
@[simp] theorem State.trigger_spring (s : State) (c : Nat) : (s.trigger c).spring = s.spring := by
  unfold State.trigger; simp only []; (repeat' split) <;> simp
@[simp] theorem State.trigger_fw (s : State) (c : Nat) : (s.trigger c).fw = s.fw := by
  unfold State.trigger; simp only []; (repeat' split) <;> simp
@[simp] theorem State.trigger_cal (s : State) (c : Nat) : (s.trigger c).cal = s.cal := by
  unfold State.trigger; simp only []; (repeat' split) <;> simp
@[simp] theorem State.raise_now (s : State) (c n d : Nat) : (s.raise c n d).now = s.now := by
  unfold State.raise; simp only []; (repeat' split) <;> simp
@[simp] theorem State.raise_out (s : State) (c n d : Nat) : (s.raise c n d).out = s.out := by
  unfold State.raise; simp only []; (repeat' split) <;> simp
@[simp] theorem State.raise_pending (s : State) (c n d : Nat) : (s.raise c n d).pending = s.pending := by
  unfold State.raise; simp only []; (repeat' split) <;> simp
@[simp] theorem State.raise_freeCount (s : State) (c n d : Nat) : (s.raise c n d).freeCount = s.freeCount := by
  unfold State.raise; simp only []; (repeat' split) <;> simp
@[simp] theorem State.raise_part (s : State) (c n d : Nat) : (s.raise c n d).part = s.part := by
  unfold State.raise; simp only []; (repeat' split) <;> simp
@[simp] theorem State.raise_rw (s : State) (c n d : Nat) : (s.raise c n d).rw = s.rw := by
  unfold State.raise; simp only []; (repeat' split) <;> simp
@[simp] theorem State.raise_rwp (s : State) (c n d : Nat) : (s.raise c n d).rwp = s.rwp := by
  unfold State.raise; simp only []; (repeat' split) <;> simp
@[simp] theorem State.raise_txn (s : State) (c n d : Nat) : (s.raise c n d).txn = s.txn := by
  unfold State.raise; simp only []; (repeat' split) <;> simp
@[simp] theorem State.raise_mram (s : State) (c n d : Nat) : (s.raise c n d).mram = s.mram := by
  unfold State.raise; simp only []; (repeat' split) <;> simp
@[simp] theorem State.raise_pipe (s : State) (c n d : Nat) : (s.raise c n d).pipe = s.pipe := by
  unfold State.raise; simp only []; (repeat' split) <;> simp
@[simp] theorem State.raise_edu (s : State) (c n d : Nat) : (s.raise c n d).edu = s.edu := by
  unfold State.raise; simp only []; (repeat' split) <;> simp
@[simp] theorem State.raise_bsc (s : State) (c n d : Nat) : (s.raise c n d).bsc = s.bsc := by
  unfold State.raise; simp only []; (repeat' split) <;> simp
@[simp] theorem State.raise_rfe (s : State) (c n d : Nat) : (s.raise c n d).rfe = s.rfe := by
  unfold State.raise; simp only []; (repeat' split) <;> simp
@[simp] theorem State.raise_tda (s : State) (c n d : Nat) : (s.raise c n d).tda = s.tda := by
  unfold State.raise; simp only []; (repeat' split) <;> simp
@[simp] theorem State.raise_hac (s : State) (c n d : Nat) : (s.raise c n d).hac = s.hac := by
  unfold State.raise; simp only []; (repeat' split) <;> simp
@[simp] theorem State.raise_prx (s : State) (c n d : Nat) : (s.raise c n d).prx = s.prx := by
  unfold State.raise; simp only []; (repeat' split) <;> simp
@[simp] theorem State.raise_mcx (s : State) (c n d : Nat) : (s.raise c n d).mcx = s.mcx := by
  unfold State.raise; simp only []; (repeat' split) <;> simp
@[simp] theorem State.raise_fmt (s : State) (c n d : Nat) : (s.raise c n d).fmt = s.fmt := by
  unfold State.raise; simp only []; (repeat' split) <;> simp
@[simp] theorem State.raise_linkA (s : State) (c n d : Nat) : (s.raise c n d).linkA = s.linkA := by
  unfold State.raise; simp only []; (repeat' split) <;> simp
@[simp] theorem State.raise_linkB (s : State) (c n d : Nat) : (s.raise c n d).linkB = s.linkB := by
  unfold State.raise; simp only []; (repeat' split) <;> simp
@[simp] theorem State.raise_emg (s : State) (c n d : Nat) : (s.raise c n d).emg = s.emg := by
  unfold State.raise; simp only []; (repeat' split) <;> simp
@[simp] theorem State.raise_cu (s : State) (c n d : Nat) : (s.raise c n d).cu = s.cu := by
  unfold State.raise; simp only []; (repeat' split) <;> simp
@[simp] theorem State.raise_wcu (s : State) (c n d : Nat) : (s.raise c n d).wcu = s.wcu := by
  unfold State.raise; simp only []; (repeat' split) <;> simp
@[simp] theorem State.raise_mon (s : State) (c n d : Nat) : (s.raise c n d).mon = s.mon := by
  unfold State.raise; simp only []; (repeat' split) <;> simp
@[simp] theorem State.raise_thermal (s : State) (c n d : Nat) : (s.raise c n d).thermal = s.thermal := by
  unfold State.raise; simp only []; (repeat' split) <;> simp
@[simp] theorem State.raise_ntu (s : State) (c n d : Nat) : (s.raise c n d).ntu = s.ntu := by
  unfold State.raise; simp only []; (repeat' split) <;> simp
@[simp] theorem State.raise_spring (s : State) (c n d : Nat) : (s.raise c n d).spring = s.spring := by
  unfold State.raise; simp only []; (repeat' split) <;> simp
@[simp] theorem State.raise_fw (s : State) (c n d : Nat) : (s.raise c n d).fw = s.fw := by
  unfold State.raise; simp only []; (repeat' split) <;> simp
@[simp] theorem State.raise_cal (s : State) (c n d : Nat) : (s.raise c n d).cal = s.cal := by
  unfold State.raise; simp only []; (repeat' split) <;> simp
@[simp] theorem State.raiseIf_now (s : State) (b : Bool) (c n d : Nat) : (s.raiseIf b c n d).now = s.now := by
  unfold State.raiseIf; split <;> simp
@[simp] theorem State.raiseIf_out (s : State) (b : Bool) (c n d : Nat) : (s.raiseIf b c n d).out = s.out := by
  unfold State.raiseIf; split <;> simp
@[simp] theorem State.raiseIf_pending (s : State) (b : Bool) (c n d : Nat) : (s.raiseIf b c n d).pending = s.pending := by
  unfold State.raiseIf; split <;> simp
@[simp] theorem State.raiseIf_freeCount (s : State) (b : Bool) (c n d : Nat) : (s.raiseIf b c n d).freeCount = s.freeCount := by
  unfold State.raiseIf; split <;> simp
@[simp] theorem State.raiseIf_part (s : State) (b : Bool) (c n d : Nat) : (s.raiseIf b c n d).part = s.part := by
  unfold State.raiseIf; split <;> simp
@[simp] theorem State.raiseIf_rw (s : State) (b : Bool) (c n d : Nat) : (s.raiseIf b c n d).rw = s.rw := by
  unfold State.raiseIf; split <;> simp
@[simp] theorem State.raiseIf_rwp (s : State) (b : Bool) (c n d : Nat) : (s.raiseIf b c n d).rwp = s.rwp := by
  unfold State.raiseIf; split <;> simp
@[simp] theorem State.raiseIf_txn (s : State) (b : Bool) (c n d : Nat) : (s.raiseIf b c n d).txn = s.txn := by
  unfold State.raiseIf; split <;> simp
@[simp] theorem State.raiseIf_mram (s : State) (b : Bool) (c n d : Nat) : (s.raiseIf b c n d).mram = s.mram := by
  unfold State.raiseIf; split <;> simp
@[simp] theorem State.raiseIf_pipe (s : State) (b : Bool) (c n d : Nat) : (s.raiseIf b c n d).pipe = s.pipe := by
  unfold State.raiseIf; split <;> simp
@[simp] theorem State.raiseIf_edu (s : State) (b : Bool) (c n d : Nat) : (s.raiseIf b c n d).edu = s.edu := by
  unfold State.raiseIf; split <;> simp
@[simp] theorem State.raiseIf_bsc (s : State) (b : Bool) (c n d : Nat) : (s.raiseIf b c n d).bsc = s.bsc := by
  unfold State.raiseIf; split <;> simp
@[simp] theorem State.raiseIf_rfe (s : State) (b : Bool) (c n d : Nat) : (s.raiseIf b c n d).rfe = s.rfe := by
  unfold State.raiseIf; split <;> simp
@[simp] theorem State.raiseIf_tda (s : State) (b : Bool) (c n d : Nat) : (s.raiseIf b c n d).tda = s.tda := by
  unfold State.raiseIf; split <;> simp
@[simp] theorem State.raiseIf_hac (s : State) (b : Bool) (c n d : Nat) : (s.raiseIf b c n d).hac = s.hac := by
  unfold State.raiseIf; split <;> simp
@[simp] theorem State.raiseIf_prx (s : State) (b : Bool) (c n d : Nat) : (s.raiseIf b c n d).prx = s.prx := by
  unfold State.raiseIf; split <;> simp
@[simp] theorem State.raiseIf_mcx (s : State) (b : Bool) (c n d : Nat) : (s.raiseIf b c n d).mcx = s.mcx := by
  unfold State.raiseIf; split <;> simp
@[simp] theorem State.raiseIf_fmt (s : State) (b : Bool) (c n d : Nat) : (s.raiseIf b c n d).fmt = s.fmt := by
  unfold State.raiseIf; split <;> simp
@[simp] theorem State.raiseIf_linkA (s : State) (b : Bool) (c n d : Nat) : (s.raiseIf b c n d).linkA = s.linkA := by
  unfold State.raiseIf; split <;> simp
@[simp] theorem State.raiseIf_linkB (s : State) (b : Bool) (c n d : Nat) : (s.raiseIf b c n d).linkB = s.linkB := by
  unfold State.raiseIf; split <;> simp
@[simp] theorem State.raiseIf_emg (s : State) (b : Bool) (c n d : Nat) : (s.raiseIf b c n d).emg = s.emg := by
  unfold State.raiseIf; split <;> simp
@[simp] theorem State.raiseIf_cu (s : State) (b : Bool) (c n d : Nat) : (s.raiseIf b c n d).cu = s.cu := by
  unfold State.raiseIf; split <;> simp
@[simp] theorem State.raiseIf_wcu (s : State) (b : Bool) (c n d : Nat) : (s.raiseIf b c n d).wcu = s.wcu := by
  unfold State.raiseIf; split <;> simp
@[simp] theorem State.raiseIf_mon (s : State) (b : Bool) (c n d : Nat) : (s.raiseIf b c n d).mon = s.mon := by
  unfold State.raiseIf; split <;> simp
@[simp] theorem State.raiseIf_thermal (s : State) (b : Bool) (c n d : Nat) : (s.raiseIf b c n d).thermal = s.thermal := by
  unfold State.raiseIf; split <;> simp
@[simp] theorem State.raiseIf_ntu (s : State) (b : Bool) (c n d : Nat) : (s.raiseIf b c n d).ntu = s.ntu := by
  unfold State.raiseIf; split <;> simp
@[simp] theorem State.raiseIf_spring (s : State) (b : Bool) (c n d : Nat) : (s.raiseIf b c n d).spring = s.spring := by
  unfold State.raiseIf; split <;> simp
@[simp] theorem State.raiseIf_fw (s : State) (b : Bool) (c n d : Nat) : (s.raiseIf b c n d).fw = s.fw := by
  unfold State.raiseIf; split <;> simp
@[simp] theorem State.raiseIf_cal (s : State) (b : Bool) (c n d : Nat) : (s.raiseIf b c n d).cal = s.cal := by
  unfold State.raiseIf; split <;> simp

end Sys2Proof.Machine
end

