-- ==== Sys2Proof/Laws/Memory.lean ====
section
/-!
SUPPORT. The bytes of the DRAM: what a write does to a later read, and that every operation on the memory keeps the
canonical form that the state after reset has.
-/

namespace Sys2Proof.Machine

/-! ### Lists of cells -/

theorem memAbove_mono {lo hi : Nat} {m : List Host.Cell} (h : lo ≤ hi) (w : memAbove hi m = true) : memAbove lo m = true := by
  cases m with
  | nil => rfl
  | cons c m =>
    simp only [memAbove, Bool.and_eq_true, decide_eq_true_eq] at w ⊢
    exact ⟨⟨by omega, w.1.2⟩, w.2⟩

/-- Below its first address a list reads 0. -/
theorem memGet_below {m : List Host.Cell} {lo x : Nat} (w : memAbove lo m = true) (h : x < lo) : memGet m x = 0 := by
  cases m with
  | nil => rfl
  | cons c m =>
    simp only [memAbove, Bool.and_eq_true, decide_eq_true_eq] at w
    rw [memGet, if_neg (by omega), if_pos (by omega)]

theorem memErase_above {m : List Host.Cell} {lo : Nat} (x : Nat) (w : memAbove lo m = true) :
    memAbove lo (memErase m x) = true := by
  induction m generalizing lo with
  | nil => rfl
  | cons c m ih =>
    simp only [memAbove, Bool.and_eq_true, decide_eq_true_eq] at w
    rw [memErase]
    split
    · exact memAbove_mono (by omega) w.2
    · split
      · simp only [memAbove, Bool.and_eq_true, decide_eq_true_eq]
        exact w
      · simp only [memAbove, Bool.and_eq_true, decide_eq_true_eq]
        exact ⟨w.1, ih w.2⟩

theorem memInsert_above {m : List Host.Cell} {lo x : Nat} {b : Byte} (hb : b ≠ 0) (hx : lo ≤ x)
    (w : memAbove lo m = true) : memAbove lo (memInsert m x b) = true := by
  have hb' : (b != 0) = true := by simpa using hb
  induction m generalizing lo with
  | nil => simpa [memInsert, memAbove, hx] using hb
  | cons c m ih =>
    simp only [memAbove, Bool.and_eq_true, decide_eq_true_eq] at w
    rw [memInsert]
    split
    · simp only [memAbove, Bool.and_eq_true, decide_eq_true_eq]
      exact ⟨⟨w.1.1, hb'⟩, w.2⟩
    · split
      · simp only [memAbove, Bool.and_eq_true, decide_eq_true_eq]
        exact ⟨⟨hx, hb'⟩, ⟨by omega, w.1.2⟩, w.2⟩
      · simp only [memAbove, Bool.and_eq_true, decide_eq_true_eq]
        exact ⟨w.1, ih (by omega) w.2⟩

/-- A write of one byte keeps the canonical form. -/
theorem memPut_wf {m : List Host.Cell} (x : Nat) (b : Byte) (w : memWf m = true) : memWf (memPut m x b) = true := by
  rw [memPut]
  split
  · exact memErase_above x w
  · exact memInsert_above (by assumption) (Nat.zero_le x) w

/-- Writes of bytes in a row keep it. -/
theorem memPutAll_wf {m : List Host.Cell} (x : Nat) (bs : List Byte) (w : memWf m = true) :
    memWf (memPutAll m x bs) = true := by
  induction bs generalizing m x with
  | nil => exact w
  | cons b bs ih => exact ih (x + 1) (memPut_wf x b w)

theorem memFilter_above {m : List Host.Cell} {lo : Nat} (p : Host.Cell → Bool) (w : memAbove lo m = true) :
    memAbove lo (m.filter p) = true := by
  induction m generalizing lo with
  | nil => rfl
  | cons c m ih =>
    simp only [memAbove, Bool.and_eq_true, decide_eq_true_eq] at w
    rw [List.filter_cons]
    split
    · simp only [memAbove, Bool.and_eq_true, decide_eq_true_eq]
      exact ⟨w.1, ih w.2⟩
    · exact memAbove_mono (by omega) (ih w.2)

/-- Cells taken out of a memory leave the canonical form. -/
theorem memFilter_wf {m : List Host.Cell} (p : Host.Cell → Bool) (w : memWf m = true) : memWf (m.filter p) = true :=
  memFilter_above p w

theorem memGet_erase_self {m : List Host.Cell} {lo : Nat} (x : Nat) (w : memAbove lo m = true) :
    memGet (memErase m x) x = 0 := by
  induction m generalizing lo with
  | nil => rfl
  | cons c m ih =>
    simp only [memAbove, Bool.and_eq_true, decide_eq_true_eq] at w
    rw [memErase]
    split
    · exact memGet_below w.2 (by omega)
    · split
      · rw [memGet, if_neg (by omega), if_pos (by omega)]
      · rw [memGet, if_neg (by omega), if_neg (by omega)]
        exact ih w.2

theorem memGet_erase_other {m : List Host.Cell} {lo x y : Nat} (w : memAbove lo m = true) (h : y ≠ x) :
    memGet (memErase m x) y = memGet m y := by
  induction m generalizing lo with
  | nil => rfl
  | cons c m ih =>
    simp only [memAbove, Bool.and_eq_true, decide_eq_true_eq] at w
    rw [memErase]
    split
    · rw [memGet]
      by_cases hy : y < c.1
      · rw [if_neg (by omega), if_pos hy]
        exact memGet_below w.2 (by omega)
      · rw [if_neg (by omega), if_neg hy]
    · split
      · rfl
      · rw [memGet, memGet, ih w.2]

theorem memGet_insert_self (m : List Host.Cell) (x : Nat) (b : Byte) : memGet (memInsert m x b) x = b := by
  induction m with
  | nil => simp [memInsert, memGet]
  | cons c m ih =>
    rw [memInsert]
    split
    · rw [memGet, if_pos (by assumption)]
    · split
      · rw [memGet, if_pos rfl]
      · rw [memGet, if_neg (by omega), if_neg (by omega), ih]

theorem memGet_insert_other {x y : Nat} (m : List Host.Cell) (b : Byte) (h : y ≠ x) :
    memGet (memInsert m x b) y = memGet m y := by
  induction m with
  | nil =>
    simp only [memInsert, memGet, if_neg h, ite_self]
  | cons c m ih =>
    rw [memInsert]
    split
    · rename_i hk
      have hy : ¬ y = c.1 := fun hy => h (hy.trans hk.symm)
      rw [memGet, memGet, if_neg hy, if_neg hy]
    · split
      · rw [memGet, if_neg h]
        split
        · rw [memGet, if_neg (by omega), if_pos (by omega)]
        · rfl
      · rw [memGet, memGet, ih]

/-- A read after a write to the same address gives the byte written. -/
theorem memGet_put_self {m : List Host.Cell} (x : Nat) (b : Byte) (w : memWf m = true) : memGet (memPut m x b) x = b := by
  rw [memPut]
  split
  · rename_i hb
    rw [memGet_erase_self x w, hb]
  · exact memGet_insert_self m x b

/-- A write leaves every other address alone. -/
theorem memGet_put_other {m : List Host.Cell} {x y : Nat} (b : Byte) (w : memWf m = true) (h : y ≠ x) :
    memGet (memPut m x b) y = memGet m y := by
  rw [memPut]
  split
  · exact memGet_erase_other w h
  · exact memGet_insert_other m b h

/-! ### Keyed lists -/

theorem rising_tail {α : Type} {e : Nat × α} {m : SMap α} (h : rising (e :: m) = true) : rising m = true := by
  cases m with
  | nil => rfl
  | cons f m =>
    simp only [rising, Bool.and_eq_true] at h
    exact h.2

theorem rising_cons {α : Type} {e : Nat × α} {m : SMap α} :
    rising (e :: m) = true ↔ rising m = true ∧ ∀ f ∈ m, e.1 < f.1 := by
  induction m generalizing e with
  | nil => simp [rising]
  | cons g m ih =>
    simp only [rising, Bool.and_eq_true, decide_eq_true_eq, List.mem_cons, forall_eq_or_imp]
    constructor
    · intro h
      exact ⟨h.2, h.1, fun f hf => Nat.lt_trans h.1 ((ih.1 h.2).2 f hf)⟩
    · intro h
      exact ⟨h.2.1, h.1⟩

theorem rising_filter {α : Type} {m : SMap α} (p : Nat × α → Bool) (h : rising m = true) : rising (m.filter p) = true := by
  induction m with
  | nil => rfl
  | cons e m ih =>
    rw [rising_cons] at h
    rw [List.filter_cons]
    split
    · rw [rising_cons]
      exact ⟨ih h.1, fun f hf => h.2 f ((List.mem_filter.1 hf).1)⟩
    · exact ih h.1

theorem mem_mdel {α : Type} {m : SMap α} {x : Nat} {f : Nat × α} (h : f ∈ mdel m x) : f ∈ m := by
  induction m with
  | nil => exact h
  | cons e m ih =>
    rw [mdel] at h
    split at h
    · exact List.mem_cons_of_mem _ h
    · split at h
      · exact h
      · rcases List.mem_cons.1 h with h | h
        · exact h ▸ List.mem_cons_self
        · exact List.mem_cons_of_mem _ (ih h)

theorem mem_mset {α : Type} {m : SMap α} {x : Nat} {v : α} {f : Nat × α} (h : f ∈ mset m x v) : f = (x, v) ∨ f ∈ m := by
  induction m with
  | nil => exact .inl (by simpa [mset] using h)
  | cons e m ih =>
    rw [mset] at h
    split at h
    · rename_i hk
      rcases List.mem_cons.1 h with h | h
      · exact .inl (by rw [h, hk])
      · exact .inr (List.mem_cons_of_mem _ h)
    · split at h
      · exact List.mem_cons.1 h
      · rcases List.mem_cons.1 h with h | h
        · exact .inr (h ▸ List.mem_cons_self)
        · exact (ih h).imp id (List.mem_cons_of_mem _)

theorem rising_mdel {α : Type} {m : SMap α} (x : Nat) (h : rising m = true) : rising (mdel m x) = true := by
  induction m with
  | nil => rfl
  | cons e m ih =>
    rw [rising_cons] at h
    rw [mdel]
    split
    · exact h.1
    · split
      · exact rising_cons.2 h
      · exact rising_cons.2 ⟨ih h.1, fun f hf => h.2 f (mem_mdel hf)⟩

theorem rising_mset {α : Type} {m : SMap α} (x : Nat) (v : α) (h : rising m = true) : rising (mset m x v) = true := by
  induction m with
  | nil => rfl
  | cons e m ih =>
    rw [rising_cons] at h
    rw [mset]
    split
    · exact rising_cons.2 ⟨h.1, h.2⟩
    · split
      · refine rising_cons.2 ⟨rising_cons.2 h, fun f hf => ?_⟩
        rcases List.mem_cons.1 hf with hf | hf
        · rw [hf]; assumption
        · exact Nat.lt_trans (by assumption) (h.2 f hf)
      · refine rising_cons.2 ⟨ih h.1, fun f hf => ?_⟩
        rcases mem_mset hf with hf | hf
        · rw [hf]; show e.1 < x; omega
        · exact h.2 f hf

theorem mget_mset_self {α : Type} (m : SMap α) (x : Nat) (v : α) : mget (mset m x v) x = some v := by
  induction m with
  | nil => simp [mset, mget]
  | cons e m ih =>
    rw [mset]
    split
    · rw [mget, if_pos (by assumption)]
    · split
      · rw [mget, if_pos rfl]
      · rw [mget, if_neg (by assumption), if_neg (by assumption), ih]

theorem mget_mset_other {α : Type} {x y : Nat} (m : SMap α) (v : α) (h : y ≠ x) : mget (mset m x v) y = mget m y := by
  induction m with
  | nil =>
    simp only [mset, mget, if_neg h, ite_self]
  | cons e m ih =>
    rw [mset]
    split
    · rename_i hk
      have hy : ¬ y = e.1 := fun hy => h (hy.trans hk.symm)
      rw [mget, mget, if_neg hy, if_neg hy]
    · split
      · rw [mget, if_neg h]
        split
        · rw [mget, if_neg (by omega), if_pos (by omega)]
        · rfl
      · rw [mget, mget, ih]

/-! ### The memory controller -/

/-- The canonical form, of the memory controller alone. -/
def Mcx.canonical (m : Mcx) : Prop :=
  memWf m.data = true ∧ rising m.check = true ∧ m.check.all (fun x => x.2 != 0) = true

theorem memoryCanonical_iff (s : State) : MemoryCanonical s ↔ s.mcx.canonical := Iff.rfl

theorem Mcx.store_canonical {m : Mcx} (a : Nat) (b : Byte) (h : m.canonical) : (m.store a b).canonical :=
  ⟨memPut_wf a b h.1, rising_mdel a h.2.1,
    List.all_eq_true.2 fun f hf => List.all_eq_true.1 h.2.2 f (mem_mdel hf)⟩

theorem Mcx.flip_canonical {m : Mcx} (a : Nat) (mask : BitVec 13) (h : m.canonical) : (m.flip a mask).canonical := by
  refine ⟨memPut_wf a _ h.1, ?_, ?_⟩
  · simp only [Mcx.flip]
    split
    · exact rising_mdel a h.2.1
    · exact rising_mset a _ h.2.1
  · simp only [Mcx.flip]
    refine List.all_eq_true.2 fun f hf => ?_
    split at hf
    · exact List.all_eq_true.1 h.2.2 f (mem_mdel hf)
    · rename_i hd
      rcases mem_mset hf with hf | hf
      · rw [hf]; simpa using hd
      · exact List.all_eq_true.1 h.2.2 f hf

/-- Cells taken out of the memory and of its check bits. -/
theorem Mcx.canonical_filter {m : Mcx} (p : Host.Cell → Bool) (q : Nat × BitVec 5 → Bool) (h : m.canonical) :
    ({ m with data := m.data.filter p, check := m.check.filter q } : Mcx).canonical :=
  ⟨memFilter_wf p h.1, rising_filter q h.2.1,
    List.all_eq_true.2 fun f hf => List.all_eq_true.1 h.2.2 f ((List.mem_filter.1 hf).1)⟩

theorem Mcx.firstWrite_canonical {m : Mcx} (page : Nat) (h : m.canonical) : (m.firstWrite page).canonical := by
  rw [Mcx.firstWrite]
  split
  · exact h
  · exact Mcx.canonical_filter _ _ h

/-- A store changes nothing but its byte and that byte's check bits. -/
theorem Mcx.store_eq (m : Mcx) (a : Nat) (b : Byte) :
    m.store a b = { m with data := memPut m.data a b, check := mdel m.check a } := rfl

theorem Mcx.foldl_canonical {α : Type} (l : List α) (f : Mcx → α → Mcx) (hf : ∀ m x, m.canonical → (f m x).canonical) {m : Mcx}
    (h : m.canonical) : (l.foldl f m).canonical := by
  induction l generalizing m with
  | nil => exact h
  | cons x l ih => exact ih (hf m x h)

/-! ### Reads and writes of a line -/

/-- The same bytes and check bits. -/
def SameBytes (s u : State) : Prop := u.mcx.data = s.mcx.data ∧ u.mcx.check = s.mcx.check

theorem SameBytes.canonical {s u : State} (h : SameBytes s u) (c : MemoryCanonical s) : MemoryCanonical u := by
  rw [MemoryCanonical, h.1, h.2]
  exact c

theorem SameBytes.trans {s u v : State} (a : SameBytes s u) (b : SameBytes u v) : SameBytes s v :=
  ⟨b.1.trans a.1, b.2.trans a.2⟩

theorem State.moved_bytes (s : State) (user : MemUser) (n : Nat) : SameBytes s (s.moved user n) := by
  simp only [SameBytes, State.moved, Mcx.atSecond]
  split <;> exact ⟨rfl, rfl⟩

theorem State.raise_bytes (s : State) (code sub d : Nat) : SameBytes s (s.raise code sub d) := by
  simp [SameBytes]

theorem State.degradedNow_bytes (s : State) (l : List Degraded) : SameBytes s (s.degradedNow l) := by
  simp [SameBytes, State.degradedNow]

theorem State.degrade_bytes (s : State) (page cause : Nat) : SameBytes s (s.degrade page cause) := by
  rw [State.degrade]
  split
  · exact SameBytes.trans (u := s.raise 0x4803 0x0A (page + cause * 2 ^ 30)) (State.raise_bytes ..)
      (State.degradedNow_bytes ..)
  · exact State.degradedNow_bytes ..

theorem State.hardFault_bytes (s : State) (line : Nat) : SameBytes s (s.hardFault line) := by
  rw [State.hardFault]
  split
  · exact ⟨rfl, rfl⟩
  · split
    · exact ⟨rfl, rfl⟩
    · exact (State.degrade_bytes s (pageOfLine line) 2).trans ⟨rfl, rfl⟩

theorem State.watchLine_bytes (s : State) (line : Nat) : SameBytes s (s.watchLine line) := by
  rw [State.watchLine]
  simp only []
  split
  · split
    · exact SameBytes.trans ⟨rfl, rfl⟩ (State.hardFault_bytes ..)
    · exact ⟨rfl, rfl⟩
  · exact ⟨rfl, rfl⟩

/-- What an uncorrectable read of a line counts, raises and degrades leaves the bytes alone. -/
theorem State.badLine_bytes (s : State) (line : Nat) : SameBytes s (s.badLine line) := by
  have a : SameBytes s { s with mcx := { s.mcx with uncorrectable := sat32 s.mcx.uncorrectable } } := ⟨rfl, rfl⟩
  exact a.trans ((State.raise_bytes _ _ _ _).trans (State.degrade_bytes _ _ _))

/-- So does what a corrected one counts and watches. -/
theorem State.fixedLine_bytes (s : State) (line : Nat) (l : List (Nat × List (Nat × Byte))) :
    SameBytes s (s.fixedLine line l) := by
  have a : SameBytes s { s with mcx := { s.mcx with corrected := wrap64 s.mcx.corrected, writebacks := l } } := ⟨rfl, rfl⟩
  exact a.trans (State.watchLine_bytes _ line)

/-- A read of a line, whatever bits have flipped in it, keeps the canonical form. -/
theorem State.readLine_canonical {s : State} (user : MemUser) (line : Nat) (flips : List (Nat × BitVec 13))
    (h : MemoryCanonical s) : MemoryCanonical (s.readLine user line flips).2.2 := by
  rw [State.readLine]
  split
  · exact h
  split
  · exact h
  · simp only []
    have c := Mcx.foldl_canonical flips
      (fun (m : Mcx) (f : Nat × BitVec 13) => m.flip (64 * s.mcx.physical line + f.1 % 64) f.2)
      (fun m f hm => Mcx.flip_canonical _ _ hm) ((memoryCanonical_iff s).1 h)
    have c' := (State.moved_bytes { s with mcx := _ } user 64).canonical ((memoryCanonical_iff _).2 c)
    have c'' : ∀ b, MemoryCanonical (if b = true then State.badLine _ line else _) := fun b => by
      cases b
      · exact c'
      · exact (State.badLine_bytes _ line).canonical c'
    split
    · exact c'' _
    · exact (State.fixedLine_bytes _ line _).canonical (c'' _)

theorem State.lineRewritten_bytes (s : State) (line : Nat) : SameBytes s (s.lineRewritten line) :=
  State.degradedNow_bytes ..

/-- A write of bytes of a line keeps the canonical form. -/
theorem State.writeLine_canonical {s : State} (user : MemUser) (line : Nat) (bytes : List (Nat × Byte))
    (h : MemoryCanonical s) : MemoryCanonical (s.writeLine user line bytes) := by
  rw [State.writeLine]
  split
  · exact h
  have c0 := Mcx.firstWrite_canonical (pageOfLine line) ((memoryCanonical_iff s).1 h)
  have c := Mcx.foldl_canonical bytes
    (fun m b => m.store (64 * (s.mcx.firstWrite (pageOfLine line)).physical line + b.1 % 64) b.2)
    (fun m b hm => Mcx.store_canonical _ _ hm) c0
  simp only []
  revert c
  generalize bytes.foldl
    (fun m b => m.store (64 * (s.mcx.firstWrite (pageOfLine line)).physical line + b.1 % 64) b.2)
    (s.mcx.firstWrite (pageOfLine line)) = m
  intro c
  have c' : ∀ w d, MemoryCanonical
      (({ s with mcx := { m with writebacks := w, dropped := d } } : State).moved user bytes.length) :=
    fun w d => (State.moved_bytes _ _ _).canonical ((memoryCanonical_iff _).2 c)
  split
  · exact (State.lineRewritten_bytes _ line).canonical (c' _ _)
  · exact c' _ _

/-- The memory after reset has the canonical form. -/
theorem reset_memory_canonical : MemoryCanonical State.reset := by
  rw [MemoryCanonical]
  exact ⟨rfl, rfl, rfl⟩

end Sys2Proof.Machine
end

