-- ==== Sys2Proof/Laws/Touches.lean ====
section
/-!
SUPPORT. What the operations shared by several commands leave alone: one lemma for each, with the algebra that chains them.
-/

namespace Sys2Proof.Machine

theorem sameUnit_refl (s : State) (x : UnitId) : sameUnit s s x := by
  cases x <;> rfl

theorem sameUnit_trans {s u v : State} {x : UnitId} (a : sameUnit s u x) (b : sameUnit u v x) : sameUnit s v x := by
  cases x <;> exact Eq.trans a b

theorem OnlyChanges.refl (l : List UnitId) (s : State) : OnlyChanges l s s := ⟨rfl, fun x _ => sameUnit_refl s x⟩

theorem OnlyChanges.trans {l : List UnitId} {s u v : State} (a : OnlyChanges l s u) (b : OnlyChanges l u v) :
    OnlyChanges l s v :=
  ⟨b.1.trans a.1, fun x hx => sameUnit_trans (a.2 x hx) (b.2 x hx)⟩

theorem OnlyChanges.mono {l k : List UnitId} {s u : State} (h : ∀ x, x ∈ l → x ∈ k) (a : OnlyChanges l s u) :
    OnlyChanges k s u :=
  ⟨a.1, fun x hx => a.2 x fun hl => hx (h x hl)⟩

theorem State.send_touches (s : State) (o : Output) : OnlyChanges [] s (s.send o) :=
  ⟨rfl, fun x _ => by cases x <;> rfl⟩

theorem State.free_touches (s : State) : OnlyChanges [] s s.free.2 := ⟨rfl, fun x _ => by cases x <;> rfl⟩

/-- Time running on changes no unit: only the local clock within the time unit. -/
theorem State.atTime_touches (s : State) (t : Nat) : OnlyChanges [] s (s.atTime t) :=
  ⟨rfl, fun x _ => by cases x <;> rfl⟩

theorem State.sendAll_touches {α : Type} (l : List α) (f : State → α → State) (h : ∀ s x, OnlyChanges [] s (f s x)) (s : State) :
    OnlyChanges [] s (l.foldl f s) := by
  induction l generalizing s with
  | nil => exact OnlyChanges.refl [] s
  | cons x l ih => exact (h s x).trans (ih (f s x))

/-- A message to an endpoint only goes out. -/
theorem State.sendKpp_touches (s : State) (ep : Endpoint) (bytes : List Byte) : OnlyChanges [] s (s.sendKpp ep bytes) := by
  cases ep with
  | udp a p => exact State.send_touches s _
  | can => exact State.sendAll_touches _ _ (fun s _ => State.send_touches s _) s

/-- A response is sent and kept: only the KPP unit changes. -/
theorem State.respond_touches (s : State) (ep : Endpoint) (op : Byte) (seq : BitVec 16) (resp : List Byte) :
    OnlyChanges [.kpp] s (s.respond ep op seq resp) := by
  have a := (State.sendKpp_touches s ep resp).mono (k := [.kpp]) (fun _ h => absurd h List.not_mem_nil)
  refine a.trans ⟨rfl, fun x hx => ?_⟩
  cases x <;> first | rfl | exact absurd List.mem_cons_self hx

/-- A record changes the KPP unit alone. -/
theorem State.record_touches (s : State) (code sub : Nat) (d : Word) : OnlyChanges [.kpp, .evr] s (s.record code sub d) :=
  ⟨by simp, fun x hx => by cases x <;> first | (simp [sameUnit]; done) | exact absurd (by simp) hx⟩

/-- An event changes the records and, where it is a trigger, the recorder. -/
theorem State.raise_touches (s : State) (code sub d : Nat) : OnlyChanges [.kpp, .evr] s (s.raise code sub d) :=
  ⟨by simp, fun x hx => by cases x <;> first | (simp [sameUnit]; done) | exact absurd (by simp) hx⟩

theorem State.raiseIf_touches (s : State) (b : Bool) (code sub d : Nat) :
    OnlyChanges [.kpp, .evr] s (s.raiseIf b code sub d) :=
  ⟨by simp, fun x hx => by cases x <;> first | (simp [sameUnit]; done) | exact absurd (by simp) hx⟩

/-- A trigger of the recorder. -/
theorem State.trigger_touches (s : State) (source : Nat) : OnlyChanges [.kpp, .evr] s (s.trigger source) :=
  ⟨by simp, fun x hx => by cases x <;> first | (simp [sameUnit]; done) | exact absurd (by simp) hx⟩

/-- The guard alone. -/
theorem State.emg_touches (s : State) (g : Emg) : OnlyChanges [.emg, .kpp, .evr] s { s with emg := g } :=
  ⟨rfl, fun x hx => by cases x <;> first | rfl | exact absurd (by simp) hx⟩

/-- A re-arm taken back changes the guard and the records. -/
theorem State.refuseRearm_touches (s : State) (k : Nat) : OnlyChanges [.emg, .kpp, .evr] s (s.refuseRearm k) := by
  have up : ∀ x, x ∈ [UnitId.kpp, .evr] → x ∈ [UnitId.emg, .kpp, .evr] := fun x h => List.mem_cons_of_mem _ h
  rw [State.refuseRearm]
  split
  · split
    · refine OnlyChanges.trans ?_ ((State.raise_touches _ _ _ _).mono up)
      exact ⟨rfl, fun x hx => by cases x <;> first | rfl | exact absurd (by simp) hx⟩
    · exact OnlyChanges.refl _ s
  · exact OnlyChanges.refl _ s

/-- A trip condition that arises changes the guard, the records and the recorder. -/
theorem State.tripWith_touches (s : State) (k : Nat) (abort : Bool) :
    OnlyChanges [.emg, .kpp, .evr] s (s.tripWith k abort) := by
  have up : ∀ x, x ∈ [UnitId.kpp, .evr] → x ∈ [UnitId.emg, .kpp, .evr] := fun x h => List.mem_cons_of_mem _ h
  rw [State.tripWith]
  refine (State.refuseRearm_touches s k).trans (OnlyChanges.trans ?_ ((State.raise_touches _ _ _ _).mono up))
  split
  · exact (State.emg_touches _ _).trans ((State.trigger_touches _ 2).mono up)
  · exact State.emg_touches _ _

theorem State.trip_touches (s : State) (k : Nat) : OnlyChanges [.emg, .kpp, .evr] s (s.trip k) := by
  rw [State.trip]
  split
  · exact OnlyChanges.refl _ s
  · exact State.tripWith_touches s k true

theorem State.clearSource_touches (s : State) (k : Nat) : OnlyChanges [.emg, .kpp, .evr] s (s.clearSource k) := by
  rw [State.clearSource]
  split
  · exact State.emg_touches s _
  · exact OnlyChanges.refl _ s

theorem State.setSource_touches (s : State) (k : Nat) (b : Bool) : OnlyChanges [.emg, .kpp, .evr] s (s.setSource k b) := by
  rw [State.setSource]
  split
  · exact State.trip_touches s k
  · exact State.clearSource_touches s k

/-- An edge of the re-arm source, accepted or not. -/
theorem State.rearmEdge_touches (s : State) : OnlyChanges [.emg, .kpp, .evr] s s.rearmEdge := by
  have up : ∀ x, x ∈ [UnitId.kpp, .evr] → x ∈ [UnitId.emg, .kpp, .evr] := fun x h => List.mem_cons_of_mem _ h
  rw [State.rearmEdge]
  simp only []
  split <;> exact (State.emg_touches s _).trans ((State.raise_touches _ _ _ _).mono up)

/-- The decision of a slot. -/
theorem State.decideGate_touches (s : State) (p : Plan) (c : Nat) (pulses : List (Nat × Nat)) (each slotAt : Nat) :
    OnlyChanges [.emg, .kpp, .evr] s (s.decideGate p c pulses each slotAt) := by
  have up : ∀ x, x ∈ [UnitId.kpp, .evr] → x ∈ [UnitId.emg, .kpp, .evr] := fun x h => List.mem_cons_of_mem _ h
  rw [State.decideGate]
  split
  · exact State.emg_touches s _
  · simp only []
    split
    · exact (State.emg_touches s _).trans ((State.raise_touches _ _ _ _).mono up)
    · exact State.emg_touches s _

/-- The link of one port. -/
theorem State.setLink_touches (s : State) (n : Nat) (l : Link) : OnlyChanges [.linkA, .linkB] s (s.setLink n l) := by
  rw [State.setLink]
  split <;> exact ⟨rfl, fun x hx => by cases x <;> first | rfl | exact absurd (by simp) hx⟩

/-- The queue of one port. -/
theorem State.setOutPort_touches (s : State) (n : Nat) (o : OutPort) : OnlyChanges [.fmt] s (s.setOutPort n o) := by
  rw [State.setOutPort]
  split <;> exact ⟨rfl, fun x hx => by cases x <;> first | rfl | exact absurd (by simp) hx⟩

/-- The lease ends: only the control units change. -/
theorem State.expire_touches (s : State) (cause : Nat) : OnlyChanges [.cu] s (s.expire cause) := by
  rw [State.expire]
  split
  · exact OnlyChanges.refl _ s
  · exact ⟨rfl, fun x hx => by cases x <;> first | rfl | exact absurd (by simp) hx⟩

/-- Bytes moved are counted in the memory controller. -/
theorem State.moved_touches (s : State) (user : MemUser) (n : Nat) : OnlyChanges [.mcx] s (s.moved user n) :=
  ⟨rfl, fun x hx => by cases x <;> first | rfl | exact absurd (by simp) hx⟩

end Sys2Proof.Machine
end

