-- ==== Sys2Proof/Machine/Balls.lean ====
section
/-!
DEFINITION. The balls (22): the grid and its regions (R469, R470), and what each output drives in every state of the Spring, as functions of the state (R473, with 04 R97, 05 R120 and R121, 06 R161, 12 R303, 13 R319 and R321, 19 R430).
-/

namespace Sys2Proof.Machine

/-! ### The grid (22 R469, R470) -/

/-- The row letters, row index 1 first (22 R469). -/
def ballRows : List String :=
  ["A", "B", "C", "D", "E", "F", "G", "H", "J", "K", "L", "M", "N", "P", "T", "U", "V", "W", "Y"] ++
  ["AA", "AB", "AC", "AD", "AE", "AF", "AG", "AH", "AJ", "AK", "AL", "AM", "AN", "AP", "AT", "AU", "AV", "AW", "AY"] ++
  ["BA", "BB", "BC", "BD", "BE", "BF"]

/-- A ball's name: its row letters, then its column number, 1 to 44 (22 R469). -/
def ballName (row col : Nat) : Option String :=
  if row = 0 ∨ col = 0 ∨ 44 < col then none else (ballRows[row - 1]?).map fun r => r ++ toString col

/-- The four regions of the grid (22 R470). -/
inductive BallRegion where
  | receive | excitation | emitter | core
  deriving DecidableEq, Repr

/-- The region of a position: rows N to AN are the indices 13 to 32 (22 R470). -/
def ballRegion (row col : Nat) : BallRegion :=
  if col ≤ 8 ∨ 37 ≤ col then .receive
  else if col ≤ 10 ∨ 35 ≤ col then .excitation
  else if row ≤ 12 ∨ 33 ≤ row then .emitter
  else .core

/-- Whether a position of a receive region is an RXIN ball; the others are VSS (22 R470). -/
def isRxin (row col : Nat) : Bool :=
  if row = 44 then false
  else if row % 2 = 0 then true
  else if row % 4 = 1 then col % 2 == 0
  else col % 2 == 1

/-- The signal and power groups by their number of balls, in the order of the two tables (22 R470). -/
def ballGroups : List (String × Nat) :=
  [("Receive inputs", 512), ("Excitation", 64), ("Excitation monitors", 64), ("Reference TDC inputs", 8),
   ("Fire outputs", 256), ("Setpoint outputs", 128), ("Sense inputs", 128), ("Mirror drive", 4), ("Monitor inputs", 64),
   ("References", 3), ("Emission control", 3), ("Druelo port A", 12), ("Druelo port B", 12), ("Ethernet", 7), ("CAN", 2),
   ("Boot flash", 12), ("NAND", 40), ("Time inputs", 8), ("Frequency inputs", 8), ("Spring", 11), ("Crystal", 2),
   ("Straps", 10), ("Test and reset", 6)] ++
  [("VCORE", 96), ("VANA", 48), ("VDDQ", 24), ("VIO18", 16), ("VIO33", 8), ("VNAND", 4), ("VSYS", 4), ("VSS", 372)]

/-! ### What the outputs drive (22 R471, R473) -/

/-- The output balls of the table of 22 R473; `bus` stands for SPI, JTAG_TDO, ETH_MDC and ETH_MDIO, whose traffic is that of their protocols, `lanes` for the data lanes of a Druelo port. -/
inductive Ball where
  | emFire (port : Nat)
  | emIset (port : Nat)
  | emitEn
  | pmicEn (i : Nat)
  | mirDrv (i : Nat)
  | biasSet (group : Nat)
  | guard (group : Nat)
  | lanes (port : Nat)
  | clockLane (port : Nat)
  | canTxd
  | rstOut
  | nand
  | bus
  | phyRst
  deriving DecidableEq, Repr

/-- What an output ball drives. -/
inductive Drive where
  | low
  | high
  | highZ
  | electricalIdle
  /-- no function inside the package (22 R471) -/
  | unconnected
  /-- driven with the traffic of its protocol, or with the common mode of a group (06 R161) -/
  | driven
  /-- a square wave of a frequency in MHz (12 R287) -/
  | square (mhz : Nat)
  /-- 0 V of an analog output whose setpoint is withheld (04 R97) -/
  | zeroVolt
  /-- the setpoint curve at a code (04 R99) -/
  | setpoint (code : Nat)
  /-- a mirror DAC code (05 R121) -/
  | dac (code : Int)
  /-- millivolts times two (06 R161) -/
  | halfMillivolts (n : Nat)
  /-- the pulses of the last command: high for each width in 0.125 ns, from each delay of `Output.fire` (04 R104) -/
  | pulses (widthAndSkew : List (Nat × Nat))
  deriving DecidableEq, Repr

/-- The decibels of a setpoint code relative to code 1,023 (04 R99). -/
def isetDb (code : Nat) : Rat := ((code : Rat) - 1023) * 48 / 1023

/-- The codes of an axis's even and odd mirror output at drive `u`: q := u >> 16 (05 R121). -/
def mirrorCodes (u : Int) : Int × Int :=
  let q := u / 65536
  (32768 + q, 32767 - q)

/-- A MIR_DRV output out of reset: code 0 in Off and on an axis that is not configured (05 R120, R139), else the pair of R121. -/
def State.mirDrv (s : State) (i : Nat) : Int :=
  if s.bsc.state == .off || decide (s.bsc.axes ≤ i / 2) then 0
  else
    let pair := mirrorCodes (if i / 2 = 0 then s.bsc.ax0.u else s.bsc.ax1.u)
    if i % 2 = 0 then pair.1 else pair.2

/-- The pulses a port fired in the last command (04 R97, R104; notes/assumptions/81). -/
def State.firePulses (s : State) (port : Nat) : List (Nat × Nat) :=
  s.out.filterMap fun o => match o with
    | .fire p _ width skew => if p = port then some (width, skew) else none
    | .kpp _ _ => none
    | .can _ _ => none
    | .datagram _ _ _ _ _ => none
    | .block _ _ _ _ => none
    | .gptp _ _ _ => none
    | .norErase _ => none
    | .norProgram _ => none

/-- The states that R473 calls Sleep: "Sleep also covers ColdHold, ThermalHold and FaultHold" (22 R473, 19 R427). -/
def SpringState.asleep : SpringState → Bool
  | .sleep => true | .coldHold => true | .thermalHold => true | .faultHold => true
  | .sequencing => false | .running => false | .shuttingDown => false

/-- The balls a variant leaves unconnected (22 R471). -/
def Variant.lacks (v : Variant) : Ball → Bool
  | .nand => !v.hasRecorder
  | .lanes n => n == 1 && !v.hasPortB
  | .clockLane n => n == 1 && !v.hasPortB
  | _ => false

/-- Column "Sleep: VSYS only" of 22 R473. -/
def Ball.inSleep : Ball → Drive
  | .emFire _ => .low
  | .emitEn => .low
  | .pmicEn _ => .low
  | _ => .highZ

/-- Column "Main domain in reset" of 22 R473; the enables follow the sequence of 19 R430 and the steps of R437. -/
def State.ballInReset (s : State) : Ball → Drive
  | .emFire _ => .low
  | .emIset _ => .zeroVolt
  | .emitEn => .low
  | .pmicEn i => if s.spring.pmicEn.testBit i then .high else .low
  | .mirDrv _ => .dac 0
  | .biasSet _ => .halfMillivolts 0
  | .guard _ => .highZ
  | .lanes _ => .electricalIdle
  | .clockLane _ => .electricalIdle
  | .canTxd => .high
  | .rstOut => .low
  | .nand => .highZ
  | .bus => .highZ
  | .phyRst => .low

/-- Column "Running" of 22 R473, with the rules it names. -/
def State.ballRunning (s : State) : Ball → Drive
  | .emFire n => if (s.firePulses n).isEmpty then .low else .pulses (s.firePulses n)
  | .emIset n => if !(s.port n).used || (s.port n).masked then .zeroVolt else .setpoint (s.port n).active
  | .emitEn => if s.emg.emitEn then .high else .low
  | .pmicEn _ => .high
  | .mirDrv i => .dac (s.mirDrv i)
  | .biasSet g => .halfMillivolts (s.rfe.groups.getD g {}).code
  | .guard g => if (s.regN 0x380017).testBit g then .driven else .highZ
  | .lanes n => if (s.link n).state = 0 then .electricalIdle else .driven
  | .clockLane n => if (s.link n).state = 0 then .electricalIdle else .square (s.clockMhz n)
  | .canTxd => .driven
  | .rstOut => .highZ
  | .nand => .driven
  | .bus => .driven
  | .phyRst => .driven

/-- What an output ball drives (22 R471, R473). DEDUCED: notes/assumptions/81. -/
def State.ball (s : State) (b : Ball) : Drive :=
  if s.part.variant.lacks b then .unconnected
  else if s.spring.state.asleep then b.inSleep
  else if s.mainOn then s.ballRunning b
  else s.ballInReset b

/-- "The two outputs therefore always sum to 65,535" (05 R121). -/
theorem mirrorCodes_sum (u : Int) : (mirrorCodes u).1 + (mirrorCodes u).2 = 65535 := by
  simp only [mirrorCodes]; omega

/-- EMIT_EN is low in reset and in every state without the main domain (13 R321, 22 R473). -/
theorem emitEn_low_in_reset (s : State) (h : s.mainOn = false) : s.ball .emitEn = .low := by
  simp only [State.ball, Variant.lacks, h]
  cases s.spring.state.asleep <;> rfl

/-- Every fire output is low while the main domain is in reset (13 R319, 04 R97, 22 R473). -/
theorem emFire_low_in_reset (s : State) (n : Nat) (h : s.mainOn = false) : s.ball (.emFire n) = .low := by
  simp only [State.ball, Variant.lacks, h]
  cases s.spring.state.asleep <;> rfl

end Sys2Proof.Machine
end

