-- ==== Sys2Proof/WellFormed.lean ====
section
/-!
DEFINITION. Which commands are well formed: every operand that names one of a fixed number of things lies in its range.
-/

namespace Sys2Proof

/-- Entries name TDCs 0 to 519 (07 R173). -/
def TdcCal.wf (m : TdcCal) : Bool := m.others.all fun x => x.1 < 520

/-- A sense reading names a port 0 to 127 (04 R97). -/
def Sense.wf (x : Sense) : Bool := x.port < 128

/-- The 8 payload bytes of a back-channel message (12 R300). -/
def BackMsg.wf (m : BackMsg) : Bool := m.payload.length == 8

/-- A raw CAN FD frame of at most 64 bytes (02 R37). -/
def frameWf (f : List Byte) : Bool := 1 ≤ f.length && f.length ≤ 64

/-- Flips of bytes 0 to 63 of a line (10 R244). -/
def flipsWf (l : List (Nat × BitVec 13)) : Bool := l.all fun x => x.1 < 64

/-- The DRAM holds lines 0 to 33,554,431 (10 R243). -/
def lineWf (n : Nat) : Bool := n < 33554432

/-- The well-formed commands. -/
def Instr.wf : Instr → Bool
  | .kppRead _ _ m => m.payload.length < 65536
  | .kppWrite _ _ m => m.payload.length < 65536
  | .kppReadStaged _ _ m => m.payload.length < 65536
  | .kppBegin _ _ m _ => m.payload.length < 65536
  | .kppCommit _ _ m => m.payload.length < 65536
  | .kppRollback _ _ m => m.payload.length < 65536
  | .kppSubscribe _ _ m => m.payload.length < 65536
  | .kppUnsubscribe _ _ m => m.payload.length < 65536
  | .canSegmentReceive _ f => decide (f.id < if f.extended then 2 ^ 29 else 2 ^ 11) && frameWf f.data
  | .mramRecordWrite _ ty _ => 1 ≤ ty && ty ≤ 8
  | .shotSlotStart _ cal => cal.wf
  | .fireEdge _ l => l.all Sense.wf
  | .idleTdcCalibration _ cal => cal.wf
  | .comparatorEdge _ _ ch taps => ch < 512 && taps < 448
  | .referenceEdge _ _ r taps => r < 8 && taps < 448
  | .referenceWindowClose _ r => r < 8
  | .eventHandover _ ch => ch < 512
  | .coincidenceRelease _ ch => ch < 512
  | .saturationAssert _ ch => ch < 512
  | .saturationRelease _ ch => ch < 512
  | .markEnd _ ch => ch < 512
  | .stuckSlot _ ch => ch < 512
  | .prxChannelSlot _ e => e < 16
  | .diagnosticShot _ l => l.all Sense.wf
  | .bscBurstComplete _ a b => a < 2 && b.a.length == 8 && b.b.length == 8
  | .bscProductComplete _ a _ _ => a < 2
  | .ledgerBucketAdvance _ w => w < 3
  | .gateReadbackEdge _ p => p < 128
  | .memoryRead _ _ n f => lineWf n && flipsWf f
  | .correctionWriteback _ n => lineWf n
  | .memoryWrite _ _ n b => lineWf n && b.all fun x => x.1 < 64
  | .scrubTick _ f => flipsWf f
  | .blockPeriod _ p => p < 2
  | .markerPeriod _ p => p < 2
  | .statusMessage _ p m => p < 2 && m.wf
  | .eqReport _ p m => p < 2 && m.wf
  | .alignReport _ p m => p < 2 && m.wf
  | .retrainMessage _ p m => p < 2 && m.wf
  | .backChannelError _ p => p < 2
  | .backChannelLoss _ p => p < 2
  | .phaseLimit _ p => p < 2
  | .equalizeLimit _ p => p < 2
  | .alignLimit _ p => p < 2
  | .trainingAttemptStart _ p => p < 2
  | .portPllLock _ p => p < 2
  | .laneRateWrite _ p _ => p < 2
  | .portEnableWrite _ p _ => p < 2
  | .retrain4Lanes _ p => p < 2
  | .retrainPresentWidth _ p => p < 2
  | .leaseRenewal _ u _ => u < 2
  | .leaseRelease _ u _ => u < 2
  | .fenceTimerExpiry _ u => u < 2
  | .heartbeat _ u => u < 2
  | .heartbeatLoss _ u => u < 2
  | .standbyReloadComplete _ u _ => u < 2
  | .firmwareLoad _ u _ _ => u < 2
  | .localTimeSet _ v => v.length == 10
  | .tsinEdge _ i _ => i < 8
  | .fmeasGateEnd _ i _ => i < 4
  | .monConversion _ c _ _ => c < 4
  | .slotConfigWrite _ o b => o + b.length ≤ 128
  | .springRound _ r => r.ch.length ≤ 16
  | .blockEraseComplete _ x _ _ => x < 4
  | .refreshRead _ x _ _ _ => x < 4
  | .flashIdentify _ _ l => l.length ≤ 4
  | _ => true

end Sys2Proof
end

