-- ==== Sys2Proof/Tests/Slice0.lean ====
section
/-!
SUPPORT. Tests: ill-formed commands are refused, a state and operands that meet the hypotheses of every statement, with
boundary values for each clause, and worked examples of the manual.
-/

namespace Sys2Proof.Tests

open Sys2Proof Sys2Proof.Machine

set_option Elab.async false

/-! ### States the tests start from -/

/-- Unit 0 holds the lease and unit 1 stands by. -/
def acting : State :=
  { State.reset with cu := { lease := .held, holder := some 0, claimed := true, a := { state := .ready }, b := { state := .ready } } }

/-- `acting` with an open transaction of handle 7. -/
def opened : State := { acting with txn := { state := .opened, handle := 7 } }

/-- A frame of the default plan is in progress. -/
def framed : State :=
  { acting with pipe := { started := true, running := true, plan := some [] } }

/-- A column of one cell on channel 0 and port 0, as the default plan arms it. -/
def column : ColCtx :=
  { plan := [], frame := 0, epoch := 0, gridGen := 0, visit := 0, column := 0, start := 0, late := false, predict := false
    cells := [{ row := 0, channel := 0, port := 0, measured := true, reduction := 0, feedback := 0, settling := false
                reduced := false, stale := false, preds := [] }] }

/-- `framed` in slot 0 of that column, lit, 100 ns in. -/
def firing : State :=
  { framed with
    now := 100
    pipe := { framed.pipe with cur := some column, inColumn := true, inSlot := true, lit := true } }

/-- The guard armed with EMIT_EN high and nothing active. -/
def armedGuard : Emg := { state := .armed, emitEn := true, sources := 0 }

def udp : Endpoint := .udp 1 2

def held (u : UnitState) : Cu := { acting.cu with b := { state := u, reload := true } }

/-- A request the active unit takes, by what the rules ask of it. -/
theorem takes {s : State} {a : BitVec 32} {p : BitVec 16} {op : Byte} {m : KppMsg}
    (h : (s.mainOn && s.unitActs && s.txn.state != .validating && m.device.toNat % 512 == s.part.device &&
      (s.kpp.duplicate (.udp a p) op m.seq).isNone &&
      (op != opCommit || (s.txn.accepted (.udp a p) (KppMsg.bytes m op)).isNone)) = true) :
    s.Takes (.udp a p) op m := by
  simp only [Bool.and_eq_true, Bool.or_eq_true, bne_iff_ne, beq_iff_eq, Option.isNone_iff_eq_none] at h
  obtain ⟨⟨⟨⟨⟨h1, h2⟩, h3⟩, h4⟩, h5⟩, h6⟩ := h
  exact ⟨h1, h2, h3, ⟨a, p, rfl⟩, h4, h5, fun e => h6.resolve_left fun n => n e⟩

/-! ### Well-formed commands -/

/-- One command for each operand that the form of a command limits, with the operand just out of its range. -/
def illFormed : List Instr :=
  [.kppRead 0 udp { payload := List.replicate 65536 0 }, .canSegmentReceive 0 ⟨false, 0, []⟩, .canSegmentReceive 0 ⟨false, 0, List.replicate 65 0⟩,
   .canSegmentReceive 0 ⟨false, 2048, [0]⟩, .canSegmentReceive 0 ⟨true, 2 ^ 29, [0]⟩, .mramRecordWrite 0 0 true, .mramRecordWrite 0 9 true, .shotSlotStart 0 { u1 := 0, u2 := 0, others := [(520, 0, 0)] },
   .fireEdge 0 [{ port := 128, peak := 0, base := 0 }], .idleTdcCalibration 0 { u1 := 0, u2 := 0, others := [(520, 0, 0)] },
   .comparatorEdge 0 0 512 0, .comparatorEdge 0 0 0 448, .referenceEdge 0 0 8 0, .referenceEdge 0 0 0 448,
   .referenceWindowClose 0 8, .eventHandover 0 512, .coincidenceRelease 0 512, .saturationAssert 0 512,
   .saturationRelease 0 512, .markEnd 0 512, .stuckSlot 0 512, .prxChannelSlot 0 16,
   .diagnosticShot 0 [{ port := 128, peak := 0, base := 0 }], .bscBurstComplete 0 2 { a := zeros8, b := zeros8, overRange := [] },
   .bscBurstComplete 0 0 { a := [], b := zeros8, overRange := [] }, .bscBurstComplete 0 0 { a := zeros8, b := [], overRange := [] },
   .bscProductComplete 0 2 0 false, .ledgerBucketAdvance 0 3, .gateReadbackEdge 0 128, .memoryRead 0 .ring 33554432 [],
   .memoryRead 0 .ring 0 [(64, 1)], .correctionWriteback 0 33554432, .memoryWrite 0 .ring 33554432 [],
   .memoryWrite 0 .ring 0 [(64, 1)], .scrubTick 0 [(64, 1)]] ++
  [.blockPeriod 0 2, .markerPeriod 0 2, .statusMessage 0 2 back8, .eqReport 0 2 back8, .alignReport 0 2 back8,
   .retrainMessage 0 2 back8, .statusMessage 0 0 back7, .eqReport 0 0 back7, .alignReport 0 0 back7, .retrainMessage 0 0 back7,
   .backChannelError 0 2, .backChannelLoss 0 2, .phaseLimit 0 2, .equalizeLimit 0 2, .alignLimit 0 2,
   .trainingAttemptStart 0 2, .portPllLock 0 2, .laneRateWrite 0 2 0, .portEnableWrite 0 2 0, .retrain4Lanes 0 2,
   .retrainPresentWidth 0 2, .leaseRenewal 0 2 0, .leaseRelease 0 2 0, .fenceTimerExpiry 0 2, .heartbeat 0 2,
   .heartbeatLoss 0 2, .standbyReloadComplete 0 2 true, .firmwareLoad 0 2 { sfdp := true, xspi := true, fast144 := true } (image, image), .localTimeSet 0 [0],
   .tsinEdge 0 8 false, .fmeasGateEnd 0 4 0, .monConversion 0 4 0 0, .slotConfigWrite 0 128 [0],
   .springRound 0 { ch := List.replicate 17 (0, 0, 0) }, .blockEraseComplete 0 4 0 true, .refreshRead 0 4 0 [] 0,
   .flashIdentify 0 0 (List.replicate 5 target)]
where
  zeros8 : List Nat := List.replicate 8 0
  back8 : BackMsg := { payload := List.replicate 8 0, crc := 0 }
  back7 : BackMsg := { payload := List.replicate 7 0, crc := 0 }
  image : ImageSlot :=
    { magic := 0, formatVersion := 0, targetId := 0, stepping := 0, securityVersion := 0, firmwareVersion := 0, payloadLength := 0
      entryOffset := 0, payloadHash := [], keyHashOk := false, signatureOk := false, payloadOk := false }
  target : FlashTarget :=
    { present := false, paramOk := false, pageBytes := 0, spareBytes := 0, blocks := 0, pagesPerBlock := 0, ddr2Mode := 0
      ddr3Mode := 0, asyncMode := 0, factoryBad := [] }

theorem test_wf_refuses : (illFormed.drop 1).all (fun c => !c.wf) = true := by decide +kernel
theorem test_wf_refuses_long_payload (m : KppMsg) (h : m.payload.length = 65536) : (Instr.kppRead 0 udp m).wf = false := by
  simp [Instr.wf, h]
theorem test_wf_accepts :
    ([.comparatorEdge 0 0 511 447, .memoryWrite 0 .ring 33554431 [(63, 1)], .fireEdge 0 [{ port := 127, peak := 0, base := 0 }],
      .mramRecordWrite 0 8 true, .statusMessage 0 1 illFormed.back8, .slotConfigWrite 0 127 [0], .heartbeat 0 1] : List Instr).all
      Instr.wf = true := by decide +kernel

/-! ### The block as a whole -/

theorem wit_StepRunsTheFrontCommand :
    ({ State.reset with pending := [.heartbeat 0 0, .mcxReady 1] } : State).pending = .heartbeat 0 0 :: [.mcxReady 1] ∧
    State.reset.pending = [] := ⟨rfl, rfl⟩
theorem wit_EveryCommandAnswersButMemoryHoles : (33554432 : Nat) ≤ 33554432 := by decide
theorem wit_CommandsKeepToTheirUnits : ∃ u, exec (.canWakePattern 5) State.reset = .next u := ⟨_, rfl⟩
theorem wit_TheMemoryStaysCanonical : MemoryCanonical State.reset ∧ ∃ u, step State.reset = .next u :=
  ⟨reset_memory_canonical, _, rfl⟩
theorem wit_OnlyAResetChangesThePart : PartSafe State.reset ∧ (∃ u, step State.reset = .next u) ∧
    (∃ u, exec (.mcxReady 0) State.reset = .next u) ∧ ∀ t strap safe, Instr.mcxReady 0 ≠ .resetRelease t strap safe :=
  ⟨by unfold PartSafe; decide, ⟨_, rfl⟩, ⟨_, rfl⟩, fun _ _ _ h => nomatch h⟩

/-! ### The Kloune protocol -/

theorem wit_KppMessagesReadBackAsWritten :
    (∀ r ∈ [({ key := 2 ^ 24 - 1, offset := 2 ^ 32 - 1 } : ReadItem)], r.key < 2 ^ 24 ∧ r.offset < 2 ^ 32) ∧
    ∀ v ∈ [({ key := 2 ^ 24 - 1, type := 255, offset := 2 ^ 32 - 1, value := [1, 2] } : ValueItem)],
      v.key < 2 ^ 24 ∧ v.type < 2 ^ 8 ∧ v.offset < 2 ^ 32 ∧ v.value.length < 2 ^ 16 := by decide
theorem wit_SegmentsAndShortMessages :
    (let bs : List Byte := [1, 0x10, 0, 0, 0, 0, 0, 0, 0, 0, 0, 0]; 12 ≤ bs.length ∧ bs.length ≤ 2048 ∧ bs.length = 12 + uAt bs 8 2) ∧
    (acting.mainOn = true ∧ acting.unitActs = true ∧ acting.txn.state ≠ .validating ∧ (List.replicate 11 (0 : Byte)).length < 12) ∧
    (let s : State := { acting with part := { acting.part with net := [(0x600025, [1])] } };
      s.mainOn = true ∧ s.canOn = true ∧ s.kpp.can = none ∧ (List.replicate 63 (0 : Byte)).length ≤ 63 ∧
      (false, 0x580) = s.canRequestId ∧ (true, 0x580) ≠ s.canRequestId ∧ (false, 0x581) ≠ s.canRequestId) ∧
    (let a : CanAsm := { bytes := [], next := 1, lastAt := 0 }; let s : State := { acting with kpp := { acting.kpp with can := some a } };
      s.mainOn = true ∧ s.kpp.can = some a ∧ 1000000 * s.regN 0x110003 < max s.now 10000000001 - a.lastAt) := by decide +kernel
theorem wit_MisaddressedRequestsAreDropped :
    acting.mainOn = true ∧ acting.unitActs = true ∧ acting.txn.state ≠ .validating ∧
    ({ device := 1 } : KppMsg).device.toNat % 512 ≠ acting.part.device ∧
    (udp = .can → acting.canOn = true ∧ acting.kpp.can = none ∧ ({ device := 1 } : KppMsg).payload.length ≤ 2036) ∧
    (let s : State := { acting with part := { acting.part with net := [(0x600025, [1])] } };
      s.mainOn = true ∧ s.unitActs = true ∧ s.txn.state ≠ .validating ∧ s.canOn = true ∧ s.kpp.can = none ∧
      ({ device := 1, payload := List.replicate 2036 0 } : KppMsg).payload.length ≤ 2036) := by decide +kernel
/-- A read item of SystemDeviceNumber's key in a message. -/
def readOf (key : Nat) (handle : BitVec 16) : KppMsg :=
  { seq := 9, handle, itemCount := 1, payloadLength := 8, payload := ReadItem.bytes { key, offset := 0 } }
/-- A value item in a message. -/
def writeOf (v : ValueItem) (handle : BitVec 16) : KppMsg :=
  { seq := 9, handle, itemCount := 1, payloadLength := BitVec.ofNat 16 (ValueItem.bytes v).length, payload := ValueItem.bytes v }
theorem wit_ReadsAnswerTheValue_read :
    acting.Takes udp opRead (readOf 0x100003 0) ∧
    requestOf udp opRead (readOf 0x100003 0) = some (.read false [{ key := 0x100003, offset := 0 }]) ∧
    acting.txn.holds 0 = false ∧ (objRow 0x100003).isSome = true ∧ absentUnit acting.part.variant 0x100003 = false ∧
    ((objRow 0x100003).all fun r => r.access != .wo && r.type.size == some 4) = true ∧ 4 ≤ 1450 :=
  ⟨takes (by decide +kernel), by decide +kernel⟩
def staging : State := { opened with txn := { opened.txn with staged := [(0x200003, [1, 2])] } }
theorem wit_ReadsAnswerTheValue_staged :
    staging.Takes udp opReadStaged (readOf 0x200003 7) ∧
    requestOf udp opReadStaged (readOf 0x200003 7) = some (.read true [{ key := 0x200003, offset := 0 }]) ∧
    staging.txn.holds 7 = true ∧ absentUnit staging.part.variant 0x200003 = false ∧
    ((objRow 0x200003).any fun r => r.access == .rwt && r.type.size == some 2) = true ∧
    mget staging.txn.staged 0x200003 = some [1, 2] :=
  ⟨takes (by decide +kernel), by decide +kernel⟩
theorem wit_WritesTakeEffectStageOrAreRefused_rwp :
    (let v : ValueItem := { key := 0x100006, type := 3, offset := 0, value := [5, 0] };
    acting.Takes udp opWrite (writeOf v 0) ∧ requestOf udp opWrite (writeOf v 0) = some (.write [v]) ∧
    absentUnit acting.part.variant v.key = false ∧ ((objRow v.key).any fun r => r.access == .rwp) = true ∧
    PlainKey v.key ∧ acting.txn.holds 0 = false) :=
  ⟨takes (by decide +kernel), by decide +kernel, by decide +kernel, by decide +kernel, by unfold PlainKey; decide, by decide⟩
theorem wit_WritesTakeEffectStageOrAreRefused_rwt :
    let v : ValueItem := { key := 0x200003, type := 3, offset := 0, value := [5, 0] };
    (opened.Takes udp opWrite (writeOf v 7) ∧ requestOf udp opWrite (writeOf v 7) = some (.write [v]) ∧
      absentUnit opened.part.variant v.key = false ∧ ((objRow v.key).any fun r => r.access == .rwt) = true ∧
      opened.txn.holds 7 = true ∧ opened.stageFits [v] = true) ∧
    (opened.Takes udp opWrite (writeOf v 8) ∧ requestOf udp opWrite (writeOf v 8) = some (.write [v]) ∧
      opened.txn.holds 8 = false) :=
  ⟨⟨takes (by decide +kernel), by decide +kernel⟩, takes (by decide +kernel), by decide +kernel⟩
theorem wit_WritesTakeEffectStageOrAreRefused_ro :
    let v : ValueItem := { key := 0x100003, type := 4, offset := 0, value := [5, 0, 0, 0] };
    acting.Takes udp opWrite (writeOf v 0) ∧ requestOf udp opWrite (writeOf v 0) = some (.write [v]) ∧
      absentUnit acting.part.variant v.key = false ∧
      ((objRow v.key).any fun r => r.access == .ro || r.access == .rc) = true ∧ acting.txn.holds 0 = false :=
  ⟨takes (by decide +kernel), by decide +kernel⟩
theorem wit_TransactionsOpenValidateAndClose :
    (acting.Takes udp opBegin { seq := 1 } ∧ requestOf udp opBegin { seq := 1 } = some .begin_ ∧ acting.txn.state = .idle) ∧
    (opened.Takes udp opCommit { seq := 1, handle := 7 } ∧ requestOf udp opCommit { seq := 1, handle := 7 } = some .commit ∧
      opened.txn.holds 7 = true ∧ opened.txn.pending.length < 2) ∧
    (opened.Takes udp opRollback { seq := 1, handle := 7 } ∧ requestOf udp opRollback { seq := 1, handle := 7 } = some .rollback ∧
      opened.txn.holds 7 = true) ∧
    opened.mainOn = true ∧ opened.unitActs = true ∧ opened.txn.state = .opened ∧ opened.txn.deadline ≤ max opened.now 0 :=
  ⟨⟨takes (by decide +kernel), by decide +kernel⟩, ⟨takes (by decide +kernel), by decide +kernel⟩,
    ⟨takes (by decide +kernel), by decide +kernel⟩, by decide +kernel⟩

/-! ### The default plan is accepted (03 R76) -/

theorem bytesAt_append {a b : List Byte} {o n : Nat} (h : o + n ≤ a.length) : bytesAt (a ++ b) o n = bytesAt a o n := by
  have h1 : (((a ++ b).drop o).take n) = ((a.drop o).take n) := by
    rw [List.drop_append_of_le_length (by omega), List.take_append_of_le_length (by simp; omega)]
  simp only [bytesAt, h1]

theorem bytesAt_after {a b : List Byte} {n : Nat} : bytesAt (a ++ b) a.length n = bytesAt b 0 n := by
  simp [bytesAt]

theorem bytesAt_flatMap {f : Nat → List Byte} {k : Nat} (h : ∀ r, (f r).length = k) :
    ∀ n r, r < n → bytesAt ((List.range n).flatMap f) (k * r) k = f r := by
  have hl : ∀ n, ((List.range n).flatMap f).length = k * n := by
    intro n
    induction n with
    | zero => simp
    | succ n ih => rw [List.range_succ, List.flatMap_append, List.length_append, ih]; simp [h, Nat.mul_succ]
  intro n
  induction n with
  | zero => intro r hr; omega
  | succ n ih =>
    intro r hr
    rw [List.range_succ, List.flatMap_append]
    by_cases e : r = n
    · subst e
      rw [← hl r, bytesAt_after]
      simp [bytesAt, h, List.take_of_length_le]
    · have hk : k * (r + 1) ≤ k * n := Nat.mul_le_mul_left _ (by omega)
      rw [Nat.mul_succ] at hk
      rw [bytesAt_append (by rw [hl]; exact hk), ih r (by omega)]

theorem le_length : ∀ n v, (le n v).length = n
  | 0, _ => rfl
  | n + 1, v => by simp [le, le_length n]

theorem ofLe_le : ∀ n v, ofLe (le n v) = v % 256 ^ n
  | 0, v => by simp [le, ofLe, Nat.mod_one]
  | n + 1, v => by
    simp only [le, ofLe, ofLe_le n, BitVec.toNat_ofNat, Nat.pow_succ, Nat.mul_comm (256 ^ n) 256]
    exact Nat.mod_mul.symm

theorem uAt_zeros (n o k : Nat) : uAt (zeros n) o k = 0 := by
  have hz : ∀ m, ofLe (List.replicate m (0 : Byte)) = 0 := by
    intro m
    induction m with
    | zero => rfl
    | succ m ih => rw [List.replicate_succ, ofLe, ih]; rfl
  have : bytesAt (zeros n) o k = List.replicate k 0 := by
    simp only [bytesAt, zeros, List.drop_replicate, List.take_replicate, List.length_replicate, List.replicate_append_replicate]
    congr 1; omega
  rw [uAt, this, hz]

theorem rowMap_default : valueIn [] 0x220001 = defaultRowMap := by
  have h : objRow 0x220001 = some (rowB 0x220001 .rwt defaultRowMap 1024) := by
    rw [objRow, show (0x220001 / 256 : Nat) = 0x2200 from rfl]
    simp [rowsOf, rows2200, rowB]
  rw [valueIn, defaultOf, h]; simp [mget, rowB]
theorem ael_default : valueIn [] 0x580008 = defaultAelTable := by
  have h : objRow 0x580008 = some (rowB 0x580008 .rwt defaultAelTable 1540) := by
    rw [objRow, show (0x580008 / 256 : Nat) = 0x5800 from rfl]
    simp [rowsOf, rows5800, List.find?, rowN, rowB]
  rw [valueIn, defaultOf, h]; simp [mget, rowB]

theorem row_default {r : Nat} (h : r < 512) : uAt (valueIn [] 0x220001) (2 * r) 2 = r / 4 * 512 + r := by
  rw [rowMap_default, uAt, defaultRowMap, bytesAt_flatMap (fun r => le_length 2 _) 512 r h, ofLe_le]
  omega
theorem channelOf_default {r : Nat} (h : r < 512) : Plan.channelOf [] r = r := by
  rw [Plan.channelOf, row_default h]; omega

theorem channels_default : (List.range (min (Plan.rows []) 512)).map (Plan.channelOf []) = List.range 512 := by
  rw [show min (Plan.rows []) 512 = 512 by decide +kernel]
  exact (List.map_congr_left fun r hr => channelOf_default (List.mem_range.1 hr)).trans (List.map_id _)

theorem many_eq (e : List Byte) : ∀ n, many n e = (List.range n).flatMap fun _ => e
  | 0 => rfl
  | n + 1 => by
    rw [List.range_succ, List.flatMap_append, ← many_eq e n]
    simp [many, List.replicate_succ']

theorem aelTableOk_default : aelTableOk defaultAelTable = true := by
  have hl : (many 384 (le 4 1)).length = 1536 := by decide +kernel
  have ht : defaultAelTable = many 384 (le 4 1) ++ le 4 (crc32 (many 384 (le 4 1))).toNat := rfl
  rw [aelTableOk, ht]
  have h1 : (many 384 (le 4 1) ++ le 4 (crc32 (many 384 (le 4 1))).toNat).take 1536 = many 384 (le 4 1) := by
    rw [← hl, List.take_left]
  have h2 : uAt (many 384 (le 4 1) ++ le 4 (crc32 (many 384 (le 4 1))).toNat) 1536 4 = (crc32 (many 384 (le 4 1))).toNat := by
    rw [uAt, ← hl, bytesAt_after]
    have : bytesAt (le 4 (crc32 (many 384 (le 4 1))).toNat) 0 4 = le 4 (crc32 (many 384 (le 4 1))).toNat := by
      simp [bytesAt, le_length, List.take_of_length_le]
    rw [this, ofLe_le]
    exact Nat.mod_eq_of_lt (crc32 (many 384 (le 4 1))).isLt
  have h3 : ∀ i, i < 384 → uAt (many 384 (le 4 1)) (4 * i) 4 ≠ 0 := by
    intro i hi
    rw [many_eq, uAt, bytesAt_flatMap (fun _ => le_length 4 1) 384 i hi]
    decide
  rw [h1, h2]
  simp only [List.length_append, hl, le_length, beq_self_eq_true, Bool.true_and, List.all_eq_true, List.mem_range]
  intro i hi
  rw [uAt, bytesAt_append (by rw [hl]; omega)]
  simpa [uAt] using h3 i hi


theorem energyNum_zeros (e c w : Nat) : ∃ d, energyNum (zeros 8448) e c w = (0, d) :=
  ⟨_, Prod.ext (by simp only [energyNum, energyEntry, uAt_zeros]; simp) rfl⟩
theorem energyExact_zeros (e c w : Nat) : energyExact (zeros 8448) e c w = 0 := by
  obtain ⟨d, h⟩ := energyNum_zeros e c w
  simp only [energyExact, h, Int.zero_mul]
  rfl
theorem e16_zeros (e c w : Nat) : e16 (zeros 8448) e c w = 0 := by
  obtain ⟨d, h⟩ := energyNum_zeros e c w
  simp only [e16, h, Int.zero_mul]
  change (0 + d * 32 - 1) / (d * 32) = 0
  rcases Nat.eq_zero_or_pos d with rfl | hd
  · rfl
  · exact Nat.div_eq_of_lt (by omega)

theorem emissionOk_default (ael : List Byte) (w : List Nat) : emissionOk [] (zeros 8448) ael w = true := by
  have h0 : ∀ e, projectedEnergies [] (zeros 8448) e = (0, 0) := by
    intro e
    simp only [projectedEnergies, energyExact_zeros, Nat.mul_zero]
  have h1 : ∀ l : List Nat, ((l.map fun e => (e, ((0, 0) : Nat × Nat))).filter fun x => !(x.2.1 == 0 && x.2.2 == 0)) = [] := by
    intro l
    induction l <;> simp_all
  simp only [emissionOk, h0, h1, List.map_nil, List.isEmpty_nil, Bool.true_or]


theorem validate_default {s : State} (he : s.reg 0x300012 = zeros 8448)
    (hx : (s.bsc.axes == 1 && s.part.variant == .f && s.regN 0x4C0040 == 5 && s.regN 0x4C0060 == 5 && s.mcx.bootFill &&
      s.mcx.degraded.isEmpty && !s.ntu.conflict && s.axisLimits 0 == (200000, 12000, 8000)) = true) : validate s [] [] = none := by
  simp only [Bool.and_eq_true, beq_iff_eq, Bool.not_eq_true', List.isEmpty_iff] at hx
  obtain ⟨⟨⟨⟨⟨⟨⟨h1, h2⟩, h3⟩, h4⟩, h5⟩, h6⟩, h7⟩, h8⟩ := hx
  have a1 : cellLimit [] = [] := by decide +kernel
  have a2 : shotBudget [] = [] := by decide +kernel
  have a3 : peakBudget [] = [] := by
    have : engineLoad [] = 32 := by
      simp only [engineLoad, channels_default]; decide +kernel
    rw [peakBudget, this]; decide +kernel
  have a4 : emissionBudget [] (zeros 8448) s.emg.windows = [] := by
    simp [emissionBudget, emissionOk_default, reject]
  have a5 : modeConflict [] 1 = [] := by
    have : unitRanges [] = [] := by
      rw [unitRanges, ael_default, aelTableOk_default]; decide +kernel
    rw [modeConflict, this]; decide +kernel
  have a6 : mirrorEnvelope [] (200000, 12000, 8000) (s.axisLimits 1) = [] := by
    have : Plan.steering [] = 1 := by decide +kernel
    generalize s.axisLimits 1 = l
    simp only [mirrorEnvelope, this, show (1 == 2) = false from rfl, show (1 == 4) = false from rfl, Bool.false_and, reject]
    decide +kernel
  have a7 : linkBudget [] true 5 5 = [] := by
    have m : ∀ c, measuredCells [] c = 512 := by
      intro c
      have : ∀ r, Plan.measured [] r c = true := by
        intro r
        have : (Plan.steering [] != 3) = true := by decide +kernel
        simp [Plan.measured, this]
      simp only [measuredCells, this]; decide +kernel
    have x : ∀ c, exportedCells [] c = 0 := by
      intro c
      have : Plan.output [] = 1 := by decide +kernel
      simp [exportedCells, this]
    have hs : pointBytes [] = 512 * 512 * 16 * 3 := by
      rw [pointBytes, funext m]; decide +kernel
    have hb : ∀ port f, port < 2 → portBytes [] port f = if port = 0 then 512 * 512 * 16 * 3 else 0 := by
      intro port f h
      simp only [portBytes, hs, x, ite_self]
      have : port = 0 ∨ port = 1 := by omega
      rcases this with rfl | rfl <;> decide +kernel
    have hp : portOver [] 0 5 = false ∧ portOver [] 1 5 = false := by
      constructor <;> simp only [portOver, hb, Nat.lt_add_one, Nat.zero_lt_succ] <;> decide +kernel
    simp only [linkBudget, hp, reject, Bool.false_and]
    decide
  have a8 : crossFadeBusy s [] [] = [] := by simp [crossFadeBusy, mget, reject]
  have a9 : unitAbsent [] .f = [] := by decide +kernel
  have a10 : tarnUnavailable [] (tarnReady s) = [] := by
    have : tarnReady s = true := by simp [tarnReady, h5, h6, count]
    rw [this]; decide +kernel
  have a12 : tableCheck [] = [] := by
    simp only [tableCheck, channels_default, List.nodup_range]
    decide +kernel
  have hl : layOver ([] : Plan) ([] : ObjMap) = [] := rfl
  rw [validate, reasons, hl, he, h1, h2, h8, a8]
  simp only [h3, h4, show Variant.hasPortB .f = true from rfl, a1, a2, a3, a4, a5, a6, a7, a9, a10, a12, h7, reject]
  rfl

/-- `acting` after the boot fill. -/
def booted : State := { acting with mcx := { acting.mcx with bootFill := true } }

theorem energy_default {s : State} (h1 : mget s.rwp 0x300012 = none) (h2 : mget s.rw 0x300012 = none) :
    s.reg 0x300012 = zeros 8448 := by
  have h : objRow 0x300012 = some (rowB 0x300012 .rwp (zeros 8448) 8448) := by
    rw [objRow, show (0x300012 / 256 : Nat) = 0x3000 from rfl]
    simp [rowsOf, rows3000, rowN, rowB]
  rw [State.reg, if_neg (by decide), h1, h2, defaultOf, h]; simp [rowB]

theorem lowestReason_some : ∀ {l : List Reason}, l ≠ [] → ∃ r k, lowestReason l = some (r, k)
  | [], h => absurd rfl h
  | r :: rs, _ => by
    rw [lowestReason]
    split
    · exact ⟨_, _, rfl⟩
    · split <;> exact ⟨_, _, rfl⟩

/-- A plan of no rows is rejected (03 R88). -/
theorem validate_noRows (s : State) (base : Plan) (staged : ObjMap) (h : cellLimit (layOver base staged) ≠ []) :
    ∃ r k, validate s base staged = some (r, k) :=
  lowestReason_some (by
    simp only [reasons, List.append_assoc]
    exact fun e => h (List.append_eq_nil_iff.1 e).1)

theorem aelLimit_default {e i : Nat} (he : e < 128) (hi : i < 3) : aelLimit defaultAelTable e i = 1 := by
  have hl : (many 384 (le 4 1)).length = 1536 := by decide +kernel
  have ht : defaultAelTable = many 384 (le 4 1) ++ le 4 (crc32 (many 384 (le 4 1))).toNat := rfl
  rw [aelLimit, ht, uAt, bytesAt_append (by rw [hl]; omega), show 12 * e + 4 * i = 4 * (3 * e + i) by omega, many_eq,
    bytesAt_flatMap (fun _ => le_length 4 1) 384 _ (by omega)]
  decide

def noRows : ObjMap := [(0x200001, [0, 0])]
def committing (staged : ObjMap) : State :=
  { booted with
    pipe := { booted.pipe with plan := some [] }
    txn := { state := .validating, handle := 7, staged
             validating := some (udp, KppMsg.bytes { seq := 1, handle := 7 } opCommit) } }
theorem wit_ValidationAnswersTheCommit (staged : ObjMap) :
    let s := committing staged
    s.mainOn = true ∧ s.unitActs = true ∧ s.txn.state = .validating ∧
      s.txn.validating = some (udp, KppMsg.bytes { seq := 1, handle := 7 } opCommit) ∧ s.kpp.waiting = [] ∧
      s.pipe.plan.isSome = true := ⟨rfl, rfl, rfl, rfl, rfl, rfl⟩
theorem wit_ValidationAnswersTheCommit_accepts :
    validate ((committing []).atTime 0) (committing []).commitBase (committing []).txn.staged = none :=
  validate_default (energy_default (by decide) (by decide)) (by decide +kernel)
theorem wit_ValidationAnswersTheCommit_rejects :
    ∃ r k, validate ((committing noRows).atTime 0) (committing noRows).commitBase (committing noRows).txn.staged = some (r, k) :=
  validate_noRows _ _ _ (by decide +kernel)

def listening (dests : List Endpoint) : State :=
  { acting with kpp := { acting.kpp with dests, txq := List.replicate 17 { seq := 1, time := {}, code := 1, sub := 0, detail := 0, cycle := 0 } } }
theorem wit_EventDestinations :
    (DestinationsBounded State.reset ∧ ∃ u, step State.reset = .next u) ∧
    (let s := listening [.udp 3 4, .udp 5 6]
     (s.Takes udp opSubscribe { seq := 1 } ∧ requestOf udp opSubscribe { seq := 1 } = some (.subscribe true) ∧
      s.txn.holds 0 = false ∧ s.kpp.dests.length ≤ 2 ∧ s.kpp.dests.contains udp = false ∧ s.kpp.dests.length = 2) ∧
     (s.Takes udp opUnsubscribe { seq := 1 } ∧ requestOf udp opUnsubscribe { seq := 1 } = some (.subscribe false))) ∧
    (let s := listening [udp]
     s.mainOn = true ∧ s.unitActs = true ∧ s.kpp.txq ≠ [] ∧ s.kpp.dests = [.udp 1 2]) :=
  ⟨⟨by unfold DestinationsBounded; decide, _, rfl⟩,
    ⟨⟨takes (by decide +kernel), by decide +kernel⟩, takes (by decide +kernel), by decide +kernel⟩, by decide +kernel⟩

def storing (j : StoreJob) : State := { acting with mram := { acting.mram with job := some j } }
theorem wit_StoresStartAndComplete :
    (({ a := .good 1 [] } : Slots ObjMap).inForce.isSome = true) ∧ (acting.mainOn = true ∧ acting.unitActs = true ∧ acting.mram.job = none) ∧
    framed.pipe.plan = some [] ∧ framed.mram.job = none ∧ (storing .empty).unitActs = true ∧ (storing (.params [])).mram.job = some (.params []) ∧
    (storing (.plan [])).mram.job = some (.plan []) ∧
    (let s := { acting with mcx := { acting.mcx with ready := true, remap := [{ line := 5, chan := 0, spare := 0 }] } };
      s.mainOn = true ∧ s.mcx.ready = true ∧ s.mram.remap.body.getD [] ≠ s.remapDone) := by decide +kernel

/-! ### Frames, columns and slots -/

/-- Two columns of four slots. -/
def short : Plan := [(0x200002, [2, 0]), (0x200005, [4])]
def shortColumn (visit : Nat) : ColCtx := { column with plan := short, visit, column := visit, start := short.columnStart visit }
def running (p : Pipe) : State := { acting with pipe := { p with plan := some short, started := true, running := true } }
theorem wit_ColumnsAndSlotsStart :
    (let s := running { inColumn := true, visit := 0, armed := some (shortColumn 1) }
     let k := 1
     (s.mainOn = true ∧ s.pipe.plan = some short ∧ s.pipe.started = true ∧ s.pipe.blank = false ∧ s.pipe.inTurn = false ∧
      k = (if s.pipe.inColumn then s.pipe.visit + 1 else 0) ∧ k < short.columns ∧
      s.pipe.frameStart + short.columnStart k ≤ max s.now (short.columnStart 1)) ∧
     s.pipe.armed = some (shortColumn 1) ∧ (shortColumn 1).visit = k ∧ (shortColumn 1).frame = s.pipe.frame ∧
     (shortColumn 1).plan = short) ∧
    (running {}).pipe.armed = none ∧
    (let s := running { cur := some (shortColumn 0), inSlot := true, slot := 2 }
     let j := 3
     s.pipe.cur = some (shortColumn 0) ∧ s.pipe.inTurn = false ∧ j = (if s.pipe.inSlot then s.pipe.slot + 1 else 0) ∧
     j < (shortColumn 0).plan.shots ∧
     s.pipe.frameStart + (shortColumn 0).start + j * (shortColumn 0).plan.slot ≤ max s.now (short.columnStart 0 + 3 * short.slot)) ∧
    (let c := shortColumn 0
     let s := running { cur := some c, slot := 3 }
     c.sk + c.plan.shots * c.plan.slot + 256 ≤ max s.now (4 * short.slot + 256) ∧ s.pipe.tail = none ∧ s.pipe.cur = some c ∧
     c.probe = false) ∧
    (running { tail := some (shortColumn 0) }).pipe.tail = some (shortColumn 0) := by decide +kernel
theorem wit_PrefetchesArmColumns :
    let s := running { prefetch := some (0, 1) }
    let start := s.pipe.frameStart + short.columnStart 1
    s.mainOn = true ∧ s.pipe.plan = some short ∧ s.pipe.prefetch = some (0, 1) ∧ max s.now (start - 2000) + 2000 ≤ start ∧
      start < max s.now (start - 1999) + 2000 ∧ start ≤ max s.now (start - 2000) + 2000 := by decide +kernel
theorem wit_TheTurnaroundRunsInOrder :
    (let s := running { timing := short }; s.pipe.started = true ∧ s.pipe.inTurn = false ∧
      s.pipe.frameStart + s.pipe.timing.active ≤ max s.now short.active) ∧
    (let s := running { inTurn := true }; s.pipe.plan = some short ∧ s.pipe.inTurn = true ∧ s.pipe.swapDone = false ∧
      s.pipe.turnStart + 100000 ≤ max s.now 100000) ∧
    (let s := running { inTurn := true, prefetch := some (1, 0) }; s.pipe.inTurn = true ∧ s.pipe.cutoffDone = false ∧
      s.pipe.turnStart + 1900000 ≤ max s.now 1900000 ∧ (s.nextFrame short).gridChanged = false ∧
      s.pipe.prefetch.isSome = true) := by decide +kernel

def queued (first : Word) : Commit := { plan := [], epoch := 1, firstFrame := first, ep := udp, req := [], resp := [] }
theorem wit_PlansTakeEffectAtTheirFrame :
    (let s := running { inTurn := true, timing := short }
     s.mainOn = true ∧ s.pipe.plan = some short ∧ s.pipe.boundaryAt = some (1000 * short.turnaround) ∧
     1000 * short.turnaround ≤ max s.now (1000 * short.turnaround) ∧ s.txn.pending = []) ∧
    (let s := { running {} with txn := { State.reset.txn with pending := [queued 1] } }
     s.txn.pending = [queued 1] ∧ (queued 1).firstFrame = s.pipe.frame + 1 ∧ (queued 2).firstFrame ≠ s.pipe.frame + 1) := by
  decide +kernel
def starting (plan : Slots Plan) : State :=
  { booted with cal := { booted.cal with bootRan := true }, mram := { booted.mram with plan } }
theorem wit_PlansTakeEffectAtTheirFrame_startup :
    (∀ plan, let s := starting plan
      s.mainOn = true ∧ s.pipe.plan = none ∧ s.pipe.startupStatus = 0 ∧ s.unitActs = true ∧ s.cal.bootRan = true ∧
      validate (s.atTime 0) [] [] = none) ∧
    (starting { a := .good 1 [] }).mram.plan.body = some [] ∧
    ((starting { a := .good 1 noRows }).mram.plan.body = some noRows ∧
      ∃ r k, validate ((starting { a := .good 1 noRows }).atTime 0) noRows [] = some (r, k)) ∧
    (starting {}).mram.plan.body = none :=
  ⟨fun _ => ⟨rfl, rfl, rfl, rfl, rfl, validate_default (energy_default rfl rfl) rfl⟩, rfl,
    ⟨rfl, validate_noRows _ _ _ (by decide +kernel)⟩, rfl⟩

/-! ### Emitter ports and the Emission Guard -/

def guarded (g : Emg) : State := { framed with emg := g }
theorem wit_EmissionIsEnabledExactlyWhenArmed :
    (EmissionSafe State.reset ∧ ∃ u, step State.reset = .next u) ∧ EmissionSafe (guarded armedGuard) := by
  refine ⟨⟨by unfold EmissionSafe; decide, _, rfl⟩, by unfold EmissionSafe; decide⟩
theorem wit_TripsEndEmission :
    (let s := guarded { armedGuard with gated := [127] }
     s.mainOn = true ∧ s.emg.state = .armed ∧ s.emg.emitEn = true ∧ s.emg.rearmed = none ∧ s.unitActs = true ∧
     s.emg.sourceActive 8 = false ∧ s.emg.gated.contains 127 = true) ∧
    (let s := guarded { armedGuard with rearmed := some (100, 5) }
     s.emg.state = .armed ∧ s.emg.rearmed = some (max s.now 100, 5)) ∧
    (guarded { sources := 2 ^ 8 }).emg.sourceActive 8 = true := by decide +kernel
theorem wit_FeedbackAndTestPulses :
    ({ acting with spring := { state := .coldHold } } : State).mainOn = false ∧
    (guarded { sources := 2 ^ 5 }).emg.sourceActive 5 = true ∧ (guarded armedGuard).emg.emitEn = true ∧
    (let s := guarded { fb := true }
     s.mainOn = true ∧ s.emg.emitEn = false ∧ s.emg.fb = true ∧ s.emg.state = .tripped ∧ s.emg.sourceActive 5 = false ∧
     max s.now 20000 ≤ s.emg.fellAt + 20000 ∧ s.emg.fellAt + 20000 < max s.now 20001) ∧
    (let s := guarded armedGuard
     s.emg.emitEn = true ∧ s.emg.fb = false ∧ s.emg.onSeen = false ∧ s.emg.notOnRaised = false ∧
     s.emg.roseAt + 1000000 ≤ max s.now 1000000) ∧
    (let s := { running { inTurn := true, turnStart := 999500000 } with emg := armedGuard }
     let at_ := s.pipe.turnStart + 500000
     s.mainOn = true ∧ s.emg.state = .armed ∧ s.emg.emitEn = true ∧ s.pipe.inTurn = true ∧ s.emg.testFrom + 1000000000 ≤ at_ ∧
     at_ ≤ max s.now 1000000000 ∧ max s.now 1000049999 < at_ + 50000) ∧
    (let s : State := { acting with emg := armedGuard }
     s.pipe.running = false ∧ s.emg.testFrom + 1000000000 ≤ max s.now 1000000000) ∧
    (let s := guarded { state := .testing }
     s.emg.state = .testing ∧ s.emg.checked = false ∧ s.emg.sourceActive 5 = false ∧ s.emg.fb = false ∧
     max s.now 20000 ≤ s.emg.fellAt + 20000 ∧ s.emg.fellAt + 50000 ≤ max s.now 50000) ∧
    (let s := guarded { state := .testing, fb := true }; s.emg.fb = true ∧ s.emg.fellAt + 20000 ≤ max s.now 20000) ∧
    (guarded { state := .testing, checked := true }).emg.checked = true := by decide +kernel
theorem wit_RearmNeedsEverySourceInactive :
    (0x52 : Byte) ≠ 0 ∧
    (let s := guarded { sources := 0, held := false }
     let now := max s.now (s.emg.holdOff + s.emg.pinFrom)
     s.mainOn = true ∧ s.emg.state = .tripped ∧ s.emg.sourcesAt now = 0 ∧
     s.emg.releasedAt + s.emg.holdOff ≤ now ∧ s.emg.source = false ∧ s.emg.pinFrom ≤ now ∧ max s.now 0 < s.emg.pinFrom) ∧
    (let s := guarded { sources := 0, held := false, source := true }
     s.emg.source = true ∧ s.unitActs = true ∧ s.emg.held = false ∧ s.emg.pinFrom ≤ max s.now s.emg.pinFrom) ∧
    (guarded { sources := 1 }).emg.sourcesAt (max framed.now 0) ≠ 0 ∧
    (guarded { sources := 0, flash := 2 ^ 11, flashAt := 7 }).emg.sourcesAt (max framed.now 7) ≠ 0 ∧
    max framed.now 0 - (guarded {}).emg.releasedAt < (guarded {}).emg.holdOff := by decide +kernel
theorem wit_TheLedgerCountsEveryPulse :
    (let w : LedgerWin := {}
     (rising w.total = true ∧ (∀ m ∈ w.buckets, rising m = true) ∧ 1 ≤ w.buckets.length ∧ w.buckets.length ≤ 33 ∧
      ∀ b, mcount w.total b = sumOf (w.buckets.map fun m => mcount m b)) ∧ w.bucket + 33 ≤ 33) ∧
    (guarded { bookings := [{ at_ := 0, port := 0, column := 0, columns := 512, allBins := false, e16 := 1 }] }).emg.bookings ≠ [] :=
  ⟨⟨⟨by decide, by decide, by decide, by decide, fun _ => rfl⟩, by decide⟩, by decide⟩
theorem wit_TheGateHoldsTheLimits :
    (let s := guarded armedGuard; s.emg.state = .armed ∧ s.emg.decidedFor ≠ some 0) ∧
    (let s := guarded { armedGuard with decidedFor := some 7, decided := [3] }
     s.emg.state = .armed ∧ s.emg.decidedFor = some 7 ∧ ∀ x ∈ [((3, 5) : Nat × Nat)], x.1 ∈ s.emg.decided) := by decide
theorem wit_PulsesLeaveOnlyUngatedPorts :
    (let s := firing
     s.mainOn = true ∧ s.pipe.cur = some column ∧ (s.atTime 0).inShotSlot = true ∧ s.pipe.lit = true ∧
     mget column.fired s.pipe.slot = none ∧ s.pipe.slotStart + 16 + s.pipe.dither ≤ max s.now 16 ∧ s.emissionOn = false) ∧
    (let s := { firing with emg := { armedGuard with decidedFor := some firing.pipe.slotStart } }
     s.emissionOn = true ∧ s.emg.decidedFor = some s.pipe.slotStart) := by decide +kernel
/-- A turnaround of a plan that asks for a diagnostic shot. -/
def turning (g : Emg) : State :=
  { running { inTurn := true } with
    pipe := { (running { inTurn := true }).pipe with plan := some [(0x300003, [1])] }, emg := g }
theorem wit_DiagnosticShotsAndPortClears :
    (let s := turning {}
     let p : Plan := [(0x300003, [1])]
     s.mainOn = true ∧ s.pipe.plan = some p ∧ s.pipe.inTurn = true ∧ s.pipe.blank = false ∧ s.pipe.diagDone = false ∧
     planN p 0x300003 = 1 ∧ s.pipe.turnStart + 300000 ≤ max s.now 300000 ∧ s.emg.emitEn = false) ∧
    (let s := turning armedGuard
     s.emg.emitEn = true ∧ s.emg.state = .armed ∧ s.emg.decidedFor ≠ some (s.pipe.turnStart + 300000)) ∧
    (acting.unitActs = true ∧ (127 : Word).toNat < 128 ∧ (acting.port 127).maskPending = false) ∧ (0xFF : Word) = 0xFF ∧
    (128 ≤ (128 : Word).toNat ∧ (128 : Word) ≠ 0xFF) := by decide +kernel
theorem wit_DiagnosticShotsAndPortClears_fires :
    let s := turning armedGuard
    let p : Plan := [(0x300003, [1])]
    ∀ e, e < 128 → gateCause ((s.atTime 300000).ledgerNow p) (valueIn p 0x580008) e (binsOf p e s.pipe.lastColumn)
      (e16 (s.reg 0x300012) e (lowCode (p.maxCode e)) 72) = none := by
  intro s p e he
  have hp : valueIn p 0x580008 = defaultAelTable := ael_default
  rw [hp, energy_default (s := s) (by decide) (by decide), e16_zeros, gateCause, List.find?_eq_none]
  intro x hx
  obtain ⟨b, -, hb⟩ := List.mem_flatMap.1 hx
  obtain ⟨i, hi, rfl⟩ := List.mem_map.1 hb
  have hi := List.mem_range.1 hi
  have ht : ∀ i, i < 3 → (((s.atTime 300000).ledgerNow p).wins.getD i {}).total = [] := by decide +kernel
  have hw : ∀ i, i < 3 → (((s.atTime 300000).ledgerNow p).wins.getD i {}).value b = 0 := by
    intro i hi
    rw [LedgerWin.value, ht i hi]; rfl
  simp only [aelLimit_default he hi, hw i hi]
  decide

/-! ### Beam steering, receivers, digitizers and histograms -/

def steered (b : Bsc) : State := { running {} with bsc := b }
/-- The loop with both bursts complete and the products before axis `i` taken. -/
def looping (i : Nat) : State :=
  let x : Axis := { burstDone := true, innovRun := 8, ys := List.replicate 18 0 }
  steered { state := .tracking, axes := 2, loopOn := true, ax0 := { x with tried := i == 1 }, ax1 := x }
theorem wit_TheMirrorLoop_products : ∀ i, i < 2 →
    i < (looping i).bsc.axes ∧ (looping i).bsc.loopOn = true ∧ (looping i).bsc.loops = true ∧
      ((looping i).axis i).burstDone = true ∧ ((looping i).axis i).tried = false ∧
      (i = 1 → ((looping i).axis 0).tried = true) ∧ max (looping i).now 10000 ≤ (looping i).bsc.periodStart + 10000 ∧
      ((looping i).axis i).innovRun < 9 ∧ ((looping i).axis i).ys.length < 19 := by decide +kernel
theorem wit_TheMirrorLoop :
    (let s := steered { state := .tracking, axes := 2, loopOn := true, running := true, ax0 := { productDone := true }
                        ax1 := { productDone := true } }
     s.mainOn = true ∧ (s.bsc.axes = 1 ∨ s.bsc.axes = 2) ∧ s.bsc.state = .tracking ∧ s.bsc.motion = none ∧ s.bsc.due = none ∧
     s.bsc.loopOn = true ∧ s.bsc.running = true ∧
     s.bsc.periodStart + 10000 ≤ max s.now 10000 ∧ ∀ i, i < s.bsc.axes → (s.axis i).productDone = true) ∧
    (let s := { steered { axes := 2, running := true } with mon := { State.reset.mon with settled := true } }
     ∀ i, i < 2 → i < s.bsc.axes ∧ (s.axis i).burstDone = false ∧ s.bsc.running = true ∧ s.mon.settled = true ∧
       max s.bsc.periodStart s.mon.settledAt + 1600 ≤ max s.now 1600 ∧ max s.now 10000 ≤ s.bsc.periodStart + 10000) ∧
    (let s := { steered { state := .parked } with emg := { sources := 2 ^ 2 } }
     s.mainOn = true ∧ s.unitActs = true ∧ s.pipe.plan = some short ∧ s.bsc.state = .parked ∧ s.bsc.axes = 1 ∧ s.emg.sourceActive 2 = true) := by
  decide +kernel

/-- `firing` with channel `ch` as `c`. -/
def chan (ch : Nat) (c : Chan) : State := { firing with rfe := { firing.rfe with chans := firing.rfe.chans.set ch c } }
/-- No detector waits for the end of a comparator blank. -/
def Quiet (s : State) : Prop := ∀ n, n < 512 → (s.chan n).sat = true → (s.chan n).seen = true
theorem quiet {s : State} {ch : Nat} {c : Chan} (h : s.rfe.chans = (List.replicate 512 {}).set ch c) (hc : c.sat = false) :
    Quiet s := by
  intro n hn hs
  exfalso
  rw [State.chan, h, List.getD_eq_getElem?_getD, List.getElem?_set] at hs
  split at hs
  · rw [if_pos (by rw [List.length_replicate]; omega)] at hs
    simp [hc] at hs
  · rw [List.getElem?_replicate, if_pos hn] at hs
    exact absurd hs (by decide)
theorem quiet_chan {ch : Nat} {c : Chan} (hc : c.sat = false) : Quiet (chan ch c) := quiet rfl hc
theorem quiet_firing : Quiet firing := quiet (ch := 512) (c := {})
  (by rw [List.set_eq_of_length_le (Nat.le_of_eq List.length_replicate)]; rfl) rfl
theorem wit_SaturationMarksAndStuckSlots_quiet :
    Quiet (chan 0 {}) ∧ Quiet (chan 0 { stuckRun := 14 }) ∧ Quiet (chan 0 { stuckRun := 15 }) ∧ Quiet (chan 511 { seen := true }) ∧
      Quiet (chan 511 { releasedAt := 70 }) ∧ Quiet { firing with now := 0 } :=
  ⟨quiet_chan rfl, quiet_chan rfl, quiet_chan rfl, quiet_chan rfl, quiet_chan rfl, quiet_firing⟩
theorem wit_SaturationMarksAndStuckSlots :
    (let s := chan 0 {}; s.mainOn = true ∧ 0 < s.rfe.chans.length ∧ (s.chan 0).sat = false ∧ s.chanInUse 0 = true ∧
      (s.atTime 0).inBlank = false) ∧
    (let s := { firing with now := 0 }; (s.chan 0).sat = false ∧ (s.atTime 15).inBlank = true) ∧
    (let s := chan 511 { seen := true }; 511 < s.rfe.chans.length ∧ (s.chan 511).seen = true) ∧
    (let s := chan 511 { releasedAt := 70 }; (s.chan 511).seen = false ∧ (s.chan 511).releasedAt + 30 ≤ max s.now 0) ∧
    (let s := chan 0 { stuckRun := 14 }
     s.chanInUse 0 = true ∧ s.unitActs = true ∧ (s.atTime 0).inShotSlot = true ∧ s.pipe.slotStart + 80 < max s.now 0 ∧
     (s.chan 0).stuckSlot = false ∧ (s.chan 0).stuckRun ≠ 15) ∧
    (let s := chan 0 { stuckRun := 15 }
     (s.chan 0).stuckSlot = false ∧ (s.chan 0).stuckRun = 15 ∧ (s.chan 0).masked = false ∧ (s.chan 0).maskNext = false) ∧
    (511 : Word).toNat = 511 := by decide +kernel

/-- `firing` in a column whose TDA settings are `regs`, its converters measured once at 64 taps. -/
def timed (regs : ObjMap) (dither : Nat) (t : Tda) : State :=
  { firing with
    pipe := { firing.pipe with cur := some { column with regs }, dither }
    tda := { t with tdcs := List.replicate 520 { meas := [(64, 0)] } } }
/-- Reference channel 7 enabled with the delay of the edge at 100 ns and a window of 0. -/
def refs : ObjMap := [(0x3C0011, [128]), (0x3C0012, zeros 14 ++ [0, 0x15]), (0x3C0013, [0, 0])]
theorem wit_ReferencesAndCalibrations :
    (framed.mainOn = true ∧ (framed.atTime 0).inShotSlot = false ∧ framed.tda.idleDue (max framed.now 0) = true) ∧
    (let s : State := { framed with tda := { framed.tda with idleAt := some 1 } }
     s.tda.idleDue (max s.now 4001) = true ∧ s.tda.idleAt = some 1 ∧ max s.now 4000 < 1 + 4000) ∧
    (let s := timed refs 0 { refs := List.replicate 8 { firstSeen := true } }
     let c : ColCtx := { column with regs := refs }
     let ref := 7
     let r := s.tda.refs.getD ref {}
     let tdc := s.tda.tdcs.getD (512 + ref) {}
     let traw := tdc.rawTime (counterEdge (max s.now 0 * 1000 + 0 % 1000) s.pipe.slotStart) 0
     let middle := s.fireLsb + c.refDelay ref
     s.mainOn = true ∧ s.pipe.cur = some c ∧ ref < s.tda.refs.length ∧ (s.atTime 0).inShotSlot = true ∧
     (s.atTime 0).inBlank = false ∧ s.pipe.lit = true ∧ outOfDeadTime r.last traw = true ∧ tdc.k ≠ 0 ∧ r.firstSeen = true ∧
     c.refEnabled ref = true ∧ r.tref = none ∧ r.closed = false ∧ middle - c.refWindow ≤ traw ∧ traw ≤ middle + c.refWindow) := by
  decide +kernel
/-- The premises of EdgesBecomeTimedEvents, with what is said of the raw time and the event time. -/
def EdgeAt (s : State) (t : Nat) (c : ColCtx) (p : TdaChan → Int → Int → Prop) : Prop :=
  s.mainOn = true ∧ s.chanInUse 0 = true ∧ Quiet s ∧
    s.plan.interference ≠ 2 ∧ s.pipe.cur = some c ∧ (∃ x, c.cellOf 0 = some x ∧ s.waitsForRef c x = false ∧
      p ((mget s.tda.chans 0).getD {}) ((s.tda.tdcs.getD 0 {}).rawTime (counterEdge (max s.now t * 1000) s.pipe.slotStart) 0)
        (s.eventTime c x ((s.tda.tdcs.getD 0 {}).rawTime (counterEdge (max s.now t * 1000) s.pipe.slotStart) 0))) ∧
    (s.atTime t).inShotSlot = true ∧ (s.atTime t).inBlank = false ∧ (s.chan 0).masked = false ∧
    (s.tda.tdcs.getD 0 {}).k ≠ 0 ∧ c.plan.slotLit s.pipe.slot = true
def unref : ObjMap := [(0x3C0011, [0])]
def unrefColumn : ColCtx := { column with regs := unref }
theorem wit_EdgesBecomeTimedEvents :
    EdgeAt (timed unref 0 { chans := [(0, { last := some (5376 - 255) })] }) 0 unrefColumn
      (fun q traw _ => outOfDeadTime q.last traw = false) ∧
    EdgeAt (timed unref 100 {}) 0 unrefColumn (fun q traw tau => outOfDeadTime q.last traw = true ∧ tau < 0) ∧
    EdgeAt (timed unref 0 {}) (16 + unrefColumn.plan.window - 1) unrefColumn
      (fun q traw tau => outOfDeadTime q.last traw = true ∧ 0 ≤ tau ∧ tau < unrefColumn.plan.bound) ∧
    EdgeAt (timed unref 0 {}) 16 unrefColumn
      (fun q traw tau => outOfDeadTime q.last traw = true ∧ 0 ≤ tau ∧ tau < unrefColumn.plan.bound) := by
  refine ⟨?_, ?_, ?_, ?_⟩ <;>
    exact ⟨by decide, by decide +kernel, quiet_firing, by decide +kernel, rfl, ⟨_, rfl, by decide +kernel, by decide +kernel⟩,
      by decide +kernel, by decide +kernel, by decide +kernel, by decide +kernel, by decide +kernel⟩
theorem wit_ReferencesAndCalibrations_close :
    let s := { timed refs 0 { refs := List.replicate 8 { firstSeen := true } } with now := 0 }
    let c : ColCtx := { column with regs := refs }
    let t := s.refWindowEnd c 7
    s.mainOn = true ∧ s.pipe.cur = some c ∧ (s.atTime t).inShotSlot = true ∧ s.pipe.lit = true ∧
      (s.tda.refs.getD 7 {}).closed = false ∧ (s.tda.refs.getD 7 {}).firstSeen = true ∧ s.refWindowEnd c 7 ≤ max s.now t ∧
      max s.now (t - 1) < s.refWindowEnd c 7 := by decide +kernel

/-- A plan of one row without pile-up correction; `hist` is its histogram mode, with the zoom windows placed after 4 shots. -/
def histPlan (hist coincidence : Byte) : Plan :=
  [(0x200001, [1, 0]), (0x200006, [4]), (0x200007, [1]), (0x210002, [hist]), (0x400010, [0]), (0x400011, [coincidence])]
def histColumn (hist coincidence : Byte) : ColCtx :=
  { column with plan := histPlan hist coincidence, fired := [(0, [0]), (4, [0])] }
def timedAt (slot : Nat) (tau : Int) : TimedEvent :=
  { traw := tau, atPs := 0, readyPs := 100000, visit := 0, slot, sat := false, outside := false, paired := false, handsOn := true, tau := some tau }
def histState (c : ColCtx) (e : TimedEvent) (h : Hac) : State :=
  { firing with pipe := { firing.pipe with cur := some c }, tda := { firing.tda with chans := [(0, { events := [e] })] }, hac := h }
theorem wit_EventsReachTheirBins :
    (let s := histState column (timedAt 0 0) {}
     s.mainOn = true ∧ mget s.tda.chans 0 = some { events := [timedAt 0 0] } ∧ (timedAt 0 0).tau = some ((0 : Nat) : Int) ∧
     (timedAt 0 0).readyPs ≤ max s.now 0 * 1000 ∧ max ({ s with now := 0 } : State).now 99 * 1000 < (timedAt 0 0).readyPs ∧
     s.pipe.cur = some column ∧ column.visit = (timedAt 0 0).visit ∧ (column.cellOf 0).isSome = true ∧ column.probe = false ∧
     ((mget column.fired 0).getD []).contains 0 = false) ∧
    (let c := histColumn 1 1
     c.visit = (timedAt 0 0).visit ∧ (c.cellOf 0).isSome = true ∧ ((mget c.fired 0).getD []).contains 0 = true ∧
     c.plan.interference ≠ 2 ∧ planN c.plan 0x400011 ≤ 1 ∧ c.plan.zoomSlot 0 = false ∧ planN c.plan 0x400010 = 0) ∧
    (let c := histColumn 2 1
     ((mget c.fired 4).getD []).contains 0 = true ∧ c.plan.zoomSlot 4 = true ∧
     (histState c (timedAt 4 0) {}).hac.placedAt = none) ∧
    (let e : HacEvent := { ch := 0, visit := 0, slot := 0, tau := 64, sat := false, outside := false, atPs := 0 }
     let c := histColumn 1 1
     let s := histState c (timedAt 0 0) { held := [e] }
     s.hac.held.find? (fun e => e.ch == 0) = some e ∧ s.pipe.cur = some c ∧ c.visit = e.visit ∧
     e.atPs + (160 + planN c.plan 0x400012) * 1000 ≤ max s.now (160 + planN c.plan 0x400012) * 1000 ∧
     s.hac.supported c 0 e = false ∧
     ({ held := [e], slotEvents := [e] } : Hac).supported c 0 e = true ∧ c.plan.zoomSlot e.slot = false) := by
  decide +kernel
def peaked : Buf := { coarse := [(100, 4000)] }
theorem wit_ZoomWindowsArePlacedInRange :
    (1 ≤ (histPlan 2 1).binLsb ∧ ∃ x ∈ column.cells, ∃ w ∈ placeWindows (histPlan 2 1) x peaked, w.valid = true) ∧
    (let c := histColumn 2 1
     let s := { histState c (timedAt 0 0) {} with pipe := { firing.pipe with cur := some c, slot := 4 } }
     s.mainOn = true ∧ s.pipe.cur = some c ∧ (s.atTime 256).placementDue c = true ∧ (c.cells.map CellCtx.channel).Nodup) ∧
    (histState column (timedAt 0 0) { placedAt := some 0 }).hac.placedAt = some 0 := by decide +kernel

/-! ### Extraction, the Tarn, the formatter and the memory -/

def unmeasured : ColCtx := { histColumn 1 1 with cells := column.cells.map fun x => { x with measured := false } }
def extracting (c : ColCtx) (done : SMap Nat) : State :=
  { framed with pipe := { framed.pipe with ext := some c }, prx := { framed.prx with done } }
def allDone : SMap Nat := (List.range 16).map fun e => (e, 32)
theorem wit_CellsAreExtractedAndWritten :
    (∀ c ∈ [histColumn 1 1, unmeasured],
      let s := extracting c []
      s.mainOn = true ∧ s.pipe.ext = some c ∧ c.plan.runsPrx = true ∧ 0 < 16 ∧
        (c.plan.engineChannels 0)[mcount s.prx.done 0]? = some 0 ∧ (c.cellOf 0).isSome = true ∧
        max s.now (c.swapAt - 1) < c.swapAt + 2048 * mcount s.prx.done 0 ∧
        c.swapAt + 2048 * mcount s.prx.done 0 ≤ max s.now c.swapAt) ∧
    (((histColumn 1 1).cellOf 0).all fun x => x.measured) = true ∧ ((unmeasured.cellOf 0).all fun x => !x.measured) = true ∧
    (let s := extracting (histColumn 1 1) allDone; s.pipe.ext = some (histColumn 1 1) ∧ s.extracted (histColumn 1 1) = true ∧
      (histColumn 1 1).enginesEnd ≤ max s.now (histColumn 1 1).enginesEnd) := by
  decide +kernel
def finished (c : ColCtx) : State := { framed with mcx := { ready := true }, pipe := { framed.pipe with done := some c, doneTarn := false, doneQueued := false } }
theorem wit_CellsAreExtractedAndWritten_tarn :
    (finished column).mainOn = true ∧ (finished column).pipe.done = some column ∧ (finished column).pipe.doneTarn = false ∧
      (finished column).mcx.ready = true ∧ (∃ x, column.cells = [x]) ∧ MemoryCanonical (finished column) :=
  ⟨rfl, rfl, rfl, rfl, ⟨_, rfl⟩, by unfold MemoryCanonical; decide⟩
theorem wit_TarnRecordsReadBackAsWritten :
    let v : Survivor := { tau := 0, refined := false, confidence := 0, rangeWord := 0 }
    (List.replicate 3 v).length ≤ 3 ∧ (column.cells.all fun x => x.feedback < 4 && x.reduction ≤ 96) = true ∧ column.posSet < 8 := by
  decide
/-- `finished` with point port 0 in state `l` and `n` bytes in its store. -/
def porting (c : ColCtx) (l : Nat) (o : OutPort) : State :=
  { finished c with linkA := { state := l }, fmt := { (finished c).fmt with a := o } }
theorem wit_BlocksAreQueuedOrDropped :
    (let s := porting (histColumn 1 1) linkActive {}
     let c := histColumn 1 1
     let o := s.outPort 0
     let outs := c.outs s.prx.outCells
     let body := outs.flatMap fun o => (cellRecords c o).flatMap Prod.snd
     let bytes := blockHeader s.part.device unitPoints c outs.length body.length c.plan.recordsPerCell o.seq o.gap ++ body
     s.mainOn = true ∧ s.pipe.done = some c ∧ s.pipe.doneQueued = false ∧ c.visit + 1 ≠ c.plan.columns ∧ c.plan.output = 1 ∧
     c.plan.pointPort = 0 ∧ (s.link 0).state = linkActive ∧ o.waitHeader = false ∧
     (porting c linkActive { store := 4190208 - bytes.length }).fmt.a.store + bytes.length ≤ 4190208 ∧
     4190208 < (porting c linkActive { store := 4190208 - bytes.length + 1 }).fmt.a.store + bytes.length ∧
     ((porting c 1 {}).link 0).state ≠ linkActive ∧ ((porting c 5 { waitHeader := true }).outPort 0).waitHeader = true) ∧
    (let s := extracting (histColumn 4 1) []; s.pipe.ext = some (histColumn 4 1) ∧ (histColumn 4 1).plan.runsPrx = false) ∧
    (let e : Eth := { enable := true, addr := 1, ready := [[1, 2]], tokens := 16000 }
     e.ready = [1, 2] :: [] ∧ e.on = true ∧ acting.kppReady = false ∧ 8000 * [1, 2].length ≤ (e.refill (max acting.now 0)).tokens ∧
     (({ e with tokens := 15999 } : Eth).refill (max acting.now 0)).tokens < 8000 * [1, 2].length) := by decide +kernel

def memory (m : Mcx) : State := { acting with mcx := m }
theorem wit_MemoryBecomesReadyAndIsScrubbed :
    (memory {}).mcx.ready = false ∧
    (let s := memory { ready := true }; s.mainOn = true ∧ s.mcx.ready = true ∧ s.mcx.bootFill = false ∧ s.cu.holder = some 0) ∧
    (let s := memory { ready := true, written := [0], scrubPos := 63 }
     s.mcx.scrubFrom s.mcx.scrubPos = some (63, 63) ∧ (s.mcx.decodeLine 63).2 = ([], false) ∧ s.mcx.isWritten (63 / 64) = true ∧
     s.unitActs = true ∧ s.mcx.scrubAt + s.regN 0x480015 ≤ max s.now (s.regN 0x480015) ∧
     max s.now (s.regN 0x480015 - 1) < s.mcx.scrubAt + s.regN 0x480015) ∧
    (let s := memory { copies := [33554431] }
     s.mcx.copies = 33554431 :: [] ∧ s.mcx.freeSpare 33554431 = some (0, 0)) := by decide +kernel
theorem wit_MemoryBecomesReadyAndIsScrubbed_canonical (m : Mcx) (h : m.data = [] ∧ m.check = []) : MemoryCanonical (memory m) := by
  simp [MemoryCanonical, memory, h.1, h.2, memWf, memAbove, rising]
theorem wit_WritesAndTheirCheckBits :
    (let s := memory { ready := true, written := [524287] }
     s.mainOn = true ∧ 33554431 < 33554432 ∧ 63 < 64 ∧ s.mcx.ready = true ∧ s.reaches .ring 33554431 = true ∧
       s.mcx.isWritten (33554431 / 64) = true) ∧
    11 < 12 ∧ 12 < 13 := by decide +kernel
theorem wit_MemoryReadOfALine :
    (let s := memory { ready := true }
     s.mcx.ready = true ∧ s.reaches .scrub 33554431 = true ∧ s.mcx.isWritten (33554431 / 64) = false) ∧
    (let s := memory { ready := true, written := [524287] }
     s.reaches .readout 33554431 = true ∧ s.mcx.isWritten (33554431 / 64) = true ∧
       (s.mcx.decodeLine 33554431).2 = ([], false)) ∧
    (let w : List (Nat × Byte) := [(63, 1), (0, 2)]
     let s := memory { writebacks := [(33554431, w)] }
     s.mcx.writebacks = [(33554431, w)] ∧ (∀ x, x ∈ w → x.1 < 64) ∧ (w.map Prod.fst).Nodup) ∧
    (∀ line ∈ [2621440, 8388607], (memory {}).reaches .scrub line = false) ∧ (memory {}).reaches .tarnWrite 524288 = false := by
  decide +kernel

/-! ### The Druelo link -/

def linked (l : Link) : State := { acting with linkA := l, linkB := l }
def back (type : Nat) : BackMsg := { payload := List.replicate 8 0, crc := crc8 (BitVec.ofNat 8 type :: List.replicate 8 0) }
theorem wit_BackChannelMessages :
    (∀ type ∈ [1, 2, 3, 4], ValidMessage (linked {}) 1 type (back type)) ∧
    (linked { state := 1 }).link 1 = { state := 1 } ∧
    (∀ st ∈ [2, 3, 4], ((linked { state := st }).link 1).training = true) ∧
    (∀ type ∈ [1, 2, 3, 4], crc8 (BitVec.ofNat 8 type :: List.replicate 8 0) ≠ (back type).crc + 1) ∧
    (let s := linked { state := 1, lastMsg := 7 }
     s.mainOn = true ∧ s.hasPort 1 = true ∧ (s.link 1).state ≠ 0 ∧ (s.link 1).lost = false ∧
     max s.now 500006 < (s.link 1).lastMsg + 500000 ∧ (s.link 1).lastMsg + 500000 ≤ max s.now 500007) := by
  unfold ValidMessage; decide +kernel
theorem wit_TrainingAttemptsAndWidths :
    (let s := linked { state := 1, pll := true, statusRun := 4 }
     s.mainOn = true ∧ s.hasPort 1 = true ∧ (s.link 1).state = 1 ∧ (s.link 1).pll = true ∧ 4 ≤ (s.link 1).statusRun ∧
     (s.link 1).spaceFrom = none) ∧
    (let s := linked { state := 2, lastMsg := 501000 }
     (s.link 1).state = 2 ∧ (s.link 1).stateAt + 1000000 ≤ max s.now 1000000 ∧
       (s.link 1).lossBy ((s.link 1).stateAt + 1000000) = false) ∧
    (let s := linked { state := 3, lastMsg := 1501000 }
     (s.link 1).state = 3 ∧ (s.link 1).stateAt + 2000000 ≤ max s.now 2000000 ∧
       (s.link 1).lossBy ((s.link 1).stateAt + 2000000) = false) ∧
    (let s := linked { state := 4, lastMsg := 1000000 }
     let at_ := (s.link 1).stateAt + ceilDiv (6 * 16384 * 66 * 1000) (s.laneRate 1)
     (s.link 1).state = 4 ∧ at_ ≤ max s.now at_ ∧ (s.link 1).lossBy at_ = false) ∧
    (let l : Link := { blind := 1 }; l.width = 4 ∧ l.lanes = 15 ∧ l.blind < 2) ∧ ({ blind := 2 } : Link).blind = 2 := by
  decide +kernel
theorem wit_PortControlBlocksAndMarkers :
    (let s := { linked {} with rwp := [(0x4C0041, [1]), (0x4C0061, [1])] }
     s.mainOn = true ∧ s.unitActs = true ∧ s.hasPort 1 = true ∧ (s.link 1).pll = false ∧ s.regN (0x4C0041 + 0x20 * 1) = 1) ∧
    ((linked { state := 4 }).link 1).state < 5 ∧
    (let s := linked { pll := true }; (s.link 1).state = 0 ∧ (s.link 1).pll = true) ∧ (255 : Byte) ≠ 0 ∧
    ((linked { state := 2 }).link 1).training = true ∧
    (let s := linked { state := 1, pll := true, blockCount := 16382 }
     (s.link 1).state = 1 ∧ (s.link 1).pll = true ∧ (s.atTime 0).periodDue 1 = true ∧ (s.link 1).abort = none ∧
       (s.link 1).blockCount < 16383) ∧
    (let s := linked { state := 1, pll := true, periods := 1, blockCount := 5 }
     (s.atTime 1).periodDue 1 = false ∧ (s.atTime 66).periodDue 1 = true) ∧
    ((linked { state := 1, pll := true, blockCount := 16383 }).link 1).blockCount = 16383 := by decide +kernel

/-! ### The control lease -/

theorem wit_LeaseEndsByReleaseExpiryOrSwitchover :
    acting.mainOn = true ∧ acting.cu.lease = .held ∧ acting.cu.holder = some 0 ∧
      acting.cu.lastRenewal + 3920000 ≤ max acting.now 3920000 ∧ acting.unitActs = true ∧ acting.standbyState = .ready ∧
      acting.plan.single = false := by decide +kernel
/-- Nobody holds the lease. -/
def vacant (c : Cu) : State := { acting with cu := { c with a := { state := .ready }, b := { state := .ready } } }
theorem wit_OffersFollowTheGuardTime :
    (let s := vacant { lease := .guard, former := some 1 }
     s.mainOn = true ∧ s.cu.lease = .guard ∧ s.cu.former = some 1 ∧ s.cu.expiredAt + 1000000 ≤ max s.now 1000000) ∧
    (let s := vacant { claimed := true }
     s.cu.lease = .offerStandby ∧ s.cu.claimed = true ∧ s.cu.expiredAt + 30000000 ≤ max s.now 30000000) ∧
    (let s := vacant { verified := some 5 }
     s.cu.lease = .offerStandby ∧ s.cu.claimed = false ∧ s.cu.verified = some 5 ∧ 5 + 30000000 ≤ max s.now 30000005) ∧
    (let s := vacant { autonomyEnd := some 9 }
     s.cu.holder = none ∧ s.cu.autonomyEnd = some 9 ∧ 9 ≤ max s.now 9 ∧ (s.atTime 9).claimWaits = false) := by decide +kernel
def saved : Checkpoint := { good := true, frame := 4 }
theorem wit_ClaimsAndTakeovers :
    ((acting.cu.unit 0).fenced = false ∧ max acting.now 4079999 < acting.cu.lastRenewal + 4080000) ∧
    (let s := vacant { claimed := true, former := some 1 }; s.cu.lease ≠ .held ∧ s.offeredTo 0 = true ∧ s.cu.claimed = true) ∧
    (let s := vacant { holder := some 0, takingOver := true, slot1 := saved }
     s.mainOn = true ∧ s.cu.holder = some 0 ∧ s.cu.takingOver = true ∧ s.cu.checkpointInForce = some saved ∧
     s.kpp.held = [] ∧ s.kpp.waiting = []) := by decide +kernel
def unitB (u : CtrlUnit) : State := { acting with cu := { acting.cu with b := u } }
theorem wit_FencesHeartbeatsAndReloads :
    (acting.cu.holder = some 0 ∧ acting.cu.lastRenewal + 3000000 ≤ max acting.now 3000000) ∧
    (let s := unitB { lost := true, beats := 8 }; (s.cu.unit 1).lost = true ∧ (s.cu.unit 1).beats < 9) ∧
    (let s := unitB { lost := true, beats := 9 }
     (s.cu.unit 1).beats = 9 ∧ max s.now 1999999 < (s.cu.unit 1).lastHeartbeat + 2000000) ∧
    (let s := unitB {}; (s.cu.unit 1).lost = false ∧ (s.cu.unit 1).lastHeartbeat + 10000000 ≤ max s.now 10000000) ∧
    (acting.standby < 2 ∧ acting.standbyState = .ready ∧
      (acting.cu.unit acting.standby).readyAt + 10000000000 ≤ max acting.now 10000000000) ∧
    (let s := unitB { reload := true, loaded := some true }
     (s.cu.unit 1).state = .loading ∧ (s.cu.unit 1).reload = true ∧ (s.cu.unit 1).loaded = some true) ∧
    (let s := unitB { reload := true, fails := 2 }
     s.mainOn = true ∧ (s.cu.unit 1).state = .loading ∧ (s.cu.unit 1).reload = true ∧ (s.cu.unit 1).fails = 2) := by
  decide +kernel
theorem wit_CheckpointWrites :
    (let s := running { inTurn := true }
     s.mainOn = true ∧ s.unitActs = true ∧ s.cu.writing = none ∧ s.pipe.inTurn = true ∧ s.cu.ckTurn ≠ some s.pipe.frame ∧
     s.pipe.turnStart + 200000 ≤ max s.now 200000 ∧ max s.now 1499999 < s.pipe.turnStart + 1500000) ∧
    (acting.cu.writing = none ∧ acting.pipe.running = false ∧ acting.cu.ckAt + 40000000 ≤ max acting.now 40000000) ∧
    (let s := { running { inTurn := true } with cu := { acting.cu with writing := some (1, 3) } }
     s.mainOn = true ∧ s.unitActs = true ∧ s.cu.writing = some (1, 3) ∧ (3 : Word) ≠ 0xFFFFFFFF ∧
     max s.now 1500000 ≤ s.checkpointDue 3 ∧ s.checkpointDue 3 < max s.now 1500001 ∧
     max s.now 1300000 ≤ s.checkpointDue 0xFFFFFFFF ∧ s.checkpointDue 0xFFFFFFFF < max s.now 1300001 ∧
     s.pipe.turnStart + 1500000 ≤ max s.now 1500000) := by decide +kernel

/-! ### Waveform capture, monitors, time and the event recorder -/

def capturing (w : Wcu) : State := { acting with rwp := [(0x500010, [1, 0])], wcu := w }
def captured : WcuHead :=
  { time := {}, frame := 0, visit := 0, slot := 0, source := 0, phase := none, at64 := 0, grid := 16, sample := -40
    lastSlot := 0, slotLen := 0, slots := 0, fbs := [0] }
theorem wit_CapturesRunThroughTheirStates :
    (let s := capturing {}
     s.mainOn = true ∧ s.unitActs = true ∧ s.part.variant.hasRecorder = true ∧ s.wcu.state = .idle ∧ s.regN 0x500010 ≠ 0) ∧
    (capturing { state := .done }).wcu.state = .done ∧
    (let s := capturing { state := .armed, set := { trig := 32 } }
     s.wcu.state = .armed ∧ s.wcu.lastTrig ≠ some (max s.now 0) ∧
     (s.atTime 0).triggerSource (.tsin 0 false) = some (0x20, 0) ∧ s.wcu.lastTrig ≠ some (0 / 64)) ∧
    (let s := capturing { state := .postFill, set := { pairs := 32768 }, head := some captured }
     s.wcu.head = some captured ∧ s.wcu.state = .postFill ∧ bitOf s.wcu.set.pairs 15 = true ∧
     captured.past s.wcu.set.post (64 * max s.now 26212) = true) ∧
    (let s := capturing { state := .capturing, head := some captured }
     s.wcu.head = some captured ∧ s.wcu.state = .capturing ∧
     captured.past (s.wcu.set.segLen - s.wcu.set.segPre) (64 * max s.now 384) = true) ∧
    (let s := capturing { state := .rearming, head := some captured }
     s.wcu.head = some captured ∧ s.wcu.state = .rearming ∧ s.wcu.busyOver (64 * max s.now 1384) = true) ∧
    (let s := capturing { state := .calibrating }
     s.wcu.state = .calibrating ∧ (s.atTime 1024000).skewPulsed = true) ∧
    (let s := { capturing { state := .calibrating, calFrames := true } with
       pipe := { (running { inTurn := true }).pipe with turnStart := 7 } }
     (s.atTime 1724007).skewPulsed = true) := by decide +kernel
/-- The reset slot 0 enabled with a ratio of two samples, on converter 0. -/
def monitoring (m : Mon) : State := { acting with rwp := [(0x540010, [0, 0x80, 2, 0, 0, 0, 0xFF, 0x3F] ++ zeros 120)], mon := m }
theorem wit_MonitorSlotsAndReferences :
    (let s := monitoring { settled := true }
     s.mainOn = true ∧ s.mon.settled = true ∧ (s.atTime 200).inBurst 0 = false ∧
     max s.mon.settledAt (s.mon.convAt.getD 0 0) + 200 ≤ max s.now 200 ∧ s.nextSlot 0 = some 0 ∧ 0 < s.mon.slots.length ∧
     (s.mon.slots.getD 0 {}).taken + 1 < (s.slotCfg 0).ratio ∧ mcount s.mon.recovery (s.slotCfg 0).input = 0) ∧
    (let s : State := { acting with rfe := { acting.rfe with muxWait := true } }
     s.rfe.muxWait = true ∧ s.rfe.muxAt + s.muxSettleNs ≤ max s.now s.muxSettleNs) ∧
    (let s := monitoring { seqRunning := true }; s.unitActs = true ∧ s.mon.seqRunning = true ∧ s.mon.seqQueued = false) ∧
    (let s := monitoring { seqRunning := true, seqQueued := true }; s.mon.seqRunning = true ∧ s.mon.seqQueued = true) ∧
    ((monitoring {}).mon.seqRunning = false ∧ (zeros 128).length = 128) ∧
    (let s := { monitoring { select := 1, run := 63 } with rwp := [(0x540004, [0xE8, 3])] }
     s.mon.select = 1 ∧ s.mon.checkAt = none ∧ s.regN 0x540004 = 1000 ∧
     50 * (max 1020 (s.regN 0x540004) - min 1020 (s.regN 0x540004)) ≤ s.regN 0x540004 ∧
     s.regN 0x540004 < 50 * (max 979 (s.regN 0x540004) - min 979 (s.regN 0x540004))) ∧
    (let s := monitoring {}; s.mon.select = 0 ∧ s.emg.releasedAt + 1500000 ≤ max s.now 1500000) := by decide +kernel
def synced (n : Ntu) : State := { acting with ntu := n }
theorem wit_SynchronisationStates :
    (let s := synced {}; let m : SyncMsg := { domain := s.domain, seqId := 65535, twoStep := true, logInterval := -3 }
     s.mainOn = true ∧ s.serving = true ∧ m.domain = s.domain ∧ m.twoStep = true ∧ m.domain + 1 ≠ s.domain) ∧
    (∀ capable ∈ [true, false], let s := synced { sawSync := some (3, 0, 125000000), asCapable := capable }
     ((0 : Int).natAbs : Int) ≤ s.regN 0x60000D ∧ s.serving = true ∧ s.ntu.sawSync = some (3, 0, 125000000) ∧ s.ntu.sync = .free ∧ s.ntu.asCapable = capable) ∧
    (let s := synced { sync := .acquiring, goodRun := 7, sawSync := some (3, 0, 125000000) }
     let m : FollowUpMsg := { domain := s.domain, seqId := 3, originNs := 0, correctionNs := 0, rateOffset41 := 0 }
     let offset := (0 : Int) - (m.originNs + m.correctionNs + (s.ntu.linkDelay : Int))
     m.domain = s.domain ∧ m.seqId = 3 ∧ s.ntu.sync = .acquiring ∧ s.ntu.goodRun = 7 ∧
     (offset.natAbs : Int) ≤ s.regN 0x60000E ∧ (s.regN 0x60000D : Int) ≥ offset.natAbs) ∧
    (∀ st ∈ [SyncState.acquiring, .locked], let s := synced { sync := st }
     s.ntu.lastSyncAt + 3 * s.ntu.intervalNs ≤ max s.now 375000000 ∧ s.ntu.sync = st) ∧
    (let s := synced { sync := .holdover }
     s.ntu.sync = .holdover ∧ s.ntu.holdoverAt + 1000000 * s.regN 0x60000F ≤ max s.now (1000000 * s.regN 0x60000F)) := by
  decide +kernel
theorem wit_PeerDelayAndClocks :
    (let s := synced { lostResp := 9, sentAt := some 5 }
     s.mainOn = true ∧ s.serving = true ∧ s.ntu.reqAt = none ∧ s.ntu.lostResp ≤ 9 ∧
     s.ntu.pdelayDue (max s.now 1000000005) = true ∧ s.ntu.sentAt = some 5 ∧ max s.now 1000000004 < 5 + 1000000000) ∧
    (let s := synced { reqAt := some 0 }
     s.ntu.reqAt = some 0 ∧ s.ntu.prevPeer = none ∧ max 0 (((s.atTime 0).rxStamp - 0 - (0 - 0)) / 2) ≤ 800 ∧
     800 < max 0 (((s.atTime 0).rxStamp - 0 - ((0 : Int) - 2000)) / 2)) ∧
    (let s := synced {}
     let v : List Byte := zeros 6 ++ [0xFF, 0xC9, 0x9A, 0x3B]
     s.unitActs = true ∧ s.ntu.sync = .free ∧ (s.atTime 0).syncWaits = false ∧ uAt v 6 4 = 999999999 ∧ uAt v 6 4 < 1000000000) ∧
    (synced { sync := .acquiring }).ntu.sync ≠ .free ∧
    (∀ n ∈ [31, 32], let x : Tsin := { fifo := List.replicate n ({}, true) }
     let s := { synced { tsins := List.replicate 8 x } with rwp := [(0x600030, [0, 0x80])] }
     s.mainOn = true ∧ s.ntu.tsins[7]? = some x ∧ s.tsinEnabled 7 true = true ∧ x.lastAt = none ∧ x.fifo.length = n) ∧
    (let s := { synced {} with rwp := [(0x600038, zeros 12 ++ [0x80, 0, 1, 0])] }; s.fmeasCfg 3 = (true, 0, 1) ∧
      (s.atTime 999999).gatesRun (s.ntu.fmeas.getD 3 {}) 1 = 0 ∧ (s.atTime 1000000).gatesRun (s.ntu.fmeas.getD 3 {}) 1 ≠ 0) := by
  decide +kernel

def incident (number : Nat) (state : IncState) (payload : List RingUnit) (blocks : List Nat) : Incident :=
  { number, state, opened := false, source := 0, port := 0, time := {}, epoch := 0, trigFrame := 0, firstFrame := 0, lastFrame := 0
    endFrame := 0, post := 0, preBytes := 0, payload, blocks }
def unitOf (n : Nat) : RingUnit := { seg := 0, frame := 0, kind := 1, seq := 0, bytes := List.replicate n 0 }
def recording (e : Evr) : State := { acting with rwp := [(0x640007, [1])], evr := { e with armed := true } }
theorem wit_TriggersAndTheRing :
    (∀ n ∈ [3, 4], let s := recording { incidents := List.replicate n (incident 1 .queued [] []) }
     s.mainOn = true ∧ s.unitActs = true ∧ s.part.variant.hasRecorder = true ∧ s.evr.armed = true ∧ bitOf (s.regN 0x640007) 0 = true ∧
     s.evr.trigAt ≠ some (max s.now 0) ∧ s.evr.openIncident (max s.now 0) = none ∧ s.evr.queued = n) ∧
    (let s := { recording { feed := [unitOf 4], segFill := 33554428 } with
       mcx := { ready := true, written := [(segmentBase 0 + 33554428) / 4096] } }
     s.evr.feed = unitOf 4 :: [] ∧ (unitOf 4).last = false ∧ s.evr.place (unitOf 4).size = some 0 ∧ 0 = s.evr.segment ∧
     (unitOf 4).bytes ≠ [] ∧ s.mcx.ready = true ∧ s.mcx.remap = [] ∧ s.mcx.data = [] ∧ s.mcx.check = [] ∧
     ∀ i, i < (unitOf 4).size → s.mcx.isWritten ((segmentBase 0 + s.evr.segFill + i) / 4096) = true) := by
  decide +kernel
theorem wit_IncidentsAreWrittenAndRecovered :
    (let i := incident 1 .writing [unitOf 6] [18]
     let s := recording { incidents := [i], pageBytes := 4, pagesPerBlock := 2, replayed := true }
     s.mainOn = true ∧ s.part.variant.hasRecorder = true ∧ s.evr.writing = some i ∧
     s.evr.pageSize i = some 4 ∧ s.evr.pageMayEnd i 4 (max s.now 7) = true ∧ s.evr.pageMayEnd i 4 (max s.now 6) = false ∧ i.blocks[i.written / max 1 s.evr.bytesPerBlock]? = some 18 ∧
     (s.evr.incidents.map Incident.number).Nodup) ∧
    (let s := recording { blocks := [(blockKey 3 7, { erasing := true })] }
     s.evr.interlock = false ∧ (s.evr.block (blockKey 3 7)).erasing = true) ∧
    (let i := { incident 1 .writing [unitOf 6] [18] with written := 6 }
     let s := recording { incidents := [i], used := 1, replayed := true }
     s.evr.writing = some i ∧ i.opened = false ∧ s.evr.interlock = false ∧ s.evr.replayed = true ∧ i.bytes ≤ i.written ∧ s.evr.used ≠ 0) ∧
    (let s := recording { incidents := [incident 1 .stored [] []], journal := [.commit 1], identified := true }
     s.evr.identified = true ∧ s.evr.replayed = false ∧ s.evr.journal.length ≤ s.evr.entriesGood ∧
     ∀ i ∈ s.evr.incidents, i.state ≠ .queued ∧ s.evr.journal.contains (.commit i.number) = true) := by decide +kernel
/-- One target of 21 blocks, the last three for data, of which block 18 holds an incident and block 19 is worn. -/
def worn : Evr :=
  { used := 1, pageBytes := 4, pagesPerBlock := 2, incidents := [incident 1 .stored [] [18]]
    targets := [{ present := true, paramOk := true, pageBytes := 4, spareBytes := 0, blocks := 21, pagesPerBlock := 2, ddr2Mode := 0
                  ddr3Mode := 0, asyncMode := 0, factoryBad := [] }]
    blocks := [(18, { free := false }), (19, { erases := 1001 })] }
theorem wit_FlashUpkeep :
    (let s := recording worn
     s.mainOn = true ∧ s.part.variant.hasRecorder = true ∧ s.evr.identified = false ∧ outside 1163 1164 1236 = true ∧ outside 1163 1746 1854 = true ∧
     1000 < s.evr.spread ∧ s.evr.writing = none ∧ s.evr.interlock = false ∧
     leastBy (fun k => (s.evr.block k).erases)
       (s.evr.dataBlocks.filter fun k => ((s.evr.owner k).map Incident.settled).getD false) = some 18 ∧
     leastBy (fun k => maxOf (s.evr.freeBlocks.map fun x => (s.evr.block x).erases) - (s.evr.block k).erases)
       s.evr.freeBlocks = some 19 ∧ s.evr.owner 18 = some (incident 1 .stored [] [18]) ∧ 18 ≠ 19) ∧
    (let s := recording { incidents := [incident 1 .stored [] [blockKey 0 5]], used := 1 }
     s.evr.spread ≤ 1000 ∧ s.evr.refreshDue (max s.now 0) = true ∧ s.evr.owner (blockKey 0 5) = some (incident 1 .stored [] [blockKey 0 5]) ∧ s.evr.writing = none ∧
     s.evr.nextBlock = none ∧ (incident 1 .stored [] []).settled = true ∧ (incident 1 .stored [] []).isProtected = false ∧
     (∀ i ∈ s.evr.incidents, i.state = .stored) ∧ s.evr.used ≠ 0) ∧
    (let s := recording { incidents := [{ incident 1 .stored [] [] with isProtected := true }] }
     ∀ i ∈ s.evr.incidents, i.number = (1 : Word).toNat → i.isProtected = true) := by decide +kernel

/-! ### The Spring, firmware and calibration -/

def sprung (p : Spring) : State := { acting with spring := p }
theorem wit_RailsAreSequencedAndSupervised :
    (∀ n ∈ [0, 3, 4], let s := sprung { state := .sequencing, rail := 4, railRun := n }
     let w := railWindow (railChannels.getD s.spring.rail 6)
     s.spring.state = .sequencing ∧ s.spring.restartWait = false ∧ s.spring.vsysWait = false ∧ s.spring.rail < 5 ∧
     s.spring.sampleDue (max s.now 0) = true ∧ outside (w.1 - 1) w.1 w.2 = true ∧ outside w.2 w.1 w.2 = false ∧ s.spring.railRun = n ∧
     s.spring.railAt + 20000000 ≤ max s.now 20000000) ∧
    4 ≤ (faultWindow [1, 2, 3] 60000000001).length ∧
    (let s := sprung { restartWait := true }; s.spring.restartWait = true ∧ s.spring.railAt + 100000000 ≤ max s.now 100000000) ∧
    (sprung {}).mainOn = true := by decide +kernel
theorem wit_SleepResetAndRelease :
    (let s := sprung { state := .faultHold }; s.spring.state = .faultHold ∧ s.spring.faultLow = 0 ∧
      s.spring.roundDue (max s.now 0) = true) ∧
    (let s := sprung { state := .faultHold, roundAt := some 1 }; s.spring.roundDue (max s.now 7840001) = true) ∧
    (let s := sprung { state := .sleep, regs := [(0x680023, [1, 0, 0, 0])] }
     s.spring.state = .sleep ∧ s.regN 0x680023 ≠ 0 ∧ s.spring.sleepAt + 1000000000 * s.regN 0x680023 ≤ max s.now 1000000000) ∧
    ((sprung {}).unitActs = true ∧ (sprung {}).spring.state = .running) ∧
    (let s := sprung { state := .shuttingDown, shutStep := 4 }
     s.spring.state = .shuttingDown ∧ s.spring.shutStep < 6 ∧ s.spring.shutStep = 4 ∧ (s.atTime 0).shutdownStepOver = true) ∧
    (let s := { sprung { state := .shuttingDown, shutStep := 4 } with bsc := { state := .parking } }
     (s.atTime 399999999).shutdownStepOver = false ∧ (s.atTime 400000000).shutdownStepOver = true) ∧
    (let s := sprung { state := .shuttingDown, shutStep := 6, pmicEn := 1 }
     s.spring.shutStep = 6 ∧ s.spring.pmicEn ≠ 0) ∧
    (∀ aim ∈ [0, 2], let s := sprung { state := .shuttingDown, shutStep := 6, shutTo := aim, pmicEn := 0 }
     s.spring.shutStep = 6 ∧ s.spring.pmicEn = 0 ∧ s.thermal.shutdown = false ∧ s.spring.shutTo = aim) ∧
    (∀ cause ∈ [1, 5], let s := sprung { state := .sequencing, nextCause := cause }
     s.spring.state = .sequencing ∧ s.spring.restartWait = false ∧ s.spring.vsysWait = false ∧ s.spring.rail = 5 ∧
     s.spring.powerGood = true ∧ s.spring.railAt + 500000 ≤ max s.now 500000 ∧ s.spring.nextCause = cause) := by decide +kernel

def updating (f : Firmware) : State := { acting with fw := f }
theorem wit_UpdatesChangeOnlyTheOtherSlot :
    (updating {}).mainOn = true ∧ (updating {}).unitActs = true ∧ (updating {}).fw.update ≠ 1 ∧ (updating { update := 1 }).fw.update = 1 ∧
    (updating { imageState := 1 }).fw.imageState ≠ 0 ∧ (updating {}).fw.imageState = 0 ∧
    (updating { job := some .program }).fw.job = some .program ∧
    (Instr.activateTrial 0 = .verifyImage 0 ∧ UpdateJob.trial = .verify ∨
      Instr.activateTrial 0 = .programImage 0 ∧ UpdateJob.trial = .program ∨ Instr.activateTrial 0 = .activateTrial 0 ∧ UpdateJob.trial = .trial) := by
  decide +kernel
def goodImage : ImageSlot :=
  { magic := 0x4C4D4548, formatVersion := 1, targetId := 0x0512, stepping := 0xB0, securityVersion := 64, firmwareVersion := 1
    payloadLength := 4, entryOffset := 0, payloadHash := List.replicate 32 0, keyHashOk := true, signatureOk := true, payloadOk := true }
theorem wit_BootRecordsLoadsAndFuses :
    (∀ fuse ∈ [64, 65], let s := { unitB {} with fw := { chosen := true, fuse } }
     ({ sfdp := true, xspi := false, fast144 := false } : NorFlash).sfdp = true ∧
     ({ sfdp := false, xspi := false, fast144 := false } : NorFlash).sfdp = false ∧
     s.mainOn = true ∧ (s.cu.unit 1).state = .loading ∧ (s.cu.unit 1).reload = false ∧ s.fw.chosen = true ∧ s.fw.noImage = false ∧
     s.fw.running = 0 ∧ mget s.fw.programmed 0 = none ∧ s.fw.slotStatus.length = 16 ∧
     (if fuse = 64 then imageCode goodImage s.fw.fuse = 0 else imageCode goodImage s.fw.fuse ≠ 0)) ∧
    (let s := updating { security := 64, fuse := 63 }
     s.unitActs = true ∧ s.fw.imageState = 0 ∧ 0x464100 ≤ (0x464140 : Word).toNat ∧ s.fw.fuse < (0x464140 : Word).toNat - 0x464100 ∧
     (0x464140 : Word).toNat - 0x464100 ≤ s.fw.security ∧ (0x464140 : Word).toNat - 0x464100 ≤ 64) := by decide +kernel
theorem wit_NoSignatureIndexIsUsedTwice :
    (let s := updating { nextIndex := 1048575 }; s.mainOn = true ∧ s.unitActs = true ∧ s.fw.attest ≠ 1 ∧ s.fw.nextIndex < 1048576) ∧
    1048576 ≤ (updating { nextIndex := 1048576 }).fw.nextIndex ∧
    (let s := { updating { attest := 1, nextIndex := 1048575 } with mram := { acting.mram with limit := { a := .good 1 1048575 } } }
     s.fw.attest = 1 ∧ s.fw.nextIndex < 1048576 ∧ s.fw.nextIndex ≤ s.signatureLimit) := by decide +kernel
def calibrated (c : Cal) (p : Pipe) : State := { running p with cal := c }
theorem wit_CalibrationsServeTheirGroups :
    (let s := { acting with mcx := { bootFill := true } }
     s.mainOn = true ∧ s.unitActs = true ∧ s.mcx.bootFill = true ∧ s.cal.bootRan = false ∧ 31 < s.cal.times.length) ∧
    (let s := calibrated { bootRan := true, forced := [31] } { inTurn := true, turnStart := 1 }
     let m : CalMeas := { rext := 114000, vcal := 0, outOfRange := [] }
     s.mainOn = true ∧ s.unitActs = true ∧ s.pipe.inTurn = true ∧
     s.pipe.turnStart + 1750000 ≤ max s.now 1750001 ∧ max s.now 1850001 ≤ s.pipe.turnStart + 1850000 ∧ s.cal.stepAt < s.pipe.turnStart ∧
     (List.range 32).find? (s.atTime 1750001).calDue = some 31 ∧ s.calReference m ≠ 2) ∧
    (let s := { acting with cal := { bootRan := true, forced := [31] } }
     s.pipe.running = false ∧ s.cal.stepAt + 40000000 ≤ max s.now 40000000 ∧ (List.range 32).find? (s.atTime 0).calDue = some 31) ∧
    acting.cal.skewStatus ≠ 1 ∧
    (let s := calibrated { skewStatus := 1, skewBurst := 14 } { inTurn := true, turnStart := 1 }
     s.unitActs = true ∧ s.pipe.inTurn = true ∧ s.pipe.turnStart + 664000 ≤ max s.now 664001 ∧ s.cal.skewAt < s.pipe.turnStart ∧
     s.cal.skewStatus = 1 ∧ s.cal.skewBurst < 15) := by decide +kernel

/-! ### Worked examples of the manual -/

/-- 07, example under R177: eight measurements of u1 97 and u2 183, an edge at n 541 and u 51. -/
theorem test_raw_time : ({ meas := List.replicate 8 (86, 11) } : Tdc).rawTime 541 51 = 34594 := by decide
/-- 08, example under R198: device 5, visit 300, slot 3 of frame 1,200. -/
theorem test_dither : oliariV 5 300 3 1200 = 10154 ∧ oliariDither 5 300 3 1200 960 = 148 := by decide
/-- 08, example under R207: eight lit slots and 24 counts before the event. -/
theorem test_pile_up : pileUpWeight 8 24 = 12 := by decide
/-- 10, example under R244 and R245: data 0xA5, and a flip of d5. -/
theorem test_check_bits : checkBits 0xA5 = 0b00011 ∧ decodeByte 0x85 0b00011 = (0xA5, .corrected) := by decide
/-- 10, example under R250: the record of row 137, column 300, in both buffers. -/
theorem test_tarn_line : 64 * tarnLine [] 0 0 137 300 = 0x962240 ∧ 64 * tarnLine [] 1 0 137 300 = 0x1962240 := by decide +kernel
/-- 03, example under R69: the times of the default plan. -/
theorem test_default_times : Plan.period [] = 40000000 ∧ Plan.active [] = 38000000 ∧ Plan.window [] = 2048 ∧ Plan.slot [] = 3024 := by
  decide +kernel
/-- 13, example under R311: 198 and 214 nJ at entries 28 and 29, code 900, 4 ns. -/
theorem test_e16 : e16 (zeros (66 * 34 + 56) ++ [198, 0, 214, 0]) 34 900 32 = 3200 := by decide +kernel
/-- 04, example under R103: reduction 16 below code 900. -/
theorem test_reduced_code : reducedCode 900 16 = 815 := by decide
/-- 16, example under R376: three neighbours and a diode that differs. -/
theorem test_median : medianOf [1332, 1352, 1376] = 1352 := by decide
/-- 12, example under R295: byte 3 of the marker of lane 2 at width 4 is 0x42. -/
theorem test_marker : markerBlock 4 2 = [0xC6, 0x3A, 0x71, 0x42, 0x39, 0xC5, 0x8E, 0xBD] := by decide
/-- 02, example under R58: the bytes of a COMMIT of handle 0x5A3C with Sequence 0x0123 to device 5. -/
theorem test_commit_bytes : KppMsg.bytes { version := 1, seq := 0x0123, handle := 0x5A3C, device := 5 } opCommit =
    [0x01, 0x11, 0x23, 0x01, 0x3C, 0x5A, 0x00, 0x00, 0x00, 0x00, 0x05, 0x00] := by decide
/-- 00, R3. -/
theorem test_feature_mask : Variant.featureMask .s = 0xBDFF ∧ Variant.featureMask .l = 0xBCFF := by decide
/-- 03, example of a rejected plan: 481 rows and 545 columns fail the cell limit first. -/
theorem test_rejected_plan :
    lowestReason (cellLimit [(0x200001, [0xE1, 1]), (0x200002, [0x21, 2])] ++ shotBudget [(0x200001, [0xE1, 1]), (0x200002, [0x21, 2])]) =
      some (1, 0x200001) := by decide +kernel
/-- What a command leaves. -/
def after (c : Instr) (s : State) : State :=
  match exec c s with
  | .next u => u
  | _ => s
/-- 17, example under R391: p 3, g 100 and a count of 31,250,004. -/
theorem test_fmeas : (after (.fmeasGateEnd 100000000 0 31250004) { synced {} with rwp := [(0x600038, [0x83, 0, 100, 0])] }).ntu.fmeas.head? =
    some { since := 100000000, valid := true, overRange := false, count := 31250004, mHz := 2500000320000 } := by decide +kernel
def prior (reduction : Nat) (saturated : Bool) (taus : List Nat) (amplitude : Nat) : Prior :=
  { valid := true, grid := 0, saturated, feedback := 0, reduction, amplitude, taus }
/-- 04, example under R107: the new reductions of rows 136 to 139. -/
theorem test_new_reduction : [newReduction [] (some (prior 20 false [1] 1900)), newReduction [] (some (prior 8 true [1] 0)),
    newReduction [] (some (prior 40 false [] 0)), newReduction [] (some (prior 12 false [1] 3400))] = [20, 32, 16, 16] := by
  decide +kernel
/-- 10, example under R255: the words of the record of cell (137, 300) in frame 4,096. -/
theorem test_record :
    let v := fun tau confidence rangeWord => ({ tau, refined := true, confidence, rangeWord } : Survivor)
    let x : CellCtx := { row := 137, channel := 137, port := 34, measured := true, reduction := 0, feedback := 2, settling := false
                         reduced := false, stale := false, preds := [] }
    let o : CellOut := { row := 137, points := [], survivors := [v 8190 117 0x04AEF445, v 26940 100 0x0F67A3EA], amplitude := 94
                         saturated := false, mu16 := 17, sigma16 := 50, cellFlags := 0, nc := 8, nz := 16, hist := [] }
    let b := (recordOf { column with frame := 4096 } x (some o)).bytes
    bytesAt b 4 4 = [0x00, 0x80, 0x09, 0x00] ∧ bytesAt b 20 4 = [0x00, 0x00, 0xE0, 0x05] ∧ bytesAt b 24 4 = [0xFE, 0x1F, 0x00, 0xF5] ∧
      bytesAt b 28 8 = [0x3C, 0x69, 0x00, 0xE4, 0, 0, 0, 0] ∧ bytesAt b 36 4 = [0x45, 0xF4, 0xAE, 0x04] ∧
      bytesAt b 48 8 = [0x11, 0, 0x32, 0, 0, 0, 0x08, 0x10] := by decide +kernel
/-- 05 R121: "u = 0 gives a difference of one code"; the ends of the I32 range keep q between −32,768 and 32,767. -/
theorem test_mirror_codes : mirrorCodes 0 = (32768, 32767) ∧ mirrorCodes (-2147483648) = (0, 65535) ∧
    mirrorCodes 2147483647 = (65535, 0) := by decide
/-- 04, sample codes under R99. -/
theorem test_setpoint_curve : isetDb 1023 = 0 ∧ isetDb 0 = -48 := by norm_num [isetDb]
/-- 22 R473, the three columns, at a few balls. -/
theorem test_balls :
    let asleep : State := { spring := { state := .coldHold, pmicEn := 0 } }
    let inReset : State := { spring := { state := .sequencing, pmicEn := 3 } }
    [asleep.ball (.mirDrv 0), asleep.ball .emitEn, asleep.ball .rstOut] = [.highZ, .low, .highZ] ∧
      [inReset.ball (.pmicEn 1), inReset.ball (.pmicEn 2), inReset.ball .canTxd, inReset.ball .phyRst] = [.high, .low, .high, .low] ∧
      [State.reset.ball (.mirDrv 0), State.reset.ball .emitEn, State.reset.ball (.lanes 0)] = [.dac 0, .low, .electricalIdle] := by
  decide +kernel
/-- 22 R471: port B is unconnected on an MX512-L, the NAND balls on an MX512-S. -/
theorem test_unconnected : Variant.lacks .l (.lanes 1) = true ∧ Variant.lacks .l (.lanes 0) = false ∧ Variant.lacks .s .nand = true ∧
    Variant.lacks .f .nand = false := by decide
/-- 22 R469, R470: the corners' names, 704, 176, 576 and 480 balls by region, 256 RXIN balls in a receive region, 1,936 in all groups. -/
theorem test_ball_grid :
    ballName 1 1 = some "A1" ∧ ballName 44 44 = some "BF44" ∧ ballName 45 1 = none ∧ ballRows.length = 44 ∧
      (let all := (List.range 44).flatMap fun r => (List.range 44).map fun c => (r + 1, c + 1)
       [BallRegion.receive, .excitation, .emitter, .core].map (fun x => count (fun b => ballRegion b.1 b.2 == x) all) = [704, 176, 576, 480] ∧
       count (fun b => b.2 ≤ 8 && isRxin b.1 b.2) all = 256) ∧
      sumOf (ballGroups.map Prod.snd) = 1936 := by decide +kernel
/-- 19 R437 step 6: the enables drop in turn, PMIC_EN4 first. -/
theorem test_enables_drop :
    let s : State := { spring := { state := .shuttingDown, shutStep := 5 } }
    [s.shutdownStep.spring.pmicEn, s.shutdownStep.shutdownStep.spring.pmicEn] = [15, 7] := by decide +kernel

end Sys2Proof.Tests
end

section
/-!
SUPPORT. What a command can answer: each is a run whose frame covers every unit outside the command's list, or names a
line the memory does not have; and what follows for the units it leaves alone and for the part.
-/

namespace Sys2Proof.Machine

/-! ### What a command can answer -/

/-- The command is a run, at some instant, of which the frame covers every unit outside the command's list. -/
def RunsInFrame (c : Instr) (s : State) : Prop :=
  ∃ t fr f, (∀ x, x ∉ changesOf c → x ∈ fr) ∧ exec c s = run t fr f s

/-- A command on a line runs where the line exists and faults beyond the memory (10 R243). -/
theorem runLine_cases (t line : Nat) (fr : List UnitId) (f : State → State) (s : State) :
    (∃ g, runLine t line fr f s = run t fr g s) ∨
      33554432 ≤ line ∧ runLine t line fr f s = .fault (.addressHole (64 * line)) := by
  unfold runLine
  split
  · exact .inl ⟨_, rfl⟩
  · exact .inr ⟨by omega, rfl⟩

theorem runsInFrame_or_hole_of_runLine {c : Instr} {s : State} {t line : Nat} {fr : List UnitId} {f : State → State}
    (he : exec c s = runLine t line fr f s) (hc : ∀ x, x ∉ changesOf c → x ∈ fr) :
    RunsInFrame c s ∨ ∃ line, 33554432 ≤ line ∧ exec c s = .fault (.addressHole (64 * line)) := by
  obtain ⟨g, hg⟩ | ⟨hl, hf⟩ := runLine_cases t line fr f s
  · exact .inl ⟨t, fr, g, hc, he.trans hg⟩
  · exact .inr ⟨line, hl, he.trans hf⟩

/-- What a command can answer: three of them may name a line beyond the memory; every other one is a run in its frame. -/
theorem exec_runs_or_hole (c : Instr) (s : State) :
    RunsInFrame c s ∨ ∃ line, 33554432 ≤ line ∧ exec c s = .fault (.addressHole (64 * line)) := by
  cases c
  case memoryRead t user line flips =>
    exact runsInFrame_or_hole_of_runLine rfl (frame_covers (by simp only [changesOf]; decide))
  case memoryWrite t user line bytes =>
    exact runsInFrame_or_hole_of_runLine rfl (frame_covers (by simp only [changesOf]; decide))
  case correctionWriteback t line =>
    exact runsInFrame_or_hole_of_runLine rfl (frame_covers (by simp only [changesOf]; decide))
  all_goals
    simp only [RunsInFrame, exec, changesOf]
    refine .inl ⟨_, _, _, frame_covers ?_, rfl⟩
    decide

/-- A command changes no unit outside its list. -/
theorem exec_onlyChanges {c : Instr} {s u : State} (h : exec c s = .next u) : OnlyChanges (changesOf c) s u := by
  obtain ⟨t, fr, f, hc, hr⟩ | ⟨line, -, hf⟩ := exec_runs_or_hole c s
  · rw [hr, run_eq] at h
    cases h
    exact onlyChanges_of hc
  · rw [hf] at h
    cases h

/-- The part is on the list of the reset release alone. -/
theorem part_not_mem_changesOf {c : Instr} (h : ∀ t strap safe, c ≠ .resetRelease t strap safe) :
    UnitId.part ∉ changesOf c := by
  cases c
  case resetRelease t strap safe => exact absurd rfl (h t strap safe)
  all_goals
    simp only [changesOf]
    decide

theorem exec_part {c : Instr} {s u : State} (he : exec c s = .next u)
    (h : ∀ t strap safe, c ≠ .resetRelease t strap safe) : u.part = s.part :=
  ((exec_onlyChanges he).2 .part (part_not_mem_changesOf h)).symm

/-! ### The reset release and the part (00 R1, 22 R472) -/

/-- `u` has the variant of `s`, and a device number and a strap in range where `s` has them so. -/
def KeepsPart (s u : State) : Prop := (PartSafe s → PartSafe u) ∧ u.part.variant = s.part.variant

theorem KeepsPart.trans {s u v : State} (a : KeepsPart s u) (b : KeepsPart u v) : KeepsPart s v :=
  ⟨fun h => b.1 (a.1 h), b.2.trans a.2⟩

theorem KeepsPart.of_eq {s u : State} (h : u.part = s.part) : KeepsPart s u := by
  simp only [KeepsPart, PartSafe, h, imp_self, and_self]

/-- The strap sampled has nine bits; the stored number counts only up to 511 (17 R392, 22 R472). -/
theorem State.sample_keepsPart (s : State) (powerOn : Bool) (devnum : BitVec 9) (safeCfg : Bool) :
    KeepsPart s (s.sample powerOn devnum safeCfg) := by
  have hd : devnum.toNat < 512 := devnum.isLt
  simp only [KeepsPart, PartSafe, State.sample, State.raiseIf_part, and_true]
  rintro ⟨hdev, hstrap⟩
  constructor <;> split_ifs <;> omega

theorem State.release_keepsPart (s : State) (devnum : BitVec 9) (safeCfg : Bool) :
    KeepsPart s (s.release devnum safeCfg) := by
  unfold State.release
  refine KeepsPart.trans (KeepsPart.of_eq ?_) (KeepsPart.trans (State.sample_keepsPart _ _ _ _) (KeepsPart.of_eq rfl))
  rfl

theorem exec_resetRelease_keepsPart {s u : State} {t : Nat} {devnum : BitVec 9} {safeCfg : Bool}
    (he : exec (.resetRelease t devnum safeCfg) s = .next u) : KeepsPart s u := by
  rw [exec_resetRelease, execResetRelease, run_eq] at he
  cases he
  simp only [KeepsPart, PartSafe, State.keepAll_part, List.mem_singleton, reduceCtorEq, if_false]
  split
  · exact State.release_keepsPart (s.atTime t) devnum safeCfg
  · exact KeepsPart.of_eq rfl

/-- Every command keeps the identity of the part. -/
theorem exec_keepsPart {c : Instr} {s u : State} (he : exec c s = .next u) : KeepsPart s u := by
  by_cases h : ∃ t strap safe, c = .resetRelease t strap safe
  · obtain ⟨t, strap, safe, rfl⟩ := h
    exact exec_resetRelease_keepsPart he
  · exact KeepsPart.of_eq (exec_part he fun t strap safe hc => h ⟨t, strap, safe, hc⟩)

theorem step_keepsPart {s u : State} (hs : step s = .next u) : KeepsPart s u := by
  unfold step at hs
  split at hs
  · cases hs
    exact KeepsPart.of_eq rfl
  · have hk := exec_keepsPart hs
    exact KeepsPart.trans (KeepsPart.of_eq rfl) hk

/-! ### The obligations -/

/-- Settles O3: every command is a run whose frame covers what its list leaves out. -/
theorem commandsKeepToTheirUnits : Obligations.CommandsKeepToTheirUnits := by
  unfold Obligations.CommandsKeepToTheirUnits
  exact fun c s u h => exec_onlyChanges h

/-- Settles O6: the part is on no list but that of the reset release, which samples nine bits and keeps the variant. -/
theorem onlyAResetChangesThePart : Obligations.OnlyAResetChangesThePart := by
  unfold Obligations.OnlyAResetChangesThePart
  refine ⟨fun s u hp hs => ?_, fun c s u he hc => exec_part he hc⟩
  obtain ⟨hsafe, hvariant⟩ := step_keepsPart hs
  exact ⟨hsafe hp, hvariant⟩

end Sys2Proof.Machine
end

section
/-!
SUPPORT. A KPP request on its way: the message read back from its bytes, the request the active unit takes at once, and
what one written item does (02 R39 to R51; 00 R5 to R8).
-/

namespace Sys2Proof.Machine

/-! ### The header on the wire (00 R13; 02 R39) -/

theorem ofNat_ofLe_byte (b : Byte) : BitVec.ofNat 8 (ofLe [b]) = b := by
  apply BitVec.eq_of_toNat_eq
  simp [ofLe]

theorem ofNat_ofLe_le_two (w : BitVec 16) : BitVec.ofNat 16 (ofLe (le 2 w.toNat)) = w := by
  apply BitVec.eq_of_toNat_eq
  simp only [le, ofLe, BitVec.toNat_ofNat]
  omega

/-- No bit of the header or of the payload is lost. -/
theorem KppMsg.ofBytes_bytes (op : Byte) (m : KppMsg) : KppMsg.ofBytes (KppMsg.bytes m op) = (op, m) := by
  have oneByte : uAt (KppMsg.bytes m op) 0 1 = ofLe [m.version] ∧ uAt (KppMsg.bytes m op) 1 1 = ofLe [op] ∧
      uAt (KppMsg.bytes m op) 6 1 = ofLe [m.status] ∧ uAt (KppMsg.bytes m op) 7 1 = ofLe [m.itemCount] :=
    ⟨rfl, rfl, rfl, rfl⟩
  have twoBytes : uAt (KppMsg.bytes m op) 2 2 = ofLe (le 2 m.seq.toNat) ∧
      uAt (KppMsg.bytes m op) 4 2 = ofLe (le 2 m.handle.toNat) ∧
      uAt (KppMsg.bytes m op) 8 2 = ofLe (le 2 m.payloadLength.toNat) ∧
      uAt (KppMsg.bytes m op) 10 2 = ofLe (le 2 m.device.toNat) := ⟨rfl, rfl, rfl, rfl⟩
  have rest : (KppMsg.bytes m op).drop 12 = m.payload := rfl
  simp only [KppMsg.ofBytes, oneByte, twoBytes, rest, ofNat_ofLe_byte, ofNat_ofLe_le_two]

theorem KppMsg.twelve_le_length_bytes (op : Byte) (m : KppMsg) : 12 ≤ (KppMsg.bytes m op).length :=
  Nat.le_add_left 12 m.payload.length

/-! ### The frame of a run -/

theorem sameUnit_keep {o s : State} {x : UnitId} (y : UnitId) (h : sameUnit o s x) : sameUnit o (s.keep o y) x := by
  by_cases hy : y = x
  · subst hy
    cases y <;> rfl
  · cases x <;> simpa only [sameUnit, State.keep_part, State.keep_rw, State.keep_rwp, State.keep_kpp, State.keep_txn,
      State.keep_mram, State.keep_pipe, State.keep_edu, State.keep_bsc, State.keep_rfe, State.keep_tda, State.keep_hac,
      State.keep_prx, State.keep_mcx, State.keep_fmt, State.keep_linkA, State.keep_linkB, State.keep_emg, State.keep_cu,
      State.keep_wcu, State.keep_mon, State.keep_thermal, State.keep_ntu, State.keep_evr, State.keep_spring, State.keep_fw,
      State.keep_cal, if_neg hy] using h

theorem sameUnit_keepAll {o s : State} {x : UnitId} (fr : List UnitId) (h : sameUnit o s x) :
    sameUnit o (s.keepAll o fr) x := by
  induction fr generalizing s with
  | nil => exact h
  | cons y fr ih => exact ih (sameUnit_keep y h)

/-- What the effect of a command leaves alone, the command leaves alone. -/
theorem OnlyChanges.of_effect {l fr : List UnitId} {s a : State} {t : Nat} (h : OnlyChanges l (s.atTime t) a) :
    OnlyChanges l s { a.keepAll (s.atTime t) fr with pending := s.pending, now := max s.now t } := by
  refine ⟨rfl, fun x hx => ?_⟩
  have hk := sameUnit_keepAll fr (h.2 x hx)
  refine sameUnit_trans ((State.atTime_touches s t).2 x List.not_mem_nil) ?_
  cases x <;> exact hk

/-! ### A request the active unit takes (02 R46 to R48) -/

theorem State.takes_atTime {s : State} (t : Nat) {ep : Endpoint} {op : Byte} {m : KppMsg} (h : s.Takes ep op m) :
    (s.atTime t).Takes ep op m := h

/-- A request that is taken and well-formed is performed. -/
theorem State.kppArrive_takes {s : State} {ep : Endpoint} {op : Byte} {m : KppMsg} {r : Request} (choice : BitVec 16)
    (h : s.Takes ep op m) (hr : requestOf ep op m = some r) :
    s.kppArrive ep (KppMsg.bytes m op) choice = s.perform ep op m (KppMsg.bytes m op) choice r := by
  obtain ⟨-, hacts, hidle, ⟨a, p, rfl⟩, hdevice, hdup, hcommit⟩ := h
  have hlen : ¬ (KppMsg.bytes m op).length < 12 := Nat.not_lt.mpr (KppMsg.twelve_le_length_bytes op m)
  have hacc : (if op = opCommit then s.txn.accepted (.udp a p) (KppMsg.bytes m op) else none) = none := by
    split
    · exact hcommit ‹_›
    · rfl
  simp only [State.kppArrive, isCan, State.arrive, State.execute, KppMsg.ofBytes_bytes, hlen, hacts, hidle, hdevice, hdup,
    hacc, hr, Bool.not_true, Bool.not_false, Bool.false_eq_true, if_true, if_false, ne_eq, not_true_eq_false]

/-! ### Registers -/

theorem State.reg_setReg_rwp_self (s : State) (key : Nat) (v : List Byte) : (s.setReg key .rwp v).reg key = v := by
  unfold State.setReg State.reg
  by_cases hk : key / 256 = 0x6800
  · simp [hk, valueIn, mget_mset_self]
  · simp [hk, mget_mset_self]

theorem State.reg_setReg_rwp_other (s : State) {key k : Nat} (v : List Byte) (h : k ≠ key) :
    (s.setReg key .rwp v).reg k = s.reg k := by
  unfold State.setReg State.reg
  by_cases hk : key / 256 = 0x6800
  · simp [hk, valueIn, mget_mset_other _ _ h]
  · simp [hk, mget_mset_other _ _ h]

theorem State.setReg_rwp_touches (s : State) (key : Nat) (v : List Byte) :
    OnlyChanges [.rwp, .spring] s (s.setReg key .rwp v) := by
  unfold State.setReg
  split <;> exact ⟨rfl, fun x hx => by cases x <;> simp_all [sameUnit]⟩

/-! ### One written item (00 R7, R8; 02 R43, R50) -/

theorem State.kpp_touches (s : State) (k : Kpp) : OnlyChanges [.kpp] s { s with kpp := k } :=
  ⟨rfl, fun x hx => by cases x <;> simp_all [sameUnit]⟩

theorem State.txn_touches (s : State) (x : Txn) : OnlyChanges [.txn] s { s with txn := x } :=
  ⟨rfl, fun x hx => by cases x <;> simp_all [sameUnit]⟩

/-- A register without an effect of its own takes the value. -/
theorem State.writeReg_plain (s : State) {r : ObjRow} {v : ValueItem} (h : PlainKey v.key) :
    s.writeReg r v = s.setReg v.key r.access (r.merged (s.reg v.key) v) := by
  simp only [PlainKey, List.mem_cons, List.not_mem_nil, or_false, not_or] at h
  obtain ⟨h1, h2, h3, h4, h5, h6⟩ := h
  unfold State.writeReg
  split
  case h_7 => rfl
  all_goals exact absurd ‹_› ‹_›

section Item
variable {s : State} {v : ValueItem} {r : ObjRow} (hr : objRow v.key = some r)
  (hu : absentUnit s.part.variant v.key = false)
include hr hu

theorem State.writeItem_rwp (staging : Bool) (ha : r.access = .rwp) : s.writeItem staging v = s.writeReg r v := by
  simp [State.writeItem, hr, hu, ha]

/-- With the open handle an RWT object is staged. -/
theorem State.writeItem_rwt_staging (ha : r.access = .rwt) :
    s.writeItem true v =
      { s with txn := s.txn.stage v (r.merged ((mget s.txn.staged v.key).getD (valueIn s.plan v.key)) v) } := by
  simp [State.writeItem, hr, hu, ha]

/-- Without it the write is refused and counted (00 R8). -/
theorem State.writeItem_rwt_refused (ha : r.access = .rwt) :
    s.writeItem false v = { s with kpp := s.kpp.refuseTxn } := by
  simp [State.writeItem, hr, hu, ha]

theorem State.writeItem_readOnly (staging : Bool) (ha : r.access = .ro ∨ r.access = .rc) :
    s.writeItem staging v = { s with kpp := s.kpp.refuseAccess } := by
  obtain ha | ha := ha <;> simp [State.writeItem, hr, hu, ha]

end Item

/-! ### A WRITE of one item -/

/-- Switchover is a command, no register and no plan object. -/
theorem key_ne_switchover {key : Nat} {r : ObjRow} (hr : objRow key = some r) (ha : r.access ≠ .wo) : key ≠ 0x5C0020 := by
  rintro rfl
  have hwo : (objRow 0x5C0020).map ObjRow.access = some .wo := by decide
  rw [hr] at hwo
  exact ha (Option.some.inj hwo)

theorem Txn.foldl_stage_restart (x : Txn) (now : Nat) (l : List ValueItem) :
    l.foldl (fun x v => x.stage v []) (x.restart now) = (l.foldl (fun x v => x.stage v []) x).restart now := by
  induction l generalizing x with
  | nil => rfl
  | cons v l ih => exact ih (x.stage v [])

/-- The idle timer has no part in the staging capacity. -/
theorem State.stageFits_restart (s : State) (now : Nat) (items : List ValueItem) :
    ({ s with txn := s.txn.restart now } : State).stageFits items = s.stageFits items := by
  simp only [State.stageFits, Txn.foldl_stage_restart]
  rfl

/-- One item within the staging capacity, not a Switchover, is written and answered Ok (02 R43, R51). -/
theorem State.doWrite_one {s : State} {m : KppMsg} {v : ValueItem} (ep : Endpoint) (op : Byte)
    (hfit : s.txn.holds m.handle = true → s.stageFits [v] = true) (hk : v.key ≠ 0x5C0020) :
    s.doWrite ep op m [v] =
      (s.writeItem (s.txn.holds m.handle) v).respond ep op m.seq (s.response op m m.handle stOk 0 []) := by
  have hfull : (s.txn.holds m.handle && !s.stageFits [v]) = false := by
    cases hh : s.txn.holds m.handle
    · rfl
    · rw [hfit hh]
      rfl
  simp [State.doWrite, hfull, hk]

/-- The state a request runs in: under the open handle the idle timer starts again (02 R53). -/
def State.taking (s : State) (m : KppMsg) : State :=
  if s.txn.holds m.handle then { s with txn := s.txn.restart s.now } else s

theorem State.perform_write (s : State) (ep : Endpoint) (op : Byte) (m : KppMsg) (bytes : List Byte) (choice : BitVec 16)
    (items : List ValueItem) :
    s.perform ep op m bytes choice (.write items) = (s.taking m).doWrite ep op m items := by
  have hw : (Request.write items != .begin_) = true := rfl
  simp only [State.perform, State.taking, hw, Bool.and_true]

theorem State.taking_of_holds {s : State} {m : KppMsg} (h : s.txn.holds m.handle = true) :
    s.taking m = { s with txn := s.txn.restart s.now } := if_pos h

theorem State.taking_of_not_holds {s : State} {m : KppMsg} (h : s.txn.holds m.handle = false) : s.taking m = s :=
  if_neg (by simp [h])

theorem State.taking_holds (s : State) (m : KppMsg) : (s.taking m).txn.holds m.handle = s.txn.holds m.handle := by
  unfold State.taking
  split <;> rfl

theorem State.taking_part (s : State) (m : KppMsg) : (s.taking m).part = s.part := by
  unfold State.taking
  split <;> rfl

theorem State.taking_stageFits (s : State) (m : KppMsg) (items : List ValueItem) :
    (s.taking m).stageFits items = s.stageFits items := by
  unfold State.taking
  split
  · exact State.stageFits_restart s s.now items
  · rfl

/-- The command KPP_WRITE of one item, with `w` the state the item leaves: it is answered Ok, and nothing but the answer
is added to what the item did. -/
theorem exec_kppWrite_one {s w : State} {t : Nat} {ep : Endpoint} {m : KppMsg} {v : ValueItem} {l : List UnitId}
    (ht : s.Takes ep opWrite m) (hq : requestOf ep opWrite m = some (.write [v])) (hk : v.key ≠ 0x5C0020)
    (hfit : s.txn.holds m.handle = true → s.stageFits [v] = true)
    (hw : ((s.atTime t).taking m).writeItem (s.txn.holds m.handle) v = w)
    (hl : OnlyChanges l (s.atTime t) w) (hkpp : .kpp ∈ l) (hout : w.out = []) :
    ∃ u, exec (.kppWrite t ep m) s = .next u ∧ OnlyChanges l s u ∧
      u.out = [.kpp ep (kppBytes opWrite m.seq m.handle 0 0 s.part.device [])] ∧
      u.txn = w.txn ∧ u.kpp.txnAccess = w.kpp.txnAccess ∧ u.kpp.accessCode = w.kpp.accessCode ∧
      ∀ k, u.reg k = w.reg k := by
  have hrun : (s.atTime t).kppArrive ep (KppMsg.bytes m opWrite) 0 =
      w.respond ep opWrite m.seq (kppBytes opWrite m.seq m.handle 0 0 s.part.device []) := by
    rw [State.kppArrive_takes 0 (State.takes_atTime t ht) hq, State.perform_write, State.doWrite_one, State.taking_holds]
    · rw [State.response, State.taking_part]
      exact congrArg (fun x : State => x.respond ep opWrite m.seq _) hw
    · rw [State.taking_holds, State.taking_stageFits]
      exact hfit
    · exact hk
  obtain ⟨hmain, -, -, ⟨a, p, rfl⟩, -⟩ := ht
  rw [exec_kppWrite, execKppWrite, runMain_eq hmain, hrun]
  refine ⟨_, rfl, OnlyChanges.of_effect (hl.trans ((State.respond_touches _ _ _ _ _).mono ?_)), ?_, rfl, rfl, rfl,
    fun k => rfl⟩
  · exact fun x hx => List.mem_singleton.mp hx ▸ hkpp
  · exact congrArg (· ++ _) hout

section OneItem
variable {s : State} {t : Nat} {ep : Endpoint} {m : KppMsg} {v : ValueItem} {r : ObjRow}
  (ht : s.Takes ep opWrite m) (hq : requestOf ep opWrite m = some (.write [v])) (hr : objRow v.key = some r)
  (hu : absentUnit s.part.variant v.key = false)
include ht hq hr hu

/-- An RWP register without an effect of its own takes the value at once. -/
theorem kppWrite_register (ha : r.access = .rwp) (hplain : PlainKey v.key) (hh : s.txn.holds m.handle = false) :
    Gives (.kppWrite t ep m) s fun u => OnlyChanges [.kpp, .rwp, .spring] s u ∧
      u.out = [.kpp ep (kppBytes opWrite m.seq m.handle 0 0 s.part.device [])] ∧
      u.reg v.key = r.merged (s.reg v.key) v ∧ ∀ k, k ≠ v.key → u.reg k = s.reg k := by
  have hw : ((s.atTime t).taking m).writeItem (s.txn.holds m.handle) v =
      (s.atTime t).setReg v.key .rwp (r.merged (s.reg v.key) v) := by
    rw [State.taking_of_not_holds (s := s.atTime t) hh, State.writeItem_rwp (s := s.atTime t) hr hu _ ha,
      State.writeReg_plain _ hplain, ha]
    rfl
  obtain ⟨u, he, hl, hout, -, -, -, hreg⟩ := exec_kppWrite_one (l := [.kpp, .rwp, .spring]) ht hq
    (key_ne_switchover hr (by simp [ha])) (by simp [hh]) hw
    ((State.setReg_rwp_touches _ _ _).mono (by simp)) (by simp) (by rw [State.setReg_out]; rfl)
  refine ⟨u, he, hl, hout, ?_, fun k hk => ?_⟩
  · rw [hreg, State.reg_setReg_rwp_self]
  · rw [hreg, State.reg_setReg_rwp_other _ _ hk]
    rfl

/-- Under the open handle an RWT object is staged, and the idle timer starts again. -/
theorem kppWrite_staged (ha : r.access = .rwt) (hh : s.txn.holds m.handle = true) (hfit : s.stageFits [v] = true) :
    Gives (.kppWrite t ep m) s fun u => OnlyChanges [.kpp, .txn] s u ∧
      u.out = [.kpp ep (kppBytes opWrite m.seq m.handle 0 0 s.part.device [])] ∧
      mget u.txn.staged v.key = some (r.merged ((mget s.txn.staged v.key).getD (valueIn s.plan v.key)) v) ∧
      u.txn.state = .opened ∧ u.txn.deadline = max s.now t + 5000000000 := by
  have hw : ((s.atTime t).taking m).writeItem (s.txn.holds m.handle) v =
      { s.atTime t with
        txn := Txn.stage (s.txn.restart (max s.now t)) v
          (r.merged ((mget s.txn.staged v.key).getD (valueIn s.plan v.key)) v) } := by
    rw [hh, State.taking_of_holds (s := s.atTime t) hh]
    exact State.writeItem_rwt_staging hr hu ha
  have hopen : s.txn.state = .opened := by
    simp only [Txn.holds, Bool.and_eq_true, beq_iff_eq] at hh
    exact hh.1
  obtain ⟨u, he, hl, hout, htxn, -⟩ := exec_kppWrite_one (l := [.kpp, .txn]) ht hq
    (key_ne_switchover hr (by simp [ha])) (fun _ => hfit) hw ((State.txn_touches _ _).mono (by simp)) (by simp) rfl
  refine ⟨u, he, hl, hout, ?_, ?_, ?_⟩ <;> rw [htxn]
  · exact mget_mset_self _ _ _
  · exact hopen
  · rfl

/-- Without the open handle a write to an RWT object is refused and counted. -/
theorem kppWrite_unstaged (ha : r.access = .rwt) (hh : s.txn.holds m.handle = false) :
    Gives (.kppWrite t ep m) s fun u => OnlyChanges [.kpp] s u ∧
      u.out = [.kpp ep (kppBytes opWrite m.seq m.handle 0 0 s.part.device [])] ∧
      u.kpp.txnAccess = sat32 s.kpp.txnAccess := by
  have hw : ((s.atTime t).taking m).writeItem (s.txn.holds m.handle) v =
      { s.atTime t with kpp := s.kpp.refuseTxn } := by
    rw [hh, State.taking_of_not_holds (s := s.atTime t) hh]
    exact State.writeItem_rwt_refused hr hu ha
  obtain ⟨u, he, hl, hout, -, hcount, -⟩ := exec_kppWrite_one (l := [.kpp]) ht hq
    (key_ne_switchover hr (by simp [ha])) (by simp [hh]) hw (State.kpp_touches _ _) (by simp) rfl
  exact ⟨u, he, hl, hout, hcount⟩

/-- A write to an object that is only read is refused and counted. -/
theorem kppWrite_readOnly (ha : r.access = .ro ∨ r.access = .rc) (hh : s.txn.holds m.handle = false) :
    Gives (.kppWrite t ep m) s fun u => OnlyChanges [.kpp] s u ∧
      u.out = [.kpp ep (kppBytes opWrite m.seq m.handle 0 0 s.part.device [])] ∧
      u.kpp.accessCode = sat32 s.kpp.accessCode := by
  have hw : ((s.atTime t).taking m).writeItem (s.txn.holds m.handle) v =
      { s.atTime t with kpp := s.kpp.refuseAccess } := by
    rw [State.taking_of_not_holds (s := s.atTime t) hh]
    exact State.writeItem_readOnly (s := s.atTime t) hr hu _ ha
  have hwo : r.access ≠ .wo := by
    obtain ha | ha := ha <;> simp [ha]
  obtain ⟨u, he, hl, hout, -, -, hcount, -⟩ := exec_kppWrite_one (l := [.kpp]) ht hq (key_ne_switchover hr hwo)
    (by simp [hh]) hw (State.kpp_touches _ _) (by simp) rfl
  exact ⟨u, he, hl, hout, hcount⟩

end OneItem

/-- Settles O11: a request that is taken and well-formed is performed, and the access code of its object says what the
item does. -/
theorem writesTakeEffectStageOrAreRefused : Obligations.WritesTakeEffectStageOrAreRefused := by
  unfold Obligations.WritesTakeEffectStageOrAreRefused
  intro s t ep m v r ht hq hr hu
  exact ⟨kppWrite_register ht hq hr hu, kppWrite_staged ht hq hr hu, kppWrite_unstaged ht hq hr hu,
    kppWrite_readOnly ht hq hr hu⟩

end Sys2Proof.Machine
end

section
/-!
SUPPORT. What the operations of the frame and column schedule leave alone (01; 10 R245 to R263; 05; 11), and what a
completed command makes of the units outside its frame.
-/
namespace Sys2Proof.Machine

/-! ### A command that completes -/

/-- Outside its frame `fr` a completed command leaves the units as its effect `a` left them. -/
def Leaves (fr : List UnitId) (a u : State) : Prop :=
  u.out = a.out ∧ (∀ x, x ∉ fr → sameUnit a u x) ∧ (UnitId.ntu ∉ fr → u.ntu = a.ntu)

theorem Leaves.of_keepAll (fr : List UnitId) (a o : State) (l : List Instr) (n : Nat) :
    Leaves fr a { a.keepAll o fr with pending := l, now := n } := by
  refine ⟨State.keepAll_out a o fr, fun x hx => ?_, fun hx => (State.keepAll_ntu a o fr).trans (if_neg hx)⟩
  cases x <;> simp only [sameUnit, State.keepAll_part, State.keepAll_rw, State.keepAll_rwp, State.keepAll_kpp,
    State.keepAll_txn, State.keepAll_mram, State.keepAll_pipe, State.keepAll_edu, State.keepAll_bsc, State.keepAll_rfe,
    State.keepAll_tda, State.keepAll_hac, State.keepAll_prx, State.keepAll_mcx, State.keepAll_fmt, State.keepAll_linkA,
    State.keepAll_linkB, State.keepAll_emg, State.keepAll_cu, State.keepAll_wcu, State.keepAll_mon, State.keepAll_thermal,
    State.keepAll_ntu, State.keepAll_evr, State.keepAll_spring, State.keepAll_fw, State.keepAll_cal, hx, if_false]

/-- A command of the main domain gives what holds of every state that keeps to its list and leaves the rest as its effect
left it. -/
theorem gives_of_leaves {i : Instr} {t : Nat} {fr : List UnitId} {f : State → State} {s : State} {P : State → Prop}
    (he : exec i s = runMain t fr f s) (hm : s.mainOn = true)
    (hp : ∀ u, OnlyChanges (changesOf i) s u → Leaves fr (f (s.atTime t)) u → P u) : Gives i s P :=
  gives_main he hm (hp _ (exec_onlyChanges (he.trans (runMain_eq hm))) (Leaves.of_keepAll _ _ _ _ _))

/-- A command that gives `P` gives what follows from it. -/
theorem Gives.mono {i : Instr} {s : State} {P Q : State → Prop} (h : Gives i s P) (hpq : ∀ u, P u → Q u) : Gives i s Q :=
  h.imp fun u hu => ⟨hu.1, hpq u hu.2⟩

/-! ### The algebra of `OnlyChanges` -/

theorem OnlyChanges.foldl {α : Type} {l : List UnitId} {f : State → α → State} (h : ∀ s x, OnlyChanges l s (f s x))
    (xs : List α) (s : State) : OnlyChanges l s (xs.foldl f s) := by
  induction xs generalizing s with
  | nil => exact OnlyChanges.refl l s
  | cons x xs ih => exact (h s x).trans (ih (f s x))

theorem OnlyChanges.ite {l : List UnitId} {s a b : State} (c : Prop) [Decidable c] (ha : OnlyChanges l s a)
    (hb : OnlyChanges l s b) : OnlyChanges l s (if c then a else b) := by
  split
  · exact ha
  · exact hb

/-- A step that follows another only where `c` holds. -/
theorem OnlyChanges.ite_after {l : List UnitId} {s a b : State} (c : Prop) [Decidable c] (ha : OnlyChanges l s a)
    (hb : OnlyChanges l a b) : OnlyChanges l s (if c then b else a) :=
  OnlyChanges.ite c (ha.trans hb) ha

/-! ### One unit written -/

theorem State.pipe_touches (s : State) (x : Pipe) : OnlyChanges [.pipe] s { s with pipe := x } :=
  ⟨rfl, fun y hy => by cases y <;> simp_all [sameUnit]⟩
theorem State.edu_touches (s : State) (x : Edu) : OnlyChanges [.edu] s { s with edu := x } :=
  ⟨rfl, fun y hy => by cases y <;> simp_all [sameUnit]⟩
theorem State.bsc_touches (s : State) (x : Bsc) : OnlyChanges [.bsc] s { s with bsc := x } :=
  ⟨rfl, fun y hy => by cases y <;> simp_all [sameUnit]⟩
theorem State.rfe_touches (s : State) (x : Rfe) : OnlyChanges [.rfe] s { s with rfe := x } :=
  ⟨rfl, fun y hy => by cases y <;> simp_all [sameUnit]⟩
theorem State.tda_touches (s : State) (x : Tda) : OnlyChanges [.tda] s { s with tda := x } :=
  ⟨rfl, fun y hy => by cases y <;> simp_all [sameUnit]⟩
theorem State.hac_touches (s : State) (x : Hac) : OnlyChanges [.hac] s { s with hac := x } :=
  ⟨rfl, fun y hy => by cases y <;> simp_all [sameUnit]⟩
theorem State.prx_touches (s : State) (x : Prx) : OnlyChanges [.prx] s { s with prx := x } :=
  ⟨rfl, fun y hy => by cases y <;> simp_all [sameUnit]⟩
theorem State.mcx_touches (s : State) (x : Mcx) : OnlyChanges [.mcx] s { s with mcx := x } :=
  ⟨rfl, fun y hy => by cases y <;> simp_all [sameUnit]⟩
theorem State.fmt_touches (s : State) (x : Out) : OnlyChanges [.fmt] s { s with fmt := x } :=
  ⟨rfl, fun y hy => by cases y <;> simp_all [sameUnit]⟩
theorem State.cu_touches (s : State) (x : Cu) : OnlyChanges [.cu] s { s with cu := x } :=
  ⟨rfl, fun y hy => by cases y <;> simp_all [sameUnit]⟩
theorem State.mon_touches (s : State) (x : Mon) : OnlyChanges [.mon] s { s with mon := x } :=
  ⟨rfl, fun y hy => by cases y <;> simp_all [sameUnit]⟩
theorem State.ntu_touches (s : State) (x : Ntu) : OnlyChanges [.ntu] s { s with ntu := x } :=
  ⟨rfl, fun y hy => by cases y <;> simp_all [sameUnit]⟩
theorem State.evr_touches (s : State) (x : Evr) : OnlyChanges [.evr] s { s with evr := x } :=
  ⟨rfl, fun y hy => by cases y <;> simp_all [sameUnit]⟩
theorem State.cal_touches (s : State) (x : Cal) : OnlyChanges [.cal] s { s with cal := x } :=
  ⟨rfl, fun y hy => by cases y <;> simp_all [sameUnit]⟩

/-! ### A read of the memory (10 R245 to R263) -/

/-- What a read of the memory may change: the controller, and the records of what it raises. -/
def memoryUnits : List UnitId := [.mcx, .kpp, .evr]

theorem State.memory_touches (s : State) (m : Mcx) : OnlyChanges memoryUnits s { s with mcx := m } :=
  (State.mcx_touches s m).mono (by decide)

theorem State.raiseMemory_touches (s : State) (code sub d : Nat) : OnlyChanges memoryUnits s (s.raise code sub d) :=
  (State.raise_touches s code sub d).mono (by decide)

theorem State.degradedNow_touches (s : State) (l : List Degraded) : OnlyChanges memoryUnits s (s.degradedNow l) :=
  (State.memory_touches s _).trans ((State.raiseIf_touches _ _ _ _ _).mono (by decide))

theorem State.degrade_touches (s : State) (page cause : Nat) : OnlyChanges memoryUnits s (s.degrade page cause) := by
  unfold State.degrade
  split
  · exact (State.raiseMemory_touches s _ _ _).trans (State.degradedNow_touches _ _)
  · exact State.degradedNow_touches s _

theorem State.hardFault_touches (s : State) (line : Nat) : OnlyChanges memoryUnits s (s.hardFault line) := by
  unfold State.hardFault
  split
  · exact OnlyChanges.refl _ s
  · exact OnlyChanges.ite _ (State.memory_touches s _) (State.degrade_touches s _ _)

theorem State.watchLine_touches (s : State) (line : Nat) : OnlyChanges memoryUnits s (s.watchLine line) := by
  unfold State.watchLine
  dsimp only
  split
  · exact OnlyChanges.ite _ ((State.memory_touches s _).trans (State.hardFault_touches _ line)) (State.memory_touches s _)
  · exact State.memory_touches s _

theorem State.badLine_touches (s : State) (line : Nat) : OnlyChanges memoryUnits s (s.badLine line) :=
  (State.memory_touches s _).trans ((State.raiseMemory_touches _ _ _ _).trans (State.degrade_touches _ _ 1))

theorem State.fixedLine_touches (s : State) (line : Nat) (back : List (Nat × List (Nat × Byte))) :
    OnlyChanges memoryUnits s (s.fixedLine line back) :=
  (State.memory_touches s _).trans (State.watchLine_touches _ line)

theorem State.readLine_touches (s : State) (user : MemUser) (line : Nat) (flips : List (Nat × BitVec 13)) :
    OnlyChanges memoryUnits s (s.readLine user line flips).2.2 := by
  unfold State.readLine
  split
  · exact OnlyChanges.refl _ s
  split
  · exact State.memory_touches s _
  · have hmoved : ∀ m : Mcx, OnlyChanges memoryUnits s ({ s with mcx := m }.moved user 64) := fun m =>
      (State.memory_touches s m).trans ((State.moved_touches _ user 64).mono (by decide))
    have hbad : ∀ (m : Mcx) (b : Bool), OnlyChanges memoryUnits s
        (if b = true then ({ s with mcx := m }.moved user 64).badLine line else { s with mcx := m }.moved user 64) :=
      fun m b => OnlyChanges.ite _ ((hmoved m).trans (State.badLine_touches _ line)) (hmoved m)
    exact OnlyChanges.ite _ (hbad _ _) ((hbad _ _).trans (State.fixedLine_touches _ line _))

/-! ### Arming a column (01 R24, R32) -/

theorem State.prefetchLines_touches (s : State) (c : ColCtx) : OnlyChanges memoryUnits s (s.prefetchLines c) :=
  OnlyChanges.foldl (fun s r => OnlyChanges.ite _ (OnlyChanges.refl _ s)
    ((State.readLine_touches s .prefetch (c.lineOf s.mcx r) []).trans (State.memory_touches _ _))) _ s

theorem State.countRecords_touches (s : State) (c : ColCtx) (use : Bool) :
    OnlyChanges memoryUnits s (s.countRecords c use) :=
  State.memory_touches s _

/-! ### Parts of a slot start (01 R22) -/

/-- The calibration of the interpolators leaves the references alone (07 R176 to R180). -/
theorem State.calibrate_refs (s : State) (x : Sys2Proof.TdcCal) : (s.calibrate x).tda.refs = s.tda.refs := by
  have hraise : ∀ (l : List Nat) (v : State), (l.foldl (fun s m => s.raise 0x3C01 0x32 m) v).tda = v.tda := by
    intro l v
    exact ((OnlyChanges.foldl (fun s m => State.raise_touches s 0x3C01 0x32 m) l v).2 .tda (by decide)).symm
  simp only [State.calibrate, hraise]

theorem State.slotLatch_touches (s : State) (p : Plan) (first : Bool) :
    OnlyChanges [.edu, .emg, .kpp, .evr] s (s.slotLatch p first) :=
  OnlyChanges.trans ((State.edu_touches s _).mono (by decide))
    (OnlyChanges.ite _ ((State.trip_touches _ 6).mono (by decide)) (OnlyChanges.refl _ _))

/-! ### Code conflicts (17 R395, R396) -/

theorem State.conflictEvent_touches (s : State) (n : Ntu) (code : Nat) (on : Bool) :
    OnlyChanges [.ntu, .kpp, .evr] s ({ s with ntu := n }.conflictEvent code on) :=
  OnlyChanges.trans ((State.ntu_touches s n).mono (by decide)) ((State.raise_touches _ _ _ _).mono (by decide))

theorem State.declareConflict_touches (s : State) (code : Nat) :
    OnlyChanges [.ntu, .kpp, .evr] s (s.declareConflict code) :=
  OnlyChanges.ite _ (State.conflictEvent_touches s _ _ _) (OnlyChanges.refl _ s)

theorem State.probeDone_touches (s : State) (code : Nat) (suspect : Bool) :
    OnlyChanges [.ntu, .kpp, .evr] s (s.probeDone code suspect) := by
  have hntu : ∀ n : Ntu, OnlyChanges [.ntu, .kpp, .evr] s { s with ntu := n } := fun n =>
    (State.ntu_touches s n).mono (by decide)
  exact OnlyChanges.ite _ (OnlyChanges.ite _ ((hntu _).trans (State.declareConflict_touches _ code)) (hntu _))
    (OnlyChanges.ite _ (State.conflictEvent_touches s _ _ _) (hntu _))

theorem State.codeChanged_touches (s : State) (old new : Nat) :
    OnlyChanges [.ntu, .kpp, .evr] s (s.codeChanged old new) := by
  have hntu : ∀ n : Ntu, OnlyChanges [.ntu, .kpp, .evr] s { s with ntu := n } := fun n =>
    (State.ntu_touches s n).mono (by decide)
  exact OnlyChanges.ite _ (OnlyChanges.refl _ s)
    (OnlyChanges.ite _ ((hntu _).trans (State.conflictEvent_touches _ _ _ _)) (hntu _))

/-! ### The bias (06 R161 to R166) -/

theorem State.biasFallback_touches (s : State) (broken : Option Nat) :
    OnlyChanges [.rfe, .kpp, .evr] s (s.biasFallback broken) := by
  have hrfe : ∀ r : Rfe, OnlyChanges [.rfe, .kpp, .evr] s { s with rfe := r } := fun r =>
    (State.rfe_touches s r).mono (by decide)
  cases broken with
  | none => exact hrfe _
  | some n =>
    exact OnlyChanges.ite _ (hrfe _) ((hrfe _).trans ((State.raise_touches _ _ _ _).mono (by decide)))

theorem State.biasMove_touches (s : State) (p : Plan) (at_ : Nat) (next : Nat → Nat → Nat) :
    OnlyChanges [.rfe, .kpp, .evr] s (s.biasMove p at_ next) := by
  unfold State.biasMove
  generalize s.biasTemperature = x
  obtain ⟨temp, broken⟩ := x
  exact OnlyChanges.trans ((State.rfe_touches s _).mono (by decide)) (State.biasFallback_touches _ broken)

theorem State.biasUpdate_touches (s : State) (p : Plan) (at_ : Nat) :
    OnlyChanges [.rfe, .kpp, .evr] s (s.biasUpdate p at_) := by
  unfold State.biasUpdate
  exact State.biasMove_touches s p at_ _

theorem State.biasStartup_touches (s : State) (p : Plan) : OnlyChanges [.rfe, .kpp, .evr] s (s.biasStartup p) :=
  State.biasMove_touches s p s.now _

/-! ### The mirror (05) and the frame phase (17 R393) -/

theorem State.setAxis_touches (s : State) (i : Nat) (a : Axis) : OnlyChanges [.bsc] s (s.setAxis i a) :=
  OnlyChanges.ite _ (State.bsc_touches s _) (State.bsc_touches s _)

theorem State.eachAxis_touches (s : State) (f : Nat → Axis → Axis) : OnlyChanges [.bsc] s (s.eachAxis f) :=
  OnlyChanges.foldl (fun s i => State.setAxis_touches s i _) _ s

theorem State.followMirror_touches (s : State) : OnlyChanges [.emg, .kpp, .evr] s s.followMirror :=
  State.setSource_touches s 2 _

theorem State.judgeSeam_touches (s : State) : OnlyChanges [.bsc] s s.judgeSeam := by
  unfold State.judgeSeam
  split
  · exact OnlyChanges.refl _ s
  · split
    · exact OnlyChanges.refl _ s
    · exact State.bsc_touches s _

theorem State.framePhase_touches (s : State) (p : Plan) (start : Nat) :
    OnlyChanges [.ntu, .kpp, .evr] s (s.framePhase p start).2 := by
  unfold State.framePhase
  split
  · exact OnlyChanges.refl _ s
  · exact OnlyChanges.trans ((State.ntu_touches s _).mono (by decide)) ((State.raiseIf_touches _ _ _ _ _).mono (by decide))

theorem State.changeTrajectory_touches (s : State) (p : Plan) (c : Commit) (at_ : Nat) :
    OnlyChanges [.bsc] s (s.changeTrajectory p c at_) :=
  OnlyChanges.ite _ (OnlyChanges.refl _ s) (OnlyChanges.ite _ (OnlyChanges.refl _ s)
    (OnlyChanges.ite _ (OnlyChanges.refl _ s) (State.bsc_touches s _)))

theorem State.motionBoundary_touches (s : State) (at_ : Nat) : OnlyChanges [.bsc] s (s.motionBoundary at_) := by
  unfold State.motionBoundary
  split
  · exact OnlyChanges.refl _ s
  · refine OnlyChanges.ite _ (OnlyChanges.ite _ (State.bsc_touches s _) (OnlyChanges.refl _ s)) ?_
    extract_lets rise
    clear_value rise
    cases rise with
    | none => exact OnlyChanges.refl _ s
    | some b => exact OnlyChanges.ite _ (State.bsc_touches s _) (State.bsc_touches s _)

theorem State.mirrorBoundary_touches (s : State) (p : Plan) (commit : Option Commit) (number : Int) (at_ : Nat) :
    OnlyChanges [.bsc] s (s.mirrorBoundary p commit number at_) := by
  cases commit with
  | none => exact (State.motionBoundary_touches s at_).trans (State.bsc_touches _ _)
  | some c =>
    exact (State.motionBoundary_touches s at_).trans ((State.changeTrajectory_touches _ p c at_).trans
      ((State.motionBoundary_touches _ at_).trans (State.bsc_touches _ _)))

/-! ### The parts of a frame boundary (01 R30; 02 R58) -/

theorem State.tdaFrameEnd_touches (s : State) : OnlyChanges [.tda, .kpp, .evr] s s.tdaFrameEnd :=
  OnlyChanges.trans ((State.tda_touches s _).mono (by decide))
    (OnlyChanges.foldl (fun s _ => (State.raise_touches s _ _ _).mono (by decide)) _ _)

theorem State.frameEnd_touches (s : State) (p : Plan) :
    OnlyChanges [.rfe, .tda, .hac, .prx, .kpp, .evr] s (s.frameEnd p) := by
  have hcounts : ∀ (v : State) (h : Hac) (r : Prx),
      OnlyChanges [.rfe, .tda, .hac, .prx, .kpp, .evr] v { v with hac := h, prx := r } := fun v h r =>
    ((State.hac_touches v h).mono (by decide)).trans ((State.prx_touches _ r).mono (by decide))
  exact OnlyChanges.ite _ (OnlyChanges.refl _ s) (((State.rfe_touches s _).mono (by decide)).trans
    (((State.tdaFrameEnd_touches _).mono (by decide)).trans (hcounts _ _ _)))

theorem State.ledgerBoundary_touches (s : State) (q : Plan) :
    OnlyChanges [.emg, .kpp, .evr] s (s.ledgerBoundary q) :=
  OnlyChanges.ite _ (OnlyChanges.refl _ s) (State.emg_touches s _)

theorem State.holdUnit_touches (s : State) (unit : Nat) : OnlyChanges [.cu, .kpp, .evr] s (s.holdUnit unit) :=
  OnlyChanges.ite _ (OnlyChanges.refl _ s)
    (OnlyChanges.trans ((State.cu_touches s _).mono (by decide)) ((State.raise_touches _ _ _ _).mono (by decide)))

theorem State.redundancy_touches (s : State) (single : Bool) : OnlyChanges [.cu, .kpp, .evr] s (s.redundancy single) :=
  OnlyChanges.ite _ (OnlyChanges.ite _ (State.holdUnit_touches s _) (OnlyChanges.refl _ s))
    (OnlyChanges.ite _ ((State.cu_touches s _).mono (by decide)) (OnlyChanges.refl _ s))

theorem State.feedEnd_touches (s : State) (frame : Word) : OnlyChanges [.evr] s (s.feedEnd frame) :=
  OnlyChanges.ite _ (State.evr_touches s _) (State.evr_touches s _)

theorem State.excludeSegments_touches (s : State) : OnlyChanges [.evr] s s.excludeSegments :=
  OnlyChanges.ite _ (OnlyChanges.refl _ s) (State.evr_touches s _)

theorem State.recorderBudget_touches (s : State) (p : Plan) : OnlyChanges [.evr] s (s.recorderBudget p) := by
  unfold State.recorderBudget
  by_cases h : ringRate p = 0
  · simp only [h, if_true]
    exact ((State.free_touches s).mono (by decide)).trans (State.evr_touches _ _)
  · simp only [h, if_false]
    exact State.evr_touches s _

theorem State.recorderBoundary_touches (s : State) (p : Plan) (frame : Word) (changed : Bool) :
    OnlyChanges [.evr] s (s.recorderBoundary p frame changed) := by
  unfold State.recorderBoundary
  refine OnlyChanges.ite _ (OnlyChanges.refl _ s) ?_
  refine OnlyChanges.ite_after _ ?_ (State.recorderBudget_touches _ p)
  exact (State.excludeSegments_touches s).trans (OnlyChanges.ite _ (State.evr_touches _ _) (OnlyChanges.ite _
    ((State.evr_touches _ _).trans (State.feedEnd_touches _ (frame - 1))) (OnlyChanges.refl _ _)))

theorem State.calBoundary_touches (s : State) : OnlyChanges [.cal, .kpp, .evr] s s.calBoundary :=
  OnlyChanges.trans ((State.cal_touches s _).mono (by decide))
    (OnlyChanges.foldl (fun s _ => (State.raiseIf_touches s _ _ _ _).mono (by decide)) _ _)

theorem State.sequence_touches (s : State) : OnlyChanges [.mon, .kpp, .evr] s s.sequence := by
  have hmon : ∀ m : Mon, OnlyChanges [.mon, .kpp, .evr] s { s with mon := m } := fun m =>
    (State.mon_touches s m).mono (by decide)
  exact OnlyChanges.ite _ (OnlyChanges.ite _ (hmon _) (OnlyChanges.refl _ s))
    (OnlyChanges.ite _ (hmon _) ((hmon _).trans ((State.raiseIf_touches _ _ _ _ _).mono (by decide))))

/-! ### Headers and trailers (11 R270, R274, R280) -/

/-- What a unit queued for a port may change: the formatter, the links, and the records of what it raises. -/
def outputUnits : List UnitId := [.fmt, .linkA, .linkB, .kpp, .evr]

theorem State.setOutPortOutput_touches (s : State) (n : Nat) (o : OutPort) :
    OnlyChanges outputUnits s (s.setOutPort n o) :=
  (State.setOutPort_touches s n o).mono (by decide)

theorem State.restall_touches (s : State) (n : Nat) : OnlyChanges outputUnits s (s.restall n) :=
  (State.setLink_touches s n _).mono (by decide)

theorem State.dropEvent_touches (s : State) (n : Nat) : OnlyChanges outputUnits s (s.dropEvent n) :=
  OnlyChanges.ite _ (OnlyChanges.refl _ s)
    ((State.setOutPortOutput_touches s n _).trans ((State.raise_touches _ _ _ _).mono (by decide)))

theorem State.queueUnit_touches (s : State) (n kind : Nat) (frame : Word) (mk : Word → Bool → List Byte) :
    OnlyChanges outputUnits s (s.queueUnit n kind frame mk) :=
  OnlyChanges.ite _ ((State.setOutPortOutput_touches s n _).trans (State.restall_touches _ n))
    ((State.setOutPortOutput_touches s n _).trans (State.dropEvent_touches _ n))

theorem State.feedRing_touches (s : State) (kind : Nat) (seq frame : Word) (bytes : List Byte) :
    OnlyChanges outputUnits s (s.feedRing kind seq frame bytes) :=
  OnlyChanges.ite _ ((State.evr_touches s _).mono (by decide)) (OnlyChanges.refl _ s)

theorem State.queueHeader_touches (s : State) (p : Plan) (n : Nat) : OnlyChanges outputUnits s (s.queueHeader p n) :=
  (State.setOutPortOutput_touches s n _).trans (OnlyChanges.ite _
    ((State.queueUnit_touches _ n _ _ _).trans (OnlyChanges.ite _ (State.feedRing_touches _ _ _ _ _) (OnlyChanges.refl _ _)))
    (OnlyChanges.ite _ (State.feedRing_touches _ _ _ _ _) (OnlyChanges.refl _ _)))

theorem State.queueTrailer_touches (s : State) (n : Nat) (frame : Word) :
    OnlyChanges outputUnits s (s.queueTrailer n frame) :=
  OnlyChanges.ite _ (OnlyChanges.refl _ s) (State.queueUnit_touches s n _ _ _)

theorem State.queueTrailers_touches (s : State) (frame : Word) : OnlyChanges outputUnits s (s.queueTrailers frame) :=
  (State.queueTrailer_touches s 0 frame).trans ((State.queueTrailer_touches _ 1 frame).trans
    ((State.feedEnd_touches _ frame).mono (by decide)))

end Sys2Proof.Machine
end

section
/-!
SUPPORT. Arming a column, and the end of its prefetch (01 R24).
-/
namespace Sys2Proof.Machine

/-! ### Arming a column (01 R24, R32) -/

theorem State.load_touches (s : State) (c : ColCtx) : OnlyChanges [.pipe, .edu, .rfe] s (s.load c) := by
  have hloaded : ∀ (u : Edu) (r : Rfe) (x : Pipe),
      OnlyChanges [.pipe, .edu, .rfe] s { s with edu := u, rfe := r, pipe := x } := fun _ _ _ =>
    ⟨rfl, fun y hy => by cases y <;> simp_all [sameUnit]⟩
  exact hloaded _ _ _

/-- The column loaded is armed with a cell for each row, and its prefetch is over. -/
theorem State.load_pipe (s : State) (c : ColCtx) : ∃ cells : List CellCtx, cells.length = min c.plan.rows 512 ∧
    (s.load c).pipe = { s.pipe with armed := some { c with cells }, prefetch := none } :=
  ⟨_, by simp [Plan.rowList], rfl⟩

/-- What a fetch for a column does before it is loaded. -/
theorem State.fetch_touches (s : State) (c : ColCtx) (b : Bool) :
    OnlyChanges memoryUnits s (if b then (s.prefetchLines c).countRecords c c.predict else s) :=
  OnlyChanges.ite _ ((State.prefetchLines_touches s c).trans (State.countRecords_touches _ c _)) (OnlyChanges.refl _ s)

theorem State.arm_touches (s : State) (f : FrameInfo) (visit : Nat) (late fetch : Bool) :
    OnlyChanges [.pipe, .edu, .rfe, .mcx, .kpp, .evr] s (s.arm f visit late fetch) :=
  ((State.fetch_touches s (s.columnCtx f visit late) (fetch && !late)).mono (by decide)).trans
    ((State.load_touches _ _).mono (by decide))

theorem State.arm_pipe (s : State) (f : FrameInfo) (visit : Nat) (late fetch : Bool) :
    ∃ cells : List CellCtx, cells.length = min f.plan.rows 512 ∧ (s.arm f visit late fetch).pipe =
      { s.pipe with armed := some { s.columnCtx f visit late with cells }, prefetch := none } := by
  have hpipe := (State.fetch_touches s (s.columnCtx f visit late) (fetch && !late)).2 .pipe (by decide)
  obtain ⟨cells, hlen, hload⟩ := State.load_pipe
    (if (fetch && !late) = true then (s.prefetchLines (s.columnCtx f visit late)).countRecords (s.columnCtx f visit late)
      (s.columnCtx f visit late).predict else s) (s.columnCtx f visit late)
  refine ⟨cells, hlen, hload.trans ?_⟩
  rw [← hpipe]

/-! ### Prefetches (01 R24) -/

/-- The prefetch of visit `k` of the frame in progress is over, and its column is armed. -/
def ArmsColumn (s : State) (p : Plan) (k : Nat) (late : Bool) (x : Pipe) : Prop :=
  x.prefetch = none ∧ ∃ c, x.armed = some c ∧ c.visit = k ∧ c.plan = p ∧ c.frame = s.pipe.frame ∧
    c.column = p.columnAt s.pipe.frame.toNat k ∧ c.late = late ∧ c.predict = (s.pipe.predict && !late) ∧
    c.cells.length = min p.rows 512

theorem State.arm_thisFrame (s : State) (p : Plan) (k : Nat) (late fetch : Bool) :
    ArmsColumn s p k late (s.arm (s.thisFrame p) k late fetch).pipe := by
  obtain ⟨cells, hlen, hpipe⟩ := State.arm_pipe s (s.thisFrame p) k late fetch
  rw [hpipe]
  exact ⟨rfl, _, rfl, rfl, rfl, rfl, rfl, rfl, rfl, hlen⟩

section Prefetch
variable {s : State} {p : Plan} {f k : Nat} (hplan : s.pipe.plan = some p) (hfetch : s.pipe.prefetch = some (f, k))
  (hk : k ≠ 0)
include hplan hfetch hk

theorem State.prefetchDone_eq :
    s.prefetchDone = s.arm (s.thisFrame p) k (decide (s.pipe.frameStart + p.columnStart k < s.now + 2000)) true := by
  simp [State.prefetchDone, State.prefetchFor, hplan, hfetch, hk]

theorem State.prefetchMissed_eq (hlate : s.pipe.frameStart + p.columnStart k ≤ s.now + 2000) :
    s.prefetchMissed = s.arm (s.thisFrame p) k true false := by
  simp [State.prefetchMissed, State.prefetchFor, hplan, hfetch, hk, hlate]

end Prefetch

/-- Settles O17: whichever way the prefetch ends, the column is armed; only the instant decides whether it is late. -/
theorem prefetchesArmColumns : Obligations.PrefetchesArmColumns := by
  unfold Obligations.PrefetchesArmColumns
  intro s t f k p hmain hplan hfetch hk
  have complete : ∀ late, decide (s.pipe.frameStart + p.columnStart k < max s.now t + 2000) = late →
      Gives (.prefetchComplete t) s fun u =>
        OnlyChanges [.pipe, .edu, .rfe, .mcx, .kpp, .evr] s u ∧ ArmsColumn s p k late u.pipe := by
    intro late hlate
    refine gives_of_leaves (exec_prefetchComplete s) hmain fun u honly hleaves =>
      ⟨honly.mono (by simp only [changesOf]; decide), ?_⟩
    rw [State.prefetchDone_eq (s := s.atTime t) hplan hfetch hk] at hleaves
    have hpipe : _ = u.pipe := hleaves.2.1 .pipe (by decide)
    rw [← hpipe, ← hlate]
    exact State.arm_thisFrame (s.atTime t) p k _ true
  refine ⟨fun hin => complete false (decide_eq_false (by omega)), fun hout => complete true (decide_eq_true hout), ?_⟩
  intro hlate
  refine gives_of_leaves (exec_prefetchLate s) hmain fun u honly hleaves => ⟨honly, ?_⟩
  rw [State.prefetchMissed_eq (s := s.atTime t) hplan hfetch hk hlate] at hleaves
  have hpipe : _ = u.pipe := hleaves.2.1 .pipe (by decide)
  have harms := State.arm_thisFrame (s.atTime t) p k true false
  rwa [hpipe] at harms

end Sys2Proof.Machine
end

section
/-!
SUPPORT. What the start of a column, the start of a slot and the swap make of the pipeline (01 R18, R22; 08 R195).
-/
namespace Sys2Proof.Machine

/-! ### Column starts (01 R18, R24) -/

/-- The column at visit `k` of the frame in progress runs: its slots have not begun, and its successor is fetched. -/
def ColumnRuns (s : State) (p : Plan) (k : Nat) (late predict : Bool) (x : Pipe) : Prop :=
  x.visit = k ∧ x.inColumn = true ∧ x.slot = 0 ∧ x.inSlot = false ∧ x.armed = none ∧
    x.prefetch = (if k + 1 < p.columns then some (s.pipe.frame.toNat, k + 1) else none) ∧
    ∃ c, x.cur = some c ∧ c.visit = k ∧ c.plan = p ∧ c.frame = s.pipe.frame ∧ c.late = late ∧ c.predict = predict

/-- A column that starts keeps what it was armed with, but for its bank and its step of a cross-fade. -/
theorem Prx.nextColumn_keeps (r : Prx) (c : ColCtx) :
    (r.nextColumn c).2.visit = c.visit ∧ (r.nextColumn c).2.plan = c.plan ∧ (r.nextColumn c).2.frame = c.frame ∧
      (r.nextColumn c).2.late = c.late ∧ (r.nextColumn c).2.predict = c.predict := by
  unfold Prx.nextColumn
  split
  · dsimp only
    split <;> exact ⟨rfl, rfl, rfl, rfl, rfl⟩
  · exact ⟨rfl, rfl, rfl, rfl, rfl⟩

theorem columnRuns_nextColumn {s : State} {p : Plan} {k : Nat} (r : Prx) (c : ColCtx) (x : Pipe) (last : Nat)
    (hvisit : c.visit = k) (hplan : c.plan = p) (hframe : c.frame = s.pipe.frame) :
    ColumnRuns s p k c.late c.predict { x with
      cur := some (r.nextColumn c).2, armed := none, visit := k, inColumn := true, slot := 0, inSlot := false
      lastColumn := last, prefetch := if k + 1 < p.columns then some (s.pipe.frame.toNat, k + 1) else none } := by
  obtain ⟨hv, hp, hf, hl, hpr⟩ := Prx.nextColumn_keeps r c
  exact ⟨rfl, rfl, rfl, rfl, rfl, rfl, _, rfl, hv.trans hvisit, hp.trans hplan, hf.trans hframe, hl, hpr⟩

/-- The column is due: visit `k` is the next of the running frame, and its start is reached. -/
def ColumnDue (s : State) (p : Plan) (k : Nat) : Prop :=
  s.pipe.plan = some p ∧ s.pipe.started = true ∧ s.pipe.blank = false ∧ s.pipe.inTurn = false ∧
    k = (if s.pipe.inColumn then s.pipe.visit + 1 else 0) ∧ k < p.columns ∧
    s.pipe.frameStart + p.columnStart k ≤ s.now

/-- The column armed for the visit runs as it was armed. -/
theorem State.columnStart_runs_armed {s : State} {p : Plan} {k : Nat} {c : ColCtx} (hdue : ColumnDue s p k)
    (harmed : s.pipe.armed = some c) (hvisit : c.visit = k) (hframe : c.frame = s.pipe.frame) (hcplan : c.plan = p) :
    ColumnRuns s p k c.late c.predict s.columnStart.pipe := by
  obtain ⟨hplan, hstarted, hblank, hturn, hk, hcols, htime⟩ := hdue
  simp only [State.columnStart, hplan, ← hk, hstarted, hblank, hturn, Nat.not_le.2 hcols, Nat.not_lt.2 htime, harmed,
    hvisit, hframe, hcplan, beq_self_eq_true, Bool.not_true, Bool.or_false, decide_false, Bool.false_eq_true, if_false,
    Bool.and_true, if_true]
  exact columnRuns_nextColumn s.prx _ _ _ rfl rfl rfl

/-- What is armed, if anything, is another column than visit `k` of the frame in progress. -/
def Pipe.Unarmed (x : Pipe) (p : Plan) (k : Nat) : Prop :=
  ∀ c, x.armed = some c → c.visit ≠ k ∨ c.frame ≠ x.frame ∨ c.plan ≠ p

/-- A column that was not armed is armed as it starts: late and without prediction. -/
theorem State.columnStart_runs_unarmed {s : State} {p : Plan} {k : Nat} (hdue : ColumnDue s p k)
    (hunarmed : s.pipe.Unarmed p k) : ColumnRuns s p k true false s.columnStart.pipe := by
  obtain ⟨hplan, hstarted, hblank, hturn, hk, hcols, htime⟩ := hdue
  obtain ⟨cells, -, hpipe⟩ := State.arm_pipe s (s.thisFrame p) k true false
  have hpredict : (s.columnCtx (s.thisFrame p) k true).predict = false := Bool.and_false _
  rw [← hpredict]
  simp only [State.columnStart, hplan, ← hk, hstarted, hblank, hturn, Nat.not_le.2 hcols, Nat.not_lt.2 htime,
    Bool.not_true, Bool.or_false, decide_false, Bool.false_eq_true, if_false]
  cases harmed : s.pipe.armed with
  | none =>
    simp only [hpipe, Bool.false_eq_true, if_false]
    exact columnRuns_nextColumn s.prx _ _ _ rfl rfl rfl
  | some c =>
    have hfit : (c.visit == k && c.frame == s.pipe.frame && c.plan == p) = false := by
      simp only [Bool.and_eq_false_iff, beq_eq_false_iff_ne, or_assoc]
      exact hunarmed c harmed
    simp only [hpipe, hfit, Bool.false_eq_true, if_false]
    exact columnRuns_nextColumn s.prx _ _ _ rfl rfl rfl

/-! ### Slot starts (01 R22; 07 R180) -/

/-- The references a slot starts with hold no edge, and their windows are open. -/
theorem State.tdaSlotStart_refs (s : State) :
    ∀ r ∈ s.tdaSlotStart.tda.refs, r.tref = none ∧ r.last = none ∧ r.closed = false := by
  intro r hr
  obtain ⟨_, -, rfl⟩ := List.mem_map.1 hr
  exact ⟨rfl, rfl, rfl⟩

/-- The gate of a slot that starts: none where it is not lit, else its decision. -/
theorem State.slotGate_touches (s : State) (dark : Bool) (p : Plan) (column start : Nat) :
    OnlyChanges [.emg, .kpp, .evr] s
      (if dark then { s with emg := { s.emg with gated := [] } } else s.decideSlot p column start) :=
  OnlyChanges.ite _ (State.emg_touches s _) (State.decideGate_touches s p column _ _ start)

/-- Slot `j` of column `c` has started. -/
def SlotStarted (s : State) (c : ColCtx) (j : Nat) (u : State) : Prop :=
  u.pipe.slot = j ∧ u.pipe.inSlot = true ∧ u.pipe.slotStart = s.pipe.frameStart + c.start + j * c.plan.slot ∧
    u.pipe.dither = c.dithers.getD j 0 ∧ u.pipe.lit = (c.plan.slotLit j && !(c.probe && c.plan.silentSlot j)) ∧
    ∀ r ∈ u.tda.refs, r.tref = none ∧ r.last = none ∧ r.closed = false

theorem SlotStarted.of_onlyChanges {s v u : State} {c : ColCtx} {j : Nat} {l : List UnitId} (h : SlotStarted s c j v)
    (hl : OnlyChanges l v u) (hpipe : .pipe ∉ l) (htda : .tda ∉ l) : SlotStarted s c j u := by
  have hp : v.pipe = u.pipe := hl.2 .pipe hpipe
  have ht : v.tda = u.tda := hl.2 .tda htda
  simpa only [SlotStarted, hp, ht] using h

/-- The slot that is due starts, lit as its steering says and its probe leaves it, with its own dither. -/
theorem State.slotBegin_starts {s : State} {c : ColCtx} {j : Nat} (cal : TdcCal) (hcur : s.pipe.cur = some c)
    (hturn : s.pipe.inTurn = false) (hj : j = (if s.pipe.inSlot then s.pipe.slot + 1 else 0)) (hshots : j < c.plan.shots)
    (htime : s.pipe.frameStart + c.start + j * c.plan.slot ≤ s.now) : SlotStarted s c j (s.slotBegin cal) := by
  simp only [State.slotBegin, hcur, ← hj, hturn, Nat.not_le.2 hshots, Nat.not_lt.2 htime, Bool.or_false, decide_false,
    Bool.false_eq_true, if_false]
  refine SlotStarted.of_onlyChanges ⟨rfl, rfl, rfl, ?_, rfl, ?_⟩ (State.slotGate_touches _ _ _ _ _) (by decide) (by decide)
  · split <;> rfl
  · have hrefs : ∀ (v : State) (first : Bool), ((v.calibrate cal).slotLatch c.plan first).tda.refs = v.tda.refs :=
      fun v first => (congrArg Tda.refs ((State.slotLatch_touches _ c.plan first).2 .tda (by decide)).symm).trans
        (State.calibrate_refs v cal)
    intro r hr
    refine State.tdaSlotStart_refs s.endBlank r ?_
    dsimp only at hr
    rwa [hrefs] at hr

/-! ### The swap (08 R195) -/

/-- The swap of column `c` hands its buffers to the extraction. -/
def Swapped (s : State) (c : ColCtx) (bufs : SMap Buf) (u : State) : Prop :=
  u.pipe = { s.pipe with ext := some c } ∧ u.hac.ext = bufs ∧ u.hac.acc = s.hac.acc ∧ u.prx.done = [] ∧ u.prx.cells = []

theorem Swapped.of_onlyChanges {s v u : State} {c : ColCtx} {bufs : SMap Buf} {l : List UnitId} (h : Swapped s c bufs v)
    (hl : OnlyChanges l v u) (hpipe : .pipe ∉ l) (hhac : .hac ∉ l) (hprx : .prx ∉ l) : Swapped s c bufs u := by
  have hp : v.pipe = u.pipe := hl.2 .pipe hpipe
  have hh : v.hac = u.hac := hl.2 .hac hhac
  have hx : v.prx = u.prx := hl.2 .prx hprx
  simpa only [Swapped, hp, hh, hx] using h

theorem State.swapped_swaps (s : State) (c : ColCtx) (bufs : SMap Buf) : Swapped s c bufs (s.swapped c bufs) := by
  unfold State.swapped
  dsimp only
  split
  · refine Swapped.of_onlyChanges ?_ (State.probeDone_touches _ _ _) (by decide) (by decide) (by decide)
    exact ⟨rfl, rfl, rfl, rfl, rfl⟩
  · exact ⟨rfl, rfl, rfl, rfl, rfl⟩

/-- Only a probe's result reaches the time unit. -/
theorem State.swapped_ntu (s : State) (c : ColCtx) (bufs : SMap Buf) (h : c.probe = false) :
    (s.swapped c bufs).ntu = s.ntu := by
  simp [State.swapped, h]

section Swap
variable {s : State} {t : Nat} {c : ColCtx} (hmain : s.mainOn = true) (hdue : c.swapAt ≤ max s.now t)
include hmain hdue

/-- The column in progress leaves the accumulator empty. -/
theorem gives_poolSwap_cur (htail : s.pipe.tail = none) (hcur : s.pipe.cur = some c) :
    Gives (.poolSwap t) s fun u => OnlyChanges [.pipe, .hac, .prx, .kpp, .ntu, .evr] s u ∧
      (c.probe = false → u.ntu = (s.atTime t).ntu) ∧ u.pipe = { s.pipe with ext := some c, cur := none, inSlot := false } ∧
      u.hac.ext = s.hac.acc ∧ u.hac.acc = [] ∧ u.hac.parked = [] ∧ u.hac.held = [] ∧ u.hac.placedAt = none ∧
      u.prx.done = [] ∧ u.prx.cells = [] := by
  refine gives_of_leaves (exec_poolSwap s) hmain fun u honly hleaves => ⟨honly.mono (by simp only [changesOf]; decide), ?_⟩
  obtain ⟨hpipe, hext, -, hdone, hcells⟩ := State.swapped_swaps (s.atTime t) c s.hac.acc
  simp only [State.atTime_pipe, State.atTime_now, State.atTime_hac, htail, hcur, Nat.not_lt.2 hdue, if_false] at hleaves
  obtain ⟨-, hsame, hclock⟩ := hleaves
  have up : _ = u.pipe := hsame .pipe (by decide)
  have uh : _ = u.hac := hsame .hac (by decide)
  have ux : _ = u.prx := hsame .prx (by decide)
  have un := hclock (by decide)
  rw [← up, ← uh, ← ux, un]
  refine ⟨State.swapped_ntu _ c _, ?_, hext, rfl, rfl, rfl, rfl, hdone, hcells⟩
  rw [hpipe, State.atTime_pipe]

/-- A column overtaken before its swap goes first, and leaves the column in progress alone. -/
theorem gives_poolSwap_tail (htail : s.pipe.tail = some c) :
    Gives (.poolSwap t) s fun u => OnlyChanges [.pipe, .hac, .prx, .kpp, .ntu, .evr] s u ∧
      u.pipe = { s.pipe with ext := some c, tail := none } ∧ u.hac.ext = s.hac.tail ∧ u.hac.tail = [] ∧
      u.hac.acc = s.hac.acc := by
  refine gives_of_leaves (exec_poolSwap s) hmain fun u honly hleaves => ⟨honly.mono (by simp only [changesOf]; decide), ?_⟩
  obtain ⟨hpipe, hext, hacc, -⟩ := State.swapped_swaps (s.atTime t) c s.hac.tail
  simp only [State.atTime_pipe, State.atTime_now, State.atTime_hac, htail, Nat.not_lt.2 hdue, if_false] at hleaves
  obtain ⟨-, hsame, -⟩ := hleaves
  have up : _ = u.pipe := hsame .pipe (by decide)
  have uh : _ = u.hac := hsame .hac (by decide)
  rw [← up, ← uh]
  refine ⟨?_, hext, rfl, hacc⟩
  rw [hpipe, State.atTime_pipe]

end Swap

/-- Settles O16: a due column, slot or swap is the branch of its command that acts, armed or not, overtaken or not. -/
theorem columnsAndSlotsStart : Obligations.ColumnsAndSlotsStart := by
  unfold Obligations.ColumnsAndSlotsStart
  refine ⟨⟨?column, ?slot⟩, ?swap⟩
  case column =>
    intro s t k p hmain hplan hstarted hblank hturn hk hcols htime runs
    have hdue : ColumnDue (s.atTime t) p k := ⟨hplan, hstarted, hblank, hturn, hk, hcols, htime⟩
    have gives : ∀ late predict, ColumnRuns (s.atTime t) p k late predict (s.atTime t).columnStart.pipe →
        Gives (.columnStart t) s fun u => runs u late predict := fun late predict hruns =>
      gives_of_leaves (exec_columnStart s) hmain fun u honly hleaves => ⟨honly, (hleaves.2.1 .pipe (by decide)) ▸ hruns⟩
    exact ⟨fun c harmed hvisit hframe hcplan => gives _ _ (State.columnStart_runs_armed hdue harmed hvisit hframe hcplan),
      fun hunarmed => gives _ _ (State.columnStart_runs_unarmed hdue hunarmed)⟩
  case slot =>
    intro s t j c cal hmain hcur hturn hj hshots htime
    have hstarts := State.slotBegin_starts (s := s.atTime t) cal hcur hturn hj hshots htime
    refine gives_of_leaves (exec_shotSlotStart s) hmain fun u honly hleaves =>
      ⟨honly.mono (by simp only [changesOf]; decide), ?_⟩
    have hp : _ = u.pipe := hleaves.2.1 .pipe (by decide)
    have ht : _ = u.tda := hleaves.2.1 .tda (by decide)
    rw [← hp, ← ht]
    exact hstarts
  case swap =>
    exact fun s t c hmain hdue => ⟨gives_poolSwap_cur hmain hdue, gives_poolSwap_tail hmain hdue⟩

end Sys2Proof.Machine
end

section
/-!
SUPPORT. The turnaround, the frame boundary and the start-up (01 R30 to R32; 02 R58; 03 R76).
-/
namespace Sys2Proof.Machine

/-! ### The turnaround (01 R30 to R32; 10 R251) -/

/-- The turnaround begins at the end of the active time, with what it holds still to come. -/
theorem State.turnBegin_pipe {s : State} (hstarted : s.pipe.started = true) (hturn : s.pipe.inTurn = false)
    (htime : s.pipe.frameStart + s.pipe.timing.active ≤ s.now) : ∃ corr, s.turnBegin.pipe = { s.pipe with
      inTurn := true, turnStart := s.pipe.frameStart + s.pipe.timing.active, turnCorr := corr
      swapDone := false, diagDone := false, cutoffDone := false } := by
  have hphase : s.pipe = (s.framePhase s.pipe.timing (s.pipe.frameStart + s.pipe.timing.active)).2.pipe :=
    (State.framePhase_touches s _ _).2 .pipe (by decide)
  have hseam : ∀ v : State, v.judgeSeam.pipe = v.pipe := fun v =>
    ((State.judgeSeam_touches v).2 .pipe (by decide)).symm
  simp only [State.turnBegin, hstarted, hturn, Nat.not_lt.2 htime, Bool.not_true, Bool.or_false, decide_false,
    Bool.false_eq_true, if_false, hseam, ← hphase]
  exact ⟨_, rfl⟩

/-- With the grid kept and the next prefetch issued, the cut-off sets the bias of the next frame and nothing else. -/
theorem State.cutoff_touches {s : State} {p : Plan} (hplan : s.pipe.plan = some p) (hturn : s.pipe.inTurn = true)
    (hopen : s.pipe.cutoffDone = false) (htime : s.pipe.turnStart + 1900000 ≤ s.now)
    (hgrid : (s.nextFrame p).gridChanged = false) (hfetch : s.pipe.prefetch.isSome = true) :
    OnlyChanges [.rfe, .kpp, .evr] { s with pipe := { s.pipe with cutoffDone := true } } s.cutoff := by
  have hbias := State.biasUpdate_touches { s with pipe := { s.pipe with cutoffDone := true } } (s.nextFrame p).plan
    (s.pipe.turnStart + 1900000)
  have hpipe : _ = State.pipe _ := hbias.2 .pipe (by decide)
  have hdue : (!s.pipe.inTurn || s.pipe.cutoffDone || decide (s.now < s.pipe.turnStart + 1900000)) = false := by
    simp only [hturn, hopen, Nat.not_lt.2 htime, Bool.not_true, Bool.or_false, decide_false]
  have hissued : s.pipe.prefetch.isNone = false := by simpa [Option.isNone_eq_false_iff] using hfetch
  unfold State.cutoff
  rw [hplan]
  dsimp only
  rw [if_neg (by simp [hdue]), if_neg (by simp [hgrid]), if_neg (by simp [← hpipe, hissued])]
  exact hbias

/-- Where `b` holds, one bit turns over. -/
theorem testBit_ite_xor_two_pow (holding bit set : Nat) (b : Bool) :
    (if b then holding ^^^ 2 ^ bit else holding).testBit set = (holding.testBit set ^^ (b && set == bit)) := by
  cases b with
  | false => simp
  | true =>
    have hbit : decide (bit = set) = (set == bit) := Bool.eq_iff_iff.2 (by simpa using eq_comm)
    simp only [if_true, Nat.testBit_xor, Nat.testBit_two_pow, hbit, Bool.true_and]

/-- Settles O18: each event of the turnaround acts once its offset is reached; the swap turns one bit of the buffers. -/
theorem theTurnaroundRunsInOrder : Obligations.TheTurnaroundRunsInOrder := by
  unfold Obligations.TheTurnaroundRunsInOrder
  refine ⟨?start, ?swap, ?cutoff⟩
  case start =>
    intro s t hmain hstarted hturn htime
    obtain ⟨corr, hpipe⟩ := State.turnBegin_pipe (s := s.atTime t) hstarted hturn htime
    refine gives_of_leaves (exec_turnaroundStart s) hmain fun u honly hleaves =>
      ⟨honly.mono (by simp only [changesOf]; decide), ?_⟩
    have hu : _ = u.pipe := hleaves.2.1 .pipe (by decide)
    rw [← hu, hpipe]
    rfl
  case swap =>
    intro s t p hmain hplan hturn hopen htime
    refine gives_of_leaves (exec_tarnBufferSwap s) hmain fun u honly hleaves => ⟨honly, ?_⟩
    simp only [State.atTime_pipe, State.atTime_now, hplan, hturn, hopen, Nat.not_lt.2 htime, Bool.not_true, Bool.or_false,
      decide_false, Bool.false_eq_true, if_false] at hleaves
    have hp : _ = u.pipe := hleaves.2.1 .pipe (by decide)
    have hm : _ = u.mcx := hleaves.2.1 .mcx (by decide)
    rw [← hp, ← hm]
    refine ⟨by simp only [hplan, hturn], rfl, fun set => ?_⟩
    exact testBit_ite_xor_two_pow _ _ set _
  case cutoff =>
    intro s t p hmain hplan hturn hopen htime hgrid hfetch
    have hcut := State.cutoff_touches (s := s.atTime t) hplan hturn hopen htime hgrid hfetch
    have hpipe : _ = State.pipe _ := hcut.2 .pipe (by decide)
    have honly := ((State.pipe_touches _ _).mono (by decide)).trans (hcut.mono (k := [.pipe, .rfe, .kpp, .evr]) (by decide))
    refine gives_main (exec_commitCutoff s) hmain ⟨OnlyChanges.of_effect honly, ?_⟩
    have hu := (Leaves.of_keepAll (.emg :: prefetchFrame) (s.atTime t).cutoff (s.atTime t) s.pending (max s.now t)).2.1
      .pipe (by decide)
    exact hu.symm.trans hpipe.symm

/-! ### The frame boundary (01 R30; 02 R58) -/

/-- Plan `q` is in force, with the transactions `x`. -/
def InForce (q : Plan) (x : Txn) (u : State) : Prop := u.pipe.plan = some q ∧ u.txn = x

/-- Frame `number` of plan `q` has started at `at_`, with the transactions `x`. -/
def FrameStarted (number : Word) (at_ : Nat) (q : Plan) (x : Txn) (u : State) : Prop :=
  (u.pipe.started = true ∧ u.pipe.running = true ∧ u.pipe.frame = number ∧ u.pipe.frameStart = at_ ∧
    u.pipe.inTurn = false ∧ u.pipe.inColumn = false) ∧ InForce q x u

section FrameStarted
variable {number : Word} {at_ : Nat} {q : Plan} {x : Txn} {s u : State}

theorem InForce.of_onlyChanges {l : List UnitId} (h : InForce q x s) (hl : OnlyChanges l s u) (hpipe : .pipe ∉ l)
    (htxn : .txn ∉ l) : InForce q x u := by
  have hp : s.pipe = u.pipe := hl.2 .pipe hpipe
  have ht : s.txn = u.txn := hl.2 .txn htxn
  simpa only [InForce, hp, ht] using h

theorem InForce.ite_after {l : List UnitId} (c : Prop) [Decidable c] (h : InForce q x s) (hl : OnlyChanges l s u)
    (hpipe : .pipe ∉ l) (htxn : .txn ∉ l) : InForce q x (if c then u else s) :=
  h.of_onlyChanges (OnlyChanges.ite_after c (OnlyChanges.refl l s) hl) hpipe htxn

theorem FrameStarted.of_onlyChanges {l : List UnitId} (h : FrameStarted number at_ q x s) (hl : OnlyChanges l s u)
    (hpipe : .pipe ∉ l) (htxn : .txn ∉ l) : FrameStarted number at_ q x u := by
  have hp : s.pipe = u.pipe := hl.2 .pipe hpipe
  have ht : s.txn = u.txn := hl.2 .txn htxn
  simpa only [FrameStarted, InForce, hp, ht] using h

theorem FrameStarted.of_leaves {fr : List UnitId} (h : FrameStarted number at_ q x s) (hl : Leaves fr s u)
    (hpipe : .pipe ∉ fr) (htxn : .txn ∉ fr) : FrameStarted number at_ q x u := by
  have hp : s.pipe = u.pipe := hl.2.1 .pipe hpipe
  have ht : s.txn = u.txn := hl.2.1 .txn htxn
  simpa only [FrameStarted, InForce, hp, ht] using h

theorem FrameStarted.ite_after {l : List UnitId} (c : Prop) [Decidable c] (h : FrameStarted number at_ q x s)
    (hl : OnlyChanges l s u) (hpipe : .pipe ∉ l) (htxn : .txn ∉ l) : FrameStarted number at_ q x (if c then u else s) :=
  h.of_onlyChanges (OnlyChanges.ite_after c (OnlyChanges.refl l s) hl) hpipe htxn

theorem FrameStarted.arm (h : FrameStarted number at_ q x s) (f : FrameInfo) (visit : Nat) (late fetch : Bool) :
    FrameStarted number at_ q x (s.arm f visit late fetch) := by
  obtain ⟨cells, -, hpipe⟩ := State.arm_pipe s f visit late fetch
  have htxn : s.txn = _ := (State.arm_touches s f visit late fetch).2 .txn (by decide)
  simpa only [FrameStarted, InForce, hpipe, ← htxn] using h

theorem FrameStarted.ite_arm (c : Prop) [Decidable c] (h : FrameStarted number at_ q x s) (f : FrameInfo) (visit : Nat)
    (late fetch : Bool) : FrameStarted number at_ q x (if c then s.arm f visit late fetch else s) := by
  split
  · exact h.arm f visit late fetch
  · exact h

theorem State.frameBegin_started (n : NextFrame) (p : Plan) (h : InForce q x s) :
    FrameStarted n.number at_ q x (s.frameBegin n p at_) :=
  ⟨⟨rfl, rfl, rfl, rfl, rfl, rfl⟩, h⟩

end FrameStarted

/-- A commit due comes into force: its plan, its epoch, and the queue without it. -/
def Txn.taking (x : Txn) (c : Commit) : Txn :=
  { x with pending := x.pending.drop 1, inForce := some c, epoch := c.epoch }

theorem State.takePlan_some {s : State} {n : NextFrame} {c : Commit} (p : Plan) (hc : n.commit = some c) :
    InForce c.plan (s.txn.taking c) (s.takePlan p n) := by
  have hcode := (State.codeChanged_touches s (effectiveCode s p) (effectiveCode s c.plan)).2
  have htxn : s.txn = _ := hcode .txn (by decide)
  have hcu := fun v : State => (State.redundancy_touches v c.plan.single).2
  simp only [State.takePlan, hc]
  split
  · exact ⟨rfl, congrArg (·.taking c) htxn.symm⟩
  · exact ⟨congrArg Pipe.plan (hcu _ .pipe (by decide)).symm,
      (hcu _ .txn (by decide)).symm.trans (congrArg (·.taking c) htxn.symm)⟩

theorem State.takePlan_none {s : State} {n : NextFrame} (p : Plan) (hc : n.commit = none) : s.takePlan p n = s := by
  simp only [State.takePlan, hc]

/-- At the boundary the next frame starts, with the plan and the transactions that `takePlan` leaves. -/
theorem State.boundary_started {s : State} {p q : Plan} {at_ : Nat} {x : Txn} (hplan : s.pipe.plan = some p)
    (hat : s.pipe.boundaryAt = some at_) (htime : at_ ≤ s.now)
    (htake : ∀ v : State, InForce p s.txn v → InForce q x (v.takePlan p (s.nextFrame p))) :
    FrameStarted (s.nextFrame p).number at_ q x s.boundary := by
  unfold State.boundary
  rw [hplan, hat]
  dsimp only
  rw [if_neg (Nat.not_lt.2 htime)]
  -- from the last of the boundary's steps back to the start of the frame, and from there back to the commit
  refine FrameStarted.ite_after _ ?_ (State.queueTrailers_touches _ _) (by decide) (by decide)
  refine FrameStarted.of_onlyChanges ?_ ((State.queueHeader_touches _ _ 0).trans (State.queueHeader_touches _ _ 1))
    (by decide) (by decide)
  refine FrameStarted.ite_after _ ?_ (State.sequence_touches _) (by decide) (by decide)
  refine FrameStarted.of_onlyChanges ?_ (State.fmt_touches _ _) (by decide) (by decide)
  refine FrameStarted.of_onlyChanges ?_ (State.calBoundary_touches _) (by decide) (by decide)
  refine FrameStarted.of_onlyChanges ?_ (State.recorderBoundary_touches _ _ _ _) (by decide) (by decide)
  refine FrameStarted.ite_arm _ ?_ _ _ _ _
  refine State.frameBegin_started _ _ ?_
  refine InForce.ite_after _ ?_ (State.redundancy_touches _ true) (by decide) (by decide)
  refine InForce.of_onlyChanges ?_ (State.ledgerBoundary_touches _ _) (by decide) (by decide)
  refine htake _ ?_
  refine InForce.of_onlyChanges ?_ (State.mirrorBoundary_touches _ p _ _ at_) (by decide) (by decide)
  exact InForce.of_onlyChanges ⟨hplan, rfl⟩ (State.frameEnd_touches s p) (by decide) (by decide)

/-! ### The start-up (03 R76; 05 R138) -/

/-- The soft start of a start-up fixes the instant of frame 0; the rest of the pipeline stays as it was. -/
theorem State.startupSoftStart_pipe (s : State) (p : Plan) :
    (∃ first, (s.startupSoftStart p).pipe = { s.pipe with firstAt := first }) ∧ (s.startupSoftStart p).txn = s.txn := by
  unfold State.startupSoftStart
  split
  · exact ⟨⟨_, rfl⟩, rfl⟩
  · have haxes := (State.eachAxis_touches s fun i a => a.initialise p i).2
    have hpipe : s.pipe = _ := haxes .pipe (by decide)
    have htxn : s.txn = _ := haxes .txn (by decide)
    have hmirror : ∀ v : State, v.followMirror.pipe = v.pipe ∧ v.followMirror.txn = v.txn := fun v =>
      have h := (State.followMirror_touches v).2
      ⟨(h .pipe (by decide)).symm, (h .txn (by decide)).symm⟩
    simp only [hmirror, ← hpipe, ← htxn, and_true]
    exact ⟨_, rfl⟩

/-- Plan `p` put in force under `epoch`, its first column to be fetched, before the bias and the mirror follow. -/
def State.accepting (s : State) (p : Plan) (epoch : BitVec 16) : State :=
  { s with pipe := { s.pipe with plan := some p, timing := p, prefetch := some (0, 0) }, txn := { s.txn with epoch } }

theorem State.bringUp_eq (s : State) (p : Plan) (epoch : BitVec 16) :
    s.bringUp p epoch = ((s.accepting p epoch).biasStartup p).startupSoftStart p := rfl

/-- A plan accepted while none is in force comes into force, and frame 0 is still to come. -/
theorem State.bringUp_inForce (s : State) (p : Plan) (epoch : BitVec 16) :
    let u := s.bringUp p epoch
    u.pipe.plan = some p ∧ u.txn.epoch = epoch ∧ u.pipe.startupStatus = s.pipe.startupStatus ∧
      u.pipe.startupReason = s.pipe.startupReason ∧ u.pipe.started = s.pipe.started := by
  obtain ⟨⟨first, hpipe⟩, htxn⟩ := State.startupSoftStart_pipe ((s.accepting p epoch).biasStartup p) p
  have hbias := (State.biasStartup_touches (s.accepting p epoch) p).2
  have hbp : (s.accepting p epoch).pipe = _ := hbias .pipe (by decide)
  have hbt : (s.accepting p epoch).txn = _ := hbias .txn (by decide)
  simp only [State.bringUp_eq, hpipe, htxn, ← hbp, ← hbt]
  exact ⟨rfl, rfl, rfl, rfl, rfl⟩

/-- The start-up's verdict on the plans it tried, as the objects show it. -/
def State.noted (s : State) (status reason : Nat) : State :=
  { s with pipe := { s.pipe with startupStatus := BitVec.ofNat 8 status, startupReason := BitVec.ofNat 8 reason } }

/-- Start-up of a part whose boot calibration has run, with no plan in force and none chosen yet. -/
def StartupDue (s : State) : Prop :=
  s.pipe.plan = none ∧ s.pipe.startupStatus = 0 ∧ s.unitActs = true ∧ s.cal.bootRan = true

theorem StartupDue.guard {s : State} (h : StartupDue s) :
    (s.pipe.plan.isSome || s.pipe.startupStatus != 0 || !s.unitActs || !s.cal.bootRan) = false := by
  obtain ⟨hplan, hstatus, hacts, hboot⟩ := h
  rw [hplan, hstatus, hacts, hboot]
  rfl

/-! The verdict of `validate` is taken as a function of its own in the three lemmas that follow: no check of a proof may set
out to evaluate the validation of a concrete plan. -/

section Startup
variable {s : State} (hdue : StartupDue s)
include hdue

/-- The stored plan, where it is valid. -/
theorem State.startupPlan_stored {p : Plan} (hbody : s.mram.plan.body = some p) (hvalid : validate s p [] = none) :
    s.startupPlan = (s.noted 1 0).bringUp p 0 := by
  unfold State.startupPlan
  obtain ⟨verdict, hverdict⟩ : ∃ f, validate s = f := ⟨_, rfl⟩
  rw [hverdict] at hvalid ⊢
  simp only [hdue.guard, hbody, hvalid, Bool.false_eq_true, if_false]
  rfl

/-- The defaults, with the reason for which the stored plan was refused. -/
theorem State.startupPlan_refused {p : Plan} {r : Nat × Nat} (hbody : s.mram.plan.body = some p)
    (hrefused : validate s p [] = some r) (hvalid : validate s [] [] = none) :
    s.startupPlan = (s.noted 3 r.1).bringUp [] 0 := by
  unfold State.startupPlan
  obtain ⟨verdict, hverdict⟩ : ∃ f, validate s = f := ⟨_, rfl⟩
  rw [hverdict] at hrefused hvalid ⊢
  simp only [hdue.guard, hbody, hrefused, hvalid, Bool.false_eq_true, if_false]
  rfl

/-- The defaults, where no plan is stored. -/
theorem State.startupPlan_defaults (hbody : s.mram.plan.body = none) (hvalid : validate s [] [] = none) :
    s.startupPlan = (s.noted (if s.mram.plan.empty then 0 else 2) 0).bringUp [] 0 := by
  unfold State.startupPlan
  obtain ⟨verdict, hverdict⟩ : ∃ f, validate s = f := ⟨_, rfl⟩
  rw [hverdict] at hvalid ⊢
  simp only [hdue.guard, hbody, hvalid, Bool.false_eq_true, if_false]
  rfl

end Startup

/-! ### Plans taking effect (02 R58; 03 R76) -/

section Boundary
variable {s : State} {t at_ : Nat} {p : Plan} (hmain : s.mainOn = true) (hplan : s.pipe.plan = some p)
  (hat : s.pipe.boundaryAt = some at_) (htime : at_ ≤ max s.now t)
include hmain hplan hat htime

/-- The boundary of a frame with a commit due: its plan comes into force. -/
theorem gives_frameBoundary_some {c : Commit} (hc : ((s.atTime t).nextFrame p).commit = some c) :
    Gives (.frameBoundary t) s (FrameStarted ((s.atTime t).nextFrame p).number at_ c.plan (s.txn.taking c)) := by
  have hstarted := State.boundary_started (s := s.atTime t) hplan hat htime fun v hv => hv.2 ▸ State.takePlan_some p hc
  exact gives_of_leaves (exec_frameBoundary s) hmain fun u _ hleaves => hstarted.of_leaves hleaves (by decide) (by decide)

/-- The boundary of a frame without one: the plan stays. -/
theorem gives_frameBoundary_none (hc : ((s.atTime t).nextFrame p).commit = none) :
    Gives (.frameBoundary t) s (FrameStarted ((s.atTime t).nextFrame p).number at_ p s.txn) := by
  have hstarted := State.boundary_started (s := s.atTime t) hplan hat htime fun v hv => by rwa [State.takePlan_none p hc]
  exact gives_of_leaves (exec_frameBoundary s) hmain fun u _ hleaves => hstarted.of_leaves hleaves (by decide) (by decide)

end Boundary

theorem Txn.commitFor_nil {x : Txn} (h : x.pending = []) (number : Int) : x.commitFor number = none := by
  simp only [Txn.commitFor, h]

/-- The commit at the head of the queue is that of its first frame. -/
theorem Txn.commitFor_cons {x : Txn} {c : Commit} {rest : List Commit} (h : x.pending = c :: rest) (number : Word) :
    x.commitFor (number.toNat : Int) = if c.firstFrame = number then some c else none := by
  simp only [Txn.commitFor, h, Int.natCast_inj, BitVec.toNat_inj]

/-- A start-up that brings plan `p` up shows its verdict; no frame runs yet. -/
theorem gives_startupPlanValidation {s : State} {t status reason : Nat} {p : Plan} (hmain : s.mainOn = true)
    (hup : (s.atTime t).startupPlan = ((s.atTime t).noted status reason).bringUp p 0) :
    Gives (.startupPlanValidation t) s fun u => u.pipe.plan = some p ∧ u.txn.epoch = 0 ∧
      u.pipe.startupStatus = BitVec.ofNat 8 status ∧ u.pipe.startupReason = BitVec.ofNat 8 reason ∧
      u.pipe.started = s.pipe.started := by
  refine gives_of_leaves (exec_startupPlanValidation s) hmain fun u _ hleaves => ?_
  have hp : _ = u.pipe := hleaves.2.1 .pipe (by decide)
  have ht : _ = u.txn := hleaves.2.1 .txn (by decide)
  rw [← hp, ← ht, hup]
  exact State.bringUp_inForce _ p 0

/-- Settles O19: the commit at the head of the queue is the next frame's or it waits; start-up takes the first valid plan. -/
theorem plansTakeEffectAtTheirFrame : Obligations.PlansTakeEffectAtTheirFrame := by
  unfold Obligations.PlansTakeEffectAtTheirFrame
  refine ⟨?boundary, ?startup⟩
  case boundary =>
    intro s t at_ p hmain hplan hat htime number starts
    have none_gives := fun hc : s.txn.commitFor (number.toNat : Int) = none =>
      gives_frameBoundary_none (t := t) hmain hplan hat htime hc
    refine ⟨fun hpending => ?_, fun c rest hpending hframe => ?_, fun c rest hpending hframe => ?_⟩
    · refine (none_gives (Txn.commitFor_nil hpending _)).mono ?_
      rintro u ⟨hstarts, hu, htxn⟩
      exact ⟨hstarts, hu, congrArg Txn.epoch htxn⟩
    · have hc : s.txn.commitFor (number.toNat : Int) = some c := (Txn.commitFor_cons hpending number).trans (if_pos hframe)
      refine (gives_frameBoundary_some hmain hplan hat htime hc).mono ?_
      rintro u ⟨hstarts, hu, htxn⟩
      rw [htxn]
      exact ⟨hstarts, hu, rfl, congrArg (List.drop 1) hpending, rfl⟩
    · refine (none_gives ((Txn.commitFor_cons hpending number).trans (if_neg hframe))).mono ?_
      rintro u ⟨hstarts, hu, htxn⟩
      exact ⟨hstarts, hu, congrArg Txn.pending htxn⟩
  case startup =>
    intro s t hmain hplan hstatus hacts hboot
    have hdue : StartupDue (s.atTime t) := ⟨hplan, hstatus, hacts, hboot⟩
    refine ⟨fun p hbody hvalid => ?_, fun p r hbody hrefused hvalid => ?_, fun hbody hvalid => ?_⟩
    · exact gives_startupPlanValidation hmain (State.startupPlan_stored hdue hbody hvalid)
    · refine (gives_startupPlanValidation hmain (State.startupPlan_refused hdue hbody hrefused hvalid)).mono ?_
      rintro u ⟨hu, hepoch, hstatus, hreason, -⟩
      exact ⟨hu, hepoch, hstatus, hreason⟩
    · refine (gives_startupPlanValidation hmain (State.startupPlan_defaults hdue hbody hvalid)).mono ?_
      rintro u ⟨hu, hepoch, hstatus, -⟩
      refine ⟨hu, hepoch, hstatus.trans ?_⟩
      rw [State.atTime_mram]
      split <;> rfl

end Sys2Proof.Machine
end

section
/-!
SUPPORT. The ledger decision of a slot (13 R315): which ports it gates, and how many pulses it counts.
-/
namespace Sys2Proof.Machine

/-- The energy `e` reaches a limit of the port in one of the bins and one of the three windows of the ledger. -/
def ReachesLimit (g : Emg) (ael : List Byte) (port : Nat) (bins : List Nat) (e : Nat) : Prop :=
  ∃ b ∈ bins, ∃ i, i < 3 ∧ 16 * aelLimit ael port i ≤ (g.wins.getD i {}).value b + e

theorem gateCause_isSome_iff (g : Emg) (ael : List Byte) (port : Nat) (bins : List Nat) (e : Nat) :
    (gateCause g ael port bins e).isSome ↔ ReachesLimit g ael port bins e := by
  unfold gateCause ReachesLimit
  rw [List.find?_isSome]
  constructor
  · rintro ⟨x, hx, hlim⟩
    obtain ⟨b, hb, hx⟩ := List.mem_flatMap.1 hx
    obtain ⟨i, hi, rfl⟩ := List.mem_map.1 hx
    exact ⟨b, hb, i, List.mem_range.1 hi, by simpa using hlim⟩
  · rintro ⟨b, hb, i, hi, hlim⟩
    exact ⟨(b, i), List.mem_flatMap.2 ⟨b, hb, List.mem_map.2 ⟨i, List.mem_range.2 hi, rfl⟩⟩, by simpa using hlim⟩

/-- The ports of `pulses` that the ledger gates, each with the bin and the window that gate it. -/
def gateCauses (g : Emg) (p : Plan) (c : Nat) (pulses : List (Nat × Nat)) : List (Nat × Nat × Nat) :=
  pulses.filterMap fun x => (gateCause g (valueIn p 0x580008) x.1 (binsOf p x.1 c) x.2).map fun y => (x.1, y)

theorem mem_gateCauses_ports (g : Emg) (p : Plan) (c : Nat) (pulses : List (Nat × Nat)) (e : Nat) :
    e ∈ (gateCauses g p c pulses).map Prod.fst ↔
      ∃ x ∈ pulses, x.1 = e ∧ ReachesLimit g (valueIn p 0x580008) e (binsOf p e c) x.2 := by
  simp only [gateCauses, List.mem_map, List.mem_filterMap, Option.map_eq_some_iff]
  constructor
  · rintro ⟨_, ⟨x, hx, y, hy, rfl⟩, rfl⟩
    exact ⟨x, hx, rfl, (gateCause_isSome_iff _ _ _ _ _).1 (Option.isSome_of_eq_some hy)⟩
  · rintro ⟨x, hx, rfl, hlim⟩
    obtain ⟨y, hy⟩ := Option.isSome_iff_exists.1 ((gateCause_isSome_iff _ _ _ _ _).2 hlim)
    exact ⟨(x.1, y), ⟨x, hx, y, hy, rfl⟩, rfl⟩

/-- The ports the decision of the slot at `slotAt` has covered, and those of them it has gated: none before it is made. -/
def Emg.coveredAt (g : Emg) (slotAt : Nat) : List Nat := if g.decidedFor == some slotAt then g.decided else []
def Emg.gatedAt (g : Emg) (slotAt : Nat) : List Nat := if g.decidedFor == some slotAt then g.gated else []

/-- What a decision makes of an armed guard, the mark of the frame's first gate left open: the pulses of ports not covered
yet are decided, and those gated are counted. -/
theorem State.decideGate_emg {s : State} (h : s.emg.state = .armed) (p : Plan) (c : Nat) (pulses : List (Nat × Nat))
    (each slotAt : Nat) :
    let fresh := pulses.filter fun x => !(s.emg.coveredAt slotAt).contains x.1
    let causes := gateCauses (s.ledgerNow p) p c fresh
    ∃ raised, (s.decideGate p c pulses each slotAt).emg = { s.emg with
      gated := s.emg.gatedAt slotAt ++ causes.map Prod.fst, decided := s.emg.coveredAt slotAt ++ fresh.map Prod.fst
      decidedFor := some slotAt, gateRaised := raised
      gatedPulses := wrap64 s.emg.gatedPulses (each * causes.length) } := by
  have hon : s.emissionOn = true := by simp [State.emissionOn, h]
  simp only [State.decideGate, hon, Bool.not_true, Bool.false_eq_true, if_false]
  split
  · exact ⟨true, State.raise_emg _ _ _ _⟩
  · exact ⟨_, rfl⟩

/-- Settles O25: the decision reads the ledger once for every port not covered yet, and counts a gated port's pulses. -/
theorem theGateHoldsTheLimits : Obligations.TheGateHoldsTheLimits := by
  unfold Obligations.TheGateHoldsTheLimits
  intro s p c each slotAt pulses harmed
  obtain ⟨raised, hu⟩ := State.decideGate_emg harmed p c pulses each slotAt
  simp only [hu, harmed, true_and]
  constructor
  · intro hnew
    have hcovered : s.emg.coveredAt slotAt = [] := if_neg (by simpa using hnew)
    have hgated : s.emg.gatedAt slotAt = [] := if_neg (by simpa using hnew)
    have hfresh : (pulses.filter fun x => !([] : List Nat).contains x.1) = pulses := List.filter_eq_self.2 fun _ _ => rfl
    simp only [hcovered, hgated, hfresh, List.nil_append, List.length_map, and_true]
    exact mem_gateCauses_ports _ p c pulses
  · intro hold hall
    have hcovered : s.emg.coveredAt slotAt = s.emg.decided := if_pos (by simpa using hold)
    have hgated : s.emg.gatedAt slotAt = s.emg.gated := if_pos (by simpa using hold)
    have hfresh : (pulses.filter fun x => !s.emg.decided.contains x.1) = [] := by
      simpa [List.filter_eq_nil_iff] using hall
    rw [hcovered, hgated, hfresh]
    simp [gateCauses, wrap64]

end Sys2Proof.Machine
end

section
/-!
SUPPORT. Read items and value items on the wire: an item at the front of a payload is parsed back as it was written, and the
rest after it (00 R13; 02 R39, R41 to R44).
-/

namespace Sys2Proof.Machine

/-! ### Little-endian fields of a concrete prefix (00 R13) -/

/-- `n` bytes read back what fits them: the value modulo 256 ^ n. -/
theorem ofLe_le_mod (n v : Nat) : ofLe (le n v) = v % 256 ^ n := by
  induction n generalizing v with
  | zero => exact (Nat.mod_one v).symm
  | succ n ih =>
    simp only [le, ofLe, ih, BitVec.toNat_ofNat, Nat.pow_succ, Nat.mul_comm (256 ^ n) 256]
    exact Nat.mod_mul.symm

theorem ofLe_le_of_lt {n v : Nat} (h : v < 256 ^ n) : ofLe (le n v) = v :=
  (ofLe_le_mod n v).trans (Nat.mod_eq_of_lt h)

/-- Index and SubIndex on the wire name the key again (02 R41, R43). -/
theorem ofLe_key {key : Nat} (h : key < 2 ^ 24) : ofLe (le 2 (key / 256)) * 256 + ofLe (le 1 key) = key := by
  rw [ofLe_le_of_lt (by omega), ofLe_le_mod]
  omega

/-! ### Read items and value items (02 R41 to R44) -/

theorem ReadItem.length_bytes (r : ReadItem) : r.bytes.length = 8 := rfl

/-- An item at the front of a payload is parsed, and the rest after it. -/
theorem parseReads_item {r : ReadItem} (hkey : r.key < 2 ^ 24) (hoffset : r.offset < 2 ^ 32) (n : Nat) (rest : List Byte) :
    parseReads (n + 1) (r.bytes ++ rest) = (parseReads n rest).map (r :: ·) := by
  have hlen : ¬ (r.bytes ++ rest).length < 8 := by
    rw [List.length_append, r.length_bytes]
    omega
  have hk : itemKey (r.bytes ++ rest) = r.key := ofLe_key hkey
  have ho : uAt (r.bytes ++ rest) 4 4 = r.offset := ofLe_le_of_lt (n := 4) hoffset
  have hrest : (r.bytes ++ rest).drop 8 = rest := rfl
  rw [parseReads, if_neg hlen, hrest, hk, ho]
  cases parseReads n rest <;> rfl

theorem parseReads_bytes (l : List ReadItem) (h : ∀ r ∈ l, r.key < 2 ^ 24 ∧ r.offset < 2 ^ 32) :
    parseReads l.length (l.flatMap ReadItem.bytes) = some l := by
  induction l with
  | nil => rfl
  | cons r l ih =>
    obtain ⟨hkey, hoffset⟩ := h r List.mem_cons_self
    rw [List.flatMap_cons, List.length_cons, parseReads_item hkey hoffset, ih fun x hx => h x (List.mem_cons_of_mem r hx)]
    rfl

theorem ValueItem.length_bytes (v : ValueItem) : v.bytes.length = 10 + v.value.length :=
  Nat.add_comm v.value.length 10

/-- An item at the front of a payload is parsed, and the rest after it. -/
theorem parseValues_item {v : ValueItem} (hkey : v.key < 2 ^ 24) (htype : v.type < 2 ^ 8) (hoffset : v.offset < 2 ^ 32)
    (hvalue : v.value.length < 2 ^ 16) (n : Nat) (rest : List Byte) :
    parseValues (n + 1) (v.bytes ++ rest) = (parseValues n rest).map (v :: ·) := by
  have hsize : uAt (v.bytes ++ rest) 8 2 = v.value.length := ofLe_le_of_lt (n := 2) hvalue
  have hlen : ¬ (v.bytes ++ rest).length < 10 + v.value.length := by
    rw [List.length_append, v.length_bytes]
    omega
  have hk : itemKey (v.bytes ++ rest) = v.key := ofLe_key hkey
  have ht : uAt (v.bytes ++ rest) 3 1 = v.type := ofLe_le_of_lt (n := 1) htype
  have ho : uAt (v.bytes ++ rest) 4 4 = v.offset := ofLe_le_of_lt (n := 4) hoffset
  have hv : ((v.bytes ++ rest).drop 10).take v.value.length = v.value := List.take_left
  have hrest : (v.bytes ++ rest).drop (10 + v.value.length) = rest := List.drop_left' v.length_bytes
  simp only [parseValues, hsize, hlen, if_false, hrest, hk, ht, ho, hv]
  cases parseValues n rest <;> rfl

theorem parseValues_bytes (l : List ValueItem)
    (h : ∀ v ∈ l, v.key < 2 ^ 24 ∧ v.type < 2 ^ 8 ∧ v.offset < 2 ^ 32 ∧ v.value.length < 2 ^ 16) :
    parseValues l.length (l.flatMap ValueItem.bytes) = some l := by
  induction l with
  | nil => rfl
  | cons v l ih =>
    obtain ⟨hkey, htype, hoffset, hvalue⟩ := h v List.mem_cons_self
    rw [List.flatMap_cons, List.length_cons, parseValues_item hkey htype hoffset hvalue,
      ih fun x hx => h x (List.mem_cons_of_mem v hx)]
    rfl

/-- Settles O7: the header field by field; the items by induction on their list, each parsed from the front. -/
theorem kppMessagesReadBackAsWritten : Obligations.KppMessagesReadBackAsWritten := by
  unfold Obligations.KppMessagesReadBackAsWritten
  exact ⟨KppMsg.ofBytes_bytes, parseReads_bytes, parseValues_bytes⟩

end Sys2Proof.Machine
end

section
/-!
SUPPORT. A message cut into CAN FD segments and put together again, and what the commands on short messages and segments do
(02 R36 to R40).
-/

namespace Sys2Proof.Machine

/-! ### The effect of a command and its answer -/

/-- A command of the main domain gives what holds of every state in which only what its effect changes has changed, and the
units outside its frame are as the effect left them. -/
theorem gives_of_effect {i : Instr} {t : Nat} {fr l : List UnitId} {f : State → State} {s a : State} {P : State → Prop}
    (he : exec i s = runMain t fr f s) (hm : s.mainOn = true) (ha : f (s.atTime t) = a) (hl : OnlyChanges l (s.atTime t) a)
    (hp : ∀ u, OnlyChanges l s u → Leaves fr a u → P u) : Gives i s P := by
  subst ha
  exact gives_main he hm (hp _ (OnlyChanges.of_effect hl) (Leaves.of_keepAll _ _ _ _ _))

/-- A command of the main domain without an effect changes nothing. -/
theorem gives_unchanged {i : Instr} {t : Nat} {fr : List UnitId} {f : State → State} {s : State}
    (he : exec i s = runMain t fr f s) (hm : s.mainOn = true) (ha : f (s.atTime t) = s.atTime t) :
    Gives i s fun u => OnlyChanges [] s u :=
  gives_of_effect he hm ha (OnlyChanges.refl [] _) fun _ hl _ => hl

/-! ### The segments of a message (02 R37) -/

/-- A CAN FD data length holds what it is for, and no more than 64 bytes. -/
theorem canLength_bounds {n : Nat} (h : n ≤ 64) : n ≤ canLength n ∧ canLength n ≤ 64 := by
  unfold canLength
  split_ifs <;> omega

theorem canSegmentsFrom_ne_nil {fuel : Nat} (hf : fuel ≠ 0) (k : Nat) (bs : List Byte) : canSegmentsFrom fuel k bs ≠ [] := by
  obtain ⟨fuel, rfl⟩ := Nat.exists_eq_succ_of_ne_zero hf
  rw [canSegmentsFrom]
  dsimp only
  split <;> exact List.cons_ne_nil _ _

section Segments
variable {fuel k : Nat} {bs : List Byte}

/-- What fits one segment is the last one, padded. -/
theorem canSegmentsFrom_last (h : bs.length ≤ 63) :
    canSegmentsFrom (fuel + 1) k bs =
      [BitVec.ofNat 8 ((if k = 0 then 128 else 0) + 64 + k) :: bs ++
        List.replicate (canLength (bs.length + 1) - (bs.length + 1)) 0] := by
  simp [canSegmentsFrom, h]

/-- What does not begins with 63 bytes of it, and there is a segment after them. -/
theorem canSegmentsFrom_more (h : ¬ bs.length ≤ 63) :
    canSegmentsFrom (fuel + 1) k bs =
      (BitVec.ofNat 8 ((if k = 0 then 128 else 0) + k) :: bs.take 63) :: canSegmentsFrom fuel (k + 1) (bs.drop 63) := by
  simp only [canSegmentsFrom, h, if_false]

end Segments

/-- The bytes after the first of each segment are the message and its padding. -/
theorem flatMap_tail_canSegmentsFrom (fuel k : Nat) (bs : List Byte) (hf : fuel ≠ 0) (hlen : bs.length ≤ 63 * fuel) :
    ∃ pad, (canSegmentsFrom fuel k bs).flatMap List.tail = bs ++ pad := by
  induction fuel generalizing k bs with
  | zero => exact absurd rfl hf
  | succ fuel ih =>
    by_cases h : bs.length ≤ 63
    · exact ⟨_, by rw [canSegmentsFrom_last h, List.flatMap_singleton, List.cons_append, List.tail_cons]⟩
    · obtain ⟨pad, hpad⟩ := ih (k + 1) (bs.drop 63) (by omega) (by rw [List.length_drop]; omega)
      refine ⟨pad, ?_⟩
      rw [canSegmentsFrom_more h, List.flatMap_cons, hpad, List.tail_cons, ← List.append_assoc, List.take_append_drop]

/-- The first byte of each segment: first of the message, last of it, and its counter. -/
theorem head?_getD_canSegmentsFrom (fuel k : Nat) (bs : List Byte) (hf : fuel ≠ 0) (hlen : bs.length ≤ 63 * fuel) {i : Nat}
    (hi : i < (canSegmentsFrom fuel k bs).length) :
    ((canSegmentsFrom fuel k bs).getD i []).head? =
      some (BitVec.ofNat 8 ((if k + i = 0 then 128 else 0) +
        (if i + 1 = (canSegmentsFrom fuel k bs).length then 64 else 0) + (k + i))) := by
  induction fuel generalizing k bs i with
  | zero => exact absurd rfl hf
  | succ fuel ih =>
    by_cases h : bs.length ≤ 63
    · rw [canSegmentsFrom_last h] at hi ⊢
      obtain rfl : i = 0 := Nat.lt_one_iff.mp hi
      rfl
    · have hrest : (bs.drop 63).length ≤ 63 * fuel := by
        rw [List.length_drop]
        omega
      rw [canSegmentsFrom_more h] at hi ⊢
      cases i with
      | zero =>
        have hpos := List.length_pos_iff.mpr (canSegmentsFrom_ne_nil (fuel := fuel) (by omega) (k + 1) (bs.drop 63))
        have hmore : ¬ 0 + 1 = (canSegmentsFrom fuel (k + 1) (bs.drop 63)).length + 1 := by omega
        simp only [List.length_cons, hmore, if_false, Nat.add_zero]
        rfl
      | succ i =>
        rw [List.getD_cons_succ, ih (k + 1) _ (by omega) hrest (Nat.lt_of_succ_lt_succ hi), List.length_cons,
          Nat.add_right_comm k 1 i, Nat.add_assoc k i 1]
        simp only [Nat.add_right_cancel_iff]

/-- A segment is a frame of 1 to 64 bytes. -/
theorem length_of_mem_canSegmentsFrom (fuel k : Nat) (bs seg : List Byte) (hs : seg ∈ canSegmentsFrom fuel k bs) :
    1 ≤ seg.length ∧ seg.length ≤ 64 := by
  induction fuel generalizing k bs with
  | zero => cases hs
  | succ fuel ih =>
    by_cases h : bs.length ≤ 63
    · rw [canSegmentsFrom_last h, List.mem_singleton] at hs
      have hl := canLength_bounds (n := bs.length + 1) (by omega)
      rw [hs, List.length_append, List.length_cons, List.length_replicate]
      omega
    · rw [canSegmentsFrom_more h, List.mem_cons] at hs
      obtain rfl | hs := hs
      · rw [List.length_cons, List.length_take]
        omega
      · exact ih _ _ hs

/-! ### The message put together again -/

/-- A field that lies within a prefix does not see what follows it. -/
theorem uAt_append {a : List Byte} (b : List Byte) {o n : Nat} (h : o + n ≤ a.length) : uAt (a ++ b) o n = uAt a o n := by
  unfold uAt bytesAt
  rw [List.drop_append_of_le_length (by omega), List.take_append_of_le_length (by rw [List.length_drop]; omega)]

/-- The padding after a message is cut away: its header gives its length. -/
theorem cutMessage_append {bs : List Byte} (pad : List Byte) (h12 : 12 ≤ bs.length) (hlen : bs.length = 12 + uAt bs 8 2) :
    cutMessage (bs ++ pad) = bs := by
  have hlong : ¬ (bs ++ pad).length < 12 := by
    rw [List.length_append]
    omega
  rw [cutMessage, if_neg hlong, uAt_append pad (by omega), ← hlen, List.take_left]

theorem canSegments_message {bs : List Byte} (h12 : 12 ≤ bs.length) (hmax : bs.length ≤ 2048)
    (hlen : bs.length = 12 + uAt bs 8 2) : cutMessage ((canSegments bs).flatMap List.tail) = bs := by
  obtain ⟨pad, hpad⟩ := flatMap_tail_canSegmentsFrom 34 0 bs (by decide) (by omega)
  rw [canSegments, hpad, cutMessage_append pad h12 hlen]

theorem canSegments_head {bs : List Byte} (hmax : bs.length ≤ 2048) {i : Nat} (hi : i < (canSegments bs).length) :
    ((canSegments bs).getD i []).head? =
      some (BitVec.ofNat 8 ((if i = 0 then 128 else 0) + (if i + 1 = (canSegments bs).length then 64 else 0) + i)) := by
  have hhead := head?_getD_canSegmentsFrom 34 0 bs (by decide) (by omega) hi
  simp only [Nat.zero_add] at hhead
  exact hhead

/-! ### The commands (02 R36 to R40) -/

theorem State.countMalformed_touches (s : State) : OnlyChanges [.kpp] s s.countMalformed := State.kpp_touches s _

/-- A message shorter than the header is counted, whether a unit acts or not. -/
theorem State.kppArrive_short (s : State) {a : BitVec 32} {p : BitVec 16} {bs : List Byte} (h : bs.length < 12)
    (choice : BitVec 16) : s.kppArrive (.udp a p) bs choice = s.countMalformed := by
  simp [State.kppArrive, isCan, State.arrive, h]

theorem shortMessage_counted {s : State} (t : Nat) (a : BitVec 32) (p : BitVec 16) {bs : List Byte} (hm : s.mainOn = true)
    (h : bs.length < 12) :
    Gives (.shortMessage t (.udp a p) bs) s fun u => OnlyChanges [.kpp] s u ∧ u.out = [] ∧
      u.kpp = { s.kpp with malformed := sat32 s.kpp.malformed } := by
  refine gives_of_effect (exec_shortMessage s) hm (State.kppArrive_short _ h 0) (State.countMalformed_touches _) ?_
  rintro u hl ⟨hout, hunits, -⟩
  exact ⟨hl, hout, (hunits .kpp (by decide)).symm⟩

/-- With no message partly received no gap is open. -/
theorem State.canLate_of_none {s : State} (h : s.kpp.can = none) : s.canLate = false := by
  rw [State.canLate, h]

theorem State.discardCan_of_none {s : State} (h : s.kpp.can = none) : s.discardCan = s := by
  rw [State.discardCan, h]

/-- A first segment that is not the last starts an assembly. -/
theorem State.canSegment_first {s : State} {bs : List Byte} (h : s.kpp.can = none) (hlen : bs.length ≤ 63) :
    s.canSegment (0x80 :: bs) =
      { s with kpp := { s.kpp with can := some { bytes := bs, next := 1, lastAt := s.now } } } := by
  have hfirst : bitOf (0x80 : Byte).toNat 7 = true ∧ bitOf (0x80 : Byte).toNat 6 = false ∧ field (0x80 : Byte).toNat 5 0 = 0 := by
    decide
  have hroom : ¬ 2048 < bs.length := by omega
  simp only [State.canSegment, hfirst, State.canLate_of_none h, State.discardCan_of_none h, State.canBytes, List.nil_append,
    hroom, Bool.false_eq_true, if_true, if_false]

theorem canSegmentReceive_starts {s : State} {t id : Nat} {x : Bool} {bs : List Byte} (hm : s.mainOn = true)
    (hon : s.canOn = true) (hlen : bs.length ≤ 63) (hid : (x, id) = s.canRequestId) (hcan : s.kpp.can = none) :
    Gives (.canSegmentReceive t { extended := x, id, data := 0x80 :: bs }) s fun u =>
      OnlyChanges [.kpp] s u ∧ u.kpp = { s.kpp with can := some { bytes := bs, next := 1, lastAt := max s.now t } } := by
  have hours : ((s.atTime t).canOn && (x, id) == (s.atTime t).canRequestId) = true := by
    rw [show (s.atTime t).canOn = true from hon, Bool.true_and, beq_iff_eq]
    exact hid
  refine gives_of_effect (exec_canSegmentReceive s) hm
    ((if_pos hours).trans (State.canSegment_first (s := s.atTime t) hcan hlen)) (State.kpp_touches _ _) ?_
  rintro u hl ⟨-, hunits, -⟩
  exact ⟨hl, (hunits .kpp (by decide)).symm⟩

/-- A frame on another identifier is no segment for this part (02 R36). -/
theorem canSegmentReceive_other {s : State} {t id : Nat} {x : Bool} {data : List Byte} (hm : s.mainOn = true)
    (hid : (x, id) ≠ s.canRequestId) :
    Gives (.canSegmentReceive t { extended := x, id, data }) s fun u => OnlyChanges [] s u := by
  have hother : ¬ ((s.atTime t).canOn && (x, id) == (s.atTime t).canRequestId) = true := by
    rw [Bool.and_eq_true, beq_iff_eq]
    exact fun h => hid h.2
  exact gives_unchanged (exec_canSegmentReceive s) hm (if_neg hother)

/-- A message partly received is discarded and counted once its gap has passed. -/
theorem State.canTimeout_late {s : State} {a : CanAsm} (hcan : s.kpp.can = some a)
    (hlate : 1000000 * s.regN 0x110003 < s.now - a.lastAt) :
    s.canTimeout = { s with kpp := { s.kpp with can := none, malformed := sat32 s.kpp.malformed } } := by
  have hcl : s.canLate = true := by
    rw [State.canLate, hcan]
    exact decide_eq_true hlate
  rw [State.canTimeout, if_pos hcl, State.discardCan, hcan]
  rfl

theorem canSegmentTimeout_discards {s : State} {t : Nat} {a : CanAsm} (hm : s.mainOn = true) (hcan : s.kpp.can = some a)
    (hlate : 1000000 * s.regN 0x110003 < max s.now t - a.lastAt) :
    Gives (.canSegmentTimeout t) s fun u => OnlyChanges [.kpp] s u ∧
      u.kpp = { s.kpp with can := none, malformed := sat32 s.kpp.malformed } := by
  refine gives_of_effect (exec_canSegmentTimeout s) hm (State.canTimeout_late (s := s.atTime t) hcan hlate)
    (State.kpp_touches _ _) ?_
  rintro u hl ⟨-, hunits, -⟩
  exact ⟨hl, (hunits .kpp (by decide)).symm⟩

/-- Settles O8: the segments by induction on the fuel of the cut; each command is the branch its premises name. -/
theorem segmentsAndShortMessages : Obligations.SegmentsAndShortMessages := by
  unfold Obligations.SegmentsAndShortMessages
  refine ⟨fun bs h12 hmax hlen => ⟨canSegments_message h12 hmax hlen, fun i => canSegments_head hmax,
    fun seg => length_of_mem_canSegmentsFrom 34 0 bs seg⟩, fun s t a p bs hm _ _ => shortMessage_counted t a p hm, ?_, ?_⟩
  · exact fun s t id x bs hm hon hlen =>
      ⟨canSegmentReceive_starts hm hon hlen, canSegmentReceive_other hm⟩
  · exact fun s t a => canSegmentTimeout_discards

end Sys2Proof.Machine
end

section
/-!
SUPPORT. A request that reaches the active unit whole: dropped where it is addressed to another part, else performed; what
BEGIN, COMMIT, ROLLBACK, a subscription and a READ of one object do then (02 R39 to R60).
-/

namespace Sys2Proof.Machine

/-! ### A request that is dropped (02 R39) -/

theorem KppMsg.length_bytes (op : Byte) (m : KppMsg) : (KppMsg.bytes m op).length = 12 + m.payload.length :=
  Nat.add_comm m.payload.length 12

/-- A request of 12 or more bytes that the active unit can take now is executed. -/
theorem State.arrive_acts {s : State} {ep : Endpoint} {bytes : List Byte} (choice : BitVec 16) (hacts : s.unitActs = true)
    (hidle : s.txn.state ≠ .validating) (h12 : 12 ≤ bytes.length) :
    s.arrive ep bytes choice = s.execute ep bytes choice := by
  simp [State.arrive, Nat.not_lt.mpr h12, hacts, hidle]

/-- So is one of an endpoint of either transport; over CAN FD with no message partly received. -/
theorem State.kppArrive_acts {s : State} {ep : Endpoint} {bytes : List Byte} (choice : BitVec 16) (hacts : s.unitActs = true)
    (hidle : s.txn.state ≠ .validating) (h12 : 12 ≤ bytes.length)
    (hcan : ep = .can → s.canOn = true ∧ s.kpp.can = none ∧ bytes.length ≤ 2048) :
    s.kppArrive ep bytes choice = s.execute ep bytes choice := by
  cases ep with
  | udp a p => exact State.arrive_acts choice hacts hidle h12
  | can =>
    obtain ⟨hon, hnone, hlen⟩ := hcan rfl
    simp only [State.kppArrive, isCan, hon, Nat.not_lt.mpr hlen, State.discardCan_of_none hnone, Bool.not_true,
      Bool.false_eq_true, if_false]
    exact State.arrive_acts choice hacts hidle h12

/-- A request for another device number is counted and nothing else, whatever it asks. -/
theorem State.execute_misaddressed {s : State} {ep : Endpoint} {op : Byte} {m : KppMsg} (choice : BitVec 16)
    (hdev : m.device.toNat % 512 ≠ s.part.device) :
    s.execute ep (KppMsg.bytes m op) choice = { s with kpp := { s.kpp with misaddressed := sat32 s.kpp.misaddressed } } := by
  have hlen : ¬ (KppMsg.bytes m op).length < 12 := Nat.not_lt.mpr (KppMsg.twelve_le_length_bytes op m)
  simp only [State.execute, hlen, KppMsg.ofBytes_bytes, hdev, ne_eq, not_false_eq_true, if_true, if_false]

/-- Any command that brings in a request addressed to another part, whatever its opcode. -/
theorem gives_misaddressed {i : Instr} {s : State} {t : Nat} {fr : List UnitId} {ep : Endpoint} {op : Byte} {m : KppMsg}
    {choice : BitVec 16} (he : exec i s = runMain t fr (fun s => s.kppArrive ep (KppMsg.bytes m op) choice) s)
    (hfr : .kpp ∉ fr) (hm : s.mainOn = true) (hacts : s.unitActs = true) (hidle : s.txn.state ≠ .validating)
    (hcan : ep = .can → s.canOn = true ∧ s.kpp.can = none ∧ m.payload.length ≤ 2036)
    (hdev : m.device.toNat % 512 ≠ s.part.device) :
    Gives i s fun u => OnlyChanges [.kpp] s u ∧ u.out = [] ∧
      u.kpp = { s.kpp with misaddressed := sat32 s.kpp.misaddressed } := by
  have hwhole : ep = .can →
      (s.atTime t).canOn = true ∧ (s.atTime t).kpp.can = none ∧ (KppMsg.bytes m op).length ≤ 2048 := fun hep => by
    obtain ⟨hon, hnone, hlen⟩ := hcan hep
    exact ⟨hon, hnone, by rw [KppMsg.length_bytes]; omega⟩
  refine gives_of_effect he hm ((State.kppArrive_acts (s := s.atTime t) choice hacts hidle
    (KppMsg.twelve_le_length_bytes op m) hwhole).trans (State.execute_misaddressed (s := s.atTime t) choice hdev))
    (State.kpp_touches _ _) ?_
  rintro u hl ⟨hout, hunits, -⟩
  exact ⟨hl, hout, (hunits .kpp hfr).symm⟩

/-- Settles O9: every opcode arrives the same way, and its device number is looked at first. -/
theorem misaddressedRequestsAreDropped : Obligations.MisaddressedRequestsAreDropped := by
  unfold Obligations.MisaddressedRequestsAreDropped
  intro s t ep m choice hm hacts hidle hcan hdev
  exact ⟨gives_misaddressed (exec_kppRead s) (by decide) hm hacts hidle hcan hdev,
    gives_misaddressed (exec_kppWrite s) (by decide) hm hacts hidle hcan hdev,
    gives_misaddressed (exec_kppReadStaged s) (by decide) hm hacts hidle hcan hdev,
    gives_misaddressed (exec_kppBegin s) (by decide) hm hacts hidle hcan hdev,
    gives_misaddressed (exec_kppCommit s) (by decide) hm hacts hidle hcan hdev,
    gives_misaddressed (exec_kppRollback s) (by decide) hm hacts hidle hcan hdev,
    gives_misaddressed (exec_kppSubscribe s) (by decide) hm hacts hidle hcan hdev,
    gives_misaddressed (exec_kppUnsubscribe s) (by decide) hm hacts hidle hcan hdev⟩

/-! ### A request that is performed (02 R46, R47) -/

/-- A response is sent and kept: the event destinations are as they were. -/
@[simp] theorem State.respond_dests (s : State) (ep : Endpoint) (op : Byte) (seq : BitVec 16) (resp : List Byte) :
    (s.respond ep op seq resp).kpp.dests = s.kpp.dests := by
  have hsent : s.kpp = (s.sendKpp ep resp).kpp := (State.sendKpp_touches s ep resp).2 .kpp List.not_mem_nil
  rw [hsent]
  rfl

/-- A command that brings in a request the active unit takes, with `w` the state it has performed it in and `resp` its
answer: the answer alone is sent and kept. -/
theorem gives_answered {i : Instr} {s w : State} {t : Nat} {fr l : List UnitId} {ep : Endpoint} {op : Byte} {m : KppMsg}
    {choice : BitVec 16} {r : Request} {resp : List Byte} {P : State → Prop}
    (he : exec i s = runMain t fr (fun s => s.kppArrive ep (KppMsg.bytes m op) choice) s)
    (ht : s.Takes ep op m) (hr : requestOf ep op m = some r)
    (hw : (s.atTime t).perform ep op m (KppMsg.bytes m op) choice r = w.respond ep op m.seq resp)
    (hl : OnlyChanges l (s.atTime t) w) (hkpp : .kpp ∈ l) (hfr : .kpp ∉ fr) (hout : w.out = [])
    (hp : ∀ u, OnlyChanges l s u → (∀ x, x ∉ fr → x ≠ .kpp → sameUnit w u x) → u.kpp.dests = w.kpp.dests →
      u.out = [.kpp ep resp] → P u) :
    Gives i s P := by
  have hsent : (w.respond ep op m.seq resp).out = [.kpp ep resp] := by
    obtain ⟨-, -, -, ⟨a, p, rfl⟩, -⟩ := ht
    exact congrArg (· ++ [Output.kpp (.udp a p) resp]) hout
  have hanswer := State.respond_touches w ep op m.seq resp
  refine gives_of_effect he ht.1 ((State.kppArrive_takes choice (State.takes_atTime t ht) hr).trans hw)
    (hl.trans (hanswer.mono fun x hx => List.mem_singleton.mp hx ▸ hkpp)) ?_
  rintro u hu ⟨hsame, hunits, -⟩
  refine hp u hu (fun x hx hne => ?_) ?_ (hsame.trans hsent)
  · exact sameUnit_trans (hanswer.2 x (List.mem_singleton.not.mpr hne)) (hunits x hx)
  · exact (congrArg Kpp.dests (hunits .kpp hfr)).symm.trans (State.respond_dests w ep op m.seq resp)

theorem State.perform_read (s : State) (ep : Endpoint) (op : Byte) (m : KppMsg) (bytes : List Byte) (choice : BitVec 16)
    (staged : Bool) (items : List ReadItem) :
    s.perform ep op m bytes choice (.read staged items) = (s.taking m).doRead ep op m staged items := by
  have hr : (Request.read staged items != .begin_) = true := rfl
  simp only [State.perform, State.taking, hr, Bool.and_true]

theorem State.perform_commit (s : State) (ep : Endpoint) (op : Byte) (m : KppMsg) (bytes : List Byte) (choice : BitVec 16) :
    s.perform ep op m bytes choice .commit = (s.taking m).doCommit ep m bytes := by
  have hr : (Request.commit != .begin_) = true := rfl
  simp only [State.perform, State.taking, hr, Bool.and_true]

theorem State.perform_rollback (s : State) (ep : Endpoint) (op : Byte) (m : KppMsg) (bytes : List Byte) (choice : BitVec 16) :
    s.perform ep op m bytes choice .rollback = (s.taking m).doRollback ep m := by
  have hr : (Request.rollback != .begin_) = true := rfl
  simp only [State.perform, State.taking, hr, Bool.and_true]

/-- BEGIN leaves the idle timer of an open transaction alone. -/
theorem State.perform_begin {s : State} (ep : Endpoint) (op : Byte) (m : KppMsg) (bytes : List Byte) (choice : BitVec 16)
    (hidle : s.txn.state = .idle) :
    s.perform ep op m bytes choice .begin_ =
      ({ s with txn := (s.txn.begin_ choice s.now).2.2 } : State).respond ep op m.seq
        (s.response op m (s.txn.newHandle choice) stOk 0 []) := by
  have hr : (Request.begin_ != .begin_) = false := rfl
  have hopen : ¬ s.txn.state ≠ .idle := fun h => h hidle
  simp only [State.perform, hr, Bool.and_false, Bool.false_eq_true, if_false, Txn.begin_, hopen, if_true]

/-! ### BEGIN, COMMIT, ROLLBACK and the idle expiry (02 R49 to R55) -/

theorem Txn.newHandle_fresh (x : Txn) (choice : BitVec 16) : x.newHandle choice ≠ 0 ∧ x.newHandle choice ≠ x.handle := by
  unfold Txn.newHandle
  split_ifs with hc h1
  · exact hc
  · rw [h1]
    decide
  · exact ⟨by decide, Ne.symm h1⟩

theorem kppBegin_opens {s : State} {t : Nat} {ep : Endpoint} {m : KppMsg} {choice : BitVec 16} (ht : s.Takes ep opBegin m)
    (hr : requestOf ep opBegin m = some .begin_) (hidle : s.txn.state = .idle) :
    Gives (.kppBegin t ep m choice) s fun u => OnlyChanges [.kpp, .txn] s u ∧ u.txn.state = .opened ∧
      u.txn.handle ≠ 0 ∧ u.txn.handle ≠ s.txn.handle ∧ u.txn.staged = [] ∧
      u.txn.deadline = max s.now t + 5000000000 ∧
      u.out = [.kpp ep (kppBytes opBegin m.seq u.txn.handle 0 0 s.part.device [])] := by
  have hbegun : (s.txn.begin_ choice (max s.now t)).2.2 =
      ({ s.txn with state := .opened, handle := s.txn.newHandle choice, lastLost := none, staged := [], extents := [] } :
        Txn).restart (max s.now t) := by
    rw [Txn.begin_, if_neg fun h => h hidle]
  refine gives_answered (l := [.kpp, .txn]) (exec_kppBegin s) ht hr
    (State.perform_begin (s := s.atTime t) ep opBegin m _ choice hidle)
    ((State.txn_touches _ _).mono (by decide)) (by decide) (by decide) rfl ?_
  rintro u hl hunits - hout
  have htxn : (s.txn.begin_ choice (max s.now t)).2.2 = u.txn := hunits .txn (by decide) (by decide)
  rw [hbegun] at htxn
  obtain ⟨hzero, hother⟩ := Txn.newHandle_fresh s.txn choice
  rw [hout, ← htxn]
  exact ⟨hl, rfl, hzero, hother, rfl, rfl, rfl⟩

theorem kppCommit_validates {s : State} {t : Nat} {ep : Endpoint} {m : KppMsg} (ht : s.Takes ep opCommit m)
    (hr : requestOf ep opCommit m = some .commit) (hh : s.txn.holds m.handle = true) (hroom : s.txn.pending.length < 2) :
    Gives (.kppCommit t ep m) s fun u => OnlyChanges [.txn] s u ∧ u.txn.state = .validating ∧
      u.txn.validating = some (ep, KppMsg.bytes m opCommit) ∧ u.txn.staged = s.txn.staged ∧ u.out = [] := by
  have hstart : (s.atTime t).kppArrive ep (KppMsg.bytes m opCommit) 0 =
      { s.atTime t with txn := { s.txn.restart (max s.now t) with
          state := .validating, validating := some (ep, KppMsg.bytes m opCommit) } } := by
    have hfree : ¬ 2 ≤ (s.txn.restart (max s.now t)).pending.length := Nat.not_le.mpr hroom
    have hholds : (s.txn.restart (max s.now t)).holds m.handle = true := hh
    rw [State.kppArrive_takes 0 (State.takes_atTime t ht) hr, State.perform_commit, State.taking_of_holds (s := s.atTime t) hh]
    exact (if_pos hholds).trans (if_neg hfree)
  refine gives_of_effect (exec_kppCommit s) ht.1 hstart (State.txn_touches _ _) ?_
  rintro u hl ⟨hout, hunits, -⟩
  rw [← show _ = u.txn from hunits .txn (by decide)]
  exact ⟨hl, rfl, rfl, rfl, hout⟩

theorem kppRollback_closes {s : State} {t : Nat} {ep : Endpoint} {m : KppMsg} (ht : s.Takes ep opRollback m)
    (hr : requestOf ep opRollback m = some .rollback) (hh : s.txn.holds m.handle = true) :
    Gives (.kppRollback t ep m) s fun u => OnlyChanges [.kpp, .txn] s u ∧ u.txn.state = .idle ∧ u.txn.staged = [] ∧
      u.out = [.kpp ep (kppBytes opRollback m.seq m.handle 0 0 s.part.device [])] := by
  have hclose : (s.atTime t).perform ep opRollback m (KppMsg.bytes m opRollback) 0 .rollback =
      ({ s.atTime t with txn := (s.txn.restart (max s.now t)).closed } : State).respond ep opRollback m.seq
        (kppBytes opRollback m.seq m.handle 0 0 s.part.device []) := by
    have hholds : (s.txn.restart (max s.now t)).holds m.handle = true := hh
    rw [State.perform_rollback, State.taking_of_holds (s := s.atTime t) hh]
    exact if_pos hholds
  refine gives_answered (l := [.kpp, .txn]) (exec_kppRollback s) ht hr hclose
    ((State.txn_touches _ _).mono (by decide)) (by decide) (by decide) rfl ?_
  rintro u hl hunits - hout
  rw [← show _ = u.txn from hunits .txn (by decide) (by decide)]
  exact ⟨hl, rfl, rfl, hout⟩

theorem transactionExpiry_loses {s : State} {t : Nat} (hm : s.mainOn = true) (hacts : s.unitActs = true)
    (hopen : s.txn.state = .opened) (hdue : s.txn.deadline ≤ max s.now t) :
    Gives (.transactionExpiry t) s fun u => OnlyChanges [.txn] s u ∧ u.txn.state = .idle ∧ u.txn.staged = [] ∧
      u.txn.lastLost = some s.txn.handle ∧ u.txn.expiries = sat32 s.txn.expiries := by
  refine gives_of_effect (a := { s.atTime t with txn := s.txn.lost }) (exec_transactionExpiry s) hm
    (if_pos ⟨hopen, hdue, hacts⟩) (State.txn_touches _ _) ?_
  rintro u hl ⟨-, hunits, -⟩
  rw [← show _ = u.txn from hunits .txn (by decide)]
  exact ⟨hl, rfl, rfl, rfl, rfl⟩

/-- Settles O12: each command is the branch its premises name. -/
theorem transactionsOpenValidateAndClose : Obligations.TransactionsOpenValidateAndClose := by
  unfold Obligations.TransactionsOpenValidateAndClose
  exact ⟨fun s t ep m choice => kppBegin_opens, fun s t ep m => kppCommit_validates, fun s t ep m => kppRollback_closes,
    fun s t => transactionExpiry_loses⟩

/-! ### A read of one object (00 R5 to R7, R15; 02 R42, R52) -/

/-- An object of a fixed size that is present and may be read answers the value in force, whole. -/
theorem State.readItem_inForce {s : State} {i : ReadItem} {r : ObjRow} {n : Nat} (spare : Nat) (hr : objRow i.key = some r)
    (hu : absentUnit s.part.variant i.key = false) (hwo : r.access ≠ .wo) (hsize : r.type.size = some n) :
    s.readItem false spare i = (i.answer r.type.code (fit n 0 (s.readValue i.key r.access).1), spare,
      (s.readValue i.key r.access).2) := by
  simp [State.readItem, hr, hu, hwo, hsize]

/-- Under the open handle an RWT object that is staged answers the staged value, and reading it does nothing. -/
theorem State.readItem_staged {s : State} {i : ReadItem} {r : ObjRow} {n : Nat} {v : List Byte} (spare : Nat)
    (hr : objRow i.key = some r) (hu : absentUnit s.part.variant i.key = false) (ha : r.access = .rwt)
    (hsize : r.type.size = some n) (hv : mget s.txn.staged i.key = some v) :
    s.readItem true spare i = (i.answer r.type.code (fit n 0 v), spare, s) := by
  simp [State.readItem, hr, hu, ha, hsize, hv]

/-- A READ, or a READ_STAGED under the open handle, of one object that fits an answer over UDP. -/
theorem State.doRead_one {s : State} {a : BitVec 32} {p : BitVec 16} {op : Byte} {m : KppMsg} {staged : Bool} {i : ReadItem}
    {answer : List Byte} {w : State} {spare : Nat} (hh : staged = true → s.txn.holds m.handle = true)
    (hfits : i.minimum ≤ 1460) (hi : s.readItem staged (1460 - i.minimum) i = (answer, spare, w)) :
    s.doRead (.udp a p) op m staged [i] = w.respond (.udp a p) op m.seq (s.response op m m.handle stOk 1 answer) := by
  have hopen : (staged && !s.txn.holds m.handle) = false := by
    cases staged
    · rfl
    · rw [hh rfl]
      rfl
  have hleast : sumOf ([i].map ReadItem.minimum) = i.minimum := Nat.zero_add _
  have hroom : ¬ Endpoint.limit (.udp a p) - 12 < i.minimum := Nat.not_lt.mpr hfits
  simp only [State.doRead, hopen, hleast, hroom, State.readItems, List.append_nil, List.length_singleton, Bool.false_eq_true,
    if_false]
  rw [show Endpoint.limit (.udp a p) - 12 = 1460 from rfl, hi]

theorem ReadItem.minimum_fixed {i : ReadItem} {r : ObjRow} {n : Nat} (hr : objRow i.key = some r)
    (hsize : r.type.size = some n) : i.minimum = 10 + n := by
  simp [ReadItem.minimum, hr, hsize]

/-! A read sends nothing of its own. -/

@[simp] theorem State.degradedNow_out (s : State) (l : List Degraded) : (s.degradedNow l).out = s.out :=
  State.raiseIf_out _ _ _ _ _

@[simp] theorem State.degrade_out (s : State) (page cause : Nat) : (s.degrade page cause).out = s.out := by
  unfold State.degrade
  split <;> simp

@[simp] theorem State.hardFault_out (s : State) (line : Nat) : (s.hardFault line).out = s.out := by
  unfold State.hardFault
  split_ifs <;> simp

@[simp] theorem State.watchLine_out (s : State) (line : Nat) : (s.watchLine line).out = s.out := by
  unfold State.watchLine
  dsimp only
  split
  · split_ifs <;> simp
  · rfl

@[simp] theorem State.badLine_out (s : State) (line : Nat) : (s.badLine line).out = s.out := by
  simp [State.badLine]

@[simp] theorem State.fixedLine_out (s : State) (line : Nat) (back : List (Nat × List (Nat × Byte))) :
    (s.fixedLine line back).out = s.out := by
  simp [State.fixedLine]

theorem State.readLine_out (s : State) (user : MemUser) (line : Nat) (flips : List (Nat × BitVec 13)) :
    (s.readLine user line flips).2.2.out = s.out := by
  unfold State.readLine
  split
  · rfl
  split
  · rfl
  · dsimp only
    split_ifs <;> simp [State.moved]

theorem State.cellRecord_out (s : State) : s.cellRecord.2.2.out = s.out := by
  unfold State.cellRecord
  extract_lets sel p row col set inGrid
  split
  · rfl
  · exact State.readLine_out _ _ _ _

theorem State.rcClear_out (s : State) (key : Nat) : (s.rcClear key).out = s.out := by
  unfold State.rcClear
  split <;> rfl

theorem State.readValue_out (s : State) (key : Nat) (access : Access) : (s.readValue key access).2.out = s.out := by
  cases access with
  | rc => exact State.rcClear_out s key
  | ro =>
    simp only [State.readValue]
    split
    · exact State.cellRecord_out s
    · rfl
  | _ => rfl

theorem kppRead_one {s : State} {t n : Nat} {ep : Endpoint} {m : KppMsg} {i : ReadItem} {r : ObjRow}
    (ht : s.Takes ep opRead m) (hq : requestOf ep opRead m = some (.read false [i])) (hh : s.txn.holds m.handle = false)
    (hr : objRow i.key = some r) (hu : absentUnit s.part.variant i.key = false) (hwo : r.access ≠ .wo)
    (hsize : r.type.size = some n) (hn : n ≤ 1450) :
    Gives (.kppRead t ep m) s fun u =>
      u.out = [.kpp ep (kppBytes opRead m.seq m.handle 0 1 s.part.device
        (ValueItem.bytes { key := i.key, type := r.type.code, offset := i.offset
                           value := fit n 0 ((s.atTime t).readValue i.key r.access).1 }))] := by
  have hfits : i.minimum ≤ 1460 := by
    rw [ReadItem.minimum_fixed hr hsize]
    omega
  obtain ⟨a, p, rfl⟩ := ht.2.2.2.1
  refine gives_of_leaves (exec_kppRead s) ht.1 ?_
  rintro u - ⟨hout, -⟩
  rw [hout, State.kppArrive_takes 0 (State.takes_atTime t ht) hq, State.perform_read,
    State.taking_of_not_holds (s := s.atTime t) hh,
    State.doRead_one (by simp) hfits (State.readItem_inForce (s := s.atTime t) _ hr hu hwo hsize)]
  exact congrArg (· ++ _) (State.readValue_out _ _ _)

theorem kppReadStaged_one {s : State} {t n : Nat} {ep : Endpoint} {m : KppMsg} {i : ReadItem} {r : ObjRow} {v : List Byte}
    (ht : s.Takes ep opReadStaged m) (hq : requestOf ep opReadStaged m = some (.read true [i]))
    (hh : s.txn.holds m.handle = true) (hr : objRow i.key = some r) (hu : absentUnit s.part.variant i.key = false)
    (ha : r.access = .rwt) (hsize : r.type.size = some n) (hn : n ≤ 1450) (hv : mget s.txn.staged i.key = some v) :
    Gives (.kppReadStaged t ep m) s fun u => OnlyChanges [.kpp, .txn] s u ∧
      u.txn = { s.txn with deadline := max s.now t + 5000000000 } ∧
      u.out = [.kpp ep (kppBytes opReadStaged m.seq m.handle 0 1 s.part.device
        (ValueItem.bytes { key := i.key, type := r.type.code, offset := i.offset, value := fit n 0 v }))] := by
  have hfits : i.minimum ≤ 1460 := by
    rw [ReadItem.minimum_fixed hr hsize]
    omega
  have hread : (s.atTime t).perform ep opReadStaged m (KppMsg.bytes m opReadStaged) 0 (.read true [i]) =
      ({ s.atTime t with txn := s.txn.restart (max s.now t) } : State).respond ep opReadStaged m.seq
        (kppBytes opReadStaged m.seq m.handle 0 1 s.part.device (i.answer r.type.code (fit n 0 v))) := by
    obtain ⟨a, p, rfl⟩ := ht.2.2.2.1
    rw [State.perform_read, State.taking_of_holds (s := s.atTime t) hh]
    exact State.doRead_one (fun _ => hh) hfits (State.readItem_staged _ hr hu ha hsize hv)
  refine gives_answered (l := [.kpp, .txn]) (exec_kppReadStaged s) ht hq hread
    ((State.txn_touches _ _).mono (by decide)) (by decide) (by decide) rfl ?_
  rintro u hl hunits - hout
  exact ⟨hl, (hunits .txn (by decide) (by decide)).symm, hout⟩

/-- Settles O10: one item is answered from the value in force or from the staged one; reading sends nothing else. -/
theorem readsAnswerTheValue : Obligations.ReadsAnswerTheValue := by
  unfold Obligations.ReadsAnswerTheValue
  exact ⟨fun s t n ep m i r => kppRead_one, fun s t n ep m i r v => kppReadStaged_one⟩

end Sys2Proof.Machine
end

section
/-!
SUPPORT. The end of a validation: the verdict, its response, and what it makes of the transaction (02 R53 to R58).
-/

namespace Sys2Proof.Machine

/-! ### The response to the COMMIT and the requests that waited -/

@[simp] theorem State.respond_waiting (s : State) (ep : Endpoint) (op : Byte) (seq : BitVec 16) (resp : List Byte) :
    (s.respond ep op seq resp).kpp.waiting = s.kpp.waiting := by
  have hsent : s.kpp = (s.sendKpp ep resp).kpp := (State.sendKpp_touches s ep resp).2 .kpp List.not_mem_nil
  rw [hsent]
  rfl

theorem State.drain_nil (s : State) : s.drain [] = { s with kpp := { s.kpp with waiting := [] } } := rfl

/-- A validation ends with its verdict's answer where no request waits. -/
theorem State.validationDone_rejects {s : State} {ep : Endpoint} {req : List Byte} {reason key : Nat}
    (hacts : s.unitActs = true) (hstate : s.txn.state = .validating) (hval : s.txn.validating = some (ep, req))
    (hwait : s.kpp.waiting = []) (hv : validate s s.commitBase s.txn.staged = some (reason, key)) :
    s.validationDone = (s.rejectCommit ep req reason key).drain [] := by
  have hnone : (s.rejectCommit ep req reason key).kpp.waiting = [] := (State.respond_waiting _ _ _ _ _).trans hwait
  simp only [State.validationDone, hstate, hval, hacts, hv, hnone, Bool.not_true, Bool.false_eq_true, if_false]

/-! ### An accepted COMMIT (02 R57, R58) -/

theorem State.judgeSeam_out (s : State) : s.judgeSeam.out = s.out := by
  unfold State.judgeSeam
  split
  · rfl
  · split <;> rfl

/-- The commit that an acceptance with a plan in force queues. -/
def State.commitOf (s : State) (ep : Endpoint) (req : List Byte) (plan : Plan) : Commit :=
  let m := (KppMsg.ofBytes req).2
  let epoch := (s.txn.newest.map Commit.epoch).getD s.txn.epoch + 1
  { plan, epoch, firstFrame := s.firstFrame, ep, req
    resp := s.response 0x11 m m.handle stOk 0 (commitBytes epoch s.firstFrame (warningOf plan)) }

/-- The state with that commit queued and the transaction closed. -/
def State.queueCommit (s : State) (c : Commit) : State :=
  { s with txn := { s.txn.closed with commits := sat32 s.txn.commits, pending := s.txn.pending ++ [c] } }

/-- With a plan in force an acceptance queues its commit, judges the seam where the commit is the next frame's, and answers. -/
theorem State.acceptCommit_queues {s : State} (hplan : s.pipe.plan.isSome = true) (ep : Endpoint) (req : List Byte)
    (plan : Plan) :
    ∃ w : State, (w = s.queueCommit (s.commitOf ep req plan) ∨ w = (s.queueCommit (s.commitOf ep req plan)).judgeSeam) ∧
      s.acceptCommit ep req plan = w.respond ep 0x11 (KppMsg.ofBytes req).2.seq (s.commitOf ep req plan).resp := by
  have hstarts : s.pipe.plan.isNone = false := by
    rw [← Option.not_isSome, hplan]
    rfl
  unfold State.acceptCommit
  simp only [hstarts, Bool.false_eq_true, if_false]
  split
  · exact ⟨_, .inr rfl, rfl⟩
  · exact ⟨_, .inl rfl, rfl⟩

theorem State.validationDone_accepts {s : State} {ep : Endpoint} {req : List Byte} (hacts : s.unitActs = true)
    (hstate : s.txn.state = .validating) (hval : s.txn.validating = some (ep, req)) (hwait : s.kpp.waiting = [])
    (hplan : s.pipe.plan.isSome = true) (hv : validate s s.commitBase s.txn.staged = none) :
    s.validationDone = (s.acceptCommit ep req (layOver s.commitBase s.txn.staged)).drain [] := by
  have hnone : (s.acceptCommit ep req (layOver s.commitBase s.txn.staged)).kpp.waiting = [] := by
    obtain ⟨w, hw, heq⟩ := State.acceptCommit_queues hplan ep req (layOver s.commitBase s.txn.staged)
    rw [heq, State.respond_waiting]
    obtain rfl | rfl := hw
    · exact hwait
    · rw [← show _ = (State.judgeSeam _).kpp from (State.judgeSeam_touches _).2 .kpp (by decide)]
      exact hwait
  simp only [State.validationDone, hstate, hval, hacts, hv, hnone, Bool.not_true, Bool.false_eq_true, if_false]

/-- What the acceptance leaves: the commit queued, the answer sent, and of the mirror only the seam judged. -/
theorem State.acceptCommit_spec {s : State} (hplan : s.pipe.plan.isSome = true) (a : BitVec 32) (p : BitVec 16)
    (req : List Byte) (plan : Plan) :
    let c := s.commitOf (.udp a p) req plan
    let v := s.acceptCommit (.udp a p) req plan
    OnlyChanges [.kpp, .txn, .bsc] s v ∧ v.txn = (s.queueCommit c).txn ∧ v.out = s.out ++ [.kpp (.udp a p) c.resp] := by
  intro c v
  obtain ⟨w, hw, heq⟩ := State.acceptCommit_queues hplan (.udp a p) req plan
  have hqueued : OnlyChanges [.kpp, .txn, .bsc] s (s.queueCommit c) := (State.txn_touches s _).mono (by decide)
  have hwork : OnlyChanges [.kpp, .txn, .bsc] s w ∧ w.txn = (s.queueCommit c).txn ∧ w.out = s.out := by
    obtain rfl | rfl := hw
    · exact ⟨hqueued, rfl, rfl⟩
    · have hseam := State.judgeSeam_touches (s.queueCommit c)
      exact ⟨hqueued.trans (hseam.mono (by decide)), (hseam.2 .txn (by decide)).symm, State.judgeSeam_out _⟩
  obtain ⟨honly, htxn, hout⟩ := hwork
  have hv : v = _ := heq
  rw [hv]
  exact ⟨honly.trans ((State.respond_touches _ _ _ _ _).mono (by decide)), htxn, congrArg (· ++ _) hout⟩

/-! ### The command -/

section Validation
variable {s : State} {t : Nat} {a : BitVec 32} {p : BitVec 16} {req : List Byte} (hm : s.mainOn = true)
  (hacts : s.unitActs = true) (hstate : s.txn.state = .validating) (hval : s.txn.validating = some (.udp a p, req))
  (hwait : s.kpp.waiting = [])
include hm hacts hstate hval hwait

theorem commitValidationComplete_rejects {reason key : Nat}
    (hv : validate (s.atTime t) s.commitBase s.txn.staged = some (reason, key)) :
    Gives (.commitValidationComplete t) s fun u => OnlyChanges [.kpp, .txn] s u ∧ u.txn.state = .opened ∧
      u.txn.staged = s.txn.staged ∧ u.txn.lastReason = BitVec.ofNat 8 reason ∧ u.txn.lastObject = key ∧
      u.txn.rejects = sat32 s.txn.rejects ∧
      u.out = [.kpp (.udp a p) (kppBytes 0x11 (KppMsg.ofBytes req).2.seq (KppMsg.ofBytes req).2.handle 3 0 s.part.device
        (rejectBytes reason key))] := by
  have hrejected : OnlyChanges [.kpp, .txn] (s.atTime t) ((s.atTime t).rejectCommit (.udp a p) req reason key) :=
    ((State.txn_touches (s.atTime t) _).mono (by decide)).trans ((State.respond_touches _ _ _ _ _).mono (by decide))
  refine gives_of_effect (exec_commitValidationComplete s) hm
    (State.validationDone_rejects (s := s.atTime t) hacts hstate hval hwait hv)
    (hrejected.trans ((State.kpp_touches _ _).mono (by decide))) ?_
  rintro u hl ⟨hout, hunits, -⟩
  rw [← show _ = u.txn from hunits .txn (by decide), hout]
  exact ⟨hl, rfl, rfl, rfl, rfl, rfl, rfl⟩

theorem commitValidationComplete_accepts (hplan : s.pipe.plan.isSome = true)
    (hv : validate (s.atTime t) s.commitBase s.txn.staged = none) :
    Gives (.commitValidationComplete t) s fun u => OnlyChanges [.kpp, .txn, .bsc] s u ∧ u.txn.state = .idle ∧
      u.txn.staged = [] ∧ u.txn.commits = sat32 s.txn.commits ∧
      ∃ c : Commit, u.txn.pending = s.txn.pending ++ [c] ∧ c.plan = layOver s.commitBase s.txn.staged ∧
        c.epoch = (s.txn.newest.map Commit.epoch).getD s.txn.epoch + 1 ∧ u.out = [.kpp (.udp a p) c.resp] := by
  obtain ⟨haccepted, htxn, hsent⟩ :=
    State.acceptCommit_spec (s := s.atTime t) hplan a p req (layOver s.commitBase s.txn.staged)
  refine gives_of_effect (exec_commitValidationComplete s) hm
    (State.validationDone_accepts (s := s.atTime t) hacts hstate hval hwait hplan hv)
    (haccepted.trans ((State.kpp_touches _ _).mono (by decide))) ?_
  rintro u hl ⟨hout, hunits, -⟩
  rw [← show _ = u.txn from htxn.symm.trans (hunits .txn (by decide)), hout.trans hsent]
  exact ⟨hl, rfl, rfl, rfl, _, rfl, rfl, rfl, rfl⟩

end Validation

/-- Settles O13: the verdict alone decides; a rejection keeps what is staged, an acceptance queues its commit. -/
theorem validationAnswersTheCommit : Obligations.ValidationAnswersTheCommit := by
  unfold Obligations.ValidationAnswersTheCommit
  intro s t a p req hm hacts hstate hval hwait hplan
  exact ⟨fun reason key => commitValidationComplete_rejects hm hacts hstate hval hwait,
    commitValidationComplete_accepts hm hacts hstate hval hwait hplan⟩

end Sys2Proof.Machine
end

section
/-!
SUPPORT. The two slots of an MRAM record under a write, and the commands of the stores (02 R62, R63; 03 R75; 10 R261; 21 R464).
-/

namespace Sys2Proof.Machine

/-! ### Two slots (02 R62, 21 R464) -/

/-- The next Sequence is the newer one, across the wrap too. -/
theorem wordAfter_succ (n : Word) : wordAfter (n + 1#32) n = true ∧ wordAfter n (n + 1#32) = false := by
  have hup : n + 1#32 - n = 1#32 := by bv_omega
  have hdown : n - (n + 1#32) = 0xFFFFFFFF := by bv_omega
  rw [wordAfter, wordAfter, hup, hdown]
  decide

/-- Which slot is in force, and that its record is a correct one. -/
theorem Slots.inForce_cases {α : Type} (x : Slots α) :
    (x.inForce = none ∧ x.a.seqOf = none ∧ x.b.seqOf = none) ∨ (∃ n c, x.inForce = some 0 ∧ x.a = .good n c) ∨
      (∃ n c, x.inForce = some 1 ∧ x.b = .good n c) := by
  obtain ⟨a, b⟩ := x
  cases a <;> cases b <;> simp only [Slots.inForce, Slot.seqOf]
  case good.good m c n d => by_cases h : wordAfter n m = true <;> simp [h]
  all_goals simp

theorem Slots.first_inForce {α : Type} {x : Slots α} {n : Word} {c : α} (h : x.inForce = some 0) (ha : x.a = .good n c) :
    x.body = some c ∧ x.seq = n := by
  simp only [Slots.body, Slots.seq, h, ha]
  exact ⟨rfl, rfl⟩

theorem Slots.second_inForce {α : Type} {x : Slots α} {n : Word} {c : α} (h : x.inForce = some 1) (hb : x.b = .good n c) :
    x.body = some c ∧ x.seq = n := by
  simp only [Slots.body, Slots.seq, h, hb]
  exact ⟨rfl, rfl⟩

theorem Slots.none_inForce {α : Type} {x : Slots α} (h : x.inForce = none) : x.body = none ∧ x.seq = 0 := by
  simp only [Slots.body, Slots.seq, h, and_self]

/-- What a write puts into its slot (21 R464). -/
def Slots.written {α : Type} (x : Slots α) (b : α) (ok : Bool) : Slot α := if ok then .good (x.seq + 1) b else .corrupt

/-- A write goes to the second slot where the first is in force, and to the first one else. -/
theorem Slots.write_second {α : Type} {x : Slots α} (b : α) (ok : Bool) (h : x.inForce = some 0) :
    x.write b ok = { x with b := x.written b ok } := by
  simp only [Slots.write, h]
  rfl

theorem Slots.write_first {α : Type} {x : Slots α} (b : α) (ok : Bool) (h : x.inForce ≠ some 0) :
    x.write b ok = { x with a := x.written b ok } := by
  unfold Slots.write
  extract_lets record
  split
  · exact absurd ‹_› h
  · rfl

/-- A record that reads back is in force under the next Sequence. -/
theorem Slots.write_readBack {α : Type} (x : Slots α) (b : α) :
    (x.write b true).body = some b ∧ (x.write b true).seq = x.seq + 1 := by
  obtain ⟨hnone, -, hb⟩ | ⟨n, c, h0, ha⟩ | ⟨n, c, h1, hb⟩ := x.inForce_cases
  · rw [Slots.write_first b true (by simp [hnone])]
    refine Slots.first_inForce ?_ rfl
    simp only [Slots.inForce, hb]
    rfl
  · obtain ⟨-, hseq⟩ := Slots.first_inForce h0 ha
    rw [Slots.write_second b true h0]
    refine Slots.second_inForce ?_ rfl
    simp [Slots.inForce, Slots.written, Slot.seqOf, ha, hseq, (wordAfter_succ n).1]
  · obtain ⟨-, hseq⟩ := Slots.second_inForce h1 hb
    rw [Slots.write_first b true (by simp [h1])]
    refine Slots.first_inForce ?_ rfl
    simp [Slots.inForce, Slots.written, Slot.seqOf, hb, hseq, (wordAfter_succ n).2]

/-- One that does not leaves the record before it in force. -/
theorem Slots.write_failed {α : Type} (x : Slots α) (b : α) :
    (x.write b false).body = x.body ∧ (x.inForce.isSome = true → (x.write b false).seq = x.seq) := by
  obtain ⟨hnone, -, hb⟩ | ⟨n, c, h0, ha⟩ | ⟨n, c, h1, hb⟩ := x.inForce_cases
  · rw [Slots.write_first b false (by simp [hnone])]
    have hstill : ({ x with a := x.written b false } : Slots α).inForce = none := by
      simp only [Slots.inForce, hb]
      rfl
    simp [Slots.none_inForce hstill, Slots.none_inForce hnone, hnone]
  · rw [Slots.write_second b false h0]
    have hstill : ({ x with b := x.written b false } : Slots α).inForce = some 0 := by
      simp only [Slots.inForce, ha]
      rfl
    simp [Slots.first_inForce hstill ha, Slots.first_inForce h0 ha]
  · rw [Slots.write_first b false (by simp [h1])]
    have hstill : ({ x with a := x.written b false } : Slots α).inForce = some 1 := by
      simp only [Slots.inForce, hb]
      rfl
    simp [Slots.second_inForce hstill hb, Slots.second_inForce h1 hb]

/-! ### A store starts (02 R62, R63; 03 R75) -/

theorem State.mram_touches (s : State) (x : Mram) : OnlyChanges [.mram] s { s with mram := x } :=
  ⟨rfl, fun y hy => by cases y <;> simp_all [sameUnit]⟩

theorem State.startStore_idle {s : State} (job : StoreJob) (hidle : s.mram.job = none) :
    s.startStore job = { s with mram := { s.mram with job := some job, status := 1 } } := by
  simp [State.startStore, hidle]

/-- A command that makes of the stores what `x` says, and of nothing else anything. -/
theorem gives_mram {i : Instr} {t : Nat} {f : State → State} {s : State} {x : Mram} {P : State → Prop}
    (he : exec i s = runMain t mramFrame f s) (hm : s.mainOn = true)
    (ha : f (s.atTime t) = { s.atTime t with mram := x }) (hp : ∀ u, OnlyChanges [.mram] s u → u.mram = x → P u) :
    Gives i s P :=
  gives_of_effect he hm ha (State.mram_touches _ _) fun u hl hleaves => hp u hl (hleaves.2.1 .mram (by decide)).symm

section Start
variable {s : State} {t : Nat} (hm : s.mainOn = true) (hacts : s.unitActs = true) (hidle : s.mram.job = none)
include hm hacts hidle

theorem storeParameters_starts :
    Gives (.storeParameters t 0x5354) s fun u => OnlyChanges [.mram] s u ∧
      u.mram = { s.mram with job := some (.params s.rwpValues), status := 1 } :=
  gives_mram (exec_storeParameters s) hm
    ((if_pos hacts).trans (State.startStore_idle (s := s.atTime t) (.params s.rwpValues) hidle)) fun _ hl hx => ⟨hl, hx⟩

theorem restoreDefaults_starts :
    Gives (.restoreDefaults t 0x4446) s fun u => OnlyChanges [.mram] s u ∧
      u.mram = { s.mram with job := some .empty, status := 1 } :=
  gives_mram (exec_restoreDefaults s) hm
    ((if_pos hacts).trans (State.startStore_idle (s := s.atTime t) .empty hidle)) fun _ hl hx => ⟨hl, hx⟩

theorem storePlan_starts {p : Plan} (hplan : s.pipe.plan = some p) :
    Gives (.storePlan t 0x504C) s fun u => OnlyChanges [.mram] s u ∧
      u.mram = { s.mram with job := some (.plan p), status := 1 } := by
  have hstart : (s.atTime t).storePlan (0x504C : Word).toNat = (s.atTime t).startStore (.plan p) := by
    simp [State.storePlan, hidle, hplan]
  exact gives_mram (exec_storePlan s) hm ((if_pos hacts).trans (hstart.trans (State.startStore_idle _ hidle)))
    fun _ hl hx => ⟨hl, hx⟩

end Start

/-! ### A store ends (02 R62, 21 R464) -/

/-- The record written, read back or not, and counted. -/
def Mram.stored (m : Mram) (ok : Bool) : Mram :=
  { m with job := none, status := if ok then 2 else 3, writes := sat32 m.writes }

theorem State.finishStore_params {s : State} {b : ObjMap} (ok : Bool) (hacts : s.unitActs = true)
    (hjob : s.mram.job = some (.params b)) :
    s.finishStore ok = { s with mram := { s.mram.stored ok with params := s.mram.params.write b ok } } := by
  simp [State.finishStore, hacts, hjob, Mram.stored]

theorem State.finishStore_plan {s : State} {p : Plan} (ok : Bool) (hacts : s.unitActs = true)
    (hjob : s.mram.job = some (.plan p)) :
    s.finishStore ok = { s with mram := { s.mram.stored ok with plan := s.mram.plan.write p ok } } := by
  simp [State.finishStore, hacts, hjob, Mram.stored]

/-- Record type 6 is that of the parameters (21 R464). -/
theorem State.recordWrite_params {s : State} {b : ObjMap} (ok : Bool) (hjob : s.mram.job = some (.params b)) :
    s.recordWrite 6 ok = s.finishStore ok := by
  simp [State.recordWrite, hjob]

section Finish
variable {s : State} {t : Nat} (ok : Bool) (hm : s.mainOn = true) (hacts : s.unitActs = true)
include hm hacts

theorem storeComplete_params {b : ObjMap} (hjob : s.mram.job = some (.params b)) :
    Gives (.storeComplete t ok) s fun u => OnlyChanges [.mram] s u ∧ u.mram.job = none ∧
      u.mram.status = (if ok then 2 else 3) ∧ u.mram.params = s.mram.params.write b ok := by
  refine gives_mram (exec_storeComplete s) hm (State.finishStore_params (s := s.atTime t) ok hacts hjob) fun u hl hx => ?_
  rw [hx]
  exact ⟨hl, rfl, rfl, rfl⟩

theorem mramRecordWrite_params {b : ObjMap} (hjob : s.mram.job = some (.params b)) :
    Gives (.mramRecordWrite t 6 ok) s fun u => OnlyChanges [.mram] s u ∧ u.mram.job = none ∧
      u.mram.status = (if ok then 2 else 3) ∧ u.mram.params = s.mram.params.write b ok := by
  refine gives_mram (exec_mramRecordWrite s) hm ((State.recordWrite_params (s := s.atTime t) ok hjob).trans
    (State.finishStore_params (s := s.atTime t) ok hacts hjob)) fun u hl hx => ?_
  rw [hx]
  exact ⟨hl, rfl, rfl, rfl⟩

theorem storeComplete_plan {p : Plan} (hjob : s.mram.job = some (.plan p)) :
    Gives (.storeComplete t ok) s fun u => OnlyChanges [.mram] s u ∧ u.mram.job = none ∧
      u.mram.plan = s.mram.plan.write p ok := by
  refine gives_mram (exec_storeComplete s) hm (State.finishStore_plan (s := s.atTime t) ok hacts hjob) fun u hl hx => ?_
  rw [hx]
  exact ⟨hl, rfl, rfl⟩

end Finish

/-- The remap table is stored once the controller has loaded it and it has changed since (10 R261). -/
theorem remapTableStore_stores {s : State} {t : Nat} (ok : Bool) (hm : s.mainOn = true) (hready : s.mcx.ready = true)
    (hnew : s.mram.remap.body.getD [] ≠ s.remapDone) :
    Gives (.remapTableStore t ok) s fun u => OnlyChanges [.mram] s u ∧
      u.mram.remap = s.mram.remap.write s.remapDone ok ∧ u.mram.writes = sat32 s.mram.writes := by
  have hdue : ¬ ((s.atTime t).mcx.ready = false ∨ (s.atTime t).mram.remap.body.getD [] = (s.atTime t).remapDone) := by
    rintro (h | h)
    · exact absurd (h.symm.trans hready) (by decide)
    · exact hnew h
  refine gives_mram (exec_remapTableStore s) hm (if_neg hdue) fun u hl hx => ?_
  rw [hx]
  exact ⟨hl, rfl, rfl⟩

/-- Settles O15: the slot written is never the one in force, so a failed write leaves it; each command is the branch its
premises name. -/
theorem storesStartAndComplete : Obligations.StoresStartAndComplete := by
  unfold Obligations.StoresStartAndComplete
  refine ⟨fun x b => ?_, fun s t hm hacts hidle => ?_, fun s t b ok hm hacts hjob => ?_, fun s t p ok => ?_, fun s t ok => ?_⟩
  · obtain ⟨hbody, hseq⟩ := x.write_readBack b
    exact ⟨hbody, hseq, x.write_failed b⟩
  · exact ⟨storeParameters_starts hm hacts hidle, restoreDefaults_starts hm hacts hidle,
      fun p => storePlan_starts hm hacts hidle⟩
  · exact ⟨storeComplete_params ok hm hacts hjob, mramRecordWrite_params ok hm hacts hjob⟩
  · exact fun hm hacts hjob => storeComplete_plan ok hm hacts hjob
  · exact remapTableStore_stores ok

end Sys2Proof.Machine
end

section
/-!
SUPPORT. What the commands make of the event destinations, those in force and those in the two slots of the checkpoint
(02 R60; 14 R344): every operation but a subscription, a reset, a checkpoint and its restoration leaves them as they are.
-/

namespace Sys2Proof.Machine

/-! ### The relation and its algebra -/

/-- `u` has the event destinations of `s`, in force and in both slots of the checkpoint. -/
@[reducible] def KeepsDests (s u : State) : Prop :=
  u.kpp.dests = s.kpp.dests ∧ u.cu.slot0.dests = s.cu.slot0.dests ∧ u.cu.slot1.dests = s.cu.slot1.dests

theorem KeepsDests.refl (s : State) : KeepsDests s s := ⟨rfl, rfl, rfl⟩

theorem KeepsDests.trans {s u v : State} (a : KeepsDests s u) (b : KeepsDests u v) : KeepsDests s v :=
  ⟨b.1.trans a.1, b.2.1.trans a.2.1, b.2.2.trans a.2.2⟩

theorem KeepsDests.ite {s a b : State} (c : Prop) [Decidable c] (ha : KeepsDests s a) (hb : KeepsDests s b) :
    KeepsDests s (if c then a else b) := by
  split
  · exact ha
  · exact hb

theorem KeepsDests.foldl {α : Type} {f : State → α → State} (h : ∀ s x, KeepsDests s (f s x)) (xs : List α) (s : State) :
    KeepsDests s (xs.foldl f s) := by
  induction xs generalizing s with
  | nil => exact KeepsDests.refl s
  | cons x xs ih => exact (h s x).trans (ih (f s x))

/-! ### The records and the units -/

@[simp] theorem Kpp.record_dests (k : Kpp) (cycle : Nat) (time : Time80) (code sub : Nat) (detail : Word) :
    (k.record cycle time code sub detail).dests = k.dests := rfl

@[simp] theorem Kpp.retract_dests (k : Kpp) (cycle code : Nat) : (k.retract cycle code).dests = k.dests := by
  unfold Kpp.retract
  dsimp only
  split <;> rfl

@[simp] theorem Kpp.keep_dests (k : Kpp) (ep : Endpoint) (e : Kept) : (k.keep ep e).dests = k.dests := rfl

@[simp] theorem Kpp.refuse_dests (k : Kpp) : k.refuseNonexistent.dests = k.dests ∧ k.refuseAbsent.dests = k.dests ∧
    k.refuseAccess.dests = k.dests ∧ k.refuseTxn.dests = k.dests := ⟨rfl, rfl, rfl, rfl⟩

@[simp] theorem Cu.setUnit_slots (c : Cu) (u : Nat) (x : CtrlUnit) :
    (c.setUnit u x).slot0 = c.slot0 ∧ (c.setUnit u x).slot1 = c.slot1 := by
  unfold Cu.setUnit
  split <;> exact ⟨rfl, rfl⟩

/-- A slot marked good keeps its body (14 R344). -/
@[simp] theorem Cu.setSlot_good_dests (c : Cu) (k : Nat) (good : Bool) :
    (c.setSlot k { c.slot k with good }).slot0.dests = c.slot0.dests ∧
      (c.setSlot k { c.slot k with good }).slot1.dests = c.slot1.dests := by
  unfold Cu.setSlot Cu.slot
  split <;> exact ⟨rfl, rfl⟩

/-! ### Sending, free values, records and triggers (02 R35 to R37, R60, R61; 18 R404) -/

@[simp] theorem State.sendKpp_keepsDests (s : State) (ep : Endpoint) (bytes : List Byte) :
    KeepsDests s (s.sendKpp ep bytes) := by
  cases ep with
  | udp a p => exact ⟨rfl, rfl, rfl⟩
  | can =>
    exact KeepsDests.foldl (f := fun s seg => s.send (.can s.canResponseId seg)) (fun _ _ => ⟨rfl, rfl, rfl⟩)
      (canSegments bytes) s

@[simp] theorem State.free_keepsDests (s : State) : KeepsDests s s.free.2 :=
  ⟨rfl, rfl, rfl⟩

@[simp] theorem State.record_keepsDests (s : State) (code sub : Nat) (detail : Word) :
    KeepsDests s (s.record code sub detail) := by
  unfold State.record
  dsimp only
  (repeat' split) <;> simp [KeepsDests]

@[simp] theorem State.newIncident_keepsDests (s : State) (source : Nat) : KeepsDests s (s.newIncident source) :=
  ⟨rfl, rfl, rfl⟩

@[simp] theorem State.trigger_keepsDests (s : State) (source : Nat) : KeepsDests s (s.trigger source) := by
  unfold State.trigger
  dsimp only
  (repeat' split) <;> simp [KeepsDests]

@[simp] theorem State.raise_keepsDests (s : State) (code sub : Nat) (detail : Nat) :
    KeepsDests s (s.raise code sub detail) := by
  unfold State.raise
  dsimp only
  split_ifs <;> simp [KeepsDests]

@[simp] theorem State.raiseIf_keepsDests (s : State) (c : Bool) (code sub detail : Nat) :
    KeepsDests s (s.raiseIf c code sub detail) := by
  unfold State.raiseIf
  split <;> simp [KeepsDests]

/-! ### The emission guard (13) -/

@[simp] theorem State.refuseRearm_keepsDests (s : State) (k : Nat) : KeepsDests s (s.refuseRearm k) := by
  unfold State.refuseRearm
  dsimp only
  (repeat' split) <;> simp [KeepsDests]

@[simp] theorem State.tripWith_keepsDests (s : State) (k : Nat) (abort : Bool) : KeepsDests s (s.tripWith k abort) := by
  unfold State.tripWith
  dsimp only
  split_ifs <;> simp [KeepsDests]

@[simp] theorem State.trip_keepsDests (s : State) (k : Nat) : KeepsDests s (s.trip k) := by
  unfold State.trip
  split <;> simp [KeepsDests]

@[simp] theorem State.clearSource_keepsDests (s : State) (k : Nat) : KeepsDests s (s.clearSource k) := by
  unfold State.clearSource
  split <;> simp [KeepsDests]

@[simp] theorem State.setSource_keepsDests (s : State) (k : Nat) (active : Bool) : KeepsDests s (s.setSource k active) := by
  unfold State.setSource
  split <;> simp [KeepsDests]

@[simp] theorem State.decideGate_keepsDests (s : State) (p : Plan) (c : Nat) (pulses : List (Nat × Nat))
    (each slotAt : Nat) :
    KeepsDests s (s.decideGate p c pulses each slotAt) := by
  unfold State.decideGate
  dsimp only
  (repeat' split) <;> simp [KeepsDests]

@[simp] theorem State.decideSlot_keepsDests (s : State) (p : Plan) (c slotAt : Nat) :
    KeepsDests s (s.decideSlot p c slotAt) := by
  simp [KeepsDests, State.decideSlot]

@[simp] theorem State.ledgerReads_keepsDests (s : State) (corrected : Nat) (uncorrectable : Bool) :
    KeepsDests s (s.ledgerReads corrected uncorrectable) := by
  unfold State.ledgerReads
  split <;> simp [KeepsDests]

@[simp] theorem State.nextSlotDecision_keepsDests (s : State) : KeepsDests s s.nextSlotDecision := by
  unfold State.nextSlotDecision
  dsimp only
  (repeat' split) <;> simp [KeepsDests]

@[simp] theorem State.checkTest_keepsDests (s : State) : KeepsDests s s.checkTest := by
  unfold State.checkTest
  split_ifs <;> simp [KeepsDests]

@[simp] theorem State.feedback_keepsDests (s : State) (level : Bool) : KeepsDests s (s.feedback level) := by
  unfold State.feedback
  dsimp only
  split_ifs <;> simp [KeepsDests]

@[simp] theorem State.rearmEdge_keepsDests (s : State) : KeepsDests s s.rearmEdge := by
  unfold State.rearmEdge
  dsimp only
  split_ifs <;> simp [KeepsDests]

@[simp] theorem State.rearmRequest_keepsDests (s : State) (v : Nat) : KeepsDests s (s.rearmRequest v) := by
  unfold State.rearmRequest
  dsimp only
  split_ifs <;> simp [KeepsDests]

@[simp] theorem State.emissionStop_keepsDests (s : State) (v : Nat) : KeepsDests s (s.emissionStop v) := by
  unfold State.emissionStop
  split <;> simp [KeepsDests]

/-! ### The in-package memory (10) -/

@[simp] theorem State.moved_keepsDests (s : State) (user : MemUser) (n : Nat) : KeepsDests s (s.moved user n) :=
  ⟨rfl, rfl, rfl⟩

@[simp] theorem State.degradedNow_keepsDests (s : State) (l : List Degraded) : KeepsDests s (s.degradedNow l) := by
  simp [KeepsDests, State.degradedNow]

@[simp] theorem State.degrade_keepsDests (s : State) (page cause : Nat) : KeepsDests s (s.degrade page cause) := by
  unfold State.degrade
  split <;> simp [KeepsDests]

@[simp] theorem State.lineRewritten_keepsDests (s : State) (line : Nat) : KeepsDests s (s.lineRewritten line) := by
  simp [KeepsDests, State.lineRewritten]

@[simp] theorem State.hardFault_keepsDests (s : State) (line : Nat) : KeepsDests s (s.hardFault line) := by
  unfold State.hardFault
  split_ifs <;> simp [KeepsDests]

@[simp] theorem State.watchLine_keepsDests (s : State) (line : Nat) : KeepsDests s (s.watchLine line) := by
  unfold State.watchLine
  dsimp only
  (repeat' split) <;> simp [KeepsDests]

@[simp] theorem State.badLine_keepsDests (s : State) (line : Nat) : KeepsDests s (s.badLine line) := by
  simp [KeepsDests, State.badLine]

@[simp] theorem State.fixedLine_keepsDests (s : State) (line : Nat) (back : List (Nat × List (Nat × Byte))) :
    KeepsDests s (s.fixedLine line back) := by
  simp [KeepsDests, State.fixedLine]

@[simp] theorem State.readLine_keepsDests (s : State) (user : MemUser) (line : Nat) (flips : List (Nat × BitVec 13)) :
    KeepsDests s (s.readLine user line flips).2.2 := by
  unfold State.readLine
  dsimp only
  split_ifs <;> simp [KeepsDests]

@[simp] theorem State.writeLine_keepsDests (s : State) (user : MemUser) (line : Nat) (bytes : List (Nat × Byte)) :
    KeepsDests s (s.writeLine user line bytes) := by
  unfold State.writeLine
  split_ifs <;> simp [KeepsDests]

@[simp] theorem State.writeWhole_keepsDests (s : State) (user : MemUser) (line : Nat) (bytes : List Byte) :
    KeepsDests s (s.writeWhole user line bytes) := by
  simp [KeepsDests, State.writeWhole]

@[simp] theorem State.writeBytes_keepsDests (s : State) (user : MemUser) (a : Nat) (bs : List Byte) :
    KeepsDests s (s.writeBytes user a bs) :=
  KeepsDests.foldl (fun _ _ => State.writeLine_keepsDests _ _ _ _) _ s

@[simp] theorem State.remapClear_keepsDests (s : State) (v : Nat) : KeepsDests s (s.remapClear v) := by
  unfold State.remapClear
  split <;> simp [KeepsDests]

/-! ### The receive front end (06) -/

@[simp] theorem State.setChan_keepsDests (s : State) (ch : Nat) (c : Chan) : KeepsDests s (s.setChan ch c) :=
  ⟨rfl, rfl, rfl⟩

@[simp] theorem State.assertMark_keepsDests (s : State) (ch : Nat) : KeepsDests s (s.assertMark ch) :=
  ⟨rfl, rfl, rfl⟩

@[simp] theorem State.endBlank_keepsDests (s : State) : KeepsDests s s.endBlank :=
  KeepsDests.ite _ (KeepsDests.refl s) (KeepsDests.foldl (fun _ _ => State.assertMark_keepsDests _ _) _ s)

@[simp] theorem State.thresholdClear_keepsDests (s : State) (v : Nat) : KeepsDests s (s.thresholdClear v) := by
  unfold State.thresholdClear
  split_ifs <;> simp [KeepsDests]

@[simp] theorem State.biasFallback_keepsDests (s : State) (broken : Option Nat) : KeepsDests s (s.biasFallback broken) := by
  unfold State.biasFallback
  dsimp only
  (repeat' split) <;> simp [KeepsDests]

@[simp] theorem State.biasMove_keepsDests (s : State) (p : Plan) (at_ : Nat) (next : Nat → Nat → Nat) :
    KeepsDests s (s.biasMove p at_ next) := by
  simp [KeepsDests, State.biasMove]

@[simp] theorem State.biasUpdate_keepsDests (s : State) (p : Plan) (at_ : Nat) : KeepsDests s (s.biasUpdate p at_) := by
  simp [KeepsDests, State.biasUpdate]

@[simp] theorem State.biasStartup_keepsDests (s : State) (p : Plan) : KeepsDests s (s.biasStartup p) := by
  simp [KeepsDests, State.biasStartup]

/-! ### The time digitizers (07) -/

@[simp] theorem State.calibrate_keepsDests (s : State) (x : Sys2Proof.TdcCal) : KeepsDests s (s.calibrate x) := by
  unfold State.calibrate
  extract_lets before tdcs bad tda v fresh
  exact KeepsDests.trans (u := v) ⟨rfl, rfl, rfl⟩ (KeepsDests.foldl (fun _ _ => State.raise_keepsDests _ _ _ _) fresh v)

@[simp] theorem State.timeWaiting_keepsDests (s : State) (c : ColCtx) (x : CellCtx) : KeepsDests s (s.timeWaiting c x) := by
  unfold State.timeWaiting
  split <;> simp [KeepsDests]

@[simp] theorem State.timeRef_keepsDests (s : State) (c : ColCtx) (i : Option Nat) : KeepsDests s (s.timeRef c i) :=
  KeepsDests.foldl (fun _ _ => State.timeWaiting_keepsDests _ _ _) _ s

@[simp] theorem State.closeRef_keepsDests (s : State) (c : ColCtx) (i : Nat) : KeepsDests s (s.closeRef c i) := by
  simp [KeepsDests, State.closeRef]

@[simp] theorem State.closeRefs_keepsDests (s : State) (c : ColCtx) : KeepsDests s (s.closeRefs c) :=
  KeepsDests.ite _ (KeepsDests.refl s) (KeepsDests.foldl (fun v _ =>
    KeepsDests.ite _ (KeepsDests.refl v) (State.closeRef_keepsDests _ _ _)) _ s)

@[simp] theorem State.tdaSlotStart_keepsDests (s : State) : KeepsDests s s.tdaSlotStart := by
  unfold State.tdaSlotStart
  split <;> simp [KeepsDests]

@[simp] theorem State.tdaFrameEnd_keepsDests (s : State) : KeepsDests s s.tdaFrameEnd :=
  KeepsDests.foldl (fun _ _ => State.raise_keepsDests _ _ _ _) _ _

/-! ### Histograms and code conflicts (08; 17 R395, R396) -/

@[simp] theorem State.conflictEvent_keepsDests (s : State) (code : Nat) (on : Bool) :
    KeepsDests s (s.conflictEvent code on) := by
  simp [KeepsDests, State.conflictEvent]

@[simp] theorem State.declareConflict_keepsDests (s : State) (code : Nat) : KeepsDests s (s.declareConflict code) := by
  unfold State.declareConflict
  split <;> simp [KeepsDests]

@[simp] theorem State.probeDone_keepsDests (s : State) (code : Nat) (suspect : Bool) :
    KeepsDests s (s.probeDone code suspect) := by
  unfold State.probeDone
  dsimp only
  split_ifs <;> simp [KeepsDests]

@[simp] theorem State.codeChanged_keepsDests (s : State) (old new : Nat) : KeepsDests s (s.codeChanged old new) := by
  unfold State.codeChanged
  dsimp only
  split_ifs <;> simp [KeepsDests]

@[simp] theorem State.swapped_keepsDests (s : State) (c : ColCtx) (bufs : SMap Buf) : KeepsDests s (s.swapped c bufs) := by
  unfold State.swapped
  split <;> simp [KeepsDests]

/-! ### The emitter ports (04) -/

@[simp] theorem State.setPort_keepsDests (s : State) (e : Nat) (x : PortState) : KeepsDests s (s.setPort e x) :=
  ⟨rfl, rfl, rfl⟩

@[simp] theorem State.declarePort_keepsDests (s : State) (e status : Nat) : KeepsDests s (s.declarePort e status) := by
  simp [KeepsDests, State.declarePort]

@[simp] theorem State.judge_keepsDests (s : State) (e peak : Nat) (v : Verdict) (diag : Bool) :
    KeepsDests s (s.judge e peak v diag) := by
  unfold State.judge
  dsimp only
  (repeat' split) <;> simp [KeepsDests]

@[simp] theorem State.codeCheck_keepsDests (s : State) (bad : Nat → PortState → Bool) : KeepsDests s (s.codeCheck bad) := by
  unfold State.codeCheck
  split <;> simp [KeepsDests]

@[simp] theorem State.slotLatch_keepsDests (s : State) (p : Plan) (first : Bool) : KeepsDests s (s.slotLatch p first) := by
  simp [KeepsDests, State.slotLatch]

@[simp] theorem State.pulseOut_keepsDests (s : State) (p : Plan) (e code width : Nat) (pair : Bool) :
    KeepsDests s (s.pulseOut p e code width pair) := by
  unfold State.pulseOut
  split <;> simp [KeepsDests]

@[simp] theorem State.fireAll_keepsDests (s : State) (p : Plan) (at_ column : Nat) (ports : List Nat)
    (code : Nat → Nat) (width : Nat) (pair : Bool) :
    KeepsDests s (s.fireAll p at_ column ports code width pair) := by
  unfold State.fireAll
  exact KeepsDests.foldl (fun _ _ => by simp [KeepsDests]) ports s

@[simp] theorem State.judgeAll_keepsDests (s : State) (ports : List Nat) (code : Nat → Nat)
    (senses : List Sys2Proof.Sense) (diag : Bool) :
    KeepsDests s (s.judgeAll ports code senses diag) :=
  KeepsDests.ite _ (KeepsDests.refl s) (KeepsDests.foldl (fun _ _ => State.judge_keepsDests _ _ _ _ _) _ s)

@[simp] theorem State.portClear_keepsDests (s : State) (v : Nat) : KeepsDests s (s.portClear v) := by
  unfold State.portClear
  split_ifs <;> simp [KeepsDests]

/-! ### The mirror (05) -/

@[simp] theorem State.judgeSeam_keepsDests (s : State) : KeepsDests s s.judgeSeam := by
  unfold State.judgeSeam
  (repeat' split) <;> simp [KeepsDests]

@[simp] theorem State.setAxis_keepsDests (s : State) (i : Nat) (a : Axis) : KeepsDests s (s.setAxis i a) := by
  unfold State.setAxis
  split <;> simp [KeepsDests]

@[simp] theorem State.eachAxis_keepsDests (s : State) (f : Nat → Axis → Axis) : KeepsDests s (s.eachAxis f) :=
  KeepsDests.foldl (fun _ _ => State.setAxis_keepsDests _ _ _) _ s

@[simp] theorem State.followMirror_keepsDests (s : State) : KeepsDests s s.followMirror := by
  simp [KeepsDests, State.followMirror]

@[simp] theorem State.mirrorFault_keepsDests (s : State) (cause : Nat) : KeepsDests s (s.mirrorFault cause) := by
  unfold State.mirrorFault
  split <;> simp [KeepsDests]

@[simp] theorem State.startupSoftStart_keepsDests (s : State) (p : Plan) : KeepsDests s (s.startupSoftStart p) := by
  unfold State.startupSoftStart
  split <;> simp [KeepsDests]

@[simp] theorem State.restart_keepsDests (s : State) (v : Nat) : KeepsDests s (s.restart v) := by
  unfold State.restart
  (repeat' split) <;> simp [KeepsDests]

@[simp] theorem State.changeTrajectory_keepsDests (s : State) (p : Plan) (c : Commit) (at_ : Nat) :
    KeepsDests s (s.changeTrajectory p c at_) := by
  unfold State.changeTrajectory
  dsimp only
  split_ifs <;> simp [KeepsDests]

@[simp] theorem State.motionBoundary_keepsDests (s : State) (at_ : Nat) : KeepsDests s (s.motionBoundary at_) := by
  unfold State.motionBoundary
  dsimp only
  (repeat' split) <;> simp [KeepsDests]

@[simp] theorem State.mirrorBoundary_keepsDests (s : State) (p : Plan) (commit : Option Commit) (number : Int) (at_ : Nat) :
    KeepsDests s (s.mirrorBoundary p commit number at_) := by
  unfold State.mirrorBoundary
  split <;> simp [KeepsDests]

@[simp] theorem State.missedDeadlines_keepsDests (s : State) : KeepsDests s s.missedDeadlines := by
  unfold State.missedDeadlines
  dsimp only
  split_ifs <;> simp [KeepsDests]

@[simp] theorem State.periodReferences_keepsDests (s : State) (start : Nat) : KeepsDests s (s.periodReferences start) := by
  unfold State.periodReferences
  dsimp only
  (repeat' split) <;> simp [KeepsDests]

@[simp] theorem State.loadCoefficients_keepsDests (s : State) (start : Nat) : KeepsDests s (s.loadCoefficients start) := by
  unfold State.loadCoefficients
  dsimp only
  (repeat' split) <;> simp [KeepsDests]

@[simp] theorem State.holdReached_keepsDests (s : State) (start : Nat) : KeepsDests s (s.holdReached start) := by
  unfold State.holdReached
  (repeat' split) <;> simp [KeepsDests]

/-! ### The Tarn (10) -/

@[simp] theorem State.prefetchLines_keepsDests (s : State) (c : ColCtx) : KeepsDests s (s.prefetchLines c) := by
  unfold State.prefetchLines
  refine KeepsDests.foldl (fun v r => ?_) _ s
  dsimp only
  split <;> simp [KeepsDests]

@[simp] theorem State.countRecords_keepsDests (s : State) (c : ColCtx) (use : Bool) : KeepsDests s (s.countRecords c use) :=
  ⟨rfl, rfl, rfl⟩

/-! ### Output (11) -/

@[simp] theorem State.setOutPort_keepsDests (s : State) (n : Nat) (o : OutPort) : KeepsDests s (s.setOutPort n o) := by
  unfold State.setOutPort
  split <;> simp [KeepsDests]

@[simp] theorem State.setLink_keepsDests (s : State) (n : Nat) (l : Link) : KeepsDests s (s.setLink n l) := by
  unfold State.setLink
  split <;> simp [KeepsDests]

@[simp] theorem State.restall_keepsDests (s : State) (n : Nat) : KeepsDests s (s.restall n) := by
  simp [KeepsDests, State.restall]

@[simp] theorem State.dropEvent_keepsDests (s : State) (n : Nat) : KeepsDests s (s.dropEvent n) := by
  unfold State.dropEvent
  dsimp only
  split_ifs <;> simp [KeepsDests]

@[simp] theorem State.queueUnit_keepsDests (s : State) (n kind : Nat) (frame : Word) (mk : Word → Bool → List Byte) :
    KeepsDests s (s.queueUnit n kind frame mk) := by
  unfold State.queueUnit
  dsimp only
  split_ifs <;> simp [KeepsDests]

@[simp] theorem State.feedRing_keepsDests (s : State) (kind : Nat) (seq frame : Word) (bytes : List Byte) :
    KeepsDests s (s.feedRing kind seq frame bytes) := by
  unfold State.feedRing
  split <;> simp [KeepsDests]

@[simp] theorem State.feedEnd_keepsDests (s : State) (frame : Word) : KeepsDests s (s.feedEnd frame) := by
  unfold State.feedEnd
  dsimp only
  split_ifs <;> simp [KeepsDests]

@[simp] theorem State.queueHeader_keepsDests (s : State) (p : Plan) (n : Nat) : KeepsDests s (s.queueHeader p n) := by
  unfold State.queueHeader
  dsimp only
  split_ifs <;> simp [KeepsDests]

@[simp] theorem State.queueTrailer_keepsDests (s : State) (n : Nat) (frame : Word) : KeepsDests s (s.queueTrailer n frame) := by
  unfold State.queueTrailer
  dsimp only
  split_ifs <;> simp [KeepsDests]

@[simp] theorem State.queueTrailers_keepsDests (s : State) (frame : Word) : KeepsDests s (s.queueTrailers frame) := by
  simp [KeepsDests, State.queueTrailers]

@[simp] theorem State.queuePoints_keepsDests (s : State) (c : ColCtx) (outs : List CellOut) :
    KeepsDests s (s.queuePoints c outs) := by
  unfold State.queuePoints
  dsimp only
  split_ifs <;> simp [KeepsDests]

@[simp] theorem State.queueHists_keepsDests (s : State) (c : ColCtx) (entries : List (List Byte)) :
    KeepsDests s (s.queueHists c entries) := by
  unfold State.queueHists
  dsimp only
  split_ifs <;> simp [KeepsDests]

@[simp] theorem State.ethBoundary_keepsDests (s : State) : KeepsDests s s.ethBoundary :=
  ⟨rfl, rfl, rfl⟩

/-! ### The Druelo links (12) -/

@[simp] theorem State.discardUnits_keepsDests (s : State) (n : Nat) (runs : Bool) : KeepsDests s (s.discardUnits n runs) := by
  unfold State.discardUnits
  dsimp only
  split_ifs <;> simp [KeepsDests]

@[simp] theorem State.exitActive_keepsDests (s : State) (n cause : Nat) (runs : Bool) :
    KeepsDests s (s.exitActive n cause runs) := by
  simp [KeepsDests, State.exitActive]

@[simp] theorem State.toDetect_keepsDests (s : State) (n cause : Nat) (full : Bool) :
    KeepsDests s (s.toDetect n cause full) := by
  unfold State.toDetect
  split <;> simp [KeepsDests]

@[simp] theorem State.linkUp_keepsDests (s : State) (n : Nat) (credit : Word) : KeepsDests s (s.linkUp n credit) := by
  simp [KeepsDests, State.linkUp]

@[simp] theorem State.status_keepsDests (s : State) (n : Nat) (b : List Byte) : KeepsDests s (s.status n b) := by
  unfold State.status
  dsimp only
  split_ifs <;> simp [KeepsDests]

@[simp] theorem State.retrain_keepsDests (s : State) (n : Nat) (full : Bool) : KeepsDests s (s.retrain n full) := by
  unfold State.retrain
  dsimp only
  (repeat' split) <;> simp [KeepsDests]

@[simp] theorem State.relock_keepsDests (s : State) (n : Nat) : KeepsDests s (s.relock n) := by
  unfold State.relock
  dsimp only
  split_ifs <;> simp [KeepsDests]

@[simp] theorem State.laneRateWrite_keepsDests (s : State) (n : Nat) (v : List Byte) : KeepsDests s (s.laneRateWrite n v) := by
  unfold State.laneRateWrite
  split <;> simp [KeepsDests]

@[simp] theorem State.portEnableWrite_keepsDests (s : State) (n : Nat) (v : List Byte) :
    KeepsDests s (s.portEnableWrite n v) := by
  unfold State.portEnableWrite
  dsimp only
  split_ifs <;> simp [KeepsDests]

@[simp] theorem State.retrainWrite_keepsDests (s : State) (n v : Nat) : KeepsDests s (s.retrainWrite n v) := by
  unfold State.retrainWrite
  split_ifs <;> simp [KeepsDests]

/-! ### Firmware, signatures and updates (20) -/

@[simp] theorem State.norWrite_keepsDests (s : State) (base : Nat) (bs : List Byte) : KeepsDests s (s.norWrite base bs) :=
  ⟨rfl, rfl, rfl⟩

@[simp] theorem State.writeBoot_keepsDests (s : State) (preferred trial : Nat) :
    KeepsDests s (s.writeBoot preferred trial) := by
  unfold State.writeBoot
  dsimp only
  (repeat' split) <;> simp [KeepsDests]

@[simp] theorem State.checkSlot_keepsDests (s : State) (slot : Nat) (i : ImageSlot) : KeepsDests s (s.checkSlot slot i).2 := by
  simp [KeepsDests, State.checkSlot]

@[simp] theorem State.signatureEvents_keepsDests (s : State) : KeepsDests s s.signatureEvents := by
  unfold State.signatureEvents
  dsimp only
  split_ifs <;> simp [KeepsDests]

@[simp] theorem State.exhausted_keepsDests (s : State) : KeepsDests s s.exhausted := by
  unfold State.exhausted
  split <;> simp [KeepsDests]

@[simp] theorem State.resumeIndex_keepsDests (s : State) : KeepsDests s s.resumeIndex := by
  simp [KeepsDests, State.resumeIndex]

@[simp] theorem State.reserve_keepsDests (s : State) : KeepsDests s s.reserve.2 := by
  unfold State.reserve
  dsimp only
  split_ifs <;> simp [KeepsDests]

@[simp] theorem State.chooseImage_keepsDests (s : State) (slot0 slot1 : ImageSlot) :
    KeepsDests s (s.chooseImage slot0 slot1).2 := by
  have hcheck : ∀ (f : Bool × State → Nat → Bool × State), (∀ a x, KeepsDests a.2 (f a x).2) →
      ∀ (l : List Nat) (a : Bool × State), KeepsDests a.2 (l.foldl f a).2 := by
    intro f hf l
    induction l with
    | nil => exact fun a => KeepsDests.refl a.2
    | cons x l ih => exact fun a => (hf a x).trans (ih (f a x))
  refine KeepsDests.trans (u := if s.fw.record.1.trial ≠ 0xFF then s.writeBoot s.fw.record.1.preferred 0xFF else s)
    (KeepsDests.ite _ (State.writeBoot_keepsDests _ _ _) (KeepsDests.refl s)) (hcheck _ (fun a x => ?_) _ _)
  dsimp only
  split_ifs <;> simp [KeepsDests]

@[simp] theorem State.noFlash_keepsDests (s : State) : KeepsDests s s.noFlash.2 := by
  unfold State.noFlash
  split <;> simp [KeepsDests]

@[simp] theorem State.reloadImage_keepsDests (s : State) (slot0 slot1 : ImageSlot) :
    KeepsDests s (s.reloadImage slot0 slot1).2 := by
  unfold State.reloadImage
  split <;> simp [KeepsDests]

@[simp] theorem State.loadImage_keepsDests (s : State) (flash : NorFlash) (slot0 slot1 : ImageSlot) :
    KeepsDests s (s.loadImage flash slot0 slot1).2 := by
  unfold State.loadImage
  dsimp only
  split_ifs <;> simp [KeepsDests]

@[simp] theorem State.startUpdate_keepsDests (s : State) (j : UpdateJob) : KeepsDests s (s.startUpdate j) := by
  unfold State.startUpdate
  split <;> simp [KeepsDests]

@[simp] theorem State.confirmImage_keepsDests (s : State) : KeepsDests s s.confirmImage := by
  unfold State.confirmImage
  split_ifs <;> simp [KeepsDests]

@[simp] theorem State.updateCommand_keepsDests (s : State) (v : Nat) : KeepsDests s (s.updateCommand v) := by
  unfold State.updateCommand
  split_ifs <;> simp [KeepsDests]

@[simp] theorem State.abortUpdate_keepsDests (s : State) : KeepsDests s s.abortUpdate := by
  unfold State.abortUpdate
  split <;> simp [KeepsDests]

@[simp] theorem State.fuseAdvance_keepsDests (s : State) (w : Nat) : KeepsDests s (s.fuseAdvance w) := by
  unfold State.fuseAdvance
  dsimp only
  split_ifs <;> simp [KeepsDests]

@[simp] theorem State.attestRequest_keepsDests (s : State) (v : Nat) : KeepsDests s (s.attestRequest v) := by
  unfold State.attestRequest
  split_ifs <;> simp [KeepsDests]

@[simp] theorem State.attestDone_keepsDests (s : State) : KeepsDests s s.attestDone := by
  unfold State.attestDone
  have hreserve := State.reserve_keepsDests s
  split_ifs
  · exact KeepsDests.refl s
  · split <;> (rename_i heq; rw [heq] at hreserve; exact hreserve)

/-! ### The event recorder (18) -/

@[simp] theorem State.recorderBudget_keepsDests (s : State) (p : Plan) : KeepsDests s (s.recorderBudget p) := by
  unfold State.recorderBudget
  dsimp only
  split_ifs <;> simp [KeepsDests]

@[simp] theorem State.ringWrite_keepsDests (s : State) : KeepsDests s s.ringWrite := by
  unfold State.ringWrite
  dsimp only
  (repeat' split) <;> simp [KeepsDests]

@[simp] theorem State.excludeSegments_keepsDests (s : State) : KeepsDests s s.excludeSegments := by
  unfold State.excludeSegments
  dsimp only
  split_ifs <;> simp [KeepsDests]

@[simp] theorem State.recorderBoundary_keepsDests (s : State) (p : Plan) (frame : Word) (changed : Bool) :
    KeepsDests s (s.recorderBoundary p frame changed) := by
  unfold State.recorderBoundary
  dsimp only
  split_ifs <;> simp [KeepsDests]

@[simp] theorem State.recorderTrigger_keepsDests (s : State) (v : Nat) : KeepsDests s (s.recorderTrigger v) := by
  unfold State.recorderTrigger
  split <;> simp [KeepsDests]

@[simp] theorem State.reclaim_keepsDests (s : State) : KeepsDests s s.reclaim := by
  unfold State.reclaim
  dsimp only
  (repeat' split) <;> simp [KeepsDests]

@[simp] theorem State.retire_keepsDests (s : State) (key : Nat) : KeepsDests s (s.retire key) := by
  simp [KeepsDests, State.retire]

@[simp] theorem State.pagePassed_keepsDests (s : State) (i : Incident) (n : Nat) : KeepsDests s (s.pagePassed i n) :=
  ⟨rfl, rfl, rfl⟩

@[simp] theorem State.pageBlock_keepsDests (s : State) (i : Incident) : KeepsDests s (s.pageBlock i).2 := by
  unfold State.pageBlock
  dsimp only
  (repeat' split) <;> simp [KeepsDests]

@[simp] theorem State.pageComplete_keepsDests (s : State) (ok : Bool) : KeepsDests s (s.pageComplete ok) := by
  unfold State.pageComplete
  split
  · exact KeepsDests.refl s
  next i _ =>
    split
    · exact KeepsDests.refl s
    next n _ =>
      split
      · exact KeepsDests.refl s
      · have hblock := State.pageBlock_keepsDests { s with evr := { s.evr with finishing := false } } i
        dsimp only
        split <;> rename_i heq <;> rw [heq] at hblock
        · exact hblock
        · refine hblock.trans ?_
          split <;> simp [KeepsDests]

@[simp] theorem State.signIncident_keepsDests (s : State) (i : Incident) : KeepsDests s (s.signIncident i).2 := by
  unfold State.signIncident
  have hreserve := State.reserve_keepsDests s
  dsimp only
  split <;> (rename_i heq; rw [heq] at hreserve; exact hreserve)

@[simp] theorem State.incidentStored_keepsDests (s : State) : KeepsDests s s.incidentStored := by
  unfold State.incidentStored
  dsimp only
  (repeat' split) <;> simp [KeepsDests]

@[simp] theorem State.eraseComplete_keepsDests (s : State) (target block : Nat) (ok : Bool) :
    KeepsDests s (s.eraseComplete target block ok) := by
  unfold State.eraseComplete
  dsimp only
  split_ifs <;> simp [KeepsDests]

@[simp] theorem State.identifyTargets_keepsDests (s : State) (vnandMV : Nat) (targets : List FlashTarget) :
    KeepsDests s (s.identifyTargets vnandMV targets) := by
  unfold State.identifyTargets
  dsimp only
  split_ifs <;> simp [KeepsDests]

@[simp] theorem State.identify_keepsDests (s : State) (vnandMV : Nat) (targets : List FlashTarget) :
    KeepsDests s (s.identify vnandMV targets) := by
  unfold State.identify
  split <;> simp [KeepsDests]

@[simp] theorem State.recover_keepsDests (s : State) (i : Incident) : KeepsDests s (s.recover i) := by
  simp [KeepsDests, State.recover]

@[simp] theorem State.replay_keepsDests (s : State) : KeepsDests s s.replay := by
  unfold State.replay
  refine KeepsDests.ite _ (KeepsDests.refl s) ?_
  extract_lets e lost v
  have hv : KeepsDests s v := KeepsDests.foldl (f := State.recover) State.recover_keepsDests lost { s with evr := e }
  exact KeepsDests.ite _ hv hv

@[simp] theorem State.flashFormat_keepsDests (s : State) (v : Nat) : KeepsDests s (s.flashFormat v) := by
  unfold State.flashFormat
  dsimp only
  split_ifs <;> simp [KeepsDests]

@[simp] theorem State.flashInterlock_keepsDests (s : State) (temp : Int) (broken : Bool) :
    KeepsDests s (s.flashInterlock temp broken) := by
  unfold State.flashInterlock
  dsimp only
  split_ifs <;> simp [KeepsDests]

@[simp] theorem State.protect_keepsDests (s : State) (n : Nat) (on : Bool) : KeepsDests s (s.protect n on) :=
  ⟨rfl, rfl, rfl⟩

@[simp] theorem State.deleteIncident_keepsDests (s : State) (n : Nat) : KeepsDests s (s.deleteIncident n) := by
  unfold State.deleteIncident
  split <;> simp [KeepsDests]

/-! ### The stores (02 R62, R63) -/

@[simp] theorem State.startStore_keepsDests (s : State) (job : StoreJob) : KeepsDests s (s.startStore job) := by
  unfold State.startStore
  split <;> simp [KeepsDests]

@[simp] theorem State.storeParameters_keepsDests (s : State) (v : Nat) : KeepsDests s (s.storeParameters v) := by
  unfold State.storeParameters
  split <;> simp [KeepsDests]

@[simp] theorem State.restoreDefaults_keepsDests (s : State) (v : Nat) : KeepsDests s (s.restoreDefaults v) := by
  unfold State.restoreDefaults
  split <;> simp [KeepsDests]

@[simp] theorem State.storePlan_keepsDests (s : State) (v : Nat) : KeepsDests s (s.storePlan v) := by
  unfold State.storePlan
  (repeat' split) <;> simp [KeepsDests]

@[simp] theorem State.loseStore_keepsDests (s : State) : KeepsDests s s.loseStore := by
  unfold State.loseStore
  split <;> simp [KeepsDests]

/-! ### Calibration (21) -/

@[simp] theorem State.calMeasure_keepsDests (s : State) (m : CalMeas) : KeepsDests s (s.calMeasure m) := by
  simp [KeepsDests, State.calMeasure]

@[simp] theorem State.calDone_keepsDests (s : State) (groups : List Nat) (outOfRange : List Nat) :
    KeepsDests s (s.calDone groups outOfRange) :=
  ⟨rfl, rfl, rfl⟩

@[simp] theorem State.bootCalibration_keepsDests (s : State) (m : CalMeas) : KeepsDests s (s.bootCalibration m) := by
  unfold State.bootCalibration
  split <;> simp [KeepsDests]

@[simp] theorem State.driftStep_keepsDests (s : State) (m : CalMeas) : KeepsDests s (s.driftStep m) := by
  unfold State.driftStep
  dsimp only
  (repeat' split) <;> simp [KeepsDests]

@[simp] theorem State.turnaroundStep_keepsDests (s : State) (m : CalMeas) : KeepsDests s (s.turnaroundStep m) := by
  unfold State.turnaroundStep
  split <;> simp [KeepsDests]

@[simp] theorem State.timerStep_keepsDests (s : State) (m : CalMeas) : KeepsDests s (s.timerStep m) := by
  unfold State.timerStep
  split <;> simp [KeepsDests]

@[simp] theorem State.calibrateNow_keepsDests (s : State) (v : Nat) : KeepsDests s (s.calibrateNow v) := by
  unfold State.calibrateNow
  split <;> simp [KeepsDests]

@[simp] theorem State.calBoundary_keepsDests (s : State) : KeepsDests s s.calBoundary :=
  KeepsDests.foldl (fun _ _ => State.raiseIf_keepsDests _ _ _ _ _) _ _

@[simp] theorem State.skewMeasure_keepsDests (s : State) (v : Nat) : KeepsDests s (s.skewMeasure v) := by
  unfold State.skewMeasure
  split <;> simp [KeepsDests]

@[simp] theorem State.loseSkew_keepsDests (s : State) : KeepsDests s s.loseSkew := by
  unfold State.loseSkew
  split <;> simp [KeepsDests]

/-! ### The monitor (16) -/

@[simp] theorem State.setSlot_keepsDests (s : State) (i : Nat) (m : MonSlot) : KeepsDests s (s.setSlot i m) :=
  ⟨rfl, rfl, rfl⟩

@[simp] theorem State.restartSlots_keepsDests (s : State) (p : Nat → Bool) : KeepsDests s (s.restartSlots p) :=
  ⟨rfl, rfl, rfl⟩

@[simp] theorem State.biasResult_keepsDests (s : State) (g code : Nat) (ovr : Bool) (since : Nat) :
    KeepsDests s (s.biasResult g code ovr since) := by
  unfold State.biasResult
  dsimp only
  split_ifs <;> simp [KeepsDests]

@[simp] theorem State.gainResult_keepsDests (s : State) (g code : Nat) (ovr : Bool) :
    KeepsDests s (s.gainResult g code ovr) := by
  simp [KeepsDests, State.gainResult]

@[simp] theorem State.muxResult_keepsDests (s : State) (code : Nat) (ovr : Bool) (since : Nat) :
    KeepsDests s (s.muxResult code ovr since) := by
  unfold State.muxResult
  dsimp only
  split_ifs <;> simp [KeepsDests]

@[simp] theorem State.startSequence_keepsDests (s : State) : KeepsDests s s.startSequence := by
  unfold State.startSequence
  split <;> simp [KeepsDests]

@[simp] theorem State.sequence_keepsDests (s : State) : KeepsDests s s.sequence := by
  unfold State.sequence
  split_ifs <;> simp [KeepsDests]

@[simp] theorem State.sequenceTrigger_keepsDests (s : State) (v : Nat) : KeepsDests s (s.sequenceTrigger v) := by
  unfold State.sequenceTrigger
  split <;> simp [KeepsDests]

@[simp] theorem State.endSequence_keepsDests (s : State) : KeepsDests s s.endSequence := by
  unfold State.endSequence
  dsimp only
  (repeat' split) <;> simp [KeepsDests]

@[simp] theorem State.setSlotConfig_keepsDests (s : State) (v : List Byte) : KeepsDests s (s.setSlotConfig v) := by
  simp [KeepsDests, State.setSlotConfig]

@[simp] theorem State.slotConfigWrite_keepsDests (s : State) (off : Nat) (bytes : List Byte) :
    KeepsDests s (s.slotConfigWrite off bytes) := by
  unfold State.slotConfigWrite
  (repeat' split) <;> simp [KeepsDests]

@[simp] theorem State.slotOutput_keepsDests (s : State) (i : Nat) (c : SlotCfg) (y : Nat × Bool) :
    KeepsDests s (s.slotOutput i c y) := by
  unfold State.slotOutput
  dsimp only
  (repeat' split) <;> simp [KeepsDests]

@[simp] theorem State.conversion_keepsDests (s : State) (conv : Nat) (uV : Int) (vref : Nat) :
    KeepsDests s (s.conversion conv uV vref) := by
  unfold State.conversion
  dsimp only
  (repeat' split) <;> simp [KeepsDests]

@[simp] theorem State.settle_keepsDests (s : State) : KeepsDests s s.settle := by
  unfold State.settle
  split <;> simp [KeepsDests]

@[simp] theorem State.unsettle_keepsDests (s : State) : KeepsDests s s.unsettle := by
  unfold State.unsettle
  split <;> simp [KeepsDests]

@[simp] theorem State.vrefCheck_keepsDests (s : State) (mV : Nat) : KeepsDests s (s.vrefCheck mV) := by
  unfold State.vrefCheck
  dsimp only
  split_ifs <;> simp [KeepsDests]

@[simp] theorem State.vanaCheck_keepsDests (s : State) : KeepsDests s s.vanaCheck := by
  unfold State.vanaCheck
  split_ifs <;> simp [KeepsDests]

@[simp] theorem State.referenceSettles_keepsDests (s : State) : KeepsDests s s.referenceSettles := by
  unfold State.referenceSettles
  split <;> simp [KeepsDests]

/-! ### Time (17) -/

@[simp] theorem State.setClock_keepsDests (s : State) (ns : Int) (frac : Nat) : KeepsDests s (s.setClock ns frac) :=
  ⟨rfl, rfl, rfl⟩

@[simp] theorem State.timeStep_keepsDests (s : State) (offset : Int) (frac : Nat) : KeepsDests s (s.timeStep offset frac) := by
  simp [KeepsDests, State.timeStep]

@[simp] theorem State.syncTo_keepsDests (s : State) (st : SyncState) : KeepsDests s (s.syncTo st) := by
  unfold State.syncTo
  split <;> simp [KeepsDests]

@[simp] theorem State.syncFree_keepsDests (s : State) : KeepsDests s s.syncFree := by
  simp [KeepsDests, State.syncFree]

@[simp] theorem State.holdover_keepsDests (s : State) : KeepsDests s s.holdover := by
  simp [KeepsDests, State.holdover]

@[simp] theorem State.servoStep_keepsDests (s : State) (offset interval ff : Int) :
    KeepsDests s (s.servoStep offset interval ff) := by
  unfold State.servoStep
  split <;> simp [KeepsDests]

@[simp] theorem State.syncState_keepsDests (s : State) (offset : Int) : KeepsDests s (s.syncState offset) := by
  unfold State.syncState
  dsimp only
  (repeat' split) <;> simp [KeepsDests]

@[simp] theorem State.followUp_keepsDests (s : State) (m : FollowUpMsg) : KeepsDests s (s.followUp m) := by
  unfold State.followUp
  dsimp only
  (repeat' split) <;> simp [KeepsDests]

@[simp] theorem State.syncTimeout_keepsDests (s : State) : KeepsDests s s.syncTimeout := by
  unfold State.syncTimeout
  (repeat' split) <;> simp [KeepsDests]

@[simp] theorem State.holdoverEnds_keepsDests (s : State) : KeepsDests s s.holdoverEnds := by
  unfold State.holdoverEnds
  split <;> simp [KeepsDests]

@[simp] theorem State.notCapable_keepsDests (s : State) : KeepsDests s s.notCapable := by
  unfold State.notCapable
  dsimp only
  split_ifs <;> simp [KeepsDests]

@[simp] theorem State.pdelaySend_keepsDests (s : State) : KeepsDests s s.pdelaySend := by
  unfold State.pdelaySend
  dsimp only
  split_ifs <;> simp [KeepsDests]

@[simp] theorem State.pdelayResponse_keepsDests (s : State) (seqId : Nat) (peerRx peerTx : Int) :
    KeepsDests s (s.pdelayResponse seqId peerRx peerTx) := by
  unfold State.pdelayResponse
  dsimp only
  (repeat' split) <;> simp [KeepsDests]

@[simp] theorem State.localTimeSet_keepsDests (s : State) (value : List Byte) : KeepsDests s (s.localTimeSet value) := by
  unfold State.localTimeSet
  split <;> simp [KeepsDests]

@[simp] theorem State.tsinEdge_keepsDests (s : State) (input : Nat) (falling : Bool) :
    KeepsDests s (s.tsinEdge input falling) := by
  unfold State.tsinEdge
  dsimp only
  (repeat' split) <;> simp [KeepsDests]

@[simp] theorem State.setFmeasConfig_keepsDests (s : State) (v : List Byte) : KeepsDests s (s.setFmeasConfig v) :=
  ⟨rfl, rfl, rfl⟩

@[simp] theorem State.framePhase_keepsDests (s : State) (p : Plan) (start : Nat) : KeepsDests s (s.framePhase p start).2 := by
  unfold State.framePhase
  split <;> simp [KeepsDests]

/-! ### Waveform capture (15) -/

@[simp] theorem State.addRecords_keepsDests (s : State) (h : WcuHead) (pre : Nat) (short : Bool)
    (samples : Nat → List WcuSample) :
    KeepsDests s (s.addRecords h pre short samples) :=
  ⟨rfl, rfl, rfl⟩

@[simp] theorem State.captureDone_keepsDests (s : State) : KeepsDests s s.captureDone := by
  simp [KeepsDests, State.captureDone]

@[simp] theorem State.wcuArm_keepsDests (s : State) : KeepsDests s s.wcuArm := by
  unfold State.wcuArm
  split <;> simp [KeepsDests]

@[simp] theorem State.keepPartial_keepsDests (s : State) (h : WcuHead) : KeepsDests s (s.keepPartial h) :=
  ⟨rfl, rfl, rfl⟩

@[simp] theorem State.wcuStop_keepsDests (s : State) : KeepsDests s s.wcuStop := by
  unfold State.wcuStop
  dsimp only
  (repeat' split) <;> simp [KeepsDests]

@[simp] theorem State.armWrite_keepsDests (s : State) (v : Nat) : KeepsDests s (s.armWrite v) := by
  unfold State.armWrite
  split_ifs <;> simp [KeepsDests]

@[simp] theorem State.wcuRearm_keepsDests (s : State) (at64 : Nat) : KeepsDests s (s.wcuRearm at64) := by
  unfold State.wcuRearm
  split_ifs <;> simp [KeepsDests]

@[simp] theorem State.wcuTrigger_keepsDests (s : State) (source at64 : Nat) : KeepsDests s (s.wcuTrigger source at64) := by
  unfold State.wcuTrigger
  dsimp only
  (repeat' split) <;> simp [KeepsDests]

@[simp] theorem State.forceTrigger_keepsDests (s : State) (v : Nat) : KeepsDests s (s.forceTrigger v) := by
  unfold State.forceTrigger
  split <;> simp [KeepsDests]

@[simp] theorem State.sourceTrigger_keepsDests (s : State) (x : WcuSource) : KeepsDests s (s.sourceTrigger x) := by
  unfold State.sourceTrigger
  split <;> simp [KeepsDests]

@[simp] theorem State.postFilled_keepsDests (s : State) (samples : List (Nat × List WcuSample)) :
    KeepsDests s (s.postFilled samples) := by
  unfold State.postFilled
  (repeat' split) <;> simp [KeepsDests]

@[simp] theorem State.skewCalibrate_keepsDests (s : State) (v : Nat) : KeepsDests s (s.skewCalibrate v) := by
  unfold State.skewCalibrate
  split <;> simp [KeepsDests]

@[simp] theorem State.skewCalibrated_keepsDests (s : State) (trims : List (Nat × List Byte)) :
    KeepsDests s (s.skewCalibrated trims) := by
  unfold State.skewCalibrated
  split <;> simp [KeepsDests]

/-! ### Temperature (16) -/

@[simp] theorem State.ntcValue_keepsDests (s : State) (i n : Nat) : KeepsDests s (s.ntcValue i n).2 := by
  unfold State.ntcValue
  split <;> simp [KeepsDests]

@[simp] theorem State.diodeCheck_keepsDests (s : State) : KeepsDests s s.diodeCheck := by
  unfold State.diodeCheck
  dsimp only
  split_ifs <;> simp [KeepsDests]

@[simp] theorem State.temperatureInUse_keepsDests (s : State) (first : Bool) : KeepsDests s (s.temperatureInUse first) :=
  ⟨rfl, rfl, rfl⟩

@[simp] theorem State.thermalRound_keepsDests (s : State) : KeepsDests s s.thermalRound := by
  simp [KeepsDests, State.thermalRound]

/-! ### The Spring (19) -/

@[simp] theorem State.sequence1_keepsDests (s : State) (cause : Nat) : KeepsDests s (s.sequence1 cause) :=
  ⟨rfl, rfl, rfl⟩

@[simp] theorem State.interlockTo_keepsDests (s : State) (on : Bool) : KeepsDests s (s.interlockTo on) := by
  unfold State.interlockTo
  dsimp only
  split_ifs <;> simp [KeepsDests]

@[simp] theorem State.beginShutdown_keepsDests (s : State) (dest : Nat) : KeepsDests s (s.beginShutdown dest) := by
  unfold State.beginShutdown
  split <;> simp [KeepsDests]

@[simp] theorem State.parkMirror_keepsDests (s : State) : KeepsDests s s.parkMirror := by
  unfold State.parkMirror
  split <;> simp [KeepsDests]

@[simp] theorem State.sleepCommand_keepsDests (s : State) (v : Nat) : KeepsDests s (s.sleepCommand v) := by
  unfold State.sleepCommand
  split <;> simp [KeepsDests]

@[simp] theorem State.resetCommand_keepsDests (s : State) (v : Nat) : KeepsDests s (s.resetCommand v) := by
  unfold State.resetCommand
  split <;> simp [KeepsDests]

@[simp] theorem State.roundValues_keepsDests (s : State) (r : RoundIn) : KeepsDests s (s.roundValues r).1 := by
  simp [KeepsDests, State.roundValues]

@[simp] theorem State.ntcRound_keepsDests (s : State) (i n : Nat) : KeepsDests s (s.ntcRound i n) := by
  simp [KeepsDests, State.ntcRound]

@[simp] theorem State.runningRound_keepsDests (s : State) : KeepsDests s s.runningRound := by
  unfold State.runningRound
  dsimp only
  split_ifs <;> simp [KeepsDests]

@[simp] theorem State.sleepRound_keepsDests (s : State) : KeepsDests s s.sleepRound := by
  unfold State.sleepRound
  dsimp only
  (repeat' split) <;> simp [KeepsDests]

@[simp] theorem State.coldRound_keepsDests (s : State) : KeepsDests s s.coldRound := by
  unfold State.coldRound
  dsimp only
  split_ifs <;> simp [KeepsDests]

@[simp] theorem State.faultRound_keepsDests (s : State) : KeepsDests s s.faultRound := by
  unfold State.faultRound
  dsimp only
  split_ifs <;> simp [KeepsDests]

@[simp] theorem State.vsysRound_keepsDests (s : State) : KeepsDests s s.vsysRound := by
  unfold State.vsysRound
  dsimp only
  split_ifs <;> simp [KeepsDests]

@[simp] theorem State.roundDecisions_keepsDests (s : State) (r : RoundIn) : KeepsDests s (s.roundDecisions r) := by
  have hvalues := State.roundValues_keepsDests s r
  unfold State.roundDecisions
  dsimp only
  split_ifs <;> simp [KeepsDests, State.keep]

/-! ### Lease and units (14) -/

@[simp] theorem State.expire_keepsDests (s : State) (cause : Nat) : KeepsDests s (s.expire cause) := by
  unfold State.expire
  dsimp only
  (repeat' split) <;> simp [KeepsDests]

@[simp] theorem State.leaseRelease_keepsDests (s : State) (unit : Nat) (epoch : Word) (cause : Nat) :
    KeepsDests s (s.leaseRelease unit epoch cause) := by
  unfold State.leaseRelease
  split <;> simp [KeepsDests]

@[simp] theorem State.leaseExpiry_keepsDests (s : State) : KeepsDests s s.leaseExpiry := by
  unfold State.leaseExpiry
  dsimp only
  split_ifs <;> simp [KeepsDests]

@[simp] theorem State.fence_keepsDests (s : State) (unit : Nat) : KeepsDests s (s.fence unit) := by
  unfold State.fence
  split_ifs <;> simp [KeepsDests]

@[simp] theorem State.grant_keepsDests (s : State) : KeepsDests s s.grant := by
  unfold State.grant
  dsimp only
  (repeat' split) <;> simp [KeepsDests]

@[simp] theorem State.offerTimeout_keepsDests (s : State) : KeepsDests s s.offerTimeout := by
  unfold State.offerTimeout
  split <;> simp [KeepsDests]

@[simp] theorem State.preferredTimeout_keepsDests (s : State) : KeepsDests s s.preferredTimeout := by
  unfold State.preferredTimeout
  (repeat' split) <;> simp [KeepsDests]

@[simp] theorem State.autonomyOver_keepsDests (s : State) : KeepsDests s s.autonomyOver := by
  unfold State.autonomyOver
  (repeat' split) <;> simp [KeepsDests]

@[simp] theorem State.heartbeat_keepsDests (s : State) (unit : Nat) : KeepsDests s (s.heartbeat unit) := by
  unfold State.heartbeat
  dsimp only
  (repeat' split) <;> simp [KeepsDests]

@[simp] theorem State.heartbeatLoss_keepsDests (s : State) (unit : Nat) : KeepsDests s (s.heartbeatLoss unit) := by
  unfold State.heartbeatLoss
  dsimp only
  (repeat' split) <;> simp [KeepsDests]

@[simp] theorem State.imageCheck_keepsDests (s : State) (ok : Bool) : KeepsDests s (s.imageCheck ok) := by
  unfold State.imageCheck
  dsimp only
  (repeat' split) <;> simp [KeepsDests]

@[simp] theorem State.firmwareLoad_keepsDests (s : State) (unit : Nat) (flash : NorFlash) (slot0 slot1 : ImageSlot) :
    KeepsDests s (s.firmwareLoad unit flash slot0 slot1) := by
  unfold State.firmwareLoad
  dsimp only
  (repeat' split) <;> simp [KeepsDests]

@[simp] theorem State.reloadDone_keepsDests (s : State) (unit : Nat) (ok : Bool) : KeepsDests s (s.reloadDone unit ok) := by
  unfold State.reloadDone
  dsimp only
  (repeat' split) <;> simp [KeepsDests]

@[simp] theorem State.holdUnit_keepsDests (s : State) (unit : Nat) : KeepsDests s (s.holdUnit unit) := by
  unfold State.holdUnit
  dsimp only
  (repeat' split) <;> simp [KeepsDests]

@[simp] theorem State.redundancy_keepsDests (s : State) (single : Bool) : KeepsDests s (s.redundancy single) := by
  unfold State.redundancy
  dsimp only
  (repeat' split) <;> simp [KeepsDests]

@[simp] theorem State.switchover_keepsDests (s : State) (v : Nat) : KeepsDests s (s.switchover v) := by
  unfold State.switchover
  split <;> simp [KeepsDests]

@[simp] theorem State.checkpointFails_keepsDests (s : State) : KeepsDests s s.checkpointFails :=
  ⟨rfl, rfl, rfl⟩

@[simp] theorem State.checkpointDone_keepsDests (s : State) : KeepsDests s s.checkpointDone := by
  unfold State.checkpointDone
  dsimp only
  (repeat' split) <;> simp [KeepsDests]

@[simp] theorem State.checkpointDeadline_keepsDests (s : State) : KeepsDests s s.checkpointDeadline := by
  unfold State.checkpointDeadline
  (repeat' split) <;> simp [KeepsDests]

/-! ### Columns, slots and frames (01; 03) -/

@[simp] theorem State.load_keepsDests (s : State) (c : ColCtx) : KeepsDests s (s.load c) :=
  ⟨rfl, rfl, rfl⟩

@[simp] theorem State.arm_keepsDests (s : State) (f : FrameInfo) (visit : Nat) (late fetch : Bool) :
    KeepsDests s (s.arm f visit late fetch) := by
  unfold State.arm
  split <;> simp [KeepsDests]

@[simp] theorem State.prefetchDone_keepsDests (s : State) : KeepsDests s s.prefetchDone := by
  unfold State.prefetchDone
  (repeat' split) <;> simp [KeepsDests]

@[simp] theorem State.slotBegin_keepsDests (s : State) (cal : Sys2Proof.TdcCal) : KeepsDests s (s.slotBegin cal) := by
  unfold State.slotBegin
  dsimp only
  (repeat' split) <;> simp [KeepsDests]

@[simp] theorem State.turnBegin_keepsDests (s : State) : KeepsDests s s.turnBegin := by
  unfold State.turnBegin
  dsimp only
  split_ifs <;> simp [KeepsDests]

@[simp] theorem State.cutoff_keepsDests (s : State) : KeepsDests s s.cutoff := by
  unfold State.cutoff
  dsimp only
  (repeat' split) <;> simp [KeepsDests]

@[simp] theorem State.frameEnd_keepsDests (s : State) (p : Plan) : KeepsDests s (s.frameEnd p) := by
  unfold State.frameEnd
  split <;> simp [KeepsDests]

@[simp] theorem State.ledgerBoundary_keepsDests (s : State) (q : Plan) : KeepsDests s (s.ledgerBoundary q) := by
  unfold State.ledgerBoundary
  split <;> simp [KeepsDests]

@[simp] theorem State.takePlan_keepsDests (s : State) (p : Plan) (n : NextFrame) : KeepsDests s (s.takePlan p n) := by
  unfold State.takePlan
  dsimp only
  (repeat' split) <;> simp [KeepsDests]

@[simp] theorem State.frameBegin_keepsDests (s : State) (n : NextFrame) (q : Plan) (at_ : Nat) :
    KeepsDests s (s.frameBegin n q at_) :=
  ⟨rfl, rfl, rfl⟩

@[simp] theorem State.boundary_keepsDests (s : State) : KeepsDests s s.boundary := by
  unfold State.boundary
  dsimp only
  (repeat' split) <;> simp [KeepsDests]

@[simp] theorem State.bringUp_keepsDests (s : State) (p : Plan) (epoch : BitVec 16) : KeepsDests s (s.bringUp p epoch) := by
  simp [KeepsDests, State.bringUp]

@[simp] theorem State.startupPlan_keepsDests (s : State) : KeepsDests s s.startupPlan := by
  unfold State.startupPlan
  (repeat' split) <;> simp [KeepsDests]

/-! ### Requests (02) -/

@[simp] theorem State.respond_keepsDests (s : State) (ep : Endpoint) (op : Byte) (seq : BitVec 16) (resp : List Byte) :
    KeepsDests s (s.respond ep op seq resp) := by
  simp [KeepsDests, State.respond]

@[simp] theorem State.writeReg_keepsDests (s : State) (r : ObjRow) (v : ValueItem) : KeepsDests s (s.writeReg r v) := by
  unfold State.writeReg
  split <;> simp [KeepsDests]

@[simp] theorem State.startCommand_keepsDests (s : State) (v : ValueItem) : KeepsDests s (s.startCommand v) := by
  unfold State.startCommand
  split <;> simp [KeepsDests]

@[simp] theorem State.writeItem_keepsDests (staging : Bool) (s : State) (v : ValueItem) :
    KeepsDests s (s.writeItem staging v) := by
  unfold State.writeItem
  dsimp only
  (repeat' split) <;> simp [KeepsDests]

@[simp] theorem State.acceptCommit_keepsDests (s : State) (ep : Endpoint) (req : List Byte) (plan : Plan) :
    KeepsDests s (s.acceptCommit ep req plan) := by
  unfold State.acceptCommit
  dsimp only
  split_ifs <;> simp [KeepsDests]

@[simp] theorem State.rejectCommit_keepsDests (s : State) (ep : Endpoint) (req : List Byte) (reason key : Nat) :
    KeepsDests s (s.rejectCommit ep req reason key) := by
  simp [KeepsDests, State.rejectCommit]

theorem State.rcClear_keepsDests (s : State) (key : Nat) : KeepsDests s (s.rcClear key) := by
  unfold State.rcClear
  split <;> exact ⟨rfl, rfl, rfl⟩

theorem State.cellRecord_keepsDests (s : State) : KeepsDests s s.cellRecord.2.2 := by
  unfold State.cellRecord
  extract_lets sel p row col set inGrid
  split
  · exact KeepsDests.refl s
  · exact State.readLine_keepsDests _ _ _ _

@[simp] theorem State.readValue_keepsDests (s : State) (key : Nat) (access : Access) :
    KeepsDests s (s.readValue key access).2 := by
  cases access with
  | rc => exact State.rcClear_keepsDests s key
  | ro =>
    simp only [State.readValue]
    split
    · exact State.cellRecord_keepsDests s
    · exact KeepsDests.refl s
  | _ => exact KeepsDests.refl s

theorem State.readItem_keepsDests (s : State) (staged : Bool) (spare : Nat) (i : ReadItem) :
    KeepsDests s (s.readItem staged spare i).2.2 := by
  unfold State.readItem
  split
  · simp [KeepsDests]
  next r _ =>
    split
    · simp [KeepsDests]
    split
    · simp [KeepsDests]
    split
    next full t heq =>
      have ht : KeepsDests s t := by
        split at heq
        · cases heq
          exact KeepsDests.refl s
        · have hvalue := State.readValue_keepsDests s i.key r.access
          rw [heq] at hvalue
          exact hvalue
      split <;> exact ht

theorem State.readItems_keepsDests (items : List ReadItem) (s : State) (staged : Bool) (spare : Nat) :
    KeepsDests s (s.readItems staged spare items).2 := by
  induction items generalizing s spare with
  | nil => exact KeepsDests.refl s
  | cons i items ih => exact (State.readItem_keepsDests s staged spare i).trans (ih _ _)

@[simp] theorem State.doRead_keepsDests (s : State) (ep : Endpoint) (op : Byte) (m : KppMsg) (staged : Bool)
    (items : List ReadItem) :
    KeepsDests s (s.doRead ep op m staged items) := by
  unfold State.doRead
  split
  · exact State.respond_keepsDests _ _ _ _ _
  · dsimp only
    split
    · exact State.respond_keepsDests _ _ _ _ _
    · exact (State.readItems_keepsDests items s staged _).trans (State.respond_keepsDests _ _ _ _ _)

@[simp] theorem State.doWrite_keepsDests (s : State) (ep : Endpoint) (op : Byte) (m : KppMsg) (items : List ValueItem) :
    KeepsDests s (s.doWrite ep op m items) := by
  have hitems : KeepsDests s (items.foldl (State.writeItem (s.txn.holds m.handle)) s) :=
    KeepsDests.foldl (fun v x => State.writeItem_keepsDests _ v x) items s
  unfold State.doWrite
  dsimp only
  split_ifs
  · exact State.respond_keepsDests _ _ _ _ _
  · exact hitems.trans ((State.respond_keepsDests _ _ _ _ _).trans (State.switchover_keepsDests _ _))
  · exact hitems.trans (State.respond_keepsDests _ _ _ _ _)

@[simp] theorem State.doCommit_keepsDests (s : State) (ep : Endpoint) (m : KppMsg) (bytes : List Byte) :
    KeepsDests s (s.doCommit ep m bytes) := by
  unfold State.doCommit
  split_ifs <;> simp [KeepsDests]

@[simp] theorem State.doRollback_keepsDests (s : State) (ep : Endpoint) (m : KppMsg) : KeepsDests s (s.doRollback ep m) := by
  unfold State.doRollback
  split_ifs <;> simp [KeepsDests]

@[simp] theorem State.countMalformed_keepsDests (s : State) : KeepsDests s s.countMalformed :=
  ⟨rfl, rfl, rfl⟩

@[simp] theorem State.resend_keepsDests (s : State) (ep : Endpoint) (op : Byte) (seq : BitVec 16) (resp : List Byte) :
    KeepsDests s (s.resend ep op seq resp) := by
  simp [KeepsDests, State.resend]

@[simp] theorem State.discardCan_keepsDests (s : State) : KeepsDests s s.discardCan := by
  unfold State.discardCan
  split <;> simp [KeepsDests]

@[simp] theorem State.sendEvents_keepsDests (s : State) : KeepsDests s s.sendEvents :=
  KeepsDests.ite _ (KeepsDests.refl s) (KeepsDests.foldl (f := fun (s : State) ep => s.sendKpp ep _)
    (fun _ _ => State.sendKpp_keepsDests _ _ _) s.kpp.dests { s with kpp := { s.kpp with txq := s.kpp.txq.drop 16 } })

@[simp] theorem State.canTimeout_keepsDests (s : State) : KeepsDests s s.canTimeout := by
  unfold State.canTimeout
  split <;> simp [KeepsDests]

/-! ### Users of the memory (10 R264) -/

@[simp] theorem State.lineArrives_keepsDests (s : State) (user : MemUser) (line : Nat) (bytes : List Byte) (bad : Bool) :
    KeepsDests s (s.lineArrives user line bytes bad) := by
  unfold State.lineArrives
  (repeat' split) <;> simp [KeepsDests]

@[simp] theorem State.lineRead_keepsDests (s : State) (user : MemUser) (line : Nat) (flips : List (Nat × BitVec 13)) :
    KeepsDests s (s.lineRead user line flips) := by
  unfold State.lineRead
  split <;> simp [KeepsDests]

/-! ### Claims and takeovers (14) -/

@[simp] theorem State.flushDeferred_keepsDests (s : State) : KeepsDests s s.flushDeferred := by
  have hrecords : ∀ (l : List Deferred) (k : Kpp),
      (l.foldl (fun (k : Kpp) d => k.record d.cycle d.time d.code d.sub d.detail) k).dests = k.dests := by
    intro l
    induction l with
    | nil => exact fun k => rfl
    | cons d l ih => exact fun k => (ih _).trans (Kpp.record_dests _ _ _ _ _ _)
  exact ⟨hrecords _ _, rfl, rfl⟩

/-! ### At most two destinations: what resets do -/

theorem KeepsDests.bounded {s u : State} (h : KeepsDests s u) (hs : DestinationsBounded s) : DestinationsBounded u := by
  obtain ⟨hdests, hslot0, hslot1⟩ := h
  rw [DestinationsBounded, hdests, hslot0, hslot1]
  exact hs

/-- The effect `f` of a command leaves at most two destinations where there were no more. -/
def BoundsDests (f : State → State) : Prop := ∀ s, DestinationsBounded s → DestinationsBounded (f s)

theorem BoundsDests.of_keeps {f : State → State} (h : ∀ s, KeepsDests s (f s)) : BoundsDests f :=
  fun s hs => (h s).bounded hs

theorem BoundsDests.ite {f g : State → State} (c : State → Prop) [DecidablePred c] (hf : BoundsDests f)
    (hg : BoundsDests g) : BoundsDests fun s => if c s then f s else g s := by
  intro s hs
  dsimp only
  split
  · exact hf s hs
  · exact hg s hs

/-- After a reset of the main domain there is no destination. -/
theorem State.mainReset_bounded (s : State) : DestinationsBounded s.mainReset :=
  ⟨Nat.zero_le 2, Nat.zero_le 2, Nat.zero_le 2⟩

theorem State.powerDown_bounded (s : State) : DestinationsBounded s.powerDown := State.mainReset_bounded s

theorem State.railFault_bounded (s : State) (ch : Nat) : DestinationsBounded (s.railFault ch) := State.mainReset_bounded s

theorem State.powerOn_bounded (s : State) (crystal32 : Bool) : DestinationsBounded (s.powerOn crystal32) :=
  State.mainReset_bounded s

theorem State.railTimeout_bounded : BoundsDests State.railTimeout :=
  BoundsDests.ite _ (fun s _ => State.railFault_bounded s _) fun _ hs => hs

theorem State.undervoltage_bounded : BoundsDests State.undervoltage :=
  BoundsDests.ite _ (fun s _ => State.powerDown_bounded s) fun _ hs => hs

theorem State.sample_keepsDests (s : State) (powerOn : Bool) (devnum : BitVec 9) (safeCfg : Bool) :
    KeepsDests s (s.sample powerOn devnum safeCfg) := by
  simp [KeepsDests, State.sample]

theorem State.release_bounded (s : State) (devnum : BitVec 9) (safeCfg : Bool) :
    DestinationsBounded (s.release devnum safeCfg) :=
  (State.sample_keepsDests _ _ _ _).bounded (State.mainReset_bounded s)

theorem State.shutdownEnd_keepsDests (s : State) : KeepsDests s s.shutdownEnd := by
  unfold State.shutdownEnd
  dsimp only
  split_ifs <;> simp [KeepsDests]

theorem State.shutdownStep_bounded : BoundsDests State.shutdownStep := by
  intro s hs
  unfold State.shutdownStep
  split
  · exact hs
  dsimp only
  split
  · exact hs
  split
  · exact (State.parkMirror_keepsDests s).bounded hs
  split
  · exact State.mainReset_bounded s
  split
  · exact hs
  split
  · exact hs
  · exact (State.shutdownEnd_keepsDests s).bounded hs

/-! ### A round of the Spring (19 R431 to R433) -/

theorem State.supplyRound_bounded : BoundsDests State.supplyRound := by
  intro s hs
  unfold State.supplyRound
  extract_lets x out runs vsys low lowRun overRun hardRun anyOut inRun v1 v2 sets v3 held v4 going v5
  have h2 : KeepsDests s v2 := KeepsDests.trans (u := v1) ⟨rfl, rfl, rfl⟩ (State.raiseIf_keepsDests _ _ _ _ _)
  have h3 : KeepsDests v2 v3 := KeepsDests.ite _ (State.interlockTo_keepsDests _ _)
    (KeepsDests.ite _ (State.interlockTo_keepsDests _ _) (KeepsDests.refl v2))
  have h4 : KeepsDests v3 v4 := ⟨rfl, rfl, rfl⟩
  have h5 : KeepsDests v3 v5 := KeepsDests.ite _ (h4.trans (KeepsDests.ite _ ⟨rfl, rfl, rfl⟩
    (State.beginShutdown_keepsDests _ _))) (KeepsDests.refl v3)
  split
  · exact State.railFault_bounded v5 _
  · exact (h2.trans (h3.trans h5)).bounded hs

theorem State.stateRound_bounded : BoundsDests State.stateRound := by
  intro s hs
  unfold State.stateRound
  split
  · exact State.supplyRound_bounded _ ((KeepsDests.ite _ (State.runningRound_keepsDests s) (KeepsDests.refl s)).bounded hs)
  · extract_lets sleeping v
    have hv : KeepsDests s v := KeepsDests.ite _ ⟨rfl, rfl, rfl⟩ (KeepsDests.refl s)
    split
    · exact State.supplyRound_bounded v (hv.bounded hs)
    · exact hv.bounded hs
  · exact (State.sleepRound_keepsDests s).bounded hs
  · exact (State.coldRound_keepsDests s).bounded hs
  · exact (KeepsDests.ite _ (KeepsDests.refl s) (State.sequence1_keepsDests s 4)).bounded hs
  · exact (State.faultRound_keepsDests s).bounded hs
  · exact (State.vsysRound_keepsDests s).bounded hs

theorem State.round_bounded (r : RoundIn) : BoundsDests fun s => s.round r := by
  intro s hs
  have hround := State.stateRound_bounded _ ((State.roundDecisions_keepsDests s r).bounded hs)
  unfold State.round
  dsimp only
  split
  · exact hs
  split
  · exact (State.vanaCheck_keepsDests _).bounded hround
  · exact hround

/-! ### The checkpoint and a takeover (14 R344, R346) -/

theorem Cu.setSlot_bounded {c : Cu} {x : Checkpoint} (k : Nat) (h0 : c.slot0.dests.length ≤ 2)
    (h1 : c.slot1.dests.length ≤ 2) (hx : x.dests.length ≤ 2) :
    (c.setSlot k x).slot0.dests.length ≤ 2 ∧ (c.setSlot k x).slot1.dests.length ≤ 2 := by
  unfold Cu.setSlot
  split
  · exact ⟨hx, h1⟩
  · exact ⟨h0, hx⟩

theorem State.checkpointStart_bounded (frame : Word) : BoundsDests fun s => s.checkpointStart frame := by
  intro s hs
  obtain ⟨hdests, h0, h1⟩ := hs
  dsimp only
  unfold State.checkpointStart
  split
  · exact ⟨hdests, h0, h1⟩
  · exact ⟨hdests, Cu.setSlot_bounded _ h0 h1 hdests⟩

theorem State.checkpointTurn_bounded : BoundsDests State.checkpointTurn :=
  BoundsDests.ite _ (fun _ hs => State.checkpointStart_bounded _ _ hs) fun _ hs => hs

theorem State.checkpointTimer_bounded : BoundsDests State.checkpointTimer :=
  BoundsDests.ite _ (fun _ hs => State.checkpointStart_bounded _ _ hs) fun _ hs => hs

theorem Cu.checkpointInForce_eq_some {c : Cu} {k : Checkpoint} (h : c.checkpointInForce = some k) :
    k = c.slot0 ∨ k = c.slot1 := by
  unfold Cu.checkpointInForce at h
  split_ifs at h <;> cases h <;> simp

theorem State.takeCheckpoint_bounded : BoundsDests State.takeCheckpoint := by
  intro s hs
  obtain ⟨hdests, h0, h1⟩ := hs
  unfold State.takeCheckpoint
  split
  next k hk =>
    obtain rfl | rfl := Cu.checkpointInForce_eq_some hk
    · exact ⟨h0, h0, h1⟩
    · exact ⟨h1, h0, h1⟩
  · obtain ⟨-, hraise0, hraise1⟩ := (State.raise_keepsDests { s with cu := { s.cu with ckLost := true } } 0x5C04 0x13 0).bounded
      ⟨hdests, h0, h1⟩
    exact ⟨Nat.zero_le 2, hraise0, hraise1⟩

/-! ### Requests (02 R46 to R60) -/

/-- A third destination replaces the older one. -/
theorem Kpp.length_subscribe_le {k : Kpp} (ep : Endpoint) (on : Bool) (h : k.dests.length ≤ 2) :
    (k.subscribe ep on).dests.length ≤ 2 := by
  unfold Kpp.subscribe
  split_ifs
  · exact (List.length_filter_le _ _).trans h
  · exact h
  · rw [List.length_drop, List.length_append, List.length_singleton]
    omega

theorem State.perform_bounded (ep : Endpoint) (op : Byte) (m : KppMsg) (bytes : List Byte) (choice : BitVec 16) (r : Request) :
    BoundsDests fun s => s.perform ep op m bytes choice r := by
  intro s hs
  dsimp only
  unfold State.perform
  extract_lets v
  have hkeeps : KeepsDests s v := KeepsDests.ite _ ⟨rfl, rfl, rfl⟩ (KeepsDests.refl s)
  have hv := hkeeps.bounded hs
  split
  · exact (State.doRead_keepsDests v ep op m _ _).bounded hv
  · exact (State.doWrite_keepsDests v ep op m _).bounded hv
  · exact (State.respond_keepsDests { v with txn := _ } _ _ _ _).bounded hv
  · exact (State.doCommit_keepsDests v ep m bytes).bounded hv
  · exact (State.doRollback_keepsDests v ep m).bounded hv
  next on =>
    obtain ⟨hdests, h0, h1⟩ := hv
    exact (State.respond_keepsDests { v with kpp := v.kpp.subscribe ep on } _ _ _ _).bounded
      ⟨Kpp.length_subscribe_le ep on hdests, h0, h1⟩

theorem State.execute_bounded (ep : Endpoint) (bytes : List Byte) (choice : BitVec 16) :
    BoundsDests fun s => s.execute ep bytes choice := by
  intro s hs
  dsimp only
  unfold State.execute
  split
  · exact (State.countMalformed_keepsDests s).bounded hs
  dsimp only
  split
  · exact hs
  split
  · exact (State.resend_keepsDests s _ _ _ _).bounded hs
  split
  · exact (State.resend_keepsDests s _ _ _ _).bounded hs
  split
  · exact ((State.countMalformed_keepsDests s).trans (State.respond_keepsDests _ _ _ _ _)).bounded hs
  · exact State.perform_bounded _ _ _ _ _ _ s hs

theorem State.holdRequest_keepsDests (s : State) (ep : Endpoint) (bytes : List Byte) (choice : BitVec 16) :
    KeepsDests s (s.holdRequest ep bytes choice) :=
  KeepsDests.ite _ ⟨rfl, rfl, rfl⟩ ⟨rfl, rfl, rfl⟩

theorem State.arrive_bounded (ep : Endpoint) (bytes : List Byte) (choice : BitVec 16) :
    BoundsDests fun s => s.arrive ep bytes choice := by
  intro s hs
  dsimp only
  unfold State.arrive
  split
  · exact (State.countMalformed_keepsDests s).bounded hs
  split
  · exact (State.holdRequest_keepsDests s _ _ _).bounded hs
  split
  · exact hs
  · exact State.execute_bounded _ _ _ s hs

theorem State.kppArrive_bounded (ep : Endpoint) (bytes : List Byte) (choice : BitVec 16) :
    BoundsDests fun s => s.kppArrive ep bytes choice := by
  intro s hs
  have hdiscard := (State.discardCan_keepsDests s).bounded hs
  dsimp only
  unfold State.kppArrive
  split
  · exact State.arrive_bounded _ _ _ s hs
  split
  · exact hs
  split
  · exact (State.countMalformed_keepsDests _).bounded hdiscard
  · exact State.arrive_bounded _ _ _ _ hdiscard

/-- The requests that waited run one after another. -/
theorem State.drain_bounded (l : List (Endpoint × List Byte × BitVec 16)) : BoundsDests fun s => s.drain l := by
  intro s hs
  induction l generalizing s with
  | nil => exact hs
  | cons x l ih =>
    dsimp only
    unfold State.drain
    split
    · exact hs
    · exact ih _ (State.execute_bounded _ _ _ s hs)

theorem State.runHeld_bounded : BoundsDests State.runHeld :=
  fun _ hs => State.drain_bounded _ _ hs

theorem State.validationDone_bounded : BoundsDests State.validationDone := by
  intro s hs
  unfold State.validationDone
  split
  · split
    · exact hs
    · dsimp only
      split
      · exact State.drain_bounded _ _ ((State.acceptCommit_keepsDests _ _ _ _).bounded hs)
      · exact State.drain_bounded _ _ ((State.rejectCommit_keepsDests _ _ _ _ _).bounded hs)
  · exact hs

/-! ### Segments, claims and the end of a takeover (02 R37, R38; 14 R339, R346) -/

theorem State.canBytes_bounded (got : List Byte) (counter : Nat) (last : Bool) (bytes : List Byte) :
    BoundsDests fun s => s.canBytes got counter last bytes := by
  intro s hs
  dsimp only
  unfold State.canBytes
  dsimp only
  split
  · split
    · exact hs
    · exact State.arrive_bounded _ _ _ _ hs
  · split <;> exact hs

theorem State.canSegment_bounded (frame : List Byte) : BoundsDests fun s => s.canSegment frame := by
  intro s hs
  dsimp only
  unfold State.canSegment
  split
  · exact hs
  next c bytes =>
    extract_lets v first last counter
    have hkeeps : KeepsDests s v := KeepsDests.ite _ (State.discardCan_keepsDests s) (KeepsDests.refl s)
    have hv := hkeeps.bounded hs
    have hdiscard := (State.discardCan_keepsDests v).bounded hv
    split
    · split
      · exact State.canBytes_bounded _ _ _ _ _ hdiscard
      · exact hdiscard
    split
    · exact hv
    split
    · exact State.canBytes_bounded _ _ _ _ _ hv
    · exact hdiscard

theorem State.claim_bounded (unit : Nat) : BoundsDests fun s => s.claim unit := by
  intro s hs
  dsimp only
  unfold State.claim
  extract_lets late c again c' unit' v1 v2 v3 v4 x
  have h1 : KeepsDests s v1 := by simp [KeepsDests, v1, c', c]
  have h3 : KeepsDests v1 v3 := ((State.setSource_keepsDests _ _ _).trans (State.flushDeferred_keepsDests _)).trans
    (State.raise_keepsDests v2 _ _ _)
  have h4 : KeepsDests v3 v4 := KeepsDests.ite _ (State.redundancy_keepsDests _ _) (KeepsDests.refl v3)
  have hclaimed := (h1.trans (h3.trans h4)).bounded hs
  split
  · exact hclaimed
  · exact State.runHeld_bounded _ hclaimed

theorem State.renewal_bounded (unit : Nat) (epoch : Word) : BoundsDests fun s => s.renewal unit epoch := by
  intro s hs
  dsimp only
  unfold State.renewal
  split
  · split <;> exact hs
  split
  · exact State.claim_bounded unit s hs
  · exact hs

theorem State.takeoverDone_bounded : BoundsDests State.takeoverDone := by
  intro s hs
  unfold State.takeoverDone
  split
  · exact hs
  · extract_lets v1 v2 v3 c v4
    have h1 : DestinationsBounded v1 := State.takeCheckpoint_bounded s hs
    have h2 : KeepsDests v1 v2 := KeepsDests.ite _ (KeepsDests.refl v1) ⟨rfl, rfl, rfl⟩
    have h3 : KeepsDests v2 v3 := by simp [KeepsDests, v3]
    have h4 : KeepsDests v3 v4 := ⟨rfl, rfl, rfl⟩
    exact State.runHeld_bounded _ ((h2.trans (h3.trans (h4.trans (State.declareConflict_keepsDests _ _)))).bounded h1)

/-! ### Runs -/

theorem DestinationsBounded.keepAll {a o : State} (fr : List UnitId) (ha : DestinationsBounded a)
    (ho : DestinationsBounded o) : DestinationsBounded (a.keepAll o fr) := by
  obtain ⟨hadests, ha0, ha1⟩ := ha
  obtain ⟨hodests, ho0, ho1⟩ := ho
  rw [DestinationsBounded, State.keepAll_kpp, State.keepAll_cu]
  split_ifs
  · exact ⟨hodests, ho0, ho1⟩
  · exact ⟨hodests, ha0, ha1⟩
  · exact ⟨hadests, ho0, ho1⟩
  · exact ⟨hadests, ha0, ha1⟩

section Runs
variable {t : Nat} {fr : List UnitId} {f : State → State} {s u : State} (hf : BoundsDests f) (hs : DestinationsBounded s)
include hf hs

theorem run_bounded (he : run t fr f s = .next u) : DestinationsBounded u := by
  rw [run_eq] at he
  cases he
  exact DestinationsBounded.keepAll fr (hf (s.atTime t) hs) hs

theorem runMain_bounded (he : runMain t fr f s = .next u) : DestinationsBounded u :=
  run_bounded (BoundsDests.ite (fun v => v.mainOn = true) hf fun _ hv => hv) hs he

theorem runUnit_bounded (he : runUnit t fr f s = .next u) : DestinationsBounded u :=
  runMain_bounded (BoundsDests.ite (fun v => v.unitActs = true) hf fun _ hv => hv) hs he

theorem runEvr_bounded (he : runEvr t fr f s = .next u) : DestinationsBounded u :=
  runMain_bounded (BoundsDests.ite (fun v => v.part.variant.hasRecorder = true) hf fun _ hv => hv) hs he

theorem runEvrUnit_bounded (he : runEvrUnit t fr f s = .next u) : DestinationsBounded u :=
  runEvr_bounded (BoundsDests.ite (fun v => v.unitActs = true) hf fun _ hv => hv) hs he

theorem runWcu_bounded (he : runWcu t fr f s = .next u) : DestinationsBounded u :=
  runMain_bounded (BoundsDests.ite (fun v => v.part.variant.hasRecorder = true) hf fun _ hv => hv) hs he

theorem runWcuUnit_bounded (he : runWcuUnit t fr f s = .next u) : DestinationsBounded u :=
  runWcu_bounded (BoundsDests.ite (fun v => v.unitActs = true) hf fun _ hv => hv) hs he

theorem runLine_bounded {line : Nat} (he : runLine t line fr f s = .next u) : DestinationsBounded u := by
  unfold runLine at he
  split at he
  · exact runMain_bounded hf hs he
  · cases he

end Runs

/-! ### The commands -/

section Commands
variable {s u : State} (hs : DestinationsBounded s)
include hs

theorem execCanSegmentReceive_bounded {t : Nat} {frame : CanFrame} (he : execCanSegmentReceive t frame s = .next u) :
    DestinationsBounded u :=
  runMain_bounded (BoundsDests.ite (fun v => (v.canOn && (frame.extended, frame.id) == v.canRequestId) = true)
    (State.canSegment_bounded frame.data) fun _ hv => hv) hs he

theorem execFireEdge_bounded {t : Nat} {senses : List Sense} (he : execFireEdge t senses s = .next u) :
    DestinationsBounded u :=
  runMain_bounded (BoundsDests.of_keeps fun v => by dsimp only; (repeat' split) <;> simp [KeepsDests]) hs he

theorem execLedgerBooking_bounded {t corrected : Nat} {uncorrectable : Bool}
    (he : execLedgerBooking t corrected uncorrectable s = .next u) : DestinationsBounded u :=
  runMain_bounded (BoundsDests.of_keeps fun v => by dsimp only; (repeat' split) <;> simp [KeepsDests]) hs he

theorem execTestPulseEnd_bounded {t : Nat} (he : execTestPulseEnd t s = .next u) : DestinationsBounded u :=
  runMain_bounded (BoundsDests.of_keeps fun v => by dsimp only; (repeat' split) <;> simp [KeepsDests]) hs he

theorem execLedgerSweep_bounded {t corrected : Nat} {uncorrectable mismatch : Bool}
    (he : execLedgerSweep t corrected uncorrectable mismatch s = .next u) : DestinationsBounded u :=
  runMain_bounded (BoundsDests.of_keeps fun v => by dsimp only; (repeat' split) <;> simp [KeepsDests]) hs he

theorem execGateReadbackEdge_bounded {t port : Nat} (he : execGateReadbackEdge t port s = .next u) : DestinationsBounded u :=
  runMain_bounded (BoundsDests.of_keeps fun v => by split <;> simp [KeepsDests]) hs he

theorem execEmitEnFbChange_bounded {t : Nat} {level : Bool} (he : execEmitEnFbChange t level s = .next u) :
    DestinationsBounded u :=
  run_bounded (BoundsDests.of_keeps fun v => by split <;> simp [KeepsDests]) hs he

theorem execFeedbackStuck_bounded {t : Nat} (he : execFeedbackStuck t s = .next u) : DestinationsBounded u :=
  runMain_bounded (BoundsDests.of_keeps fun v => by split <;> simp [KeepsDests]) hs he

theorem execSupplyNotOn_bounded {t : Nat} (he : execSupplyNotOn t s = .next u) : DestinationsBounded u :=
  runMain_bounded (BoundsDests.of_keeps fun v => by dsimp only; (repeat' split) <;> simp [KeepsDests]) hs he

theorem execRearmPinEdge_bounded {t : Nat} (he : execRearmPinEdge t s = .next u) : DestinationsBounded u :=
  runMain_bounded (BoundsDests.of_keeps fun v => by dsimp only; (repeat' split) <;> simp [KeepsDests]) hs he

theorem execIdleTdcCalibration_bounded {t : Nat} {x : TdcCal} (he : execIdleTdcCalibration t x s = .next u) :
    DestinationsBounded u :=
  runMain_bounded (BoundsDests.of_keeps fun v => by dsimp only; (repeat' split) <;> simp [KeepsDests]) hs he

theorem execPoolSwap_bounded {t : Nat} (he : execPoolSwap t s = .next u) : DestinationsBounded u :=
  runMain_bounded (BoundsDests.of_keeps fun v => by dsimp only; (repeat' split) <;> simp [KeepsDests]) hs he

theorem execTarnRecordWrite_bounded {t : Nat} (he : execTarnRecordWrite t s = .next u) : DestinationsBounded u := by
  refine runMain_bounded (BoundsDests.of_keeps fun v => ?_) hs he
  dsimp only
  split
  · exact KeepsDests.refl v
  split
  · exact KeepsDests.refl v
  · exact KeepsDests.foldl (fun w _ => State.writeWhole_keepsDests w _ _ _) _ v

theorem execColumnBlockQueue_bounded {t : Nat} (he : execColumnBlockQueue t s = .next u) : DestinationsBounded u :=
  runMain_bounded (BoundsDests.of_keeps fun v => by dsimp only; (repeat' split) <;> simp [KeepsDests]) hs he

theorem execH4ColumnCopy_bounded {t : Nat} (he : execH4ColumnCopy t s = .next u) : DestinationsBounded u :=
  runMain_bounded (BoundsDests.of_keeps fun v => by dsimp only; (repeat' split) <;> simp [KeepsDests]) hs he

theorem execDiagnosticShot_bounded {t : Nat} {senses : List Sense} (he : execDiagnosticShot t senses s = .next u) :
    DestinationsBounded u :=
  runMain_bounded (BoundsDests.of_keeps fun v => by dsimp only; (repeat' split) <;> simp [KeepsDests]) hs he

theorem execBscPeriodStart_bounded {t : Nat} (he : execBscPeriodStart t s = .next u) : DestinationsBounded u :=
  runMain_bounded (BoundsDests.of_keeps fun v => by dsimp only; (repeat' split) <;> simp [KeepsDests]) hs he

theorem execBscProductComplete_bounded {t axis corrected : Nat} {uncorrectable : Bool}
    (he : execBscProductComplete t axis corrected uncorrectable s = .next u) : DestinationsBounded u :=
  runMain_bounded (BoundsDests.of_keeps fun v => by dsimp only; (repeat' split) <;> simp [KeepsDests]) hs he

theorem execBootFillComplete_bounded {t : Nat} (he : execBootFillComplete t s = .next u) : DestinationsBounded u :=
  runMain_bounded (BoundsDests.of_keeps fun v => by dsimp only; (repeat' split) <;> simp [KeepsDests]) hs he

theorem execMemoryWrite_bounded {t : Nat} {user : MemUser} {line : Nat} {bytes : List (Nat × Byte)}
    (he : execMemoryWrite t user line bytes s = .next u) : DestinationsBounded u :=
  runLine_bounded (BoundsDests.of_keeps fun v => by split <;> simp [KeepsDests]) hs he

theorem execScrubTick_bounded {t : Nat} {flips : List (Nat × BitVec 13)} (he : execScrubTick t flips s = .next u) :
    DestinationsBounded u :=
  runMain_bounded (BoundsDests.of_keeps fun v => by dsimp only; (repeat' split) <;> simp [KeepsDests]) hs he

theorem execRemapCopyComplete_bounded {t : Nat} (he : execRemapCopyComplete t s = .next u) : DestinationsBounded u :=
  runMain_bounded (BoundsDests.of_keeps fun v => by dsimp only; (repeat' split) <;> simp [KeepsDests]) hs he

theorem execPortPllLock_bounded {t port : Nat} (he : execPortPllLock t port s = .next u) : DestinationsBounded u :=
  runMain_bounded (BoundsDests.of_keeps fun v => by dsimp only; (repeat' split) <;> simp [KeepsDests]) hs he

theorem execStatusMessage_bounded {t port : Nat} {m : BackMsg} (he : execStatusMessage t port m s = .next u) :
    DestinationsBounded u :=
  runMain_bounded (BoundsDests.of_keeps fun v => by unfold backMessage; dsimp only; (repeat' split) <;> simp [KeepsDests]) hs he

theorem execRetrainMessage_bounded {t port : Nat} {m : BackMsg} (he : execRetrainMessage t port m s = .next u) :
    DestinationsBounded u :=
  runMain_bounded (BoundsDests.of_keeps fun v => by unfold backMessage; dsimp only; (repeat' split) <;> simp [KeepsDests]) hs he

theorem execBackChannelLoss_bounded {t port : Nat} (he : execBackChannelLoss t port s = .next u) : DestinationsBounded u :=
  runMain_bounded (BoundsDests.of_keeps fun v => by dsimp only; (repeat' split) <;> simp [KeepsDests]) hs he

theorem execRetrain4Lanes_bounded {t port : Nat} (he : execRetrain4Lanes t port s = .next u) : DestinationsBounded u :=
  runUnit_bounded (BoundsDests.of_keeps fun v => by split <;> simp [KeepsDests]) hs he

theorem execRetrainPresentWidth_bounded {t port : Nat} (he : execRetrainPresentWidth t port s = .next u) :
    DestinationsBounded u :=
  runUnit_bounded (BoundsDests.of_keeps fun v => by split <;> simp [KeepsDests]) hs he

theorem execTsinEdge_bounded {t input : Nat} {falling : Bool} (he : execTsinEdge t input falling s = .next u) :
    DestinationsBounded u :=
  runMain_bounded (BoundsDests.of_keeps fun v => by dsimp only; (repeat' split) <;> simp [KeepsDests]) hs he

theorem execResetRelease_bounded {t : Nat} {devnum : BitVec 9} {safeCfg : Bool}
    (he : execResetRelease t devnum safeCfg s = .next u) : DestinationsBounded u :=
  run_bounded (fun v hv => by
    split
    · exact State.release_bounded v _ _
    · exact hv) hs he

end Commands

/-- No command leaves more than two destinations: those that change neither the front end nor the control units keep
them, and each of the others is a run of an operation above. -/
theorem exec_bounded {c : Instr} {s u : State} (hs : DestinationsBounded s) (he : exec c s = .next u) :
    DestinationsBounded u := by
  by_cases hl : .kpp ∉ changesOf c ∧ .cu ∉ changesOf c
  · obtain ⟨hkpp, hcu⟩ := hl
    have hchanges := (exec_onlyChanges he).2
    rw [DestinationsBounded, ← hchanges .kpp hkpp, ← hchanges .cu hcu]
    exact hs
  cases c
  case kppRead => exact runMain_bounded (State.kppArrive_bounded _ _ _) hs he
  case kppWrite => exact runMain_bounded (State.kppArrive_bounded _ _ _) hs he
  case kppReadStaged => exact runMain_bounded (State.kppArrive_bounded _ _ _) hs he
  case kppBegin => exact runMain_bounded (State.kppArrive_bounded _ _ _) hs he
  case kppCommit => exact runMain_bounded (State.kppArrive_bounded _ _ _) hs he
  case commitValidationComplete => exact runMain_bounded State.validationDone_bounded hs he
  case kppRollback => exact runMain_bounded (State.kppArrive_bounded _ _ _) hs he
  case kppSubscribe => exact runMain_bounded (State.kppArrive_bounded _ _ _) hs he
  case kppUnsubscribe => exact runMain_bounded (State.kppArrive_bounded _ _ _) hs he
  case shortMessage => exact runMain_bounded (State.kppArrive_bounded _ _ _) hs he
  case canSegmentReceive => exact execCanSegmentReceive_bounded hs he
  case canSegmentTimeout => exact runMain_bounded (BoundsDests.of_keeps fun v => State.canTimeout_keepsDests v) hs he
  case eventSend => exact runMain_bounded (BoundsDests.of_keeps fun v => State.sendEvents_keepsDests v) hs he
  case startupPlanValidation => exact runMain_bounded (BoundsDests.of_keeps fun v => State.startupPlan_keepsDests v) hs he
  case frameBoundary => exact runMain_bounded (BoundsDests.of_keeps fun v => State.boundary_keepsDests v) hs he
  case prefetchComplete => exact runMain_bounded (BoundsDests.of_keeps fun v => State.prefetchDone_keepsDests v) hs he
  case shotSlotStart => exact runMain_bounded (BoundsDests.of_keeps fun v => State.slotBegin_keepsDests v _) hs he
  case fireEdge => exact execFireEdge_bounded hs he
  case ledgerBooking => exact execLedgerBooking_bounded hs he
  case idleTdcCalibration => exact execIdleTdcCalibration_bounded hs he
  case poolSwap => exact execPoolSwap_bounded hs he
  case tarnRecordWrite => exact execTarnRecordWrite_bounded hs he
  case columnBlockQueue => exact execColumnBlockQueue_bounded hs he
  case h4ColumnCopy => exact execH4ColumnCopy_bounded hs he
  case turnaroundStart => exact runMain_bounded (BoundsDests.of_keeps fun v => State.turnBegin_keepsDests v) hs he
  case diagnosticShot => exact execDiagnosticShot_bounded hs he
  case testPulseCheck => exact runMain_bounded (BoundsDests.of_keeps fun v => State.checkTest_keepsDests v) hs he
  case testPulseEnd => exact execTestPulseEnd_bounded hs he
  case commitCutoff => exact runMain_bounded (BoundsDests.of_keeps fun v => State.cutoff_keepsDests v) hs he
  case driftCalibrationStep =>
    exact runMain_bounded (BoundsDests.of_keeps fun v => State.turnaroundStep_keepsDests v _) hs he
  case checkpointWriteStart => exact runMain_bounded State.checkpointTurn_bounded hs he
  case checkpointWriteComplete =>
    exact runMain_bounded (BoundsDests.of_keeps fun v => State.checkpointDone_keepsDests v) hs he
  case checkpointDeadline =>
    exact runMain_bounded (BoundsDests.of_keeps fun v => State.checkpointDeadline_keepsDests v) hs he
  case bscPeriodStart => exact execBscPeriodStart_bounded hs he
  case bscProductComplete => exact execBscProductComplete_bounded hs he
  case bscRestart => exact runUnit_bounded (BoundsDests.of_keeps fun v => State.restart_keepsDests v _) hs he
  case ledgerSweep => exact execLedgerSweep_bounded hs he
  case clockMonitorFail => exact runMain_bounded (BoundsDests.of_keeps fun v => State.trip_keepsDests v _) hs he
  case gateReadbackEdge => exact execGateReadbackEdge_bounded hs he
  case emitEnFbChange => exact execEmitEnFbChange_bounded hs he
  case feedbackStuck => exact execFeedbackStuck_bounded hs he
  case supplyNotOn => exact execSupplyNotOn_bounded hs he
  case rearmPinEdge => exact execRearmPinEdge_bounded hs he
  case rearmRequest => exact runUnit_bounded (BoundsDests.of_keeps fun v => State.rearmRequest_keepsDests v _) hs he
  case emissionStop => exact runUnit_bounded (BoundsDests.of_keeps fun v => State.emissionStop_keepsDests v _) hs he
  case bootFillComplete => exact execBootFillComplete_bounded hs he
  case memoryRead => exact runLine_bounded (BoundsDests.of_keeps fun v => State.lineRead_keepsDests v _ _ _) hs he
  case memoryWrite => exact execMemoryWrite_bounded hs he
  case scrubTick => exact execScrubTick_bounded hs he
  case remapCopyComplete => exact execRemapCopyComplete_bounded hs he
  case statusMessage => exact execStatusMessage_bounded hs he
  case retrainMessage => exact execRetrainMessage_bounded hs he
  case backChannelLoss => exact execBackChannelLoss_bounded hs he
  case portPllLock => exact execPortPllLock_bounded hs he
  case laneRateWrite => exact runUnit_bounded (BoundsDests.of_keeps fun v => State.laneRateWrite_keepsDests v _ _) hs he
  case portEnableWrite => exact runUnit_bounded (BoundsDests.of_keeps fun v => State.portEnableWrite_keepsDests v _ _) hs he
  case retrain4Lanes => exact execRetrain4Lanes_bounded hs he
  case retrainPresentWidth => exact execRetrainPresentWidth_bounded hs he
  case leaseRenewal => exact runMain_bounded (State.renewal_bounded _ _) hs he
  case leaseRelease => exact runMain_bounded (BoundsDests.of_keeps fun v => State.leaseRelease_keepsDests v _ _ _) hs he
  case leaseExpiry => exact runMain_bounded (BoundsDests.of_keeps fun v => State.leaseExpiry_keepsDests v) hs he
  case fenceTimerExpiry => exact runMain_bounded (BoundsDests.of_keeps fun v => State.fence_keepsDests v _) hs he
  case leaseGrant => exact runMain_bounded (BoundsDests.of_keeps fun v => State.grant_keepsDests v) hs he
  case offerTimeout => exact runMain_bounded (BoundsDests.of_keeps fun v => State.offerTimeout_keepsDests v) hs he
  case autonomyWindowEnd => exact runMain_bounded (BoundsDests.of_keeps fun v => State.autonomyOver_keepsDests v) hs he
  case takeoverComplete => exact runMain_bounded State.takeoverDone_bounded hs he
  case heartbeat => exact runMain_bounded (BoundsDests.of_keeps fun v => State.heartbeat_keepsDests v _) hs he
  case heartbeatLoss => exact runMain_bounded (BoundsDests.of_keeps fun v => State.heartbeatLoss_keepsDests v _) hs he
  case standbyImageCheck => exact runMain_bounded (BoundsDests.of_keeps fun v => State.imageCheck_keepsDests v _) hs he
  case standbyReloadComplete =>
    exact runMain_bounded (BoundsDests.of_keeps fun v => State.reloadDone_keepsDests v _ _) hs he
  case switchover => exact runUnit_bounded (BoundsDests.of_keeps fun v => State.switchover_keepsDests v _) hs he
  case firmwareLoad => exact runMain_bounded (BoundsDests.of_keeps fun v => State.firmwareLoad_keepsDests v _ _ _ _) hs he
  case attestRequest => exact runUnit_bounded (BoundsDests.of_keeps fun v => State.attestRequest_keepsDests v _) hs he
  case attestComplete => exact runUnit_bounded (BoundsDests.of_keeps fun v => State.attestDone_keepsDests v) hs he
  case followUpReceive => exact runMain_bounded (BoundsDests.of_keeps fun v => State.followUp_keepsDests v _) hs he
  case pdelayReqSend => exact runMain_bounded (BoundsDests.of_keeps fun v => State.pdelaySend_keepsDests v) hs he
  case pdelayRespReceive =>
    exact runMain_bounded (BoundsDests.of_keeps fun v => State.pdelayResponse_keepsDests v _ _ _) hs he
  case syncReceiptTimeout => exact runMain_bounded (BoundsDests.of_keeps fun v => State.syncTimeout_keepsDests v) hs he
  case holdoverLimit => exact runMain_bounded (BoundsDests.of_keeps fun v => State.holdoverEnds_keepsDests v) hs he
  case localTimeSet => exact runUnit_bounded (BoundsDests.of_keeps fun v => State.localTimeSet_keepsDests v _) hs he
  case tsinEdge => exact execTsinEdge_bounded hs he
  case forceTrigger => exact runWcuUnit_bounded (BoundsDests.of_keeps fun v => State.forceTrigger_keepsDests v _) hs he
  case wcuTrigger => exact runWcu_bounded (BoundsDests.of_keeps fun v => State.sourceTrigger_keepsDests v _) hs he
  case postfillComplete => exact runWcu_bounded (BoundsDests.of_keeps fun v => State.postFilled_keepsDests v _) hs he
  case wcuRearm => exact runWcu_bounded (BoundsDests.of_keeps fun v => State.wcuRearm_keepsDests v _) hs he
  case skewCalibrationComplete =>
    exact runWcu_bounded (BoundsDests.of_keeps fun v => State.skewCalibrated_keepsDests v _) hs he
  case monConversion => exact runMain_bounded (BoundsDests.of_keeps fun v => State.conversion_keepsDests v _ _ _) hs he
  case sequenceTrigger => exact runUnit_bounded (BoundsDests.of_keeps fun v => State.sequenceTrigger_keepsDests v _) hs he
  case slotConfigWrite => exact runUnit_bounded (BoundsDests.of_keeps fun v => State.slotConfigWrite_keepsDests v _ _) hs he
  case vrefExtCheck => exact runMain_bounded (BoundsDests.of_keeps fun v => State.vrefCheck_keepsDests v _) hs he
  case referenceSettle => exact runMain_bounded (BoundsDests.of_keeps fun v => State.referenceSettles_keepsDests v) hs he
  case springRound => exact run_bounded (State.round_bounded _) hs he
  case vsysUndervoltage => exact run_bounded State.undervoltage_bounded hs he
  case powerOn => exact run_bounded (fun v _ => State.powerOn_bounded v _) hs he
  case sleepCommand => exact runUnit_bounded (BoundsDests.of_keeps fun v => State.sleepCommand_keepsDests v _) hs he
  case resetCommand => exact runUnit_bounded (BoundsDests.of_keeps fun v => State.resetCommand_keepsDests v _) hs he
  case railConfirmTimeout => exact run_bounded State.railTimeout_bounded hs he
  case resetRelease => exact execResetRelease_bounded hs he
  case shutdownStepComplete => exact run_bounded State.shutdownStep_bounded hs he
  case recorderTrigger =>
    exact runEvrUnit_bounded (BoundsDests.of_keeps fun v => State.recorderTrigger_keepsDests v _) hs he
  case ringUnitWrite => exact runEvr_bounded (BoundsDests.of_keeps fun v => State.ringWrite_keepsDests v) hs he
  case pageProgramComplete => exact runEvr_bounded (BoundsDests.of_keeps fun v => State.pageComplete_keepsDests v _) hs he
  case blockEraseComplete =>
    exact runEvr_bounded (BoundsDests.of_keeps fun v => State.eraseComplete_keepsDests v _ _ _) hs he
  case incidentStored => exact runEvrUnit_bounded (BoundsDests.of_keeps fun v => State.incidentStored_keepsDests v) hs he
  case flashIdentify => exact runEvr_bounded (BoundsDests.of_keeps fun v => State.identify_keepsDests v _ _) hs he
  case journalReplay => exact runEvr_bounded (BoundsDests.of_keeps fun v => State.replay_keepsDests v) hs he
  case bootCalibration => exact runMain_bounded (BoundsDests.of_keeps fun v => State.bootCalibration_keepsDests v _) hs he
  case checkpointTimer => exact runMain_bounded State.checkpointTimer_bounded hs he
  case driftCalibrationTimer => exact runMain_bounded (BoundsDests.of_keeps fun v => State.timerStep_keepsDests v _) hs he
  case preferredClaimTimeout =>
    exact runMain_bounded (BoundsDests.of_keeps fun v => State.preferredTimeout_keepsDests v) hs he
  all_goals exact absurd ⟨by simp [changesOf], by simp [changesOf]⟩ hl

theorem step_bounded {s u : State} (hs : DestinationsBounded s) (h : step s = .next u) : DestinationsBounded u := by
  unfold step at h
  split at h
  · cases h
    exact hs
  next c rest _ => exact exec_bounded (s := { s with pending := rest }) hs h

/-! ### Subscriptions and the events sent (02 R60, R61) -/

theorem State.perform_subscribe (s : State) (ep : Endpoint) (op : Byte) (m : KppMsg) (bytes : List Byte)
    (choice : BitVec 16) (on : Bool) :
    s.perform ep op m bytes choice (.subscribe on) =
      ({ s.taking m with kpp := (s.taking m).kpp.subscribe ep on } : State).respond ep op m.seq
        ((s.taking m).response op m m.handle stOk 0 []) := by
  have hr : (Request.subscribe on != .begin_) = true := rfl
  simp only [State.perform, State.taking, hr, Bool.and_true]

theorem Kpp.subscribe_same {k : Kpp} {ep : Endpoint} (h : k.dests.contains ep = true) : k.subscribe ep true = k :=
  if_pos h

theorem Kpp.subscribe_new_dests {k : Kpp} {ep : Endpoint} (h : k.dests.contains ep = false) :
    (k.subscribe ep true).dests = (k.dests ++ [ep]).drop (k.dests.length - 1) := by
  simp only [Kpp.subscribe, h, Bool.not_true, Bool.false_eq_true, if_false]

theorem Kpp.mem_subscribe (k : Kpp) (ep : Endpoint) : ep ∈ (k.subscribe ep true).dests := by
  cases h : k.dests.contains ep with
  | true =>
    rw [Kpp.subscribe_same h]
    exact List.contains_iff_mem.mp h
  | false =>
    rw [Kpp.subscribe_new_dests h, List.drop_append_of_le_length (Nat.sub_le _ _)]
    exact List.mem_append_right _ (List.mem_singleton_self ep)

/-- The older of two destinations goes. -/
theorem Kpp.subscribe_third {k : Kpp} {ep : Endpoint} (h : k.dests.contains ep = false) (hlen : k.dests.length = 2) :
    (k.subscribe ep true).dests = k.dests.drop 1 ++ [ep] := by
  rw [Kpp.subscribe_new_dests h, hlen, List.drop_append_of_le_length (by omega)]

theorem Kpp.unsubscribe_dests (k : Kpp) (ep : Endpoint) :
    (k.subscribe ep false).dests = k.dests.filter fun d => d != ep := rfl

/-- A subscription or its end, asked outside the transaction: the front end's destinations and an answer. -/
theorem gives_subscribed {i : Instr} {s : State} {t : Nat} {ep : Endpoint} {op : Byte} {m : KppMsg} {on : Bool}
    {P : State → Prop}
    (he : exec i s = runMain t requestFrame (fun s => s.kppArrive ep (KppMsg.bytes m op) 0) s) (ht : s.Takes ep op m)
    (hr : requestOf ep op m = some (.subscribe on)) (hh : s.txn.holds m.handle = false)
    (hp : ∀ u, OnlyChanges [.kpp] s u → u.kpp.dests = (s.kpp.subscribe ep on).dests →
      u.out = [.kpp ep (kppBytes op m.seq m.handle 0 0 s.part.device [])] → P u) :
    Gives i s P := by
  have hdone : (s.atTime t).perform ep op m (KppMsg.bytes m op) 0 (.subscribe on) =
      ({ s.atTime t with kpp := s.kpp.subscribe ep on } : State).respond ep op m.seq
        (kppBytes op m.seq m.handle 0 0 s.part.device []) := by
    rw [State.perform_subscribe, State.taking_of_not_holds (s := s.atTime t) hh]
    rfl
  exact gives_answered he ht hr hdone (State.kpp_touches _ _) (by decide) (by decide) rfl
    fun u hl _ hdests hout => hp u hl hdests hout

theorem kppSubscribe_subscribes {s : State} {t : Nat} {ep : Endpoint} {m : KppMsg} (ht : s.Takes ep opSubscribe m)
    (hr : requestOf ep opSubscribe m = some (.subscribe true)) (hh : s.txn.holds m.handle = false)
    (hlen : s.kpp.dests.length ≤ 2) :
    Gives (.kppSubscribe t ep m) s fun u => OnlyChanges [.kpp] s u ∧ ep ∈ u.kpp.dests ∧ u.kpp.dests.length ≤ 2 ∧
      (s.kpp.dests.contains ep = false → s.kpp.dests.length = 2 → u.kpp.dests = s.kpp.dests.drop 1 ++ [ep]) ∧
      u.out = [.kpp ep (kppBytes opSubscribe m.seq m.handle 0 0 s.part.device [])] := by
  refine gives_subscribed (exec_kppSubscribe s) ht hr hh ?_
  rintro u hl hdests hout
  rw [hdests]
  exact ⟨hl, Kpp.mem_subscribe _ ep, Kpp.length_subscribe_le ep true hlen, Kpp.subscribe_third, hout⟩

theorem kppUnsubscribe_unsubscribes {s : State} {t : Nat} {ep : Endpoint} {m : KppMsg} (ht : s.Takes ep opUnsubscribe m)
    (hr : requestOf ep opUnsubscribe m = some (.subscribe false)) (hh : s.txn.holds m.handle = false) :
    Gives (.kppUnsubscribe t ep m) s fun u => OnlyChanges [.kpp] s u ∧ ep ∉ u.kpp.dests ∧
      (∀ d, d ≠ ep → (d ∈ u.kpp.dests ↔ d ∈ s.kpp.dests)) ∧
      u.out = [.kpp ep (kppBytes opUnsubscribe m.seq m.handle 0 0 s.part.device [])] := by
  refine gives_subscribed (exec_kppUnsubscribe s) ht hr hh ?_
  rintro u hl hdests hout
  rw [hdests, Kpp.unsubscribe_dests]
  exact ⟨hl, by simp, fun d hd => by simp [hd], hout⟩

/-- A batch of up to 16 records goes to a destination over UDP. -/
theorem State.sendEvents_udp {s : State} {a : BitVec 32} {p : BitVec 16} (hacts : s.unitActs = true) (hq : s.kpp.txq ≠ [])
    (hd : s.kpp.dests = [.udp a p]) :
    s.sendEvents = ({ s with kpp := { s.kpp with txq := s.kpp.txq.drop 16 } } : State).send
      (.kpp (.udp a p) (kppBytes opEvent 0 0 0 (s.kpp.txq.take 16).length s.part.device
        ((s.kpp.txq.take 16).flatMap EventRec.bytes))) := by
  have hbatch : (s.kpp.txq.take 16).isEmpty = false := by
    rw [List.isEmpty_eq_false_iff, ne_eq, List.take_eq_nil_iff]
    simp [hq]
  simp only [State.sendEvents, hacts, hbatch, hd, Bool.not_true, Bool.or_false, Bool.false_eq_true, if_false, List.foldl_cons,
    List.foldl_nil]
  rfl

theorem eventSend_sends {s : State} {t : Nat} {a : BitVec 32} {p : BitVec 16} (hm : s.mainOn = true)
    (hacts : s.unitActs = true) (hq : s.kpp.txq ≠ []) (hd : s.kpp.dests = [.udp a p]) :
    Gives (.eventSend t) s fun u => OnlyChanges [.kpp] s u ∧ u.kpp.txq = s.kpp.txq.drop 16 ∧
      u.out = [.kpp (.udp a p) (kppBytes opEvent 0 0 0 (s.kpp.txq.take 16).length s.part.device
        ((s.kpp.txq.take 16).flatMap EventRec.bytes))] := by
  refine gives_of_effect (exec_eventSend s) hm (State.sendEvents_udp (s := s.atTime t) hacts hq hd)
    ((State.kpp_touches _ _).trans ((State.send_touches _ _).mono (by decide))) ?_
  rintro u hl ⟨hout, hunits, -⟩
  rw [← show _ = u.kpp from hunits .kpp (by decide)]
  exact ⟨hl, rfl, hout⟩

/-- Settles O14: the bound holds of every step because every operation but a subscription, a reset, a checkpoint and its
restoration keeps the destinations, and each of these four leaves at most two. -/
theorem eventDestinations : Obligations.EventDestinations := by
  unfold Obligations.EventDestinations
  exact ⟨fun s u => step_bounded, fun s f => rfl, fun s t ep m => kppSubscribe_subscribes,
    fun s t ep m => kppUnsubscribe_unsubscribes, fun s t a p => eventSend_sends⟩

end Sys2Proof.Machine
end

section
/-!
SUPPORT. What the operations of the emitter drive unit make of the state: the end of the comparator blank, the verdicts of
pulses, the checks of the active codes, the gate and the pulses that leave (04 R98 to R114; 13 R312 to R319).
-/
namespace Sys2Proof.Machine

/-! ### The comparator blank (06 R151) -/

/-- The marks that assert as the blank ends stand in the receivers and the digitizers alone. -/
theorem State.endBlank_eq (s : State) : ∃ r a, s.endBlank = { s with rfe := r, tda := a } := by
  have hmarks : ∀ (l : List Nat) (v : State), ∃ r a, l.foldl State.assertMark v = { v with rfe := r, tda := a } := by
    intro l
    induction l with
    | nil => exact fun v => ⟨v.rfe, v.tda, rfl⟩
    | cons ch l ih =>
      intro v
      obtain ⟨r, a, h⟩ := ih (v.assertMark ch)
      exact ⟨r, a, h⟩
  unfold State.endBlank
  split
  · exact ⟨s.rfe, s.tda, rfl⟩
  · exact hmarks _ s

@[simp] theorem State.endBlank_now (s : State) : s.endBlank.now = s.now := by
  obtain ⟨r, a, h⟩ := s.endBlank_eq
  rw [h]
@[simp] theorem State.endBlank_out (s : State) : s.endBlank.out = s.out := by
  obtain ⟨r, a, h⟩ := s.endBlank_eq
  rw [h]
@[simp] theorem State.endBlank_pipe (s : State) : s.endBlank.pipe = s.pipe := by
  obtain ⟨r, a, h⟩ := s.endBlank_eq
  rw [h]
@[simp] theorem State.endBlank_edu (s : State) : s.endBlank.edu = s.edu := by
  obtain ⟨r, a, h⟩ := s.endBlank_eq
  rw [h]
@[simp] theorem State.endBlank_emg (s : State) : s.endBlank.emg = s.emg := by
  obtain ⟨r, a, h⟩ := s.endBlank_eq
  rw [h]
@[simp] theorem State.endBlank_reg (s : State) : s.endBlank.reg = s.reg := by
  obtain ⟨r, a, h⟩ := s.endBlank_eq
  rw [h]
  rfl
@[simp] theorem State.endBlank_inShotSlot (s : State) : s.endBlank.inShotSlot = s.inShotSlot := by
  simp only [State.inShotSlot, State.endBlank_pipe, State.endBlank_now]
@[simp] theorem State.endBlank_emissionOn (s : State) : s.endBlank.emissionOn = s.emissionOn := by
  rw [State.emissionOn, State.endBlank_emg, State.emissionOn]
@[simp] theorem State.endBlank_wouldFire (s : State) : s.endBlank.wouldFire = s.wouldFire := by
  funext
  simp only [State.wouldFire, State.endBlank_edu]
@[simp] theorem State.endBlank_firing (s : State) : s.endBlank.firing = s.firing := by
  funext
  simp only [State.firing, State.endBlank_emissionOn, State.endBlank_emg]

/-! ### Verdicts (04 R110 to R114) -/

/-- What verdicts leave of a state: only the ports and the records change, nothing is sent, and no shot is counted. -/
def Judged (s u : State) : Prop :=
  OnlyChanges [.edu, .kpp, .evr] s u ∧ u.out = s.out ∧ u.edu.diagFired = s.edu.diagFired

theorem Judged.refl (s : State) : Judged s s := ⟨OnlyChanges.refl _ s, rfl, rfl⟩

theorem Judged.trans {s u v : State} (a : Judged s u) (b : Judged u v) : Judged s v := by
  obtain ⟨hunits, hout, hcount⟩ := a
  obtain ⟨hunits', hout', hcount'⟩ := b
  exact ⟨hunits.trans hunits', hout'.trans hout, hcount'.trans hcount⟩

theorem Judged.ite {s a b : State} (c : Prop) [Decidable c] (ha : Judged s a) (hb : Judged s b) :
    Judged s (if c then a else b) := by
  split
  · exact ha
  · exact hb

theorem State.setPort_judged (s : State) (e : Nat) (x : PortState) : Judged s (s.setPort e x) :=
  ⟨(State.edu_touches s _).mono (by decide), rfl, rfl⟩

theorem State.raise_judged (s : State) (code sub d : Nat) : Judged s (s.raise code sub d) :=
  ⟨(State.raise_touches s code sub d).mono (by decide), State.raise_out _ _ _ _, by rw [State.raise_edu]⟩

theorem State.declarePort_judged (s : State) (e status : Nat) : Judged s (s.declarePort e status) := by
  have hfault : ∀ (v : State) (n : Word), Judged v { v with edu := { v.edu with faults := n } } := fun v _ =>
    ⟨(State.edu_touches v _).mono (by decide), rfl, rfl⟩
  exact (State.setPort_judged s e _).trans ((hfault _ _).trans (State.raise_judged _ _ _ _))

theorem State.judge_judged (s : State) (e peak : Nat) (v : Verdict) (diag : Bool) : Judged s (s.judge e peak v diag) := by
  refine Judged.ite _ (State.setPort_judged s e _) ?_
  cases v with
  | good => exact State.setPort_judged s e _
  | opened =>
    exact Judged.ite _ ((State.setPort_judged s e _).trans (State.declarePort_judged _ e _)) (State.setPort_judged s e _)
  | shorted =>
    exact Judged.ite _ ((State.setPort_judged s e _).trans (State.declarePort_judged _ e _)) (State.setPort_judged s e _)

theorem State.judgeAll_judged (s : State) (ports : List Nat) (code : Nat → Nat) (senses : List Sense) (diag : Bool) :
    Judged s (s.judgeAll ports code senses diag) := by
  have hall : ∀ (l : List Nat) (v : State), Judged v (l.foldl (fun s e =>
      s.judge e (senseOf senses e).peak (s.verdict (senseOf senses e) (code e)) diag) v) := by
    intro l
    induction l with
    | nil => exact Judged.refl
    | cons e l ih => exact fun v => (State.judge_judged v e _ _ diag).trans (ih _)
  exact Judged.ite _ (Judged.refl s) (hall ports s)

/-! ### Trips and the check of the active codes (13 R316, R317) -/

@[simp] theorem State.refuseRearm_out (s : State) (k : Nat) : (s.refuseRearm k).out = s.out := by
  unfold State.refuseRearm
  split
  · split
    · exact State.raise_out _ _ _ _
    · rfl
  · rfl

@[simp] theorem State.trip_out (s : State) (k : Nat) : (s.trip k).out = s.out := by
  unfold State.trip
  split
  · rfl
  · unfold State.tripWith
    rw [State.raise_out]
    dsimp only
    split
    · rw [State.trigger_out]
      exact State.refuseRearm_out s k
    · exact State.refuseRearm_out s k

@[simp] theorem State.codeCheck_out (s : State) (bad : Nat → PortState → Bool) : (s.codeCheck bad).out = s.out := by
  unfold State.codeCheck
  split
  · exact State.trip_out s 6
  · rfl

theorem State.codeCheck_touches (s : State) (bad : Nat → PortState → Bool) :
    OnlyChanges [.emg, .kpp, .evr] s (s.codeCheck bad) :=
  OnlyChanges.ite _ (State.trip_touches s 6) (OnlyChanges.refl _ s)

/-- The check passes where no used port has a bad code. -/
theorem State.codeCheck_of_good {s : State} {bad : Nat → PortState → Bool}
    (h : ∀ e, (s.port e).used = true → bad e (s.port e) = false) : s.codeCheck bad = s := by
  refine if_neg ?_
  rw [Bool.not_eq_true, List.any_eq_false]
  intro e _
  rw [Bool.not_eq_true, Bool.and_eq_false_imp]
  exact h e

/-! ### The gate (13 R315, R319) -/

/-- A decision of a slot not decided before, in which no pulse reaches a limit, gates no port. -/
theorem State.decideGate_of_no_cause {s : State} {p : Plan} {c slotAt : Nat} {pulses : List (Nat × Nat)} (each : Nat)
    (harmed : s.emg.state = .armed) (hnew : s.emg.decidedFor ≠ some slotAt)
    (hnone : ∀ x ∈ pulses, gateCause (s.ledgerNow p) (valueIn p 0x580008) x.1 (binsOf p x.1 c) x.2 = none) :
    ∃ g : Emg, s.decideGate p c pulses each slotAt = { s with emg := g } ∧ g.state = .armed ∧ g.gated = [] := by
  have hon : s.emissionOn = true := by simp [State.emissionOn, harmed]
  have hagain : (s.emg.decidedFor == some slotAt) = false := by simpa using hnew
  have hcauses : ((pulses.filter fun x => !([] : List Nat).contains x.1).filterMap fun x =>
      (gateCause (s.ledgerNow p) (valueIn p 0x580008) x.1 (binsOf p x.1 c) x.2).map fun y => (x.1, y)) = [] := by
    rw [List.filterMap_eq_nil_iff]
    intro x hx
    rw [hnone x (List.mem_filter.1 hx).1, Option.map_none]
  simp only [State.decideGate, hon, hagain, hcauses, Bool.not_true, Bool.false_eq_true, if_false]
  exact ⟨_, rfl, harmed, rfl⟩

theorem State.firing_of_off {s : State} (h : s.emissionOn = false) (ports : List Nat) : s.firing ports = [] := by
  simp [State.firing, h]

theorem State.firing_filter_of_on {s : State} (h : s.emissionOn = true) (q : Nat → Bool) (l : List Nat) :
    s.firing (l.filter q) = l.filter fun e => q e && !s.emg.gated.contains e := by
  simp only [State.firing, h, if_true, List.filter_filter, Bool.and_comm]

theorem State.firing_of_no_gate {s : State} (h : s.emissionOn = true) (hgated : s.emg.gated = []) (ports : List Nat) :
    s.firing ports = ports := by
  simp [State.firing, h, hgated]

/-! ### Pulses that leave (04 R104, R105; 13 R312) -/

/-- What port `e` sends: its pulse, and the second of a pair. -/
def State.pulsesSent (s : State) (p : Plan) (code : Nat → Nat) (width : Nat) (pair : Bool) (e : Nat) : List Output :=
  .fire e (code e) width (uAt (s.reg 0x300010) e 1) ::
    if pair then [.fire e (code e) width (uAt (s.reg 0x300010) e 1 + 4 * p.pairSpacing)] else []

/-- What is booked for port `e`, at its own fire instant. -/
def State.pulseBooked (s : State) (p : Plan) (at_ column : Nat) (code : Nat → Nat) (width : Nat) (pair : Bool) (e : Nat) :
    Booking :=
  bookingOf p (at_ + uAt (s.reg 0x300010) e 1 / 64) e column
    (if pair then 2 * e16 (s.reg 0x300012) e (code e) width else e16 (s.reg 0x300012) e (code e) width)

theorem State.pulseOut_eq (s : State) (p : Plan) (code : Nat → Nat) (width : Nat) (pair : Bool) (e : Nat) :
    s.pulseOut p e (code e) width pair = { s with out := s.out ++ s.pulsesSent p code width pair e } := by
  cases pair with
  | false => rfl
  | true => simp [State.pulseOut, State.pulsesSent, State.send]

/-- The ports fire one after another: each sends its pulses and is booked, and nothing else changes. -/
theorem State.fireAll_eq (s : State) (p : Plan) (at_ column : Nat) (ports : List Nat) (code : Nat → Nat) (width : Nat)
    (pair : Bool) : s.fireAll p at_ column ports code width pair = { s with
      out := s.out ++ ports.flatMap (s.pulsesSent p code width pair)
      emg := { s.emg with bookings := s.emg.bookings ++ ports.map (s.pulseBooked p at_ column code width pair) } } := by
  have hfold : ∀ (l : List Nat) (v : State), v.reg = s.reg →
      l.foldl (fun v e =>
        let w := v.pulseOut p e (code e) width pair
        { w with emg := { w.emg with bookings := w.emg.bookings ++ [s.pulseBooked p at_ column code width pair e] } }) v =
      { v with
        out := v.out ++ l.flatMap (s.pulsesSent p code width pair)
        emg := { v.emg with bookings := v.emg.bookings ++ l.map (s.pulseBooked p at_ column code width pair) } } := by
    intro l
    induction l with
    | nil => intro v _; simp
    | cons e l ih =>
      intro v hv
      have hsent : v.pulsesSent p code width pair e = s.pulsesSent p code width pair e := by
        simp only [State.pulsesSent, hv]
      rw [List.foldl_cons, ih _ (by rw [State.pulseOut_eq]; exact hv)]
      simp only [State.pulseOut_eq, hsent, List.flatMap_cons, List.map_cons, List.append_assoc, List.cons_append,
        List.nil_append]
  exact hfold ports s rfl

theorem State.fireAll_out (s : State) (p : Plan) (at_ column : Nat) (ports : List Nat) (code : Nat → Nat) (width : Nat)
    (pair : Bool) : (s.fireAll p at_ column ports code width pair).out =
      s.out ++ ports.flatMap (s.pulsesSent p code width pair) := by
  rw [State.fireAll_eq]
theorem State.fireAll_pipe (s : State) (p : Plan) (at_ column : Nat) (ports : List Nat) (code : Nat → Nat) (width : Nat)
    (pair : Bool) : (s.fireAll p at_ column ports code width pair).pipe = s.pipe := by
  rw [State.fireAll_eq]
theorem State.fireAll_edu (s : State) (p : Plan) (at_ column : Nat) (ports : List Nat) (code : Nat → Nat) (width : Nat)
    (pair : Bool) : (s.fireAll p at_ column ports code width pair).edu = s.edu := by
  rw [State.fireAll_eq]
theorem State.fireAll_emg (s : State) (p : Plan) (at_ column : Nat) (ports : List Nat) (code : Nat → Nat) (width : Nat)
    (pair : Bool) : (s.fireAll p at_ column ports code width pair).emg = { s.emg with
      bookings := s.emg.bookings ++ ports.map (s.pulseBooked p at_ column code width pair) } := by
  rw [State.fireAll_eq]

end Sys2Proof.Machine
end

section
/-!
SUPPORT. The fire edge of a slot: what the gate lets through is sent, counted in its column and booked (04 R104, R105;
13 R312, R315, R319).
-/
namespace Sys2Proof.Machine

/-- The fire edge of the slot in progress is due: the slot is lit, it has not fired, and its instant is reached. -/
def FireDue (s : State) (c : ColCtx) : Prop :=
  s.pipe.cur = some c ∧ s.inShotSlot = true ∧ s.pipe.lit = true ∧ mget c.fired s.pipe.slot = none ∧
    s.pipe.slotStart + 16 + s.pipe.dither ≤ s.now

/-- `u` is `s` once `ports` have fired in the slot in progress of column `c`: what was sent, the column and the guard. -/
def Fired (s : State) (c : ColCtx) (ports : List Nat) (u : State) : Prop :=
  let code := fun e => (s.port e).active
  let pair := c.plan.interference == 2
  u.out = s.out ++ ports.flatMap (s.pulsesSent c.plan code c.plan.pulseWidth pair) ∧
    u.pipe = { s.pipe with cur := some { c with fired := mset c.fired s.pipe.slot ports } } ∧
    u.emg = { s.emg with bookings := (s.emg.bookings ++ ports.map
      (s.pulseBooked c.plan (s.pipe.slotStart + 16 + s.pipe.dither) c.column code c.plan.pulseWidth pair)) }

theorem Fired.of_same {s v u : State} {c : ColCtx} {ports : List Nat} (h : Fired s c ports v) (hout : u.out = v.out)
    (hpipe : v.pipe = u.pipe) (hemg : v.emg = u.emg) : Fired s c ports u := by
  simpa only [Fired, hout, hpipe, hemg] using h

/-- The end of the comparator blank has no part in what fires. -/
theorem fired_endBlank_iff (s : State) (c : ColCtx) (ports : List Nat) (u : State) :
    Fired s.endBlank c ports u ↔ Fired s c ports u := by
  have hsent : s.endBlank.pulsesSent = s.pulsesSent := by
    funext
    simp only [State.pulsesSent, State.endBlank_reg]
  have hbooked : s.endBlank.pulseBooked = s.pulseBooked := by
    funext
    simp only [State.pulseBooked, State.endBlank_reg]
  simp only [Fired, State.port, hsent, hbooked, State.endBlank_out, State.endBlank_pipe, State.endBlank_emg,
    State.endBlank_edu]

/-- Verdicts that may follow leave what was sent, the pipeline and the guard. -/
theorem Leaves.after_verdicts {fr : List UnitId} {v u : State} {c : Prop} [Decidable c] {ports : List Nat}
    {code : Nat → Nat} {senses : List Sense} {diag : Bool}
    (h : Leaves fr (if c then v.judgeAll ports code senses diag else v) u) (hpipe : .pipe ∉ fr) (hemg : .emg ∉ fr) :
    u.out = v.out ∧ v.pipe = u.pipe ∧ v.emg = u.emg := by
  obtain ⟨hout, hunits, -⟩ := h
  obtain ⟨hunits', hout', -⟩ := Judged.ite c (State.judgeAll_judged v ports code senses diag) (Judged.refl v)
  exact ⟨hout.trans hout', sameUnit_trans (x := .pipe) (hunits'.2 .pipe (by decide)) (hunits .pipe hpipe),
    sameUnit_trans (x := .emg) (hunits'.2 .emg (by decide)) (hunits .emg hemg)⟩

/-- With emission off, or with the slot decided, the edge fires the ports that the gate lets through. -/
theorem fireEdge_fires {s : State} {t : Nat} {c : ColCtx} {senses : List Sense} (hm : s.mainOn = true)
    (hdue : FireDue (s.atTime t) c) (hdecided : s.emissionOn = true → s.emg.decidedFor = some s.pipe.slotStart) :
    Gives (.fireEdge t senses) s fun u => OnlyChanges [.pipe, .edu, .rfe, .emg, .kpp, .evr] s u ∧
      Fired (s.atTime t) c (s.firing ((List.range 128).filter (s.wouldFire c.plan c.column))) u := by
  obtain ⟨hcur, hslot, hlit, hfresh, htime⟩ := hdue
  have hgate : ((s.atTime t).emissionOn &&
      (s.atTime t).emg.decidedFor != some (s.atTime t).pipe.slotStart) = false := by
    rw [Bool.and_eq_false_imp]
    intro hon
    simp [hdecided hon]
  refine gives_of_leaves (exec_fireEdge s) hm fun u hl hu => ?_
  simp only [hcur] at hu
  simp only [State.endBlank_inShotSlot, State.endBlank_emissionOn, State.endBlank_wouldFire, State.endBlank_firing,
    State.endBlank_pipe, State.endBlank_emg, State.endBlank_now, hslot, hgate, hlit, hfresh, htime, Option.isNone_none,
    decide_true, Bool.and_true, Bool.not_true, Bool.false_eq_true, if_false] at hu
  obtain ⟨hout, hpipe, hemg⟩ := hu.after_verdicts (by decide) (by decide)
  refine ⟨OnlyChanges.mono (l := [.kpp, .pipe, .edu, .rfe, .emg, .evr]) (by decide) hl, ?_⟩
  refine Fired.of_same ((fired_endBlank_iff _ _ _ _).1 ?_) hout hpipe hemg
  simp only [Fired, State.fireAll_out, State.fireAll_pipe, State.fireAll_emg, State.endBlank_pipe]
  exact ⟨rfl, rfl, rfl⟩

/-- Settles O26: the edge fires what the gate lets through, which is nothing with emission off. -/
theorem pulsesLeaveOnlyUngatedPorts : Obligations.PulsesLeaveOnlyUngatedPorts := by
  unfold Obligations.PulsesLeaveOnlyUngatedPorts
  intro s t c senses hm hcur hslot hlit hfresh htime
  have hdue : FireDue (s.atTime t) c := ⟨hcur, hslot, hlit, hfresh, htime⟩
  constructor
  · intro hoff
    refine (fireEdge_fires hm hdue fun hon => absurd (hoff.symm.trans hon) (by decide)).mono ?_
    rintro u ⟨hl, hfired⟩
    rw [State.firing_of_off hoff] at hfired
    obtain ⟨hout, hpipe, hemg⟩ := hfired
    exact ⟨hl, hout, hemg.trans (by simp), hpipe⟩
  · intro hon hdecided ports code skew pair energy
    refine (fireEdge_fires hm hdue fun _ => hdecided).mono ?_
    rintro u ⟨hl, hfired⟩
    rw [State.firing_filter_of_on hon] at hfired
    obtain ⟨hout, hpipe, hemg⟩ := hfired
    exact ⟨hl, hout, hpipe, hemg⟩

end Sys2Proof.Machine
end

section
/-!
SUPPORT. The diagnostic shot of a turnaround and the clear of a port (04 R101, R110 to R112, R116).
-/
namespace Sys2Proof.Machine

/-! ### The latches of a diagnostic shot (04 R101, R112) -/

@[simp] theorem PortState.latch_used (x : PortState) (p : Plan) : (x.latch p).used = x.used := by
  unfold PortState.latch
  split
  · rfl
  · split <;> rfl

/-- The EDU as the first latch of a diagnostic shot leaves it: the used ports at their low codes (04 R112). -/
def Edu.latchLow (u : Edu) (p : Plan) : Edu :=
  { u.latch p with ports := mapIdx (u.latch p).ports fun e x =>
      if x.used then { x with active := lowCode (p.maxCode e) } else x }

theorem Edu.getD_latchLow (u : Edu) (p : Plan) (e : Nat) : (u.latchLow p).ports.getD e {} =
    if (u.ports.getD e {}).used then { (u.ports.getD e {}).latch p with active := lowCode (p.maxCode e) }
    else (u.ports.getD e {}).latch p := by
  simp only [Edu.latchLow, Edu.latch, mapIdx, List.getD_eq_getElem?_getD, List.getElem?_mapIdx, List.getElem?_map]
  cases u.ports[e]? with
  | none => rfl
  | some x => simp

/-- The state after the first latch of a diagnostic shot. -/
def State.lowered (s : State) (p : Plan) : State :=
  { s with pipe := { s.pipe with diagDone := true }, edu := s.edu.latchLow p }

theorem State.lowered_port (s : State) (p : Plan) (e : Nat) : (s.lowered p).port e =
    if (s.port e).used then { (s.port e).latch p with active := lowCode (p.maxCode e) } else (s.port e).latch p :=
  Edu.getD_latchLow s.edu p e

theorem State.lowered_port_used (s : State) (p : Plan) (e : Nat) : ((s.lowered p).port e).used = (s.port e).used := by
  rw [State.lowered_port]
  split
  · exact PortState.latch_used (s.port e) p
  · exact PortState.latch_used (s.port e) p

theorem State.lowered_port_masked (s : State) (p : Plan) (e : Nat) :
    ((s.lowered p).port e).masked = ((s.port e).latch p).masked := by
  rw [State.lowered_port]
  split <;> rfl

/-- The check of the active codes finds every used port at its low code. -/
theorem State.lowered_codeCheck (s : State) (p : Plan) :
    (s.lowered p).codeCheck (fun e x => x.active != lowCode (p.maxCode e)) = s.lowered p := by
  refine State.codeCheck_of_good fun e hused => ?_
  rw [State.lowered_port_used] at hused
  rw [State.lowered_port, if_pos hused]
  exact bne_self_eq_false _

/-! ### The shot (04 R110 to R112) -/

/-- The ports a diagnostic shot fires: used, and not masked after its latch. -/
def State.shotPorts (s : State) : List Nat := (List.range 128).filter fun e => (s.port e).used && !(s.port e).masked

theorem State.lowered_shotPorts (s : State) (p : Plan) : (s.lowered p).shotPorts =
    (List.range 128).filter fun e => (s.port e).used && !((s.port e).latch p).masked := by
  simp only [State.shotPorts, State.lowered_port_used, State.lowered_port_masked]

/-- The state with the verdicts of a diagnostic shot made and the codes before it restored by its second latch. -/
def State.shotJudged (s : State) (p : Plan) (ports before : List Nat) (senses : List Sense) : State :=
  let v := s.judgeAll ports (fun e => lowCode (p.maxCode e)) senses true
  ({ v with edu := v.edu.restoreCodes p before } : State).codeCheck fun e x => codeCeiling p e < x.active

/-- The shot of ports that stand at their low codes: decided, fired, counted and judged. -/
def State.shot (s : State) (p : Plan) (at_ : Nat) (before : List Nat) (senses : List Sense) : State :=
  let code := fun e => lowCode (p.maxCode e)
  let g := s.decideGate p s.pipe.lastColumn (s.shotPorts.map fun e => (e, e16 (s.reg 0x300012) e (code e) 72)) 1 at_
  let ports := g.firing s.shotPorts
  let f := g.fireAll p at_ s.pipe.lastColumn ports code 72 false
  ({ f with edu := { f.edu with diagFired := sat32 f.edu.diagFired (bNat (!ports.isEmpty)) } } : State).shotJudged p ports
    before senses

/-- `u` is `s` once `ports` have fired at their low codes: what was sent, the pipeline and the count of the shots. -/
def ShotFired (s : State) (p : Plan) (ports : List Nat) (u : State) : Prop :=
  u.pipe = s.pipe ∧ u.edu.diagFired = sat32 s.edu.diagFired (bNat (!ports.isEmpty)) ∧
    u.out = s.out ++ ports.map fun e => .fire e (lowCode (p.maxCode e)) 72 (uAt (s.reg 0x300010) e 1)

/-- The verdicts, the second latch and its check leave what was sent, the pipeline and the count. -/
theorem ShotFired.judged {s v : State} {p : Plan} {ports : List Nat} (h : ShotFired s p ports v) (before : List Nat)
    (senses : List Sense) : ShotFired s p ports (v.shotJudged p ports before senses) := by
  obtain ⟨hpipe, hcount, hout⟩ := h
  unfold State.shotJudged
  obtain ⟨hunits, hout', hcount'⟩ := v.judgeAll_judged ports (fun e => lowCode (p.maxCode e)) senses true
  generalize v.judgeAll ports (fun e => lowCode (p.maxCode e)) senses true = w at hunits hout' hcount'
  have hcheck := State.codeCheck_touches { w with edu := w.edu.restoreCodes p before }
    fun e x => codeCeiling p e < x.active
  refine ⟨?_, ?_, ?_⟩
  · have hpipe' : v.pipe = _ := sameUnit_trans (hunits.2 .pipe (by decide)) (hcheck.2 .pipe (by decide))
    exact hpipe'.symm.trans hpipe
  · have hedu : w.edu.restoreCodes p before = _ := hcheck.2 .edu (by decide)
    exact (congrArg Edu.diagFired hedu).symm.trans (hcount'.trans hcount)
  · exact (State.codeCheck_out _ _).trans (hout'.trans hout)

/-- With no limit in reach of a shot's pulses, every one of its ports fires. -/
theorem State.shot_fires {s : State} {p : Plan} {at_ : Nat} (before : List Nat) (senses : List Sense)
    (harmed : s.emg.state = .armed) (hnew : s.emg.decidedFor ≠ some at_)
    (hnone : ∀ e, e < 128 → gateCause (s.ledgerNow p) (valueIn p 0x580008) e (binsOf p e s.pipe.lastColumn)
      (e16 (s.reg 0x300012) e (lowCode (p.maxCode e)) 72) = none) :
    ShotFired s p s.shotPorts (s.shot p at_ before senses) := by
  obtain ⟨g, hgate, hstate, hgated⟩ := State.decideGate_of_no_cause (c := s.pipe.lastColumn)
    (pulses := s.shotPorts.map fun e => (e, e16 (s.reg 0x300012) e (lowCode (p.maxCode e)) 72)) 1 harmed hnew
    (by
      intro x hx
      obtain ⟨e, he, rfl⟩ := List.mem_map.1 hx
      exact hnone e (List.mem_range.1 (List.mem_filter.1 he).1))
  have hon : ({ s with emg := g } : State).emissionOn = true := by simp [State.emissionOn, hstate]
  unfold State.shot
  simp only [hgate, State.firing_of_no_gate hon hgated]
  refine ShotFired.judged ?_ before senses
  simp only [ShotFired, State.fireAll_out, State.fireAll_pipe, State.fireAll_edu, List.map_eq_flatMap, true_and]
  rfl

/-! ### The command (04 R112) -/

/-- The diagnostic shot of the turnaround is due: its plan asks for it, it was not made yet, and its instant is reached. -/
def ShotDue (s : State) (p : Plan) : Prop :=
  s.pipe.plan = some p ∧ s.pipe.inTurn = true ∧ s.pipe.blank = false ∧ s.pipe.diagDone = false ∧
    planN p 0x300003 = 1 ∧ s.pipe.turnStart + 300000 ≤ s.now

theorem ShotDue.not_early {s : State} {p : Plan} (h : ShotDue s p) :
    ¬ (!(s.pipe.inTurn && !s.pipe.blank && !s.pipe.diagDone && planN p 0x300003 == 1 &&
      s.pipe.turnStart + 300000 ≤ s.now)) = true := by
  obtain ⟨-, hturn, hblank, hdone, hdiag, htime⟩ := h
  simp [hturn, hblank, hdone, hdiag, htime]

/-- A command of the main domain whose effect is `a` gives what holds of every state that keeps to its list and leaves the
rest as `a` has it. -/
theorem gives_of_leaves_eq {i : Instr} {t : Nat} {fr : List UnitId} {f : State → State} {s a : State} {P : State → Prop}
    (he : exec i s = runMain t fr f s) (hm : s.mainOn = true) (ha : f (s.atTime t) = a)
    (hp : ∀ u, OnlyChanges (changesOf i) s u → Leaves fr a u → P u) : Gives i s P := by
  subst ha
  exact gives_of_leaves he hm hp

/-- With EMIT_EN low a due shot is skipped and counted. -/
theorem diagnosticShot_skips {s : State} {t : Nat} {p : Plan} {senses : List Sense} (hm : s.mainOn = true)
    (hdue : ShotDue (s.atTime t) p) (hoff : s.emg.emitEn = false) :
    Gives (.diagnosticShot t senses) s fun u => OnlyChanges [.pipe, .edu] s u ∧
      u.pipe = { s.pipe with diagDone := true } ∧ u.out = [] ∧
      u.edu = { s.edu with diagSkipped := sat32 s.edu.diagSkipped } := by
  have hemit : (!s.emg.emitEn) = true := by rw [hoff]; rfl
  refine gives_of_effect (l := [.pipe, .edu]) (a := { s.atTime t with
      pipe := { s.pipe with diagDone := true }, edu := { s.edu with diagSkipped := sat32 s.edu.diagSkipped } })
    (exec_diagnosticShot s) hm ?_ ?_ ?_
  · split
    · exact absurd (hdue.1.symm.trans ‹_›) (by simp)
    · cases hdue.1.symm.trans ‹_›
      exact (if_neg hdue.not_early).trans (if_pos hemit)
  · exact OnlyChanges.trans ((State.pipe_touches _ { s.pipe with diagDone := true }).mono (by decide))
      ((State.edu_touches _ _).mono (by decide))
  · rintro u hl ⟨hout, hunits, -⟩
    rw [← show _ = u.pipe from hunits .pipe (by decide), ← show _ = u.edu from hunits .edu (by decide)]
    exact ⟨hl, rfl, hout, rfl⟩

/-- In Armed with no limit in reach every port of a due shot fires. -/
theorem diagnosticShot_fires {s : State} {t : Nat} {p : Plan} {senses : List Sense} (hm : s.mainOn = true)
    (hdue : ShotDue (s.atTime t) p) (hon : s.emg.emitEn = true) (harmed : s.emg.state = .armed)
    (hnew : s.emg.decidedFor ≠ some (s.pipe.turnStart + 300000))
    (hnone : ∀ e, e < 128 → gateCause ((s.atTime t).ledgerNow p) (valueIn p 0x580008) e (binsOf p e s.pipe.lastColumn)
      (e16 (s.reg 0x300012) e (lowCode (p.maxCode e)) 72) = none) :
    Gives (.diagnosticShot t senses) s fun u => OnlyChanges [.pipe, .edu, .emg, .kpp, .evr] s u ∧
      ShotFired ((s.atTime t).lowered p) p ((s.atTime t).lowered p).shotPorts u := by
  have hemit : ¬ (!s.emg.emitEn) = true := by rw [hon]; decide
  refine gives_of_leaves_eq (a := ((s.atTime t).lowered p).shot p (s.pipe.turnStart + 300000)
    (s.edu.ports.map PortState.active) senses) (exec_diagnosticShot s) hm ?_ ?_
  · split
    · exact absurd (hdue.1.symm.trans ‹_›) (by simp)
    · cases hdue.1.symm.trans ‹_›
      rw [← State.lowered_codeCheck]
      refine (if_neg hdue.not_early).trans ((if_neg hemit).trans ?_)
      unfold State.shot State.shotJudged State.lowered Edu.latchLow
      rfl
  · rintro u hl ⟨hout, hunits, -⟩
    refine ⟨OnlyChanges.mono (l := [.kpp, .pipe, .edu, .emg, .evr]) (by decide) hl, ?_⟩
    obtain ⟨hpipe, hcount, hsent⟩ := State.shot_fires (s := (s.atTime t).lowered p) (s.edu.ports.map PortState.active)
      senses harmed hnew hnone
    have hpipe' : _ = u.pipe := hunits .pipe (by decide)
    have hedu : _ = u.edu := hunits .edu (by decide)
    exact ⟨hpipe'.symm.trans hpipe, (congrArg Edu.diagFired hedu).symm.trans hcount, hout.trans hsent⟩

/-! ### The clear of a port (04 R116, R117) -/

theorem State.portClear_of_port {s : State} {v : Nat} (hv : v < 128) (hmask : (s.port v).maskPending = false) :
    s.portClear v = s.setPort v { s.port v with clearPending := true } := by
  simp only [State.portClear, hv, hmask, if_true, Bool.false_eq_true, if_false]

/-- The clear of every faulty port leaves out those that are yet to be masked. -/
theorem State.portClear_all (s : State) : s.portClear 0xFF = { s with edu := { s.edu with
    ports := s.edu.ports.map fun x =>
      if (x.status = psOpen ∨ x.status = psShort) ∧ x.maskPending = false then { x with clearPending := true }
      else x } } := by
  have hclear : (fun x : PortState => if x.status = psOpen ∨ x.status = psShort then
      (if x.maskPending then x else { x with clearPending := true }) else x) =
      fun x => if (x.status = psOpen ∨ x.status = psShort) ∧ x.maskPending = false then { x with clearPending := true }
        else x := by
    funext x
    cases hmask : x.maskPending with
    | true => simp
    | false => simp
  exact congrArg (fun f => { s with edu := { s.edu with ports := s.edu.ports.map f } }) hclear

theorem State.portClear_of_other {s : State} {v : Nat} (hv : 128 ≤ v) (hall : v ≠ 0xFF) : s.portClear v = s := by
  simp only [State.portClear, Nat.not_lt.2 hv, hall, if_false]

theorem portClear_writes {s : State} {t : Nat} {v : Word} {x : Edu} (hm : s.mainOn = true) (hacts : s.unitActs = true)
    (hclear : (s.atTime t).portClear v.toNat = { s.atTime t with edu := x }) :
    Gives (.portClear t v) s fun u => OnlyChanges [.edu] s u ∧ u.edu = x := by
  refine gives_of_effect (exec_portClear s) hm ((if_pos hacts).trans hclear) (State.edu_touches _ x) ?_
  rintro u hl ⟨-, hunits, -⟩
  have hedu : x = u.edu := hunits .edu (by decide)
  exact ⟨hl, hedu.symm⟩

/-- Settles O27: a due shot is skipped with EMIT_EN low and fires its ports in Armed; a write to PortClear marks one port,
every faulty one, or none. -/
theorem diagnosticShotsAndPortClears : Obligations.DiagnosticShotsAndPortClears := by
  unfold Obligations.DiagnosticShotsAndPortClears
  constructor
  · intro s t p senses hm hplan hturn hblank hdone hdiag htime
    have hdue : ShotDue (s.atTime t) p := ⟨hplan, hturn, hblank, hdone, hdiag, htime⟩
    refine ⟨diagnosticShot_skips hm hdue, ?_⟩
    intro hon harmed hnew energy hnone ports
    refine (diagnosticShot_fires hm hdue hon harmed hnew hnone).mono ?_
    rintro u ⟨hl, hfired⟩
    rw [State.lowered_shotPorts] at hfired
    obtain ⟨hpipe, hcount, hout⟩ := hfired
    exact ⟨hl, hpipe, hcount, hout⟩
  · intro s t v hm hacts
    refine ⟨fun hv hmask => ?_, ?_, fun hv hall => ?_⟩
    · exact portClear_writes hm hacts (State.portClear_of_port (s := s.atTime t) hv hmask)
    · rintro rfl
      exact portClear_writes hm hacts (State.portClear_all (s.atTime t))
    · have hother : v.toNat ≠ 0xFF := fun h => hall (BitVec.eq_of_toNat_eq h)
      exact gives_unchanged (exec_portClear s) hm ((if_pos hacts).trans (State.portClear_of_other hv hother))

end Sys2Proof.Machine
end

section
/-!
SUPPORT. The mirror loop: what an operation on the axes makes of the controller, and what the start of a period, a burst, a
product and a restart do (05 R122 to R130, R140, R144).
-/
namespace Sys2Proof.Machine

/-! ### The axes of the controller -/

theorem State.bsc_mon_touches (s : State) (b : Bsc) (m : Mon) :
    OnlyChanges [.bsc, .mon] s { s with bsc := b, mon := m } :=
  ⟨rfl, fun x hx => by cases x <;> simp_all [sameUnit]⟩

theorem State.bsc_emg_touches (s : State) (b : Bsc) (g : Emg) :
    OnlyChanges [.bsc, .emg] s { s with bsc := b, emg := g } :=
  ⟨rfl, fun x hx => by cases x <;> simp_all [sameUnit]⟩

theorem State.axis_of_bsc {s u : State} (h : u.bsc = s.bsc) (i : Nat) : u.axis i = s.axis i := by
  simp only [State.axis, h]

@[simp] theorem State.axis_setAxis_same (s : State) (i : Nat) (a : Axis) : (s.setAxis i a).axis i = a := by
  unfold State.setAxis State.axis
  split <;> rfl

theorem State.axis_setAxis_other (s : State) {i : Nat} (a : Axis) (h : i < 2) :
    (s.setAxis i a).axis (1 - i) = s.axis (1 - i) := by
  obtain rfl | rfl : i = 0 ∨ i = 1 := by omega
  · rfl
  · rfl

theorem State.setAxis_corrected (s : State) (i : Nat) (a : Axis) :
    (s.setAxis i a).bsc.corrected = s.bsc.corrected := by
  unfold State.setAxis
  split <;> rfl

/-- An operation on every axis writes the first axis and, where there is one, the second. -/
theorem State.eachAxis_eq {s : State} (h : s.bsc.axes = 1 ∨ s.bsc.axes = 2) (f : Nat → Axis → Axis) :
    s.eachAxis f = { s with bsc := { s.bsc with
      ax0 := f 0 s.bsc.ax0, ax1 := if s.bsc.axes = 2 then f 1 s.bsc.ax1 else s.bsc.ax1 } } := by
  unfold State.eachAxis
  obtain h | h := h
  · rw [h]
    rfl
  · rw [h]
    rfl

theorem State.axis_eachAxis {s : State} (h : s.bsc.axes = 1 ∨ s.bsc.axes = 2) (f : Nat → Axis → Axis) {i : Nat}
    (hi : i < s.bsc.axes) : (s.eachAxis f).axis i = f i (s.axis i) := by
  rw [State.eachAxis_eq h]
  obtain rfl | ⟨rfl, haxes⟩ : i = 0 ∨ i = 1 ∧ s.bsc.axes = 2 := by omega
  · rfl
  · simp [State.axis, haxes]

/-- What an operation does beyond the axes configured does not matter. -/
theorem State.eachAxis_congr {s : State} (h : s.bsc.axes = 1 ∨ s.bsc.axes = 2) {f g : Nat → Axis → Axis}
    (hfg : ∀ i, i < s.bsc.axes → f i (s.axis i) = g i (s.axis i)) : s.eachAxis f = s.eachAxis g := by
  have h0 : f 0 s.bsc.ax0 = g 0 s.bsc.ax0 := hfg 0 (by omega)
  rw [State.eachAxis_eq h, State.eachAxis_eq h, h0]
  split
  · have h1 : f 1 s.bsc.ax1 = g 1 s.bsc.ax1 := hfg 1 (by omega)
    rw [h1]
  · rfl

theorem State.eachAxis_eachAxis {s : State} (h : s.bsc.axes = 1 ∨ s.bsc.axes = 2) (f g : Nat → Axis → Axis) :
    (s.eachAxis f).eachAxis g = s.eachAxis fun i a => g i (f i a) := by
  have hf : (s.eachAxis f).bsc.axes = s.bsc.axes := by rw [State.eachAxis_eq h]
  rw [State.eachAxis_eq (hf ▸ h), hf, State.eachAxis_eq h, State.eachAxis_eq h]
  split
  · rfl
  · rfl

/-! ### The parts of a period's start (05 R128 to R130, R140) -/

/-- `u` has the loop of `s`: the axes, the state, the motion and the missed deadlines are as they were. -/
def SameLoop (s u : State) : Prop :=
  OnlyChanges [.bsc, .kpp, .evr] s u ∧ u.bsc.axes = s.bsc.axes ∧ u.bsc.state = s.bsc.state ∧
    u.bsc.motion = s.bsc.motion ∧ u.bsc.due = s.bsc.due ∧ u.bsc.misses = s.bsc.misses

theorem SameLoop.axes {s u : State} (h : SameLoop s u) : u.bsc.axes = s.bsc.axes := h.2.1

theorem SameLoop.trans {s u v : State} (a : SameLoop s u) (b : SameLoop u v) : SameLoop s v := by
  obtain ⟨hunits, haxes, hstate, hmotion, hdue, hmisses⟩ := a
  obtain ⟨hunits', haxes', hstate', hmotion', hdue', hmisses'⟩ := b
  exact ⟨hunits.trans hunits', haxes'.trans haxes, hstate'.trans hstate, hmotion'.trans hmotion, hdue'.trans hdue,
    hmisses'.trans hmisses⟩

theorem State.eachAxis_sameLoop {s : State} (h : s.bsc.axes = 1 ∨ s.bsc.axes = 2) (f : Nat → Axis → Axis) :
    SameLoop s (s.eachAxis f) := by
  refine ⟨(State.eachAxis_touches s f).mono (by decide), ?_⟩
  rw [State.eachAxis_eq h]
  exact ⟨rfl, rfl, rfl, rfl, rfl⟩

theorem sat32_zero (w : Word) : sat32 w 0 = w := by
  have hw : w.toNat < 2 ^ 32 := w.isLt
  apply BitVec.eq_of_toNat_eq
  simp only [sat32, BitVec.toNat_ofNat]
  omega

/-- With every product ready no deadline is missed: the runs of misses end (05 R129). -/
theorem State.missedDeadlines_of_done {s : State} (h : s.bsc.axes = 1 ∨ s.bsc.axes = 2) (hon : s.bsc.loopOn = true)
    (hdone : ∀ i, i < s.bsc.axes → (s.axis i).productDone = true) :
    s.missedDeadlines = s.eachAxis fun _ a => { a with missRun := 0 } := by
  have hmissed : (List.range s.bsc.axes).filter (fun i => !(s.axis i).productDone) = [] := by
    rw [List.filter_eq_nil_iff]
    intro i hi
    simp [hdone i (List.mem_range.1 hi)]
  have hruns : (s.eachAxis fun _ a =>
      if a.productDone then { a with missRun := 0 } else { a with missRun := a.missRun + 1 }) =
      s.eachAxis fun _ a => { a with missRun := 0 } :=
    State.eachAxis_congr h fun i hi => if_pos (hdone i hi)
  simp [State.missedDeadlines, hon, hmissed, hruns, sat32_zero, bNat]

/-- With no motion and none just ended no coefficients wait (05 R127). -/
theorem State.loadCoefficients_of_still {s : State} (hmotion : s.bsc.motion = none) (hdue : s.bsc.due = none)
    (start : Nat) : s.loadCoefficients start = s := by
  simp only [State.loadCoefficients, hdue, hmotion]

theorem State.holdReached_of_still {s : State} (hmotion : s.bsc.motion = none) (start : Nat) :
    s.holdReached start = s := by
  simp only [State.holdReached, hmotion]

/-- A clamp counted and reported leaves the loop and its axes. -/
theorem State.clamped_sameLoop (s : State) (n : Word) (first : Bool) (k : Nat) :
    let v := { s with bsc := { s.bsc with clamps := n, clampedInFrame := true } }.raiseIf first 0x3402 0x03 k
    SameLoop s v ∧ ∀ i, v.axis i = s.axis i := by
  intro v
  have hbsc : v.bsc = { s.bsc with clamps := n, clampedInFrame := true } := State.raiseIf_bsc _ _ _ _ _
  refine ⟨⟨OnlyChanges.trans ((State.bsc_touches s _).mono (by decide))
    ((State.raiseIf_touches _ _ _ _ _).mono (by decide)), ?_⟩, fun i => ?_⟩
  · rw [hbsc]
    exact ⟨rfl, rfl, rfl, rfl, rfl⟩
  · simp only [State.axis, hbsc]

/-- The references of a period move nothing else of an axis, and count clamps (05 R130, R140). -/
theorem State.periodReferences_spec {s : State} (h : s.bsc.axes = 1 ∨ s.bsc.axes = 2) (start : Nat) :
    SameLoop s (s.periodReferences start) ∧ ∀ i, i < s.bsc.axes →
      ∃ r d, (s.periodReferences start).axis i = { s.axis i with ref := r, refStep := d } := by
  unfold State.periodReferences
  split
  · exact ⟨⟨OnlyChanges.refl _ s, rfl, rfl, rfl, rfl, rfl⟩, fun i _ => ⟨_, _, rfl⟩⟩
  · extract_lets want wantOf refOf hit old
    clear_value hit
    have hloop : ∀ f, SameLoop s (s.eachAxis f) := State.eachAxis_sameLoop h
    cases hit with
    | nil => exact ⟨hloop _, fun i hi => ⟨_, _, State.axis_eachAxis h _ hi⟩⟩
    | cons k rest =>
      obtain ⟨hclamped, hsame⟩ := State.clamped_sameLoop (s.eachAxis _) _ _ k
      exact ⟨(hloop _).trans hclamped, fun i hi => ⟨_, _, (hsame i).trans (State.axis_eachAxis h _ hi)⟩⟩

theorem SameLoop.loops {s u : State} (h : SameLoop s u) : u.bsc.loops = s.bsc.loops := by
  obtain ⟨-, -, hstate, -⟩ := h
  simp only [Bsc.loops, hstate]

/-! ### The start of a period (05 R128, R129) -/

/-- The axis ready for the burst and the product of a new period. -/
def Axis.renewed (a : Axis) : Axis := { a with burstDone := false, productDone := false, tried := false }

/-- The period from `start` on runs. -/
def State.openPeriod (s : State) (start : Nat) : State :=
  let v := s.eachAxis fun _ => Axis.renewed
  { v with bsc := { v.bsc with periodStart := start, running := true, loopOn := v.bsc.loops } }

/-- Axis `a` driven with its product, its run of misses ended. -/
def Axis.driven (a : Axis) : Axis := { a with u := a.uNext, missRun := 0 }

/-- With every product ready, a loop that runs drives each axis with its product. -/
theorem State.drive_of_done {s : State} (h : s.bsc.axes = 1 ∨ s.bsc.axes = 2) (hon : s.bsc.loopOn = true)
    (hloops : s.bsc.loops = true) (hdone : ∀ i, i < s.bsc.axes → (s.axis i).productDone = true)
    (park : Nat → Axis → Axis) :
    (s.missedDeadlines.eachAxis fun i a => if s.missedDeadlines.bsc.loops then
      { a with u := if a.productDone then a.uNext else a.u } else park i a) = s.eachAxis fun _ => Axis.driven := by
  rw [State.missedDeadlines_of_done h hon hdone]
  simp only [(State.eachAxis_sameLoop h _).loops, hloops, if_true]
  rw [State.eachAxis_eachAxis h]
  refine State.eachAxis_congr h fun i hi => ?_
  simp only [hdone i hi, if_true, Axis.driven]

/-- A tracking loop at the start of a period in which every product was ready. -/
def State.nextPeriod (s : State) (start : Nat) : State :=
  ((s.eachAxis fun _ => Axis.driven).periodReferences start).openPeriod start

theorem State.openPeriod_spec {s : State} (h : s.bsc.axes = 1 ∨ s.bsc.axes = 2) (start : Nat) :
    SameLoop s (s.openPeriod start) ∧ (s.openPeriod start).bsc.periodStart = start ∧
      (s.openPeriod start).bsc.running = true ∧
      ∀ i, i < s.bsc.axes → (s.openPeriod start).axis i = (s.axis i).renewed := by
  have hrenewed := State.eachAxis_sameLoop h fun _ => Axis.renewed
  exact ⟨hrenewed.trans ⟨(State.bsc_touches _ _).mono (by decide), rfl, rfl, rfl, rfl, rfl⟩, rfl, rfl,
    fun i hi => State.axis_eachAxis h _ hi⟩

/-- `u` is the tracking loop `s` in the period from `start` on, each axis driven with its product and ready for the next. -/
def PeriodDriven (s : State) (start : Nat) (u : State) : Prop :=
  u.bsc.state = .tracking ∧ u.bsc.periodStart = start ∧ u.bsc.running = true ∧ u.bsc.misses = s.bsc.misses ∧
    ∀ i, i < s.bsc.axes → (u.axis i).u = (s.axis i).uNext ∧ (u.axis i).productDone = false ∧
      (u.axis i).burstDone = false ∧ (u.axis i).missRun = 0

theorem PeriodDriven.of_bsc {s v u : State} {start : Nat} (h : PeriodDriven s start v) (hbsc : u.bsc = v.bsc) :
    PeriodDriven s start u := by
  simpa only [PeriodDriven, hbsc, State.axis_of_bsc hbsc] using h

theorem State.nextPeriod_drives {s : State} (h : s.bsc.axes = 1 ∨ s.bsc.axes = 2) (htracks : s.bsc.state = .tracking)
    (start : Nat) :
    OnlyChanges [.bsc, .kpp, .evr] s (s.nextPeriod start) ∧ PeriodDriven s start (s.nextPeriod start) := by
  have hdriven := State.eachAxis_sameLoop h fun _ => Axis.driven
  have haxes := hdriven.axes
  obtain ⟨hrefs, hrefsAxis⟩ := State.periodReferences_spec (haxes ▸ h) start
  have haxes' := hrefs.axes.trans haxes
  obtain ⟨hopen, hstart, hruns, hopenAxis⟩ := State.openPeriod_spec (haxes' ▸ h) start
  obtain ⟨hunits, -, hstate, -, -, hmisses⟩ := hdriven.trans (hrefs.trans hopen)
  refine ⟨hunits, hstate.trans htracks, hstart, hruns, hmisses, fun i hi => ?_⟩
  obtain ⟨r, d, haxis⟩ := hrefsAxis i (haxes.symm ▸ hi)
  rw [State.nextPeriod, hopenAxis i (haxes'.symm ▸ hi), haxis, State.axis_eachAxis h _ hi]
  exact ⟨rfl, rfl, rfl, rfl⟩

theorem bscPeriodStart_drives {s : State} {t : Nat} (hm : s.mainOn = true) (h : s.bsc.axes = 1 ∨ s.bsc.axes = 2)
    (htracks : s.bsc.state = .tracking) (hmotion : s.bsc.motion = none) (hdue : s.bsc.due = none)
    (hon : s.bsc.loopOn = true) (hruns : s.bsc.running = true) (htime : s.bsc.periodStart + 10000 ≤ max s.now t)
    (hdone : ∀ i, i < s.bsc.axes → (s.axis i).productDone = true) :
    Gives (.bscPeriodStart t) s fun u =>
      OnlyChanges [.bsc, .kpp, .evr] s u ∧ PeriodDriven s (s.bsc.periodStart + 10000) u := by
  obtain ⟨hunits, hperiod⟩ := State.nextPeriod_drives (s := s.atTime t) h htracks (s.bsc.periodStart + 10000)
  refine gives_of_effect (exec_bscPeriodStart s) hm ?_ hunits ?_
  · have hloops : s.bsc.loops = true := by simp [Bsc.loops, htracks]
    have hready : ¬ (s.bsc.axes = 0 ∨ max s.now t < s.bsc.periodStart + 10000) := by omega
    obtain ⟨-, -, hstate, hmotion', hdue', -⟩ := State.eachAxis_sameLoop (s := s.atTime t) h fun _ => Axis.driven
    extract_lets b start missed driven parkedNow _ parked loaded aimed renewed
    have hstart : start = s.bsc.periodStart + 10000 := if_pos hruns
    have hdriven : driven = (s.atTime t).eachAxis fun _ => Axis.driven :=
      State.drive_of_done (s := s.atTime t) h hon hloops hdone _
    have hnot : parkedNow = false := by simp [parkedNow, hdriven, hstate, htracks]
    have hparked : parked = driven := if_neg (by rw [hnot]; decide)
    have hloaded : loaded = driven := by
      simp only [loaded, hstart]
      rw [hparked, hdriven, State.loadCoefficients_of_still (hmotion'.trans hmotion) (hdue'.trans hdue),
        State.holdReached_of_still (hmotion'.trans hmotion)]
    have haimed : aimed = ((s.atTime t).eachAxis fun _ => Axis.driven).periodReferences (s.bsc.periodStart + 10000) := by
      simp only [aimed]
      rw [hloaded, hdriven, hstart]
    rw [State.nextPeriod, ← haimed, ← hstart]
    clear_value aimed start
    subst hstart
    exact if_neg hready
  · rintro u hl ⟨-, hleft, -⟩
    exact ⟨hl, hperiod.of_bsc (hleft .bsc (by decide)).symm⟩

/-! ### A burst (05 R122, R123) -/

/-- The burst of `axis` in the period in progress is due: it is the first, the reference is settled, and its conversions have
had their time. -/
def BurstDue (s : State) (axis : Nat) : Prop :=
  axis < s.bsc.axes ∧ (s.axis axis).burstDone = false ∧ s.bsc.running = true ∧ s.mon.settled = true ∧
    max s.bsc.periodStart s.mon.settledAt + 1600 ≤ s.now ∧ s.now ≤ s.bsc.periodStart + 10000

theorem BurstDue.not_early {s : State} {axis : Nat} (h : BurstDue s axis) :
    ¬ (decide (s.bsc.axes ≤ axis) || (s.axis axis).burstDone || !s.bsc.running || !s.mon.settled ||
      decide (s.now < max s.bsc.periodStart s.mon.settledAt + 1600) ||
      decide (s.bsc.periodStart + 10000 < s.now)) = true := by
  obtain ⟨haxis, hdone, hruns, hsettled, hfrom, huntil⟩ := h
  simp [haxis, hdone, hruns, hsettled, huntil, Nat.not_lt.2 hfrom]

/-- The axis with the angle that a burst measured. -/
def State.measured (s : State) (axis : Nat) (burst : Burst) : Axis :=
  { s.axis axis with
    burstDone := true
    y := burstAngle (s.regI (0x340012 + 16 * axis)) (s.regI (0x340013 + 16 * axis)) burst }

/-- The state once the burst is taken: the angle, the conversions of its inputs and what went over range. -/
def State.burstTaken (s : State) (axis : Nat) (burst : Burst) : State :=
  let v := s.setAxis axis (s.measured axis burst)
  { v with
    bsc := { v.bsc with overRange := sat32 v.bsc.overRange (bNat (!burst.overRange.isEmpty)) }
    mon := v.mon.burst (v.regN (0x340010 + 16 * axis)) (v.regN (0x340011 + 16 * axis)) burst.overRange }

theorem State.burstTaken_touches (s : State) (axis : Nat) (burst : Burst) :
    OnlyChanges [.bsc, .mon] s (s.burstTaken axis burst) :=
  ((State.setAxis_touches s axis _).mono (by decide)).trans (State.bsc_mon_touches _ _ _)

theorem bscBurstComplete_measures {s : State} {t axis : Nat} {burst : Burst} (hm : s.mainOn = true) (haxis : axis < 2)
    (hdue : BurstDue (s.atTime t) axis) :
    Gives (.bscBurstComplete t axis burst) s fun u => OnlyChanges [.bsc, .mon] s u ∧
      u.axis (1 - axis) = s.axis (1 - axis) ∧ u.axis axis = s.measured axis burst := by
  refine gives_of_effect (exec_bscBurstComplete s) hm (a := (s.atTime t).burstTaken axis burst) (if_neg hdue.not_early)
    (State.burstTaken_touches _ axis burst) ?_
  rintro u hl ⟨-, hleft, -⟩
  have hbsc : u.bsc = ((s.atTime t).burstTaken axis burst).bsc := (hleft .bsc (by decide)).symm
  rw [State.axis_of_bsc hbsc, State.axis_of_bsc hbsc]
  exact ⟨hl, State.axis_setAxis_other (s.atTime t) _ haxis, State.axis_setAxis_same (s.atTime t) axis _⟩

/-! ### A product (05 R124 to R127, R141, R142) -/

/-- The product of `axis` in the period in progress is due: its burst is complete, it was not tried yet, and axis 1 waits for
axis 0. -/
def ProductDue (s : State) (axis : Nat) : Prop :=
  axis < s.bsc.axes ∧ s.bsc.loopOn = true ∧ s.bsc.loops = true ∧ (s.axis axis).burstDone = true ∧
    (s.axis axis).tried = false ∧ (axis = 1 → (s.axis 0).tried = true) ∧ s.now ≤ s.bsc.periodStart + 10000

theorem ProductDue.not_early {s : State} {axis : Nat} (h : ProductDue s axis) :
    ¬ (decide (s.bsc.axes ≤ axis) || !s.bsc.loopOn || !s.bsc.loops || !(s.axis axis).burstDone || (s.axis axis).tried ||
      (axis == 1 && !(s.axis 0).tried) || decide (s.bsc.periodStart + 10000 < s.now)) = true := by
  obtain ⟨haxis, hon, hloops, hburst, htried, horder, huntil⟩ := h
  have hwaits : (axis == 1 && !(s.axis 0).tried) = false := by
    rw [Bool.and_eq_false_imp]
    intro h1
    rw [horder (beq_iff_eq.1 h1)]
    rfl
  simp [haxis, hon, hloops, hburst, htried, hwaits, huntil]

/-- The corrections of a product's coefficients counted. -/
def State.correctedBy (s : State) (n : Nat) : State := { s with bsc := { s.bsc with corrected := sat32 s.bsc.corrected n } }

/-- A product whose coefficients could not be corrected is tried and not taken. -/
theorem bscProductComplete_uncorrectable {s : State} {t axis n : Nat} (hm : s.mainOn = true) (haxis : axis < 2)
    (hdue : ProductDue (s.atTime t) axis) :
    Gives (.bscProductComplete t axis n true) s fun u => OnlyChanges [.bsc] s u ∧
      u.bsc.corrected = sat32 s.bsc.corrected n ∧ u.axis axis = { s.axis axis with tried := true } ∧
      u.axis (1 - axis) = s.axis (1 - axis) := by
  refine gives_of_effect (a := ((s.atTime t).correctedBy n).setAxis axis { s.axis axis with tried := true })
    (exec_bscProductComplete s) hm ((if_neg hdue.not_early).trans (if_pos rfl))
    ((State.bsc_touches _ _).trans (State.setAxis_touches _ axis _)) ?_
  rintro u hl ⟨-, hleft, -⟩
  have hbsc : u.bsc = (((s.atTime t).correctedBy n).setAxis axis { s.axis axis with tried := true }).bsc :=
    (hleft .bsc (by decide)).symm
  rw [State.axis_of_bsc hbsc, State.axis_of_bsc hbsc, hbsc, State.setAxis_corrected]
  exact ⟨hl, rfl, State.axis_setAxis_same _ axis _, State.axis_setAxis_other _ _ haxis⟩

/-- The axis with the sample of the period added to the last 20, and the run of innovations that exceed their limit. -/
def Axis.sampled (a : Axis) (exceeds : Bool) : Axis :=
  { a with innovRun := if exceeds then a.innovRun + 1 else 0, ys := last20 a.ys a.y, rs := last20 a.rs a.ref }

theorem Axis.sampled_innovRun_lt {a : Axis} (h : a.innovRun < 9) (exceeds : Bool) : (a.sampled exceeds).innovRun < 10 := by
  unfold Axis.sampled
  dsimp only
  split
  · omega
  · omega

/-- Fewer than 20 samples are no ground for a fault (05 R142). -/
theorem Axis.frozen_sampled {a : Axis} (h : a.ys.length < 19) (exceeds : Bool) (floor : Nat) :
    frozen (a.sampled exceeds) floor = false := by
  have hlen : (last20 a.ys a.y).length ≠ 20 := by
    simp only [last20, List.length_drop, List.length_append, List.length_singleton]
    omega
  simp [frozen, Axis.sampled, hlen]

/-- The next states of an axis are the saturated rows of its product (05 R124, R125). -/
theorem Axis.product_states (a : Axis) : a.product.1.states =
    (List.range 8).map fun r => satI32 (productRow a.coeffs a.count (a.states ++ [a.y, a.ref, a.u]) r) := by
  simp only [Axis.product, List.map_map, ← List.map_take, List.take_range]
  rfl

/-- The innovation of the axis exceeds its limit (05 R141). -/
def State.exceeds (s : State) (axis : Nat) : Bool :=
  (s.axis axis).yhatValid &&
    decide (s.regN (0x340019 + 16 * axis) < ((s.axis axis).y - (s.axis axis).yhat).natAbs)

/-- The state once the product is taken, no fault criterion being met. -/
def State.productTaken (s : State) (axis n : Nat) : State :=
  let p := ((s.axis axis).sampled (s.exceeds axis)).product
  let v := (s.correctedBy n).setAxis axis p.1
  { v with bsc := { v.bsc with saturations := sat32 v.bsc.saturations p.2 } }

theorem State.productTaken_touches (s : State) (axis n : Nat) : OnlyChanges [.bsc] s (s.productTaken axis n) :=
  (State.bsc_touches s _).trans ((State.setAxis_touches _ axis _).trans (State.bsc_touches _ _))

theorem State.productTaken_axis (s : State) (axis n : Nat) :
    (s.productTaken axis n).axis axis = ((s.axis axis).sampled (s.exceeds axis)).product.1 :=
  State.axis_setAxis_same _ axis _

/-- A product without a fault gives the next states of its axis. -/
theorem bscProductComplete_taken {s : State} {t axis n : Nat} (hm : s.mainOn = true)
    (hdue : ProductDue (s.atTime t) axis) (hinnov : (s.axis axis).innovRun < 9) (hys : (s.axis axis).ys.length < 19) :
    Gives (.bscProductComplete t axis n false) s fun u => OnlyChanges [.bsc] s u ∧ (u.axis axis).productDone = true ∧
      (u.axis axis).u = (s.axis axis).u ∧
      (u.axis axis).states = (List.range 8).map (fun r => satI32 (productRow (s.axis axis).coeffs (s.axis axis).count
        ((s.axis axis).states ++ [(s.axis axis).y, (s.axis axis).ref, (s.axis axis).u]) r)) := by
  have hrun := Axis.sampled_innovRun_lt hinnov ((s.atTime t).exceeds axis)
  have hfrozen := Axis.frozen_sampled hys ((s.atTime t).exceeds axis) ((s.atTime t).regN (0x34001A + 16 * axis))
  refine gives_of_effect (a := (s.atTime t).productTaken axis n) (exec_bscProductComplete s) hm
    ((if_neg hdue.not_early).trans ((if_neg (by decide)).trans ((if_neg (Nat.not_le.2 hrun)).trans
      (if_neg (Bool.eq_false_iff.1 hfrozen)))))
    (State.productTaken_touches _ axis n) ?_
  rintro u hl ⟨-, hleft, -⟩
  have hbsc : u.bsc = ((s.atTime t).productTaken axis n).bsc := (hleft .bsc (by decide)).symm
  rw [State.axis_of_bsc hbsc, State.productTaken_axis]
  exact ⟨hl, rfl, rfl, Axis.product_states _⟩

/-! ### A restart (05 R144) -/

/-- A restart from Parked leaves the loop in a soft start, and source 2 to follow it. -/
theorem State.restart_of_parked {s : State} {p : Plan} (h : s.bsc.axes = 1 ∨ s.bsc.axes = 2)
    (hplan : s.pipe.plan = some p) (hparked : s.bsc.state = .parked) :
    ∃ b : Bsc, s.restart 0x5253 = ({ s with bsc := b } : State).followMirror ∧ b.state = .softStart ∧
      b.loopOn = false ∧ b.motion.isSome = true := by
  have hstarts : ¬ ((0x5253 : Nat) ≠ 0x5253 ∨ s.bsc.state ≠ .parked) := by simp [hparked]
  simp only [State.restart, hplan, if_neg hstarts, State.eachAxis_eq h]
  exact ⟨_, rfl, rfl, rfl, rfl⟩

/-- With the loop running source 2 ends (13 R317). -/
theorem State.followMirror_of_loops {s : State} (hloops : s.bsc.loops = true) (hsource : s.emg.sourceActive 2 = true) :
    s.followMirror = { s with emg := { s.emg with sources := s.emg.sources - 2 ^ 2 } } := by
  simp [State.followMirror, State.setSource, State.clearSource, Bsc.mirrorOk, hloops, hsource]

theorem bscRestart_softStart {s : State} {t : Nat} {p : Plan} (hm : s.mainOn = true) (hacts : s.unitActs = true)
    (hplan : s.pipe.plan = some p) (hparked : s.bsc.state = .parked) (h : s.bsc.axes = 1 ∨ s.bsc.axes = 2)
    (hsource : s.emg.sourceActive 2 = true) :
    Gives (.bscRestart t 0x5253) s fun u => OnlyChanges [.bsc, .emg] s u ∧ u.bsc.state = .softStart ∧
      u.bsc.loopOn = false ∧ u.bsc.motion.isSome = true ∧
      u.emg = { s.emg with sources := s.emg.sources - 2 ^ 2 } := by
  obtain ⟨b, hrestart, hstate, hoff, hmoves⟩ := State.restart_of_parked (s := s.atTime t) h hplan hparked
  have hloops : b.loops = true := by simp [Bsc.loops, hstate]
  refine gives_of_effect (exec_bscRestart s) hm
    (a := { s.atTime t with bsc := b, emg := { s.emg with sources := s.emg.sources - 2 ^ 2 } })
    ((if_pos hacts).trans (hrestart.trans (State.followMirror_of_loops hloops hsource)))
    (State.bsc_emg_touches _ b _) ?_
  rintro u hl ⟨-, hleft, -⟩
  have hbsc : b = u.bsc := hleft .bsc (by decide)
  have hemg : { s.emg with sources := s.emg.sources - 2 ^ 2 } = u.emg := hleft .emg (by decide)
  rw [← hbsc, ← hemg]
  exact ⟨hl, hstate, hoff, hmoves, rfl⟩

/-- Settles O28: a period's start drives the axes of a tracking loop with the products taken in the period before, a burst
and a product each write their own axis, and a restart from Parked begins a soft start. -/
theorem theMirrorLoop : Obligations.TheMirrorLoop := by
  unfold Obligations.TheMirrorLoop
  refine ⟨?period, ?burst, ?product, ?restart⟩
  case period =>
    intro s t hm haxes htracks hmotion hdue hon hruns htime hdone
    exact bscPeriodStart_drives hm haxes htracks hmotion hdue hon hruns htime hdone
  case burst =>
    intro s t axis burst hm haxis hconfigured hdone hruns hsettled hfrom huntil
    exact bscBurstComplete_measures hm haxis ⟨hconfigured, hdone, hruns, hsettled, hfrom, huntil⟩
  case product =>
    intro s t axis n hm haxis hconfigured hon hloops hburst htried horder huntil
    have hdue : ProductDue (s.atTime t) axis := ⟨hconfigured, hon, hloops, hburst, htried, horder, huntil⟩
    exact ⟨bscProductComplete_uncorrectable hm haxis hdue, bscProductComplete_taken hm hdue⟩
  case restart =>
    intro s t p hm hacts hplan hparked haxes hsource
    exact bscRestart_softStart hm hacts hplan hparked haxes hsource

end Sys2Proof.Machine
end

section
/-!
SUPPORT. The receive front end: what an operation on one channel makes of the receivers, and what saturation, the end of a
mark, a stuck slot and a write to ThresholdOffsetClear do (06 R151, R157 to R160).
-/
namespace Sys2Proof.Machine

/-! ### One channel of the receivers -/

theorem State.chan_setChan_same (s : State) {ch : Nat} (h : ch < s.rfe.chans.length) (c : Chan) :
    (s.setChan ch c).chan ch = c := by
  simp [State.chan, State.setChan, setAt, h]

/-- The latest of two writes to a channel stands. -/
theorem State.setChan_setChan (s : State) (ch : Nat) (c c' : Chan) :
    (s.setChan ch c).setChan ch c' = s.setChan ch c' := by
  simp [State.setChan, setAt]

theorem State.setChan_touches (s : State) (ch : Nat) (c : Chan) : OnlyChanges [.rfe] s (s.setChan ch c) :=
  State.rfe_touches s _

theorem State.assertMark_touches (s : State) (ch : Nat) : OnlyChanges [.rfe, .tda] s (s.assertMark ch) :=
  ((State.rfe_touches s (s.assertMark ch).rfe).mono (by decide)).trans ((State.tda_touches _ _).mono (by decide))

/-- A mark after a write to its channel: the channel as written, seen and marked, and one more saturation. -/
theorem State.assertMark_setChan_rfe (s : State) {ch : Nat} (h : ch < s.rfe.chans.length) (c : Chan) :
    ((s.setChan ch c).assertMark ch).rfe = { s.rfe with
      chans := s.rfe.chans.set ch { c with seen := true, marked := true }, satEvents := sat32 s.rfe.satEvents } := by
  simp only [State.assertMark, State.chan_setChan_same s h, State.setChan_setChan]
  rfl

theorem State.maskChannel_touches (s : State) (ch : Nat) : OnlyChanges [.rfe, .pipe] s (s.maskChannel ch) :=
  ((State.rfe_touches s (s.maskChannel ch).rfe).mono (by decide)).trans ((State.pipe_touches _ _).mono (by decide))

/-- A command of the main domain whose effect is to make `r` of the receivers. -/
theorem gives_rfe {i : Instr} {t : Nat} {fr : List UnitId} {f : State → State} {s : State} {r : Rfe}
    (he : exec i s = runMain t fr f s) (hm : s.mainOn = true) (hfr : UnitId.rfe ∉ fr)
    (ha : f (s.atTime t) = { s.atTime t with rfe := r }) : Gives i s fun u => OnlyChanges [.rfe] s u ∧ u.rfe = r := by
  refine gives_of_effect he hm ha (State.rfe_touches _ r) ?_
  rintro u hl ⟨-, hunits, -⟩
  have hrfe : r = u.rfe := hunits .rfe hfr
  exact ⟨hl, hrfe.symm⟩

/-- No mark asserts at the end of the blank where every asserted detector was seen. -/
theorem State.endBlank_of_seen {s : State} (h : ∀ n, n < 512 → (s.chan n).sat = true → (s.chan n).seen = true) :
    s.endBlank = s := by
  have hlate : ((List.range 512).filter fun n => (s.chan n).sat && !(s.chan n).seen && s.chanInUse n) = [] := by
    refine List.filter_eq_nil_iff.2 fun n hn => ?_
    cases hsat : (s.chan n).sat with
    | false => simp
    | true => simp [h n (List.mem_range.1 hn) hsat]
  unfold State.endBlank
  rw [hlate]
  exact ite_self s

/-! ### A stuck slot (06 R159, R160) -/

/-- A stuck slot of channel `ch` is due: it is in use, its comparator was high past 64 ns of the slot in progress since
offset 16 ns, and the slot was not counted yet. -/
def StuckDue (s : State) (ch : Nat) : Prop :=
  s.chanInUse ch = true ∧ s.inShotSlot = true ∧ s.pipe.slotStart + 80 < s.now ∧ (s.chan ch).stuckSlot = false

theorem StuckDue.not_early {s : State} {ch : Nat} (h : StuckDue s ch) :
    ¬ (!s.chanInUse ch || !s.inShotSlot || decide (s.now ≤ s.pipe.slotStart + 80) || (s.chan ch).stuckSlot) = true := by
  obtain ⟨huse, hslot, htime, hnew⟩ := h
  simp [huse, hslot, hnew, Nat.not_le.2 htime]

/-- The state once a stuck slot is counted, before a mask. -/
def State.stuckCounted (s : State) (ch : Nat) : State :=
  let v := s.setChan ch { s.chan ch with stuckSlot := true, stuckRun := (s.chan ch).stuckRun + 1 }
  { v with rfe := { v.rfe with stuckCount := sat32 v.rfe.stuckCount } }

theorem State.stuckCounted_touches (s : State) (ch : Nat) : OnlyChanges [.rfe] s (s.stuckCounted ch) :=
  State.rfe_touches s _

/-- The channel after the 16th stuck slot in a row, masked from the next slot on and, where the offset of plan `p` adapts,
raised. -/
def Chan.blinded (c : Chan) (p : Plan) : Chan :=
  { c with
    stuckSlot := true, stuckRun := 16, maskNext := true, maskedFrame := true
    offset := if planN p 0x380009 = 1 then min 1023 (c.offset + planN p 0x38000A) else c.offset }

/-- A mask after the 16th stuck slot in a row: the channel blinded, one more stuck slot and one more blind channel. -/
theorem State.maskChannel_stuckCounted_rfe (s : State) {ch : Nat} (h : ch < s.rfe.chans.length)
    (hrun : (s.chan ch).stuckRun = 15) :
    ((s.stuckCounted ch).maskChannel ch).rfe = { s.rfe with
      chans := s.rfe.chans.set ch ((s.chan ch).blinded s.plan)
      stuckCount := sat32 s.rfe.stuckCount, blindCount := sat32 s.rfe.blindCount } := by
  have hchan : (s.stuckCounted ch).chan ch =
      { s.chan ch with stuckSlot := true, stuckRun := (s.chan ch).stuckRun + 1 } := State.chan_setChan_same s h _
  have hset : ∀ c, ((s.stuckCounted ch).setChan ch c).rfe.chans = s.rfe.chans.set ch c :=
    fun _ => List.set_set _
  simp only [State.maskChannel, hset, hchan, hrun]
  rfl

/-! ### Saturation and stuck slots, with no detector waiting for the end of the blank (06 R151, R158 to R160) -/

section Seen
variable {s : State} {t ch : Nat} (hm : s.mainOn = true)
  (hseen : ∀ n, n < 512 → (s.chan n).sat = true → (s.chan n).seen = true)
include hm hseen

/-- Outside the blank an assertion on a channel in use marks it, counts, and tags the events of its clock cycle. -/
theorem saturationAssert_marks (hch : ch < s.rfe.chans.length) (hsat : (s.chan ch).sat = false)
    (huse : s.chanInUse ch = true) (hblank : (s.atTime t).inBlank = false) :
    Gives (.saturationAssert t ch) s fun u => OnlyChanges [.rfe, .tda] s u ∧ u.rfe = { s.rfe with
      chans := s.rfe.chans.set ch { s.chan ch with sat := true, seen := true, marked := true }
      satEvents := sat32 s.rfe.satEvents } ∧ u.tda = s.tda.tagCycle ch (max s.now t) := by
  have hfree : (s.atTime t).endBlank = s.atTime t := State.endBlank_of_seen hseen
  have hacts : ¬ ((s.atTime t).inBlank || !s.chanInUse ch) = true := by simp [hblank, huse]
  refine gives_of_effect (a := ((s.atTime t).setChan ch { s.chan ch with sat := true }).assertMark ch)
    (exec_saturationAssert s) hm ?_
    (((State.setChan_touches _ ch _).mono (by decide)).trans (State.assertMark_touches _ ch)) ?_
  · dsimp only
    rw [hfree]
    exact (if_neg (ne_true_of_eq_false hsat)).trans (if_neg hacts)
  · rintro u hl ⟨-, hunits, -⟩
    have hrfe : _ = u.rfe := hunits .rfe (by decide)
    have htda : _ = u.tda := hunits .tda (by decide)
    exact ⟨hl, hrfe.symm.trans (State.assertMark_setChan_rfe (s.atTime t) hch _), htda.symm⟩

/-- Within the blank an assertion is only remembered. -/
theorem saturationAssert_in_blank (hsat : (s.chan ch).sat = false) (hblank : (s.atTime t).inBlank = true) :
    Gives (.saturationAssert t ch) s fun u => OnlyChanges [.rfe] s u ∧
      u.rfe = { s.rfe with chans := s.rfe.chans.set ch { s.chan ch with sat := true } } := by
  have hfree : (s.atTime t).endBlank = s.atTime t := State.endBlank_of_seen hseen
  have hwaits : ((s.atTime t).inBlank || !s.chanInUse ch) = true := by simp [hblank]
  refine gives_rfe (exec_saturationAssert s) hm (by decide) ?_
  dsimp only
  rw [hfree]
  exact (if_neg (ne_true_of_eq_false hsat)).trans (if_pos hwaits)

/-- The release of an assertion that was seen starts the 30 ns of the mark. -/
theorem saturationRelease_ends (hs : (s.chan ch).seen = true) :
    Gives (.saturationRelease t ch) s fun u => OnlyChanges [.rfe] s u ∧ u.rfe = { s.rfe with
      chans := s.rfe.chans.set ch { s.chan ch with sat := false, seen := false, releasedAt := max s.now t } } := by
  have hfree : (s.atTime t).endBlank = s.atTime t := State.endBlank_of_seen hseen
  have hstart : (if ((s.atTime t).chan ch).seen then (s.atTime t).now else ((s.atTime t).chan ch).releasedAt) =
      max s.now t := if_pos hs
  refine gives_rfe (exec_saturationRelease s) hm (by decide) ?_
  dsimp only
  rw [hfree, hstart]
  rfl

/-- 30 ns after the release the mark ends. -/
theorem markEnd_clears (hs : (s.chan ch).seen = false) (hover : (s.chan ch).releasedAt + 30 ≤ max s.now t) :
    Gives (.markEnd t ch) s fun u => OnlyChanges [.rfe] s u ∧
      u.rfe = { s.rfe with chans := s.rfe.chans.set ch { s.chan ch with marked := false } } := by
  have hfree : (s.atTime t).endBlank = s.atTime t := State.endBlank_of_seen hseen
  have hdue : ¬ ((s.chan ch).seen || decide (max s.now t < (s.chan ch).releasedAt + 30)) = true := by
    rw [hs, Bool.false_or, decide_eq_true_eq]
    exact Nat.not_lt.2 hover
  refine gives_rfe (exec_markEnd s) hm (by decide) ?_
  dsimp only
  rw [hfree]
  exact if_neg hdue

/-- A stuck slot that is not the 16th in a row is only counted. -/
theorem stuckSlot_counts (hdue : StuckDue (s.atTime t) ch) (hrun : (s.chan ch).stuckRun ≠ 15) :
    Gives (.stuckSlot t ch) s fun u => OnlyChanges [.rfe] s u ∧ u.rfe = { s.rfe with
      chans := s.rfe.chans.set ch { s.chan ch with stuckSlot := true, stuckRun := (s.chan ch).stuckRun + 1 }
      stuckCount := sat32 s.rfe.stuckCount } := by
  have hfree : (s.atTime t).endBlank = s.atTime t := State.endBlank_of_seen hseen
  have hshort : ¬ ((s.chan ch).stuckRun + 1 = 16 && !(s.chan ch).masked && !(s.chan ch).maskNext) = true := by
    simp [hrun]
  refine gives_rfe (exec_stuckSlot s) hm (by decide) ?_
  dsimp only
  rw [hfree]
  exact (if_neg hdue.not_early).trans (if_neg hshort)

/-- The 16th stuck slot in a row masks the channel. -/
theorem stuckSlot_masks (hch : ch < s.rfe.chans.length) (hdue : StuckDue (s.atTime t) ch)
    (hrun : (s.chan ch).stuckRun = 15) (hmasked : (s.chan ch).masked = false) (hnext : (s.chan ch).maskNext = false) :
    Gives (.stuckSlot t ch) s fun u => OnlyChanges [.rfe, .pipe] s u ∧ u.rfe = { s.rfe with
      chans := s.rfe.chans.set ch ((s.chan ch).blinded s.plan)
      stuckCount := sat32 s.rfe.stuckCount, blindCount := sat32 s.rfe.blindCount } := by
  have hfree : (s.atTime t).endBlank = s.atTime t := State.endBlank_of_seen hseen
  have hmask : ((s.chan ch).stuckRun + 1 = 16 && !(s.chan ch).masked && !(s.chan ch).maskNext) = true := by
    simp [hrun, hmasked, hnext]
  refine gives_of_effect (a := ((s.atTime t).stuckCounted ch).maskChannel ch) (exec_stuckSlot s) hm ?_
    (((State.stuckCounted_touches _ ch).mono (by decide)).trans (State.maskChannel_touches _ ch)) ?_
  · dsimp only
    rw [hfree]
    exact (if_neg hdue.not_early).trans (if_pos hmask)
  · rintro u hl ⟨-, hunits, -⟩
    have hrfe : _ = u.rfe := hunits .rfe (by decide)
    exact ⟨hl, hrfe.symm.trans (State.maskChannel_stuckCounted_rfe (s.atTime t) hch hrun)⟩

end Seen

/-! ### The clear of a threshold offset (06 R157) -/

theorem State.thresholdClear_of_channel (s : State) {v : Nat} (hv : v < 512) :
    s.thresholdClear v = s.setChan v { s.chan v with clearPending := true } :=
  if_pos hv

theorem State.thresholdClear_all (s : State) : s.thresholdClear 0xFFFF =
    { s with rfe := { s.rfe with chans := s.rfe.chans.map fun c => { c with clearPending := true } } } :=
  rfl

theorem thresholdOffsetClear_writes {s : State} {t : Nat} {v : Word} {r : Rfe} (hm : s.mainOn = true)
    (hacts : s.unitActs = true) (hclear : (s.atTime t).thresholdClear v.toNat = { s.atTime t with rfe := r }) :
    Gives (.thresholdOffsetClear t v) s fun u => OnlyChanges [.rfe] s u ∧ u.rfe = r :=
  gives_rfe (exec_thresholdOffsetClear s) hm (by decide) ((if_pos hacts).trans hclear)

/-- Settles O29: with no detector waiting for the end of the blank, each command writes the channel it names as the receiver
chapter has it, and the 16th stuck slot in a row masks. -/
theorem saturationMarksAndStuckSlots : Obligations.SaturationMarksAndStuckSlots := by
  unfold Obligations.SaturationMarksAndStuckSlots
  intro s t ch hm hch hseen
  refine ⟨saturationAssert_marks hm hseen hch, saturationAssert_in_blank hm hseen, saturationRelease_ends hm hseen,
    markEnd_clears hm hseen, ?stuck, ?clear⟩
  case stuck =>
    intro huse hslot htime hnew
    have hdue : StuckDue (s.atTime t) ch := ⟨huse, hslot, htime, hnew⟩
    exact ⟨stuckSlot_counts hm hseen hdue, stuckSlot_masks hm hseen hch hdue⟩
  case clear =>
    intro hacts
    constructor
    · rintro v rfl hv
      exact thresholdOffsetClear_writes hm hacts (State.thresholdClear_of_channel (s.atTime t) hv)
    · exact thresholdOffsetClear_writes hm hacts (State.thresholdClear_all (s.atTime t))

end Sys2Proof.Machine
end

section
/-!
SUPPORT. The time digitizers (07): the calibration outside the slots, an edge of a reference channel, and the close of a
reference window, after which no event of its cells waits (R176 to R185).
-/
namespace Sys2Proof.Machine

/-! ### Effects on the digitizers alone -/

/-- A command of the main domain whose effect is to make `a` of the digitizers. -/
theorem gives_tda {i : Instr} {t : Nat} {fr : List UnitId} {f : State → State} {s : State} {a : Tda}
    (he : exec i s = runMain t fr f s) (hm : s.mainOn = true) (hfr : UnitId.tda ∉ fr)
    (ha : f (s.atTime t) = { s.atTime t with tda := a }) : Gives i s fun u => OnlyChanges [.tda] s u ∧ u.tda = a := by
  refine gives_of_effect he hm ha (State.tda_touches _ a) ?_
  rintro u hl ⟨-, hunits, -⟩
  have htda : a = u.tda := hunits .tda hfr
  exact ⟨hl, htda.symm⟩

/-! ### Calibration (07 R176 to R179) -/

theorem State.calibrate_touches (s : State) (x : TdcCal) : OnlyChanges [.tda, .kpp, .evr] s (s.calibrate x) :=
  OnlyChanges.trans ((State.tda_touches s _).mono (by decide))
    (OnlyChanges.foldl (fun s m => (State.raise_touches s 0x3C01 0x32 m).mono (by decide)) _ _)

/-- Every digitizer takes its measurement, the invalid ones are counted, and nothing else of the array changes. -/
theorem State.calibrate_tda (s : State) (x : TdcCal) : ∃ fails, (s.calibrate x).tda = { s.tda with
    tdcs := mapIdx s.tda.tdcs fun m y => y.measure (measureOf x m).1 (measureOf x m).2, calFails := fails } := by
  exact ⟨_, ((OnlyChanges.foldl (fun s m => State.raise_touches s 0x3C01 0x32 m) _ _).2 .tda (by decide)).symm⟩

/-- A calibration outside the slots that is due: every digitizer measures. -/
theorem idleTdcCalibration_measures {s : State} {t : Nat} {x : TdcCal} (hm : s.mainOn = true)
    (hslot : (s.atTime t).inShotSlot = false) (hdue : s.tda.idleDue (max s.now t) = true) :
    Gives (.idleTdcCalibration t x) s fun u => OnlyChanges [.tda, .kpp, .evr] s u ∧
      u.tda.tdcs.length = s.tda.tdcs.length ∧ u.tda.idleAt = some (max s.now t) ∧
      (∀ m, m < s.tda.tdcs.length →
        u.tda.tdcs.getD m {} = (s.tda.tdcs.getD m {}).measure (measureOf x m).1 (measureOf x m).2) ∧
      u.tda.chans = s.tda.chans ∧ u.tda.refs = s.tda.refs := by
  have hacts : ¬ ((s.atTime t).inShotSlot || !s.tda.idleDue (max s.now t)) = true := by simp [hslot, hdue]
  refine gives_of_effect (exec_idleTdcCalibration s) hm (if_neg hacts)
    (((State.tda_touches _ { s.tda with idleAt := some (max s.now t) }).mono (by decide)).trans
      (State.calibrate_touches _ x)) ?_
  rintro u hl ⟨-, hunits, -⟩
  have htda : _ = u.tda := hunits .tda (by decide)
  obtain ⟨fails, hcal⟩ :=
    State.calibrate_tda { s.atTime t with tda := { s.tda with idleAt := some (max s.now t) } } x
  rw [htda.symm.trans hcal]
  refine ⟨hl, List.length_mapIdx, rfl, fun m hlt => ?_, rfl, rfl⟩
  simp [mapIdx, hlt]

/-- Within 4,000 ns of the last calibration outside the slots none is due. -/
theorem idleTdcCalibration_early {s : State} {t a : Nat} {x : TdcCal} (hm : s.mainOn = true)
    (hlast : s.tda.idleAt = some a) (hearly : max s.now t < a + 4000) :
    Gives (.idleTdcCalibration t x) s fun u => OnlyChanges [] s u := by
  have hwaits : s.tda.idleDue (max s.now t) = false := by
    simp only [Tda.idleDue, hlast, decide_eq_false_iff_not]
    exact Nat.not_le.2 hearly
  have hidle : ((s.atTime t).inShotSlot || !s.tda.idleDue (max s.now t)) = true := by simp [hwaits]
  exact gives_unchanged (exec_idleTdcCalibration s) hm (if_pos hidle)

/-! ### Edges of a reference channel (07 R180, R183) -/

/-- The first edge within the window of an enabled reference channel that has seen its first edge of the slot: it is t_ref,
and where a port of the channel fired, RefOffset is its distance from the middle. -/
theorem referenceEdge_found {s : State} {t ps ref taps : Nat} {c : ColCtx} {r : RefChan} {traw : Int}
    (hm : s.mainOn = true) (hcur : s.pipe.cur = some c) (hslot : (s.atTime t).inShotSlot = true)
    (hblank : (s.atTime t).inBlank = false) (hlit : s.pipe.lit = true) (hr : s.tda.refs.getD ref {} = r)
    (htraw : (s.tda.tdcs.getD (512 + ref) {}).rawTime
      (counterEdge (max s.now t * 1000 + ps % 1000) s.pipe.slotStart) taps = traw)
    (hdead : outOfDeadTime r.last traw = true) (hk : (s.tda.tdcs.getD (512 + ref) {}).k ≠ 0) (hseen : r.firstSeen = true)
    (hon : c.refEnabled ref = true) (hnone : r.tref = none) (hopen : r.closed = false)
    (hlow : s.fireLsb + c.refDelay ref - c.refWindow ≤ traw) (hhigh : traw ≤ s.fireLsb + c.refDelay ref + c.refWindow) :
    Gives (.referenceEdge t ps ref taps) s fun u => OnlyChanges [.tda] s u ∧ u.tda = { s.tda with
      refs := s.tda.refs.set ref { r with
        last := some traw, tref := some traw, frameFound := true
        offset := if c.refFired s.pipe.slot ref then traw - (s.fireLsb + c.refDelay ref) else r.offset } } := by
  refine gives_tda (exec_referenceEdge s) hm (by decide) ?_
  have hfire : (s.atTime t).fireLsb = s.fireLsb := rfl
  simp only [State.atTime_pipe, State.atTime_tda, State.atTime_now, hcur, hr, htraw, hfire, hslot, hblank, hlit, hdead,
    hseen, hon, hnone, hopen, hlow, hhigh, bne_iff_ne.2 hk, setAt, Bool.not_true, Bool.not_false, Bool.or_self,
    Bool.and_false, Bool.false_and, Bool.and_true, Bool.true_and, Option.isNone_none, decide_true, Bool.false_eq_true,
    if_false, if_true, Option.getD_some]
  split <;> rfl

/-! ### Events that waited for their reference (07 R182 to R185) -/

/-- No event of channel `ch` waits for its reference any more. -/
def Tda.Timed (a : Tda) (ch : Nat) : Prop :=
  ∀ q, mget a.chans ch = some q → ∀ e ∈ q.events, e.tau.isSome = true

/-- A channel's record replaced by one whose events are timed, where it is the channel asked for. -/
theorem Tda.Timed.set_chan {a : Tda} {ch ch' : Nat} {q' : TdaChan} (h : a.Timed ch)
    (hq' : ch = ch' → ∀ e ∈ q'.events, e.tau.isSome = true) : { a with chans := mset a.chans ch' q' }.Timed ch := by
  intro q hq
  by_cases hch : ch = ch'
  · subst hch
    rw [mget_mset_self] at hq
    cases hq
    exact hq' rfl
  · exact h q ((mget_mset_other _ _ hch).symm.trans hq)

/-- So are the events of a channel read with the empty record as default. -/
theorem Tda.Timed.events_getD {a : Tda} {ch : Nat} (h : a.Timed ch) :
    ∀ e ∈ ((mget a.chans ch).getD {}).events, e.tau.isSome = true := by
  cases hq : mget a.chans ch with
  | none => exact fun e he => absurd he List.not_mem_nil
  | some q => exact h q hq

/-- An event that is settled is counted, dropped or kept with its time. -/
theorem Tda.Timed.settle {a : Tda} {ch : Nat} (h : a.Timed ch) (ch' : Nat) (bound : Int) (e : TimedEvent) (tau : Int) :
    (a.settle ch' bound e tau).Timed ch := by
  unfold Tda.settle
  dsimp only
  split
  · exact h
  split
  · exact h
  · refine h.set_chan ?_
    rintro rfl e' he'
    rcases List.mem_append.1 he' with hold | hnew
    · exact h.events_getD e' hold
    · rw [List.mem_singleton.1 hnew]
      rfl

theorem Tda.settle_refs (a : Tda) (ch : Nat) (bound : Int) (e : TimedEvent) (tau : Int) :
    (a.settle ch bound e tau).refs = a.refs := by
  unfold Tda.settle
  dsimp only
  split
  · rfl
  split <;> rfl

/-- Events settled one after the other leave the references alone, and the channels without waiting events so. -/
theorem Tda.foldl_settle (ch : Nat) (bound : Int) (tau : TimedEvent → Int) (l : List TimedEvent) (a : Tda) :
    (l.foldl (fun a e => a.settle ch bound e (tau e)) a).refs = a.refs ∧
      ∀ ch', a.Timed ch' → (l.foldl (fun a e => a.settle ch bound e (tau e)) a).Timed ch' := by
  induction l generalizing a with
  | nil => exact ⟨rfl, fun _ h => h⟩
  | cons e l ih =>
    obtain ⟨hrefs, htimed⟩ := ih (a.settle ch bound e (tau e))
    exact ⟨hrefs.trans (a.settle_refs ch bound e (tau e)), fun ch' h => htimed ch' (h.settle ch bound e (tau e))⟩

/-- What timing the waiting events of the channels `chs` makes of the state: a change of the array alone, its references
left alone, after which neither those channels nor any that held no waiting event hold one. -/
def TimesWaiting (chs : List Nat) (s u : State) : Prop :=
  ∃ a, u = { s with tda := a } ∧ a.refs = s.tda.refs ∧ ∀ ch, ch ∈ chs ∨ s.tda.Timed ch → a.Timed ch

theorem State.timeWaiting_times (s : State) (c : ColCtx) (x : CellCtx) :
    TimesWaiting [x.channel] s (s.timeWaiting c x) := by
  unfold State.timeWaiting
  split
  next hnone =>
    refine ⟨s.tda, rfl, rfl, ?_⟩
    rintro ch (hch | h)
    · rw [List.mem_singleton.1 hch]
      intro q hq
      cases hnone.symm.trans hq
    · exact h
  next q hq =>
    dsimp only
    obtain ⟨hrefs, htimed⟩ := Tda.foldl_settle x.channel c.plan.bound (fun e => s.eventTime c x e.traw)
      (q.events.filter fun e => e.tau.isNone)
      { s.tda with chans := mset s.tda.chans x.channel { q with events := q.events.filter fun e => e.tau.isSome } }
    refine ⟨_, rfl, hrefs, fun ch hch => htimed ch ?_⟩
    have hknown : ∀ e ∈ q.events.filter fun e => e.tau.isSome, e.tau.isSome = true :=
      fun e he => (List.mem_filter.1 he).2
    rcases hch with hch | h
    · rw [List.mem_singleton.1 hch]
      intro q' hq'
      rw [mget_mset_self] at hq'
      cases hq'
      exact hknown
    · exact h.set_chan fun _ => hknown

theorem State.foldl_timeWaiting_times (c : ColCtx) (l : List CellCtx) (s : State) :
    TimesWaiting (l.map CellCtx.channel) s (l.foldl (fun s x => s.timeWaiting c x) s) := by
  induction l generalizing s with
  | nil => exact ⟨s.tda, rfl, rfl, fun ch h => h.resolve_left List.not_mem_nil⟩
  | cons x l ih =>
    obtain ⟨a, ha, harefs, hatimed⟩ := s.timeWaiting_times c x
    obtain ⟨b, hb, hbrefs, hbtimed⟩ := ih (s.timeWaiting c x)
    rw [ha] at hb hbrefs hbtimed
    refine ⟨b, by rw [List.foldl_cons, ha, hb], hbrefs.trans harefs, fun ch hch => hbtimed ch ?_⟩
    rw [List.map_cons, List.mem_cons] at hch
    rcases hch with (rfl | hch) | h
    · exact .inr (hatimed _ (.inl List.mem_cons_self))
    · exact .inl hch
    · exact .inr (hatimed ch (.inr h))

/-! ### The close of a reference window (07 R180 to R183) -/

/-- A window that closes at its end: a missing edge counts, and the events of the cells of its ports are timed. -/
theorem referenceWindowClose_closes {s : State} {t ref : Nat} {c : ColCtx} {r : RefChan} (hm : s.mainOn = true)
    (hcur : s.pipe.cur = some c) (hslot : (s.atTime t).inShotSlot = true) (hlit : s.pipe.lit = true)
    (hr : s.tda.refs.getD ref {} = r) (hopen : r.closed = false) (hend : s.refWindowEnd c ref ≤ max s.now t) :
    Gives (.referenceWindowClose t ref) s fun u => OnlyChanges [.tda] s u ∧
      u.tda.refs = s.tda.refs.set ref { r with
        closed := true
        misses := if c.refFired s.pipe.slot ref && c.refEnabled ref && r.tref.isNone then sat32 r.misses else r.misses
        frameCounted := r.frameCounted + bNat (c.refFired s.pipe.slot ref && c.refEnabled ref)
        frameMissed := r.frameMissed + bNat (c.refFired s.pipe.slot ref && c.refEnabled ref && r.tref.isNone)
        measured := if c.refFired s.pipe.slot ref && !r.firstSeen then 0xFFFF else r.measured } ∧
      ∀ x ∈ c.cells, c.plan.refOf x.port = some ref → u.tda.Timed x.channel := by
  subst hr
  have hdue : ¬ (!(s.atTime t).inShotSlot || !s.pipe.lit || (s.tda.refs.getD ref {}).closed ||
      decide (max s.now t < s.refWindowEnd c ref)) = true := by
    simp only [hslot, hlit, hopen, Nat.not_lt.2 hend]
    decide
  obtain ⟨a, ha, hrefs, htimed⟩ := State.foldl_timeWaiting_times c
    (c.cells.filter fun x => (some ref).isNone || c.plan.refOf x.port == some ref) _
  refine (gives_tda (exec_referenceWindowClose s) hm (by decide) (a := a) ?_).mono ?_
  · split
    next hnone => cases hnone.symm.trans hcur
    next c' hc' =>
      cases hcur.symm.trans hc'
      exact (if_neg hdue).trans ha
  · rintro u ⟨hl, rfl⟩
    refine ⟨hl, hrefs, fun x hx href => htimed _ (.inl (List.mem_map_of_mem (List.mem_filter.2 ⟨hx, ?_⟩)))⟩
    rw [href, beq_self_eq_true, Bool.or_true]

/-- Before its end no window closes. -/
theorem referenceWindowClose_early {s : State} {t ref : Nat} {c : ColCtx} (hm : s.mainOn = true)
    (hcur : s.pipe.cur = some c) (hearly : max s.now t < s.refWindowEnd c ref) :
    Gives (.referenceWindowClose t ref) s fun u => OnlyChanges [] s u := by
  refine gives_unchanged (exec_referenceWindowClose s) hm ?_
  split
  · rfl
  next c' hc' =>
    cases hcur.symm.trans hc'
    have hwaits : decide (max s.now t < s.refWindowEnd c ref) = true := decide_eq_true hearly
    exact if_pos (Bool.or_eq_true_iff.2 (.inr hwaits))

/-- Settles O30: each command is its branch that acts, or the one that finds nothing due; a window that closes times every
event that waited for it, and none that is timed waits again. -/
theorem referencesAndCalibrations : Obligations.ReferencesAndCalibrations := by
  unfold Obligations.ReferencesAndCalibrations
  refine ⟨?idle, ?edge, ?close, ?early⟩
  case idle =>
    exact fun s t x hm hslot => ⟨idleTdcCalibration_measures hm hslot, fun _ => idleTdcCalibration_early hm⟩
  case edge =>
    intro s t ps ref taps c hm hcur _ hslot hblank hlit r tdc traw middle hdead hk hseen hon hnone hopen hlow hhigh
    exact referenceEdge_found hm hcur hslot hblank hlit rfl rfl hdead hk hseen hon hnone hopen hlow hhigh
  case close =>
    exact fun s t ref c hm hcur hslot hlit hopen hend => referenceWindowClose_closes hm hcur hslot hlit rfl hopen hend
  case early =>
    exact fun s t ref c hm => referenceWindowClose_early hm

end Sys2Proof.Machine
end

section
/-!
SUPPORT. A comparator edge at the very end of a saturation mark (06 R158; 07 R185): the mark an event carries is the one its
channel holds at the edge, which the mark at the instant of the command before does not tell.
-/
namespace Sys2Proof.Machine

/-- The cell of channel 0 in a column of the default plan. -/
def markedCell : CellCtx :=
  { row := 0, channel := 0, port := 0, measured := true, reduction := 0, feedback := 0, settling := false, reduced := false
    stale := false, preds := [] }

def markedColumn : ColCtx :=
  { plan := [], frame := 0, epoch := 0, gridGen := 0, visit := 0, column := 0, start := 0, late := false, predict := false
    cells := [markedCell] }

/-- 100 ns into a lit slot, the reference windows closed and the interpolators measured: the saturation of channel 0 is
released, so its mark lasts until 130 ns. -/
def markEnding : State :=
  { State.reset with
    now := 100
    pipe := { plan := some [], cur := some markedColumn, inColumn := true, inSlot := true, lit := true }
    rfe := { chans := { marked := true, releasedAt := 100 } :: List.replicate 511 {} }
    tda := { tdcs := List.replicate 520 { meas := [(64, 0)] }, refs := List.replicate 8 { closed := true } } }

/-- No detector waits for the end of the blank. -/
theorem markEnding_seen (n : Nat) (hsat : (markEnding.chan n).sat = true) : (markEnding.chan n).seen = true := by
  have hreleased : (markEnding.chan n).sat = false := by
    cases n with
    | zero => rfl
    | succ n =>
      exact congrArg Chan.sat (List.getD_eq_getElem?_getD.trans (List.getElem?_getD_replicate_default_eq _ 511 n))
  exact absurd hsat (ne_true_of_eq_false hreleased)

/-- The saturation marks that the events of a channel carry once a command has completed. -/
def satMarksAfter (o : Host.Outcome State Fault Refusal) (ch : Nat) : List Bool :=
  match o with
  | .next u => ((mget u.tda.chans ch).getD {}).events.map TimedEvent.sat
  | _ => []

/-- The event of an edge at 130 ns carries no mark. -/
theorem satMarksAfter_comparatorEdge_markEnding :
    satMarksAfter (exec (.comparatorEdge 130 0 0 0) markEnding) 0 = [false] := by
  have hfree : (markEnding.atTime 130).endBlank = markEnding.atTime 130 :=
    State.endBlank_of_seen fun n _ => markEnding_seen n
  rw [exec_comparatorEdge, execComparatorEdge, runMain_eq rfl, hfree]
  decide +kernel

/-- Refutes O31: the statement has an event carry its channel's mark at the instant of the command before the edge. The mark
of channel 0 still stands then, at 100 ns, and is over at the edge, at 130 ns. -/
theorem not_edgesBecomeTimedEvents : ¬ Obligations.EdgesBecomeTimedEvents := by
  unfold Obligations.EdgesBecomeTimedEvents
  intro h
  obtain ⟨-, -, handsOn⟩ := h markEnding 130 0 0 0 markedColumn markedCell rfl (by decide +kernel)
    (fun n _ => markEnding_seen n) (by decide +kernel) rfl rfl rfl rfl rfl (by decide +kernel) (by decide +kernel)
    (by decide +kernel)
  obtain ⟨u, hexec, -, -, -, hchan⟩ := handsOn rfl (by decide +kernel) (by decide +kernel)
  have hcarried : satMarksAfter (.next u) 0 = [markEnding.satMark 0] := by
    rw [satMarksAfter, hchan]
    rfl
  rw [← hexec, satMarksAfter_comparatorEdge_markEnding] at hcarried
  exact absurd hcarried (by decide +kernel)

end Sys2Proof.Machine
end

section
/-!
SUPPORT. The histogram accumulator (08): what an accumulated event adds to its bin, what an event that reaches the
accumulator becomes, and the release of an event held for coincidence (R194, R200 to R206).
-/
namespace Sys2Proof.Machine

/-! ### Sparse counts -/

/-- A count other than 0 is listed. -/
theorem mput_of_ne_zero {m : SMap Nat} {k v : Nat} (hv : v ≠ 0) : mput m k v = mset m k v := if_neg hv

/-- A count other than 0 reads back, and no other key sees the write. -/
theorem mcount_mput_same {m : SMap Nat} {k v : Nat} (hv : v ≠ 0) : mcount (mput m k v) k = v := by
  rw [mput_of_ne_zero hv, mcount, mget_mset_self, Option.getD_some]

theorem mcount_mput_other {m : SMap Nat} {k j v : Nat} (hv : v ≠ 0) (hj : j ≠ k) :
    mcount (mput m k v) j = mcount m j := by
  rw [mput_of_ne_zero hv, mcount, mget_mset_other m v hj, mcount]

/-! ### Buffers (08 R194, R200) -/

/-- The tags of an event leave the coarse bins alone. -/
theorem Buf.tag_coarse (b : Buf) (binLsb : Nat) (e : HacEvent) : (b.tag binLsb e).coarse = b.coarse := by
  unfold Buf.tag
  dsimp only
  split <;> rfl

/-- An incremented bin is clamped at 4,095. -/
theorem bumpBin_fst (v w : Nat) : (bumpBin v w).1 = min 4095 (v + w) := by
  unfold bumpBin
  split
  · exact (Nat.min_eq_left (by omega)).symm
  · exact (Nat.min_eq_right (by omega)).symm

/-- Without pile-up correction a coarse event adds 8 to its bin, clamped. -/
theorem Buf.addCoarse_coarse (b : Buf) {c : ColCtx} (port : Nat) (e : HacEvent) (hplain : planN c.plan 0x400010 = 0) :
    (b.addCoarse c port e).1.coarse = mput b.coarse (e.tau / c.plan.binLsb)
      (min 4095 (mcount b.coarse (e.tau / c.plan.binLsb) + 8)) := by
  have hweight : ¬ planN c.plan 0x400010 = 1 := by omega
  simp only [Buf.addCoarse, if_neg hweight, Buf.tag_coarse, bumpBin_fst]

/-- The buffer of a channel after a write to it. -/
theorem Hac.buf_setBuf_same (h : Hac) (ch : Nat) (b : Buf) : (h.setBuf true ch b).buf true ch = b :=
  congrArg (fun o => o.getD {}) (mget_mset_self h.acc ch b)

theorem Hac.buf_setBuf_other (h : Hac) {ch ch' : Nat} (b : Buf) (hne : ch' ≠ ch) :
    (h.setBuf true ch b).buf true ch' = h.buf true ch' :=
  congrArg (fun o => o.getD {}) (mget_mset_other h.acc b hne)

/-! ### An event that reaches the accumulator (08 R200 to R204) -/

/-- A visit index names the column in progress before any other. -/
theorem State.columnOf_cur {s : State} {visit : Nat} {c : ColCtx} (hcur : s.pipe.cur = some c) (hvisit : c.visit = visit) :
    s.columnOf visit = some (c, true) := by
  simp only [State.columnOf, hcur, hvisit, if_true]

/-- A coarse event accumulates in the buffer of its channel. -/
theorem Hac.stage_coarse (h : Hac) {c : ColCtx} (port now : Nat) {e : HacEvent} (hcoarse : c.plan.zoomSlot e.slot = false) :
    h.stage c true port now e = (h.setBuf true e.ch ((h.buf true e.ch).addCoarse c port e).1).counted
      ((h.buf true e.ch).addCoarse c port e).2 := by
  simp only [Hac.stage, hcoarse, Bool.not_false, if_true]

/-- A zoom event is parked before the windows are placed. -/
theorem Hac.stage_parked (h : Hac) {c : ColCtx} (port now : Nat) {e : HacEvent} (hzoom : c.plan.zoomSlot e.slot = true)
    (hunplaced : h.placedAt = none) : h.stage c true port now e =
      { h with parked := h.parked ++ [e], parkedCount := sat32 h.parkedCount } := by
  simp only [Hac.stage, hzoom, hunplaced, Bool.not_true, Bool.false_eq_true, Bool.and_self, if_false, if_true]

section Take
variable (h : Hac) {c : ColCtx} {x : CellCtx} {e : HacEvent} (now : Nat) (paired : Bool) (hprobe : c.probe = false)
include hprobe

/-- Without its port's pulse in the slot an event is counted unlit. -/
theorem Hac.take_unlit (hdark : ((mget c.fired e.slot).getD []).contains x.port = false) :
    h.take c true x now e paired = { h with unlit := wrap64 h.unlit } := by
  simp only [Hac.take, hprobe, hdark, Bool.false_and, Bool.false_eq_true, Bool.not_false, if_false, if_true]

/-- A lit event of a plan without pair detection and coincidence passes the gates. -/
theorem Hac.take_lit (hlit : ((mget c.fired e.slot).getD []).contains x.port = true) (hpair : c.plan.interference ≠ 2)
    (hcoinc : planN c.plan 0x400011 ≤ 1) : h.take c true x now e paired = h.stage c true x.port now e := by
  simp only [Hac.take, hprobe, hlit, decide_eq_false hpair, Nat.not_lt.2 hcoinc, Bool.false_and, Bool.false_eq_true,
    Bool.not_true, if_false]

end Take

/-! ### The handover of a timed event (07 R185; 08 R200) -/

theorem State.tda_hac_touches (s : State) (a : Tda) (h : Hac) :
    OnlyChanges [.tda, .hac] s { s with tda := a, hac := h } :=
  ((State.tda_touches s a).mono (by decide)).trans ((State.hac_touches _ h).mono (by decide))

/-- What the accumulator is told of a timed event. -/
def TimedEvent.toHac (e : TimedEvent) (ch tau : Nat) : HacEvent :=
  { ch, visit := e.visit, slot := e.slot, tau, sat := e.sat, outside := e.outside, atPs := e.atPs }

/-- The handover of the oldest event of a channel: it leaves the digitizers, and `h` becomes of the accumulator. -/
def HandedOver (ch : Nat) (q : TdaChan) (rest : List TimedEvent) (h : Hac) (s u : State) : Prop :=
  (OnlyChanges [.tda, .hac] s u ∧ u.tda.events = wrap64 s.tda.events ∧
    mget u.tda.chans ch = some { q with events := rest }) ∧ u.hac = h

section Handover
variable {s : State} {t ch tau : Nat} {c : ColCtx} {x : CellCtx} {q : TdaChan} {e : TimedEvent} {rest : List TimedEvent}
  (hm : s.mainOn = true) (hq : mget s.tda.chans ch = some q) (hevents : q.events = e :: rest)
  (htau : e.tau = some (tau : Int))
include hm hq hevents htau

/-- An event whose verdicts are not there yet stays. -/
theorem eventHandover_waits (hearly : max s.now t * 1000 < e.readyPs) :
    Gives (.eventHandover t ch) s fun u => OnlyChanges [] s u := by
  refine gives_unchanged (exec_eventHandover s) hm ?_
  simp only [State.atTime_tda, hq, Option.getD_some, hevents, htau]
  exact if_pos hearly

/-- An event of the column in progress whose verdicts are there leaves for the accumulator. -/
theorem eventHandover_leaves (hready : e.readyPs ≤ max s.now t * 1000) (hcur : s.pipe.cur = some c)
    (hvisit : c.visit = e.visit) (hcell : c.cellOf ch = some x) :
    Gives (.eventHandover t ch) s
      (HandedOver ch q rest (s.hac.take c true x (max s.now t) (e.toHac ch tau) e.paired) s) := by
  refine gives_of_effect (l := [.tda, .hac]) (a := { s.atTime t with
      tda := { s.tda with
        chans := mset s.tda.chans ch { q with events := rest }, events := wrap64 s.tda.events }
      hac := s.hac.take c true x (max s.now t) (e.toHac ch tau) e.paired }) (exec_eventHandover s) hm ?_
    (State.tda_hac_touches _ _ _) ?_
  · simp only [State.atTime_tda, hq, Option.getD_some, hevents, htau]
    refine (if_neg (Nat.not_lt.2 hready)).trans ?_
    rw [State.columnOf_cur (hvisit := hvisit)]
    · simp only [hcell]
      rfl
    · exact hcur
  · rintro u hl ⟨-, hunits, -⟩
    rw [HandedOver, ← show _ = u.tda from hunits .tda (by decide), ← show _ = u.hac from hunits .hac (by decide)]
    exact ⟨⟨hl, rfl, mget_mset_self _ _ _⟩, rfl⟩

end Handover

/-- A coarse event of a plan without pile-up correction adds 8 to its bin, and to no other. -/
theorem Hac.stage_plainCoarse (h : Hac) {c : ColCtx} (port now : Nat) {e : HacEvent}
    (hcoarse : c.plan.zoomSlot e.slot = false) (hplain : planN c.plan 0x400010 = 0) :
    let bin := e.tau / c.plan.binLsb
    let old := h.buf true e.ch
    let h' := h.stage c true port now e
    h'.accumulated = wrap64 h.accumulated ∧
      mcount (h'.buf true e.ch).coarse bin = min 4095 (mcount old.coarse bin + 8) ∧
      (∀ b, b ≠ bin → mcount (h'.buf true e.ch).coarse b = mcount old.coarse b) ∧
      (∀ ch, ch ≠ e.ch → h'.buf true ch = h.buf true ch) ∧ h'.tail = h.tail := by
  intro bin old h'
  have hstage : h' = (h.setBuf true e.ch (old.addCoarse c port e).1).counted (old.addCoarse c port e).2 :=
    h.stage_coarse port now hcoarse
  have hbuf : h'.buf true e.ch = (old.addCoarse c port e).1 := by
    rw [hstage]
    exact h.buf_setBuf_same e.ch _
  have hbump : min 4095 (mcount old.coarse bin + 8) ≠ 0 := by omega
  rw [hbuf, old.addCoarse_coarse port e hplain]
  refine ⟨by rw [hstage]; rfl, mcount_mput_same hbump, fun b hb => mcount_mput_other hbump hb, fun ch hch => ?_,
    by rw [hstage]; rfl⟩
  rw [hstage]
  exact h.buf_setBuf_other _ hch

/-! ### The release of an event held for coincidence (08 R206) -/

/-- A command of the main domain whose effect is to make `h` of the accumulator. -/
theorem gives_hac {i : Instr} {t : Nat} {fr : List UnitId} {f : State → State} {s : State} {h : Hac}
    (he : exec i s = runMain t fr f s) (hm : s.mainOn = true) (hfr : UnitId.hac ∉ fr)
    (ha : f (s.atTime t) = { s.atTime t with hac := h }) : Gives i s fun u => OnlyChanges [.hac] s u ∧ u.hac = h := by
  refine gives_of_effect he hm ha (State.hac_touches _ h) ?_
  rintro u hl ⟨-, hunits, -⟩
  have hhac : h = u.hac := hunits .hac hfr
  exact ⟨hl, hhac.symm⟩

/-- The accumulator without the held event `e`. -/
def Hac.release (h : Hac) (e : HacEvent) : Hac := { h with held := h.held.erase e }

/-- The accumulator after the rejection of the held event `e` of channel `ch`. -/
def Hac.reject (h : Hac) (ch : Nat) (e : HacEvent) : Hac :=
  { (h.release e).setBuf true ch { h.buf true ch with coincRejects := (h.buf true ch).coincRejects + 1 } with
    coincRejects := wrap64 h.coincRejects }

section Release
variable {s : State} {t ch : Nat} {c : ColCtx} {x : CellCtx} {e : HacEvent} (hm : s.mainOn = true)
  (hheld : s.hac.held.find? (fun e => e.ch == ch) = some e) (hcur : s.pipe.cur = some c) (hvisit : c.visit = e.visit)
  (hcell : c.cellOf ch = some x) (hdue : e.atPs + (160 + planN c.plan 0x400012) * 1000 ≤ max s.now t * 1000)
include hm hheld hcur hvisit hcell hdue

/-- A held event that is due goes on to its stage where enough channels support it, and is rejected where not. -/
theorem coincidenceRelease_decides : Gives (.coincidenceRelease t ch) s fun u => OnlyChanges [.hac] s u ∧
    u.hac = if s.hac.supported c x.port e then (s.hac.release e).stage c true x.port (max s.now t) e
      else s.hac.reject ch e := by
  refine gives_hac (exec_coincidenceRelease s) hm (by decide) ?_
  simp only [State.atTime_hac, hheld]
  rw [State.columnOf_cur (hvisit := hvisit)]
  · simp only [hcell]
    refine (if_neg (Nat.not_lt.2 hdue)).trans ?_
    by_cases hsupported : s.hac.supported c x.port e = true
    · rw [if_pos hsupported]
      exact if_pos hsupported
    · rw [if_neg hsupported]
      exact if_neg hsupported
  · exact hcur

end Release

/-- Settles O32: an event is handed over to the accumulator, where its gates and its stage decide what it adds to; a held one
goes on or is rejected. -/
theorem eventsReachTheirBins : Obligations.EventsReachTheirBins := by
  unfold Obligations.EventsReachTheirBins
  refine ⟨?handover, ?release⟩
  case handover =>
    intro s t ch c x q e rest tau hm hq hevents htau hcur hvisit hcell hprobe
    refine ⟨eventHandover_waits hm hq hevents htau, fun hready => ?_⟩
    have hleaves := eventHandover_leaves hm hq hevents htau hready hcur hvisit hcell
    refine ⟨fun hdark => ?_, fun hlit hpair hcoinc => ⟨fun hcoarse hplain => ?_, fun hzoom hunplaced => ?_⟩⟩
    · rwa [Hac.take_unlit (hprobe := hprobe) (hdark := hdark)] at hleaves
    · rw [Hac.take_lit (hprobe := hprobe) (hlit := hlit) (hpair := hpair) (hcoinc := hcoinc)] at hleaves
      refine hleaves.mono fun u hu => ⟨hu.1, ?_⟩
      rw [hu.2]
      exact s.hac.stage_plainCoarse x.port _ (e := e.toHac ch tau) hcoarse hplain
    · rwa [Hac.take_lit (hprobe := hprobe) (hlit := hlit) (hpair := hpair) (hcoinc := hcoinc),
        Hac.stage_parked (hzoom := hzoom) (hunplaced := hunplaced)] at hleaves
  case release =>
    intro s t ch c x e hm hheld hcur hvisit hcell hdue
    have hdecides := coincidenceRelease_decides hm hheld hcur hvisit hcell hdue
    constructor
    · intro halone
      refine hdecides.mono fun u hu => ⟨hu.1, ?_⟩
      rw [hu.2, halone, if_neg Bool.false_ne_true]
      exact ⟨rfl, rfl, (s.hac.release e).buf_setBuf_same ch _, rfl⟩
    · intro hsupported hcoarse
      have hch : e.ch = ch := beq_iff_eq.1 (List.find?_some (p := fun (e : HacEvent) => e.ch == ch) hheld)
      refine hdecides.mono fun u hu => ⟨hu.1, ?_⟩
      rw [hu.2, if_pos hsupported, Hac.stage_coarse _ _ _ hcoarse, hch]
      exact ⟨rfl, rfl, rfl, (s.hac.release e).buf_setBuf_same ch _⟩

end Sys2Proof.Machine
end

section
/-!
SUPPORT. The placement of the zoom windows and the parked events (08 R203 to R209): where a window may start, what the
placement point makes of each cell's buffer, and what becomes of the events that were parked until then.
-/
namespace Sys2Proof.Machine

/-! ### Where a window may start (08 R205) -/

/-- A start on a multiple of 4 LSB whose window of 256 LSB lies wholly within the coarse range. -/
def StartFits (p : Plan) (start : Nat) : Prop := start % 4 = 0 ∧ start + 256 ≤ 2048 * p.binLsb

section Starts
variable {p : Plan} (hlsb : 1 ≤ p.binLsb)
include hlsb

theorem windowStart_fits (centre : Nat) : StartFits p (windowStart p centre) := by
  unfold StartFits windowStart
  split <;> omega

/-- The window that is not placed stands at 0. -/
theorem startFits_unplaced : StartFits p ({} : Win).start :=
  ⟨rfl, show 0 + 256 ≤ 2048 * p.binLsb by omega⟩

theorem placeFresh_fits {cands : List Nat} {w : Win} (hw : w ∈ placeFresh p cands) : StartFits p w.start := by
  obtain ⟨i, -, rfl⟩ := List.mem_map.1 hw
  split
  · exact windowStart_fits hlsb _
  · exact startFits_unplaced hlsb

/-- A window that moves is placed afresh; one that stays keeps its start. -/
theorem moveWindows_fits (keepThem : Bool) {l : List (Nat × Nat)} (cands : List Nat) (hl : ∀ x ∈ l, StartFits p x.2) :
    ∀ y ∈ (moveWindows p keepThem l cands).1, StartFits p y.2.start := by
  induction l generalizing cands with
  | nil => exact fun y hy => absurd hy List.not_mem_nil
  | cons x l ih =>
    have hrest := fun cands => ih cands fun y hy => hl y (List.mem_cons_of_mem _ hy)
    cases cands with
    | cons c left => exact List.forall_mem_cons.2 ⟨windowStart_fits hlsb c, hrest left⟩
    | nil =>
      rw [moveWindows]
      cases keepThem with
      | true => exact List.forall_mem_cons.2 ⟨hl x List.mem_cons_self, hrest []⟩
      | false => exact hrest []

end Starts

/-- A confirmed window keeps the start it was predicted at, and so does one left open. -/
theorem confirmWindows_fits {p : Plan} {l : List (Nat × Nat)} (cands : List Nat) (hl : ∀ x ∈ l, StartFits p x.2) :
    (∀ y ∈ (confirmWindows l cands).1, StartFits p y.2.start) ∧ ∀ x ∈ (confirmWindows l cands).2.1, StartFits p x.2 := by
  induction l generalizing cands with
  | nil => exact ⟨fun y hy => absurd hy List.not_mem_nil, fun y hy => absurd hy List.not_mem_nil⟩
  | cons x l ih =>
    have hx := hl x List.mem_cons_self
    have hrest := fun cands => ih cands fun y hy => hl y (List.mem_cons_of_mem _ hy)
    rw [confirmWindows]
    split
    · exact ⟨List.forall_mem_cons.2 ⟨hx, (hrest _).1⟩, (hrest _).2⟩
    · exact ⟨(hrest _).1, List.forall_mem_cons.2 ⟨hx, (hrest _).2⟩⟩

theorem settleWindows_fits {p : Plan} (hlsb : 1 ≤ p.binLsb) {preds cands : List Nat} {w : Win}
    (hw : w ∈ settleWindows p preds cands) : StartFits p w.start := by
  have hpredicted : ∀ x ∈ (List.range (min preds.length p.zoomWindows)).map fun i => (i, windowStart p (preds.getD i 0)),
      StartFits p x.2 := by
    intro x hx
    obtain ⟨i, -, rfl⟩ := List.mem_map.1 hx
    exact windowStart_fits hlsb _
  obtain ⟨hok, hopen⟩ := confirmWindows_fits cands hpredicted
  have hmoved := fun cands => moveWindows_fits hlsb (planN p 0x400015 == 1) cands
    fun x hx => hopen x (List.mem_reverse.1 hx)
  obtain ⟨i, -, rfl⟩ := List.mem_map.1 hw
  split
  · rename_i hfound
    exact (List.mem_append.1 (List.mem_of_find?_eq_some hfound)).elim (hok _) (hmoved _ _)
  · split
    · split
      · exact windowStart_fits hlsb _
      · exact startFits_unplaced hlsb
    · exact startFits_unplaced hlsb

theorem placeWindows_fits {p : Plan} (hlsb : 1 ≤ p.binLsb) {x : CellCtx} {b : Buf} {w : Win} (hw : w ∈ placeWindows p x b) :
    StartFits p w.start := by
  unfold placeWindows at hw
  dsimp only at hw
  split at hw
  · exact settleWindows_fits hlsb hw
  · exact placeFresh_fits hlsb hw

/-! ### The placement point (08 R204, R208, R209) -/

/-- The buffer `b` of cell `x` once its windows are placed: only a valid one is written. -/
def Buf.placed (p : Plan) (x : CellCtx) (b : Buf) : Buf :=
  if (placeWindows p x b).any (fun w => w.valid) = true then { b with wins := placeWindows p x b } else b

/-- The windows of one cell placed, and counted in the frame. -/
def Hac.placeCell (p : Plan) (h : Hac) (x : CellCtx) : Hac :=
  let b := h.buf true x.channel
  let ws := placeWindows p x b
  let h := { h with run := h.run.placed ws }
  if ws.any fun w => w.valid then h.setBuf true x.channel { b with wins := ws } else h

theorem Hac.placeCell_parked (p : Plan) (h : Hac) (x : CellCtx) : (h.placeCell p x).parked = h.parked := by
  unfold Hac.placeCell
  dsimp only
  split <;> rfl

theorem Hac.placeCell_buf_same (p : Plan) (h : Hac) (x : CellCtx) :
    (h.placeCell p x).buf true x.channel = (h.buf true x.channel).placed p x := by
  unfold Hac.placeCell Buf.placed
  dsimp only
  split
  · exact Hac.buf_setBuf_same _ _ _
  · rfl

theorem Hac.placeCell_buf_other (p : Plan) (h : Hac) {x : CellCtx} {ch : Nat} (hne : ch ≠ x.channel) :
    (h.placeCell p x).buf true ch = h.buf true ch := by
  unfold Hac.placeCell
  dsimp only
  split
  · exact Hac.buf_setBuf_other _ _ hne
  · rfl

/-- The windows of every cell placed, in the order of the cells. -/
def Hac.placeCells (p : Plan) (h : Hac) (cells : List CellCtx) : Hac := cells.foldl (Hac.placeCell p) h

theorem Hac.placeCells_parked (p : Plan) (h : Hac) (cells : List CellCtx) : (h.placeCells p cells).parked = h.parked := by
  induction cells generalizing h with
  | nil => rfl
  | cons x cells ih => exact (ih _).trans (h.placeCell_parked p x)

theorem Hac.placeCells_buf_other (p : Plan) (h : Hac) {cells : List CellCtx} {ch : Nat}
    (hne : ch ∉ cells.map CellCtx.channel) : (h.placeCells p cells).buf true ch = h.buf true ch := by
  induction cells generalizing h with
  | nil => rfl
  | cons x cells ih =>
    obtain ⟨hx, hcells⟩ := not_or.1 (List.mem_cons.not.1 hne)
    exact (ih _ hcells).trans (h.placeCell_buf_other p hx)

/-- With no channel in two cells, the buffer of a cell is placed once. -/
theorem Hac.placeCells_buf (p : Plan) (h : Hac) {cells : List CellCtx} (hnodup : (cells.map CellCtx.channel).Nodup)
    {x : CellCtx} (hx : x ∈ cells) : (h.placeCells p cells).buf true x.channel = (h.buf true x.channel).placed p x := by
  induction cells generalizing h with
  | nil => exact absurd hx List.not_mem_nil
  | cons y cells ih =>
    obtain ⟨hy, hcells⟩ := List.nodup_cons.1 hnodup
    rcases List.mem_cons.1 hx with rfl | hx
    · exact ((h.placeCell p x).placeCells_buf_other p hy).trans (h.placeCell_buf_same p x)
    · have hne : x.channel ≠ y.channel := fun heq => hy (heq ▸ List.mem_map_of_mem hx)
      refine (ih (h.placeCell p y) hcells hx).trans ?_
      rw [h.placeCell_buf_other p hne]

/-- The placement point, once it is due. -/
theorem placementPoint_places {s : State} {t : Nat} {c : ColCtx} (hm : s.mainOn = true) (hcur : s.pipe.cur = some c)
    (hdue : (s.atTime t).placementDue c = true) : Gives (.placementPoint t) s fun u => OnlyChanges [.hac] s u ∧
      u.hac = { s.hac.placeCells c.plan c.cells with placedAt := some (max s.now t) } := by
  refine gives_hac (exec_placementPoint s) hm (by decide) ?_
  simp only [State.atTime_pipe, hcur, hdue, Bool.not_true, Bool.false_eq_true, if_false]
  rfl

/-! ### The parked events (08 R204) -/

/-- A zoom event either accumulates or is counted outside. -/
theorem Hac.applyZoom_counts (h : Hac) (c : ColCtx) (e : HacEvent) :
    (h.applyZoom c true e).accumulated + (h.applyZoom c true e).zoomOutside = h.accumulated + h.zoomOutside + 1#64 := by
  unfold Hac.applyZoom
  split
  · exact add_right_comm h.accumulated 1#64 h.zoomOutside
  · exact (BitVec.add_assoc _ _ _).symm

/-- Zoom events applied in order of arrival. -/
def Hac.applyAll (h : Hac) (c : ColCtx) (es : List HacEvent) : Hac := es.foldl (fun h e => h.applyZoom c true e) h

theorem Hac.applyAll_counts (h : Hac) (c : ColCtx) (es : List HacEvent) :
    (h.applyAll c es).accumulated + (h.applyAll c es).zoomOutside =
      h.accumulated + h.zoomOutside + BitVec.ofNat 64 es.length := by
  induction es generalizing h with
  | nil => exact (BitVec.add_zero _).symm
  | cons e es ih =>
    calc (h.applyAll c (e :: es)).accumulated + (h.applyAll c (e :: es)).zoomOutside
        = (h.applyZoom c true e).accumulated + (h.applyZoom c true e).zoomOutside + BitVec.ofNat 64 es.length := ih _
      _ = h.accumulated + h.zoomOutside + 1#64 + BitVec.ofNat 64 es.length := by rw [h.applyZoom_counts c e]
      _ = h.accumulated + h.zoomOutside + BitVec.ofNat 64 (es.length + 1) := by
        rw [BitVec.ofNat_add, BitVec.add_assoc, BitVec.add_comm 1#64]

/-- The parked events are applied, all of them, once the windows are placed. -/
theorem parkedEventsApply_applies {s : State} {t at_ : Nat} {c : ColCtx} (hm : s.mainOn = true)
    (hcur : s.pipe.cur = some c) (hplaced : s.hac.placedAt = some at_) :
    Gives (.parkedEventsApply t) s fun u => OnlyChanges [.hac] s u ∧
      u.hac = { s.hac.applyAll c s.hac.parked with parked := [] } := by
  refine gives_hac (exec_parkedEventsApply s) hm (by decide) ?_
  simp only [State.atTime_pipe, State.atTime_hac, hcur, hplaced]
  rfl

/-- Settles O33: every start is one of `windowStart`'s or 0; the placement point writes each cell's buffer once, no channel
being in two cells; and an application counts each event in one of two counters. -/
theorem zoomWindowsArePlacedInRange : Obligations.ZoomWindowsArePlacedInRange := by
  unfold Obligations.ZoomWindowsArePlacedInRange
  refine ⟨fun p x b w hlsb hw _ => placeWindows_fits hlsb hw, ?placement, ?parked⟩
  case placement =>
    intro s t c hm hcur hdue hnodup
    refine (placementPoint_places hm hcur hdue).mono fun u hu => ⟨hu.1, ?_⟩
    rw [hu.2]
    exact ⟨rfl, s.hac.placeCells_parked c.plan c.cells, fun x hx => s.hac.placeCells_buf c.plan hnodup hx⟩
  case parked =>
    intro s t at_ c hm hcur hplaced
    refine (parkedEventsApply_applies hm hcur hplaced).mono fun u hu => ⟨hu.1, ?_⟩
    rw [hu.2]
    exact ⟨rfl, s.hac.applyAll_counts c s.hac.parked⟩

end Sys2Proof.Machine
end

section
/-!
SUPPORT. Bytes stored one after another in a line of the DRAM, and what a write of a line does to its bytes and leaves alone
(10 R246, R247).
-/
namespace Sys2Proof.Machine

/-! ### Bytes of a line stored in their order -/

/-- The bytes `l` of the line at address `base` stored, each with its number in the line. -/
def Mcx.storeAll (m : Mcx) (base : Nat) (l : List (Nat × Byte)) : Mcx :=
  l.foldl (fun m b => m.store (base + b.1 % 64) b.2) m

theorem Mcx.storeAll_holding (m : Mcx) (base : Nat) (l : List (Nat × Byte)) : (m.storeAll base l).holding = m.holding := by
  induction l generalizing m with
  | nil => rfl
  | cons x l ih => exact ih _

/-- An address that is none of theirs keeps its byte. -/
theorem Mcx.storeAll_get_other {m : Mcx} {base a : Nat} {l : List (Nat × Byte)} (hm : m.canonical)
    (ha : ∀ x ∈ l, a ≠ base + x.1 % 64) : memGet (m.storeAll base l).data a = memGet m.data a := by
  induction l generalizing m with
  | nil => rfl
  | cons x l ih =>
    obtain ⟨hx, hl⟩ := List.forall_mem_cons.1 ha
    exact (ih (Mcx.store_canonical _ x.2 hm) hl).trans (memGet_put_other x.2 hm.1 hx)

/-- With no number twice, each byte reads back. -/
theorem Mcx.storeAll_get {m : Mcx} (base : Nat) {l : List (Nat × Byte)} (hm : m.canonical) (hlt : ∀ x ∈ l, x.1 < 64)
    (hnodup : (l.map Prod.fst).Nodup) {x : Nat × Byte} (hx : x ∈ l) :
    memGet (m.storeAll base l).data (base + x.1) = x.2 := by
  induction l generalizing m with
  | nil => exact absurd hx List.not_mem_nil
  | cons y l ih =>
    obtain ⟨hy, hrest⟩ := List.forall_mem_cons.1 hlt
    obtain ⟨hfresh, hnodup⟩ := List.nodup_cons.1 hnodup
    have hstored := Mcx.store_canonical (base + y.1 % 64) y.2 hm
    rcases List.mem_cons.1 hx with rfl | hx
    · have hother : ∀ z ∈ l, base + x.1 ≠ base + z.1 % 64 := by
        intro z hz heq
        rw [Nat.mod_eq_of_lt (hrest z hz)] at heq
        exact hfresh (Nat.add_left_cancel heq ▸ List.mem_map_of_mem hz)
      calc memGet ((m.store (base + x.1 % 64) x.2).storeAll base l).data (base + x.1)
          = memGet (m.store (base + x.1 % 64) x.2).data (base + x.1) := Mcx.storeAll_get_other hstored hother
        _ = x.2 := by rw [Nat.mod_eq_of_lt hy]; exact memGet_put_self _ _ hm.1
    · exact ih hstored hrest hnodup hx

/-! ### A write of a line -/

theorem Mcx.firstWrite_physical (m : Mcx) (page line : Nat) : (m.firstWrite page).physical line = m.physical line := by
  unfold Mcx.firstWrite
  split <;> rfl

theorem Mcx.firstWrite_holding (m : Mcx) (page : Nat) : (m.firstWrite page).holding = m.holding := by
  unfold Mcx.firstWrite
  split <;> rfl

theorem State.moved_holding (s : State) (user : MemUser) (n : Nat) : (s.moved user n).mcx.holding = s.mcx.holding := by
  simp only [State.moved, Mcx.atSecond]
  split <;> rfl

theorem State.lineRewritten_holding (s : State) (line : Nat) : (s.lineRewritten line).mcx.holding = s.mcx.holding := by
  simp only [State.lineRewritten, State.degradedNow, State.raiseIf_mcx]

theorem State.lineRewritten_touches (s : State) (line : Nat) : OnlyChanges memoryUnits s (s.lineRewritten line) :=
  State.degradedNow_touches s _

/-- A write of bytes of a line changes the controller, and the records of what it raises. -/
theorem State.writeLine_touches (s : State) (user : MemUser) (line : Nat) (bytes : List (Nat × Byte)) :
    OnlyChanges memoryUnits s (s.writeLine user line bytes) := by
  have hmoved : ∀ m : Mcx, OnlyChanges memoryUnits s ({ s with mcx := m }.moved user bytes.length) := fun m =>
    (State.memory_touches s m).trans ((State.moved_touches _ user _).mono (by decide))
  exact OnlyChanges.ite _ (OnlyChanges.refl _ s)
    (OnlyChanges.ite_after _ (hmoved _) (State.lineRewritten_touches _ line))

/-- Once the controller is ready, the bytes are stored on what a first write of the page leaves, and the buffers that hold
stay the same. -/
theorem State.writeLine_ready {s : State} (user : MemUser) (line : Nat) (bytes : List (Nat × Byte))
    (hready : s.mcx.ready = true) :
    (s.writeLine user line bytes).mcx.data =
        ((s.mcx.firstWrite (pageOfLine line)).storeAll (64 * s.mcx.physical line) bytes).data ∧
      (s.writeLine user line bytes).mcx.holding = s.mcx.holding := by
  have hstored : ∀ w d, let m := (s.mcx.firstWrite (pageOfLine line)).storeAll (64 * s.mcx.physical line) bytes
      let v := { s with mcx := { m with writebacks := w, dropped := d } }.moved user bytes.length
      v.mcx.data = m.data ∧ v.mcx.holding = s.mcx.holding := fun w d =>
    ⟨(State.moved_bytes _ user _).1,
      (State.moved_holding _ user _).trans ((Mcx.storeAll_holding _ _ _).trans (Mcx.firstWrite_holding _ _))⟩
  unfold State.writeLine
  rw [if_neg (by simp [hready])]
  dsimp only
  rw [Mcx.firstWrite_physical]
  split
  · exact ⟨(State.lineRewritten_bytes _ line).1.trans (hstored _ _).1,
      (State.lineRewritten_holding _ line).trans (hstored _ _).2⟩
  · exact hstored _ _

/-- A whole line reads back as written. -/
theorem State.writeWhole_reads {s : State} (user : MemUser) (line : Nat) (bytes : List Byte) (hready : s.mcx.ready = true)
    (hcanonical : MemoryCanonical s) {i : Nat} (hi : i < 64) :
    memGet (s.writeWhole user line bytes).mcx.data (64 * s.mcx.physical line + i) = bytes.getD i 0 := by
  have hfirst := Mcx.firstWrite_canonical (pageOfLine line) ((memoryCanonical_iff s).1 hcanonical)
  rw [State.writeWhole, (State.writeLine_ready user line _ hready).1]
  refine Mcx.storeAll_get (64 * s.mcx.physical line) (x := (i, bytes.getD i 0)) hfirst ?_ ?_
    (List.mem_map.2 ⟨i, List.mem_range.2 hi, rfl⟩)
  · intro x hx
    obtain ⟨j, hj, rfl⟩ := List.mem_map.1 hx
    exact List.mem_range.1 hj
  · rw [List.map_map]
    exact (List.map_id _).symm ▸ List.nodup_range

end Sys2Proof.Machine
end

section
/-!
SUPPORT. The extraction of a column and its way into the Tarn: what an engine makes of its next channel, the release of the
buffer, and the record of a cell (08 R196; 09 R212 to R239; 10 R249 to R252).
-/
namespace Sys2Proof.Machine

/-- A command of the main domain gives what holds of every state that keeps to its list and leaves the rest as its effect `a`
left it. -/
theorem gives_of_command {i : Instr} {t : Nat} {fr : List UnitId} {f : State → State} {s a : State} {P : State → Prop}
    (he : exec i s = runMain t fr f s) (hm : s.mainOn = true) (ha : f (s.atTime t) = a)
    (hp : ∀ u, OnlyChanges (changesOf i) s u → Leaves fr a u → P u) : Gives i s P := by
  subst ha
  exact gives_of_leaves he hm hp

/-! ### A cell of an engine (09 R212, R213, R233) -/

theorem length_fit {α : Type} (n : Nat) (x : α) (l : List α) : (fit n x l).length = n := by
  simp only [fit, List.length_append, List.length_take, List.length_replicate]
  omega

/-- What a cell hands on: its row, exactly the records a cell has, and at most three survivors. -/
def CellOut.Of (c : ColCtx) (x : CellCtx) (o : CellOut) : Prop :=
  o.row = x.row ∧ o.points.length = c.plan.recordsPerCell ∧ o.survivors.length ≤ 3

theorem CellEnv.extract_of (e : CellEnv) (sig : Signal) (cands : List (Int × Nat)) (rangeOff intOff : Int)
    (conflict : Bool) : (e.extract sig cands rangeOff intOff conflict).1.Of e.c e.x := by
  refine ⟨rfl, length_fit _ _ _, ?_⟩
  simp only [CellEnv.extract, List.length_map]
  exact List.length_take_le 3 _

theorem State.prxCell_done (s : State) (c : ColCtx) (x : CellCtx) : (s.prxCell c x).prx.done = s.prx.done := by
  unfold State.prxCell
  dsimp only
  split_ifs <;> rfl

/-- An unmeasured cell hands on nothing. -/
theorem State.prxCell_unmeasured {s : State} (c : ColCtx) {x : CellCtx} (hx : x.measured = false) :
    (s.prxCell c x).prx.cells = s.prx.cells := by
  unfold State.prxCell
  simp only [hx, Bool.not_false, if_true]
  split <;> rfl

/-- A measured cell hands on one result. -/
theorem State.prxCell_measured {s : State} (c : ColCtx) {x : CellCtx} (hx : x.measured = true) :
    ∃ o, (s.prxCell c x).prx.cells = s.prx.cells ++ [o] ∧ o.Of c x := by
  unfold State.prxCell
  simp only [hx, Bool.not_true, Bool.false_eq_true, if_false]
  split <;> exact ⟨_, rfl, CellEnv.extract_of _ _ _ _ _ _⟩

/-- The engine has taken its next channel. -/
def State.taken (s : State) (engine : Nat) : State :=
  { s with prx := { s.prx with done := mput s.prx.done engine (mcount s.prx.done engine + 1) } }

section Slot
variable {s : State} {t engine ch : Nat} {c : ColCtx} {x : CellCtx} (hm : s.mainOn = true) (hext : s.pipe.ext = some c)
  (hruns : c.plan.runsPrx = true) (hengine : engine < 16)
  (hch : (c.plan.engineChannels engine)[mcount s.prx.done engine]? = some ch)
include hm hext hruns hengine hch

/-- Before its slot an engine waits. -/
theorem prxChannelSlot_waits (hearly : max s.now t < c.swapAt + 2048 * mcount s.prx.done engine) :
    Gives (.prxChannelSlot t engine) s fun u => OnlyChanges [] s u := by
  refine gives_unchanged (exec_prxChannelSlot s) hm ?_
  simp only [State.atTime_pipe, State.atTime_prx, hext, hruns, hengine, decide_true, Bool.and_self, if_true, hch]
  exact if_pos hearly

/-- In its slot an engine takes its next channel, whose cell is processed. -/
theorem prxChannelSlot_takes (hcell : c.cellOf ch = some x)
    (hdue : c.swapAt + 2048 * mcount s.prx.done engine ≤ max s.now t) : Gives (.prxChannelSlot t engine) s fun u =>
      OnlyChanges [.prx] s u ∧ u.prx = (((s.atTime t).taken engine).prxCell c x).prx := by
  refine gives_of_command (exec_prxChannelSlot s) hm (a := ((s.atTime t).taken engine).prxCell c x) ?_ ?_
  · simp only [State.atTime_pipe, State.atTime_prx, State.atTime_now, hext, hruns, hengine, decide_true, Bool.and_self,
      if_true, hch, hcell, if_neg (Nat.not_lt.2 hdue)]
    rfl
  · rintro u hl ⟨-, hunits, -⟩
    exact ⟨hl, (hunits .prx (by decide)).symm⟩

end Slot

/-! ### The release of the buffer (08 R196; 09 R212) -/

/-- The extraction once column `c` is finished: its results are handed on, and the frame's counters with the last column. -/
def Prx.released (r : Prx) (c : ColCtx) : Prx :=
  let r' := { r.fadeStep c with outCells := r.cells, cells := [], done := [] }
  if c.visit + 1 == c.plan.columns then { r' with ready := some r'.run, run := {} } else r'

theorem Prx.released_handsOn (r : Prx) (c : ColCtx) :
    (r.released c).outCells = r.cells ∧ (r.released c).cells = [] ∧ (r.released c).done = [] := by
  unfold Prx.released
  dsimp only
  split <;> exact ⟨rfl, rfl, rfl⟩

/-- The state with the buffer of the finished column `c` released. -/
def State.released (s : State) (c : ColCtx) : State :=
  { s with
    prx := s.prx.released c
    hac := { s.hac with ext := [] }
    pipe := { s.pipe with ext := none, done := some c, doneTarn := false, doneQueued := false } }

/-- When the last engine has finished, the results wait for the write engine and the formatter. -/
theorem bufferRelease_releases {s : State} {t : Nat} {c : ColCtx} (hm : s.mainOn = true) (hext : s.pipe.ext = some c)
    (hruns : c.plan.runsPrx = true) (hdone : s.extracted c = true) (hdue : c.enginesEnd ≤ max s.now t) :
    Gives (.bufferRelease t) s fun u => OnlyChanges [.pipe, .hac, .prx] s u ∧ u.hac = { s.hac with ext := [] } ∧
      u.pipe = { s.pipe with ext := none, done := some c, doneTarn := false, doneQueued := false } ∧
      u.prx = s.prx.released c := by
  refine gives_of_command (exec_bufferRelease s) hm (a := (s.atTime t).released c) ?_ ?_
  · have hdone : (s.atTime t).extracted c = true := hdone
    simp only [State.atTime_pipe, State.atTime_now, hext, hruns, hdone, Nat.not_lt.2 hdue, Bool.not_true, decide_false,
      Bool.or_self, Bool.false_eq_true, if_false]
    rfl
  · rintro u hl ⟨-, hunits, -⟩
    exact ⟨hl, (hunits .hac (by decide)).symm, (hunits .pipe (by decide)).symm, (hunits .prx (by decide)).symm⟩

/-! ### The record of a cell (10 R249, R252) -/

/-- The line that the record of cell `x` of the finished column `c` goes to: of the buffer that is not holding. -/
def State.recordLine (s : State) (c : ColCtx) (x : CellCtx) : Nat :=
  tarnLine c.plan (1 - s.mcx.holdingOf c.posSet) c.posSet x.row c.column

/-- The state with the record of cell `x` written. -/
def State.writeRecord (s : State) (c : ColCtx) (x : CellCtx) : State :=
  s.writeWhole .tarnWrite (s.recordLine c x) (recordOf c x (outOf s.prx.outCells x.row)).bytes

section Record
variable {s : State} (c : ColCtx) (x : CellCtx)

theorem State.writeRecord_touches : OnlyChanges memoryUnits s (s.writeRecord c x) := State.writeLine_touches _ _ _ _

theorem State.writeRecord_holding (hready : s.mcx.ready = true) : (s.writeRecord c x).mcx.holding = s.mcx.holding :=
  (State.writeLine_ready _ _ _ hready).2

theorem State.writeRecord_reads (hready : s.mcx.ready = true) (hcanonical : MemoryCanonical s) {i : Nat} (hi : i < 64) :
    memGet (s.writeRecord c x).mcx.data (64 * s.mcx.physical (s.recordLine c x) + i) =
      (recordOf c x (outOf s.prx.outCells x.row)).bytes.getD i 0 :=
  State.writeWhole_reads _ _ _ hready hcanonical hi

end Record

/-- The write engine is done with the finished column. -/
def State.recordsWritten (s : State) : State := { s with pipe := { s.pipe with doneTarn := true } }

/-- The write engine writes the record of a column's one cell. -/
theorem tarnRecordWrite_writes {s : State} {t : Nat} {c : ColCtx} {x : CellCtx} (hm : s.mainOn = true)
    (hdone : s.pipe.done = some c) (hopen : s.pipe.doneTarn = false) (hcells : c.cells = [x]) :
    Gives (.tarnRecordWrite t) s fun u => OnlyChanges [.pipe, .mcx, .kpp, .evr] s u ∧
      u.pipe = { s.pipe with doneTarn := true } ∧ u.mcx = ((s.atTime t).writeRecord c x).mcx := by
  have hpipe : s.pipe = ((s.atTime t).writeRecord c x).pipe :=
    (State.writeRecord_touches (s := s.atTime t) c x).2 .pipe (by decide)
  refine gives_of_command (exec_tarnRecordWrite s) hm (a := ((s.atTime t).writeRecord c x).recordsWritten) ?_ ?_
  · simp only [State.atTime_pipe, hdone, hopen, hcells, Bool.false_eq_true, if_false, List.foldl_cons, List.foldl_nil]
    rfl
  · rintro u hl ⟨-, hunits, -⟩
    rw [hpipe]
    exact ⟨hl.mono (l := [.kpp, .pipe, .mcx, .evr]) (by decide), (hunits .pipe (by decide)).symm,
      (hunits .mcx (by decide)).symm⟩

/-- Settles O34: an engine waits or takes its next channel, whose cell hands on one result or none; the release is the branch
of its command that acts; and a record is a whole line, which reads back as written. -/
theorem cellsAreExtractedAndWritten : Obligations.CellsAreExtractedAndWritten := by
  unfold Obligations.CellsAreExtractedAndWritten
  refine ⟨⟨?slot, ?release⟩, ?tarn⟩
  case slot =>
    intro s t engine ch c x hm hext hruns hengine hch hcell
    refine ⟨prxChannelSlot_waits hm hext hruns hengine hch, fun hdue => ?_⟩
    refine (prxChannelSlot_takes hm hext hruns hengine hch hcell hdue).mono fun u ⟨hl, hprx⟩ => ⟨hl, ?_⟩
    rw [hprx, State.prxCell_done]
    exact ⟨mcount_mput_same (Nat.succ_ne_zero _), State.prxCell_unmeasured c, State.prxCell_measured c⟩
  case release =>
    intro s t c hm hext hruns hdone hdue
    refine (bufferRelease_releases hm hext hruns hdone hdue).mono fun u ⟨hl, hhac, hpipe, hprx⟩ => ⟨hl, hhac, hpipe, ?_⟩
    rw [hprx]
    exact s.prx.released_handsOn c
  case tarn =>
    intro s t c x hm hdone hopen hready hcells hcanonical
    refine (tarnRecordWrite_writes hm hdone hopen hcells).mono fun u ⟨hl, hpipe, hmcx⟩ => ⟨hl, hpipe, ?_⟩
    rw [hmcx]
    exact ⟨State.writeRecord_holding (s := s.atTime t) c x hready,
      fun i hi => State.writeRecord_reads (s := s.atTime t) c x hready hcanonical hi⟩

end Sys2Proof.Machine
end

section
/-!
SUPPORT. The memory controller under the commands of the other units: every operation of theirs leaves it as it is (10 R243,
R264), but for the accesses to the memory itself, the reset of the main domain and the writes of its own objects.
-/
namespace Sys2Proof.Machine

/-! ### The memory controller outside a list of units -/

theorem OnlyChanges.mcx {l : List UnitId} {s u : State} (h : OnlyChanges l s u) (hl : .mcx ∉ l) : u.mcx = s.mcx :=
  (h.2 .mcx hl).symm

/-! ### The emission guard (13) -/

@[simp] theorem State.trip_mcx (s : State) (k : Nat) : (s.trip k).mcx = s.mcx :=
  (State.trip_touches s k).mcx (by decide)

@[simp] theorem State.setSource_mcx (s : State) (k : Nat) (active : Bool) : (s.setSource k active).mcx = s.mcx :=
  (State.setSource_touches s k active).mcx (by decide)

@[simp] theorem State.rearmEdge_mcx (s : State) : s.rearmEdge.mcx = s.mcx :=
  (State.rearmEdge_touches s).mcx (by decide)

@[simp] theorem State.rearmRequest_mcx (s : State) (v : Nat) : (s.rearmRequest v).mcx = s.mcx := by
  unfold State.rearmRequest
  dsimp only
  split_ifs <;> simp

@[simp] theorem State.emissionStop_mcx (s : State) (v : Nat) : (s.emissionStop v).mcx = s.mcx := by
  unfold State.emissionStop
  split <;> simp

/-! ### The receive front end (06) -/

@[simp] theorem State.thresholdClear_mcx (s : State) (v : Nat) : (s.thresholdClear v).mcx = s.mcx := by
  unfold State.thresholdClear
  split_ifs <;> simp

@[simp] theorem State.biasFallback_mcx (s : State) (broken : Option Nat) : (s.biasFallback broken).mcx = s.mcx :=
  (State.biasFallback_touches s broken).mcx (by decide)

@[simp] theorem State.biasUpdate_mcx (s : State) (p : Plan) (at_ : Nat) : (s.biasUpdate p at_).mcx = s.mcx :=
  (State.biasUpdate_touches s p at_).mcx (by decide)

@[simp] theorem State.biasStartup_mcx (s : State) (p : Plan) : (s.biasStartup p).mcx = s.mcx :=
  (State.biasStartup_touches s p).mcx (by decide)

/-! ### Code conflicts (17 R395, R396) -/

@[simp] theorem State.declareConflict_mcx (s : State) (code : Nat) : (s.declareConflict code).mcx = s.mcx :=
  (State.declareConflict_touches s code).mcx (by decide)

/-! ### The emitter ports (04) -/

@[simp] theorem State.portClear_mcx (s : State) (v : Nat) : (s.portClear v).mcx = s.mcx := by
  unfold State.portClear
  split_ifs <;> simp

/-! ### The mirror (05) -/

@[simp] theorem State.judgeSeam_mcx (s : State) : s.judgeSeam.mcx = s.mcx :=
  (State.judgeSeam_touches s).mcx (by decide)

@[simp] theorem State.eachAxis_mcx (s : State) (f : Nat → Axis → Axis) : (s.eachAxis f).mcx = s.mcx :=
  (State.eachAxis_touches s f).mcx (by decide)

@[simp] theorem State.followMirror_mcx (s : State) : s.followMirror.mcx = s.mcx :=
  (State.followMirror_touches s).mcx (by decide)

@[simp] theorem State.startupSoftStart_mcx (s : State) (p : Plan) : (s.startupSoftStart p).mcx = s.mcx := by
  unfold State.startupSoftStart
  split <;> simp

@[simp] theorem State.restart_mcx (s : State) (v : Nat) : (s.restart v).mcx = s.mcx := by
  unfold State.restart
  (repeat' split) <;> simp

/-! ### Output and links (11, 12) -/

@[simp] theorem State.dropEvent_mcx (s : State) (n : Nat) : (s.dropEvent n).mcx = s.mcx :=
  (State.dropEvent_touches s n).mcx (by decide)

@[simp] theorem State.discardUnits_mcx (s : State) (n : Nat) (runs : Bool) : (s.discardUnits n runs).mcx = s.mcx := by
  unfold State.discardUnits
  dsimp only
  split_ifs <;> simp

@[simp] theorem State.exitActive_mcx (s : State) (n cause : Nat) (runs : Bool) :
    (s.exitActive n cause runs).mcx = s.mcx := by
  simp [State.exitActive]

@[simp] theorem State.toDetect_mcx (s : State) (n cause : Nat) (full : Bool) :
    (s.toDetect n cause full).mcx = s.mcx := by
  unfold State.toDetect
  split <;> simp

@[simp] theorem State.retrain_mcx (s : State) (n : Nat) (full : Bool) : (s.retrain n full).mcx = s.mcx := by
  unfold State.retrain
  dsimp only
  (repeat' split) <;> simp

@[simp] theorem State.laneRateWrite_mcx (s : State) (n : Nat) (v : List Byte) : (s.laneRateWrite n v).mcx = s.mcx := by
  unfold State.laneRateWrite
  split <;> simp

@[simp] theorem State.portEnableWrite_mcx (s : State) (n : Nat) (v : List Byte) :
    (s.portEnableWrite n v).mcx = s.mcx := by
  unfold State.portEnableWrite
  dsimp only
  split_ifs <;> simp

@[simp] theorem State.retrainWrite_mcx (s : State) (n v : Nat) : (s.retrainWrite n v).mcx = s.mcx := by
  unfold State.retrainWrite
  split_ifs <;> simp

/-! ### Firmware, signatures and updates (20) -/

@[simp] theorem State.norWrite_mcx (s : State) (base : Nat) (bs : List Byte) : (s.norWrite base bs).mcx = s.mcx :=
  rfl

@[simp] theorem State.writeBoot_mcx (s : State) (preferred trial : Nat) :
    (s.writeBoot preferred trial).mcx = s.mcx := by
  unfold State.writeBoot
  dsimp only
  (repeat' split) <;> simp

@[simp] theorem State.signatureEvents_mcx (s : State) : s.signatureEvents.mcx = s.mcx := by
  unfold State.signatureEvents
  dsimp only
  split_ifs <;> simp

@[simp] theorem State.exhausted_mcx (s : State) : s.exhausted.mcx = s.mcx := by
  unfold State.exhausted
  split <;> simp

@[simp] theorem State.resumeIndex_mcx (s : State) : s.resumeIndex.mcx = s.mcx := by
  simp [State.resumeIndex]

@[simp] theorem State.startUpdate_mcx (s : State) (j : UpdateJob) : (s.startUpdate j).mcx = s.mcx := by
  unfold State.startUpdate
  split <;> simp

@[simp] theorem State.confirmImage_mcx (s : State) : s.confirmImage.mcx = s.mcx := by
  unfold State.confirmImage
  split_ifs <;> simp

@[simp] theorem State.updateCommand_mcx (s : State) (v : Nat) : (s.updateCommand v).mcx = s.mcx := by
  unfold State.updateCommand
  split_ifs <;> simp

@[simp] theorem State.abortUpdate_mcx (s : State) : s.abortUpdate.mcx = s.mcx := by
  unfold State.abortUpdate
  split <;> simp

@[simp] theorem State.fuseAdvance_mcx (s : State) (w : Nat) : (s.fuseAdvance w).mcx = s.mcx := by
  unfold State.fuseAdvance
  dsimp only
  split_ifs <;> simp

@[simp] theorem State.attestRequest_mcx (s : State) (v : Nat) : (s.attestRequest v).mcx = s.mcx := by
  unfold State.attestRequest
  split_ifs <;> simp

/-! ### The event recorder (18) -/

@[simp] theorem State.recorderTrigger_mcx (s : State) (v : Nat) : (s.recorderTrigger v).mcx = s.mcx := by
  unfold State.recorderTrigger
  split <;> simp

@[simp] theorem State.flashFormat_mcx (s : State) (v : Nat) : (s.flashFormat v).mcx = s.mcx := by
  unfold State.flashFormat
  dsimp only
  split_ifs <;> simp

@[simp] theorem State.flashInterlock_mcx (s : State) (temp : Int) (broken : Bool) :
    (s.flashInterlock temp broken).mcx = s.mcx := by
  unfold State.flashInterlock
  dsimp only
  split_ifs <;> simp

@[simp] theorem State.protect_mcx (s : State) (n : Nat) (on : Bool) : (s.protect n on).mcx = s.mcx :=
  rfl

@[simp] theorem State.deleteIncident_mcx (s : State) (n : Nat) : (s.deleteIncident n).mcx = s.mcx := by
  unfold State.deleteIncident
  split <;> simp

/-! ### The stores (02 R62, R63) -/

@[simp] theorem State.startStore_mcx (s : State) (job : StoreJob) : (s.startStore job).mcx = s.mcx := by
  unfold State.startStore
  split <;> simp

@[simp] theorem State.storeParameters_mcx (s : State) (v : Nat) : (s.storeParameters v).mcx = s.mcx := by
  unfold State.storeParameters
  split <;> simp

@[simp] theorem State.restoreDefaults_mcx (s : State) (v : Nat) : (s.restoreDefaults v).mcx = s.mcx := by
  unfold State.restoreDefaults
  split <;> simp

@[simp] theorem State.storePlan_mcx (s : State) (v : Nat) : (s.storePlan v).mcx = s.mcx := by
  unfold State.storePlan
  (repeat' split) <;> simp

@[simp] theorem State.loseStore_mcx (s : State) : s.loseStore.mcx = s.mcx := by
  unfold State.loseStore
  split <;> simp

/-! ### Calibration (21) -/

@[simp] theorem State.calibrateNow_mcx (s : State) (v : Nat) : (s.calibrateNow v).mcx = s.mcx := by
  unfold State.calibrateNow
  split <;> simp

@[simp] theorem State.skewMeasure_mcx (s : State) (v : Nat) : (s.skewMeasure v).mcx = s.mcx := by
  unfold State.skewMeasure
  split <;> simp

@[simp] theorem State.loseSkew_mcx (s : State) : s.loseSkew.mcx = s.mcx := by
  unfold State.loseSkew
  split <;> simp

/-! ### The monitor (16) -/

@[simp] theorem State.restartSlots_mcx (s : State) (p : Nat → Bool) : (s.restartSlots p).mcx = s.mcx :=
  rfl

@[simp] theorem State.startSequence_mcx (s : State) : s.startSequence.mcx = s.mcx := by
  unfold State.startSequence
  split <;> simp

@[simp] theorem State.sequence_mcx (s : State) : s.sequence.mcx = s.mcx :=
  (State.sequence_touches s).mcx (by decide)

@[simp] theorem State.sequenceTrigger_mcx (s : State) (v : Nat) : (s.sequenceTrigger v).mcx = s.mcx := by
  unfold State.sequenceTrigger
  split <;> simp

@[simp] theorem State.endSequence_mcx (s : State) : s.endSequence.mcx = s.mcx := by
  unfold State.endSequence
  dsimp only
  (repeat' split) <;> simp

@[simp] theorem State.setSlotConfig_mcx (s : State) (v : List Byte) : (s.setSlotConfig v).mcx = s.mcx := by
  simp [State.setSlotConfig]

@[simp] theorem State.slotConfigWrite_mcx (s : State) (off : Nat) (bytes : List Byte) :
    (s.slotConfigWrite off bytes).mcx = s.mcx := by
  unfold State.slotConfigWrite
  (repeat' split) <;> simp

@[simp] theorem State.settle_mcx (s : State) : s.settle.mcx = s.mcx := by
  unfold State.settle
  split <;> simp

@[simp] theorem State.unsettle_mcx (s : State) : s.unsettle.mcx = s.mcx := by
  unfold State.unsettle
  split <;> simp

@[simp] theorem State.vanaCheck_mcx (s : State) : s.vanaCheck.mcx = s.mcx := by
  unfold State.vanaCheck
  split_ifs <;> simp

/-! ### Time (17) -/

@[simp] theorem State.setClock_mcx (s : State) (ns : Int) (frac : Nat) : (s.setClock ns frac).mcx = s.mcx :=
  rfl

@[simp] theorem State.timeStep_mcx (s : State) (offset : Int) (frac : Nat) : (s.timeStep offset frac).mcx = s.mcx := by
  simp [State.timeStep]

@[simp] theorem State.localTimeSet_mcx (s : State) (value : List Byte) : (s.localTimeSet value).mcx = s.mcx := by
  unfold State.localTimeSet
  split <;> simp

@[simp] theorem State.setFmeasConfig_mcx (s : State) (v : List Byte) : (s.setFmeasConfig v).mcx = s.mcx :=
  rfl

/-! ### Waveform capture (15) -/

@[simp] theorem State.addRecords_mcx (s : State) (h : WcuHead) (pre : Nat) (short : Bool)
    (samples : Nat → List WcuSample) :
    (s.addRecords h pre short samples).mcx = s.mcx :=
  rfl

@[simp] theorem State.captureDone_mcx (s : State) : s.captureDone.mcx = s.mcx := by
  simp [State.captureDone]

@[simp] theorem State.wcuArm_mcx (s : State) : s.wcuArm.mcx = s.mcx := by
  unfold State.wcuArm
  split <;> simp

@[simp] theorem State.keepPartial_mcx (s : State) (h : WcuHead) : (s.keepPartial h).mcx = s.mcx :=
  rfl

@[simp] theorem State.wcuStop_mcx (s : State) : s.wcuStop.mcx = s.mcx := by
  unfold State.wcuStop
  dsimp only
  (repeat' split) <;> simp

@[simp] theorem State.armWrite_mcx (s : State) (v : Nat) : (s.armWrite v).mcx = s.mcx := by
  unfold State.armWrite
  split_ifs <;> simp

@[simp] theorem State.wcuRearm_mcx (s : State) (at64 : Nat) : (s.wcuRearm at64).mcx = s.mcx := by
  unfold State.wcuRearm
  split_ifs <;> simp

@[simp] theorem State.wcuTrigger_mcx (s : State) (source at64 : Nat) : (s.wcuTrigger source at64).mcx = s.mcx := by
  unfold State.wcuTrigger
  dsimp only
  (repeat' split) <;> simp

@[simp] theorem State.forceTrigger_mcx (s : State) (v : Nat) : (s.forceTrigger v).mcx = s.mcx := by
  unfold State.forceTrigger
  split <;> simp

@[simp] theorem State.skewCalibrate_mcx (s : State) (v : Nat) : (s.skewCalibrate v).mcx = s.mcx := by
  unfold State.skewCalibrate
  split <;> simp

/-! ### Temperature (16 R375 to R379) -/

@[simp] theorem State.ntcValue_mcx (s : State) (i n : Nat) : (s.ntcValue i n).2.mcx = s.mcx := by
  unfold State.ntcValue
  split <;> simp

@[simp] theorem State.diodeCheck_mcx (s : State) : s.diodeCheck.mcx = s.mcx := by
  unfold State.diodeCheck
  dsimp only
  split_ifs <;> simp

@[simp] theorem State.temperatureInUse_mcx (s : State) (first : Bool) : (s.temperatureInUse first).mcx = s.mcx :=
  rfl

@[simp] theorem State.thermalRound_mcx (s : State) : s.thermalRound.mcx = s.mcx := by
  simp [State.thermalRound]

/-! ### The Spring (19) -/

@[simp] theorem State.sample_mcx (s : State) (powerOn : Bool) (devnum : BitVec 9) (safeCfg : Bool) :
    (s.sample powerOn devnum safeCfg).mcx = s.mcx := by
  simp [State.sample]

@[simp] theorem State.sequence1_mcx (s : State) (cause : Nat) : (s.sequence1 cause).mcx = s.mcx :=
  rfl

@[simp] theorem State.interlockTo_mcx (s : State) (on : Bool) : (s.interlockTo on).mcx = s.mcx := by
  unfold State.interlockTo
  dsimp only
  split_ifs <;> simp

@[simp] theorem State.beginShutdown_mcx (s : State) (dest : Nat) : (s.beginShutdown dest).mcx = s.mcx := by
  unfold State.beginShutdown
  split <;> simp

@[simp] theorem State.parkMirror_mcx (s : State) : s.parkMirror.mcx = s.mcx := by
  unfold State.parkMirror
  split <;> simp

@[simp] theorem State.shutdownEnd_mcx (s : State) : s.shutdownEnd.mcx = s.mcx := by
  unfold State.shutdownEnd
  dsimp only
  split_ifs <;> simp

@[simp] theorem State.sleepCommand_mcx (s : State) (v : Nat) : (s.sleepCommand v).mcx = s.mcx := by
  unfold State.sleepCommand
  split <;> simp

@[simp] theorem State.resetCommand_mcx (s : State) (v : Nat) : (s.resetCommand v).mcx = s.mcx := by
  unfold State.resetCommand
  split <;> simp

@[simp] theorem State.ntcRound_mcx (s : State) (i n : Nat) : (s.ntcRound i n).mcx = s.mcx := by
  simp [State.ntcRound]

@[simp] theorem State.runningRound_mcx (s : State) : s.runningRound.mcx = s.mcx := by
  unfold State.runningRound
  dsimp only
  split_ifs <;> simp

@[simp] theorem State.sleepRound_mcx (s : State) : s.sleepRound.mcx = s.mcx := by
  unfold State.sleepRound
  dsimp only
  (repeat' split) <;> simp

@[simp] theorem State.coldRound_mcx (s : State) : s.coldRound.mcx = s.mcx := by
  unfold State.coldRound
  dsimp only
  split_ifs <;> simp

@[simp] theorem State.faultRound_mcx (s : State) : s.faultRound.mcx = s.mcx := by
  unfold State.faultRound
  dsimp only
  split_ifs <;> simp

@[simp] theorem State.vsysRound_mcx (s : State) : s.vsysRound.mcx = s.mcx := by
  unfold State.vsysRound
  dsimp only
  split_ifs <;> simp

@[simp] theorem State.roundValues_mcx (s : State) (r : RoundIn) : (s.roundValues r).1.mcx = s.mcx := by
  simp [State.roundValues]

@[simp] theorem State.roundDecisions_mcx (s : State) (r : RoundIn) : (s.roundDecisions r).mcx = s.mcx := by
  unfold State.roundDecisions
  dsimp only
  split_ifs <;> simp [State.keep]

/-! ### Lease and units (14) -/

@[simp] theorem State.expire_mcx (s : State) (cause : Nat) : (s.expire cause).mcx = s.mcx :=
  (State.expire_touches s cause).mcx (by decide)

@[simp] theorem State.redundancy_mcx (s : State) (single : Bool) : (s.redundancy single).mcx = s.mcx :=
  (State.redundancy_touches s single).mcx (by decide)

@[simp] theorem State.switchover_mcx (s : State) (v : Nat) : (s.switchover v).mcx = s.mcx := by
  unfold State.switchover
  split <;> simp

/-! ### Columns and start-up (01; 03 R76) -/

@[simp] theorem State.load_mcx (s : State) (c : ColCtx) : (s.load c).mcx = s.mcx :=
  (State.load_touches s c).mcx (by decide)

@[simp] theorem State.makeTail_mcx (s : State) : s.makeTail.mcx = s.mcx := by
  unfold State.makeTail
  split <;> rfl

@[simp] theorem State.bringUp_mcx (s : State) (p : Plan) (epoch : BitVec 16) : (s.bringUp p epoch).mcx = s.mcx := by
  simp [State.bringUp]

/-! ### Requests (02) -/

@[simp] theorem State.respond_mcx (s : State) (ep : Endpoint) (op : Byte) (seq : BitVec 16) (resp : List Byte) :
    (s.respond ep op seq resp).mcx = s.mcx :=
  (State.respond_touches s ep op seq resp).mcx (by decide)

@[simp] theorem State.writeReg_mcx (s : State) (r : ObjRow) (v : ValueItem) : (s.writeReg r v).mcx = s.mcx := by
  unfold State.writeReg
  split <;> simp

@[simp] theorem State.acceptCommit_mcx (s : State) (ep : Endpoint) (req : List Byte) (plan : Plan) :
    (s.acceptCommit ep req plan).mcx = s.mcx := by
  unfold State.acceptCommit
  dsimp only
  split_ifs <;> simp

@[simp] theorem State.rejectCommit_mcx (s : State) (ep : Endpoint) (req : List Byte) (reason key : Nat) :
    (s.rejectCommit ep req reason key).mcx = s.mcx := by
  simp [State.rejectCommit]

@[simp] theorem State.doCommit_mcx (s : State) (ep : Endpoint) (m : KppMsg) (bytes : List Byte) :
    (s.doCommit ep m bytes).mcx = s.mcx := by
  unfold State.doCommit
  split_ifs <;> simp

@[simp] theorem State.doRollback_mcx (s : State) (ep : Endpoint) (m : KppMsg) : (s.doRollback ep m).mcx = s.mcx := by
  unfold State.doRollback
  split_ifs <;> simp

@[simp] theorem State.countMalformed_mcx (s : State) : s.countMalformed.mcx = s.mcx :=
  (State.countMalformed_touches s).mcx (by decide)

@[simp] theorem State.resend_mcx (s : State) (ep : Endpoint) (op : Byte) (seq : BitVec 16) (resp : List Byte) :
    (s.resend ep op seq resp).mcx = s.mcx := by
  simp [State.resend]

@[simp] theorem State.holdRequest_mcx (s : State) (ep : Endpoint) (bytes : List Byte) (choice : BitVec 16) :
    (s.holdRequest ep bytes choice).mcx = s.mcx := by
  unfold State.holdRequest
  dsimp only
  split_ifs <;> rfl

@[simp] theorem State.discardCan_mcx (s : State) : s.discardCan.mcx = s.mcx := by
  unfold State.discardCan
  split <;> simp

/-! ### Claims and takeovers (14 R339, R346) -/

@[simp] theorem State.flushDeferred_mcx (s : State) : s.flushDeferred.mcx = s.mcx := rfl

@[simp] theorem State.takeCheckpoint_mcx (s : State) : s.takeCheckpoint.mcx = s.mcx := by
  unfold State.takeCheckpoint
  split <;> simp [State.restoreFirmware]

end Sys2Proof.Machine
end

section
/-!
SUPPORT. The canonical form of the memory under every command (10 R243, R244). Most operations leave the bytes and the check
bits alone; a write and a read with flipped bits keep the form; a reset of the main domain empties the memory.
-/
namespace Sys2Proof.Machine

/-! ### Operations that leave the bytes and the check bits alone -/

theorem SameBytes.refl (s : State) : SameBytes s s := ⟨rfl, rfl⟩

theorem SameBytes.of_mcx {s u : State} (h : u.mcx = s.mcx) : SameBytes s u := by
  rw [SameBytes, h]
  exact ⟨rfl, rfl⟩

theorem SameBytes.ite {s a b : State} (c : Prop) [Decidable c] (ha : SameBytes s a) (hb : SameBytes s b) :
    SameBytes s (if c then a else b) := by
  split
  · exact ha
  · exact hb

theorem SameBytes.foldl {α : Type} {f : State → α → State} (h : ∀ s x, SameBytes s (f s x)) (xs : List α) (s : State) :
    SameBytes s (xs.foldl f s) := by
  induction xs generalizing s with
  | nil => exact SameBytes.refl s
  | cons x xs ih => exact (h s x).trans (ih (f s x))

/-- The lines the prefetch holds are no part of the memory (10 R495). -/
theorem SameBytes.lines {s u : State} (h : SameBytes s u) (l : SMap (List Byte)) :
    SameBytes s { u with mcx := { u.mcx with lines := l } } := h

/-- A read of a line in which no bit has flipped. -/
theorem State.readLine_bytes (s : State) (user : MemUser) (line : Nat) :
    SameBytes s (s.readLine user line []).2.2 := by
  unfold State.readLine
  split
  · exact SameBytes.refl s
  split
  · exact ⟨rfl, rfl⟩
  · have hmoved : SameBytes s ({ s with mcx := s.mcx }.moved user 64) := State.moved_bytes s user 64
    have hbad : ∀ b : Bool, SameBytes s
        (if b = true then ({ s with mcx := s.mcx }.moved user 64).badLine line
          else { s with mcx := s.mcx }.moved user 64) :=
      fun b => SameBytes.ite _ (hmoved.trans (State.badLine_bytes _ line)) hmoved
    exact SameBytes.ite _ (hbad _) ((hbad _).trans (State.fixedLine_bytes _ line _))

@[simp] theorem State.remapClear_data (s : State) (v : Nat) : (s.remapClear v).mcx.data = s.mcx.data := by
  unfold State.remapClear
  split <;> rfl

@[simp] theorem State.remapClear_check (s : State) (v : Nat) : (s.remapClear v).mcx.check = s.mcx.check := by
  unfold State.remapClear
  split <;> rfl

/-! ### Columns (01 R24, R32; 10 R255) -/

theorem State.prefetchLines_bytes (s : State) (c : ColCtx) : SameBytes s (s.prefetchLines c) :=
  SameBytes.foldl (fun s r => SameBytes.ite _ (SameBytes.refl s)
    ((State.readLine_bytes s .prefetch (c.lineOf s.mcx r)).lines _)) _ s

theorem State.arm_bytes (s : State) (f : FrameInfo) (visit : Nat) (late fetch : Bool) :
    SameBytes s (s.arm f visit late fetch) := by
  unfold State.arm
  extract_lets c v
  have hv : SameBytes s v := SameBytes.ite _ (State.prefetchLines_bytes s c) (SameBytes.refl s)
  exact hv.trans (SameBytes.of_mcx (State.load_mcx v c))

theorem State.prefetchDone_bytes (s : State) : SameBytes s s.prefetchDone := by
  unfold State.prefetchDone
  split
  · exact SameBytes.ite _ (State.prefetchLines_bytes s _) (State.arm_bytes s _ _ _ _)
  · exact SameBytes.refl s

theorem State.columnStart_bytes (s : State) : SameBytes s s.columnStart := by
  unfold State.columnStart
  split
  · exact SameBytes.refl s
  · extract_lets x k fits v
    have hv : SameBytes s v := SameBytes.ite _ (SameBytes.refl s) (State.arm_bytes s _ _ _ _)
    refine SameBytes.ite _ (SameBytes.refl s) ?_
    split
    · exact hv
    · exact hv.trans (SameBytes.of_mcx (State.makeTail_mcx v) : SameBytes v v.makeTail)

theorem State.cutoff_bytes (s : State) : SameBytes s s.cutoff := by
  unfold State.cutoff
  split
  · exact SameBytes.refl s
  · refine SameBytes.ite _ (SameBytes.refl s) ?_
    extract_lets n x v1 v2
    have h2 : SameBytes s v2 := SameBytes.of_mcx (State.biasUpdate_mcx v1 _ _)
    exact SameBytes.ite _ ((h2.lines []).trans (State.arm_bytes _ _ _ _ _))
      (SameBytes.ite _ (h2.trans (State.arm_bytes v2 _ _ _ _)) h2)

/-! ### Requests (02 R39 to R61) -/

theorem State.rcClear_bytes (s : State) (key : Nat) : SameBytes s (s.rcClear key) := by
  unfold State.rcClear
  split <;> exact ⟨rfl, rfl⟩

theorem State.cellRecord_bytes (s : State) : SameBytes s s.cellRecord.2.2 := by
  unfold State.cellRecord
  extract_lets sel p row col set inGrid
  split
  · exact SameBytes.refl s
  · exact State.readLine_bytes s _ _

theorem State.readValue_bytes (s : State) (key : Nat) (access : Access) : SameBytes s (s.readValue key access).2 := by
  cases access with
  | rc => exact State.rcClear_bytes s key
  | ro =>
    simp only [State.readValue]
    split
    · exact State.cellRecord_bytes s
    · exact SameBytes.refl s
  | _ => exact SameBytes.refl s

theorem State.readItem_bytes (s : State) (staged : Bool) (spare : Nat) (i : ReadItem) :
    SameBytes s (s.readItem staged spare i).2.2 := by
  unfold State.readItem
  split
  · exact ⟨rfl, rfl⟩
  next r _ =>
    split
    · exact ⟨rfl, rfl⟩
    split
    · exact ⟨rfl, rfl⟩
    split
    next full t heq =>
      have ht : SameBytes s t := by
        split at heq
        · cases heq
          exact SameBytes.refl s
        · have hvalue := State.readValue_bytes s i.key r.access
          rw [heq] at hvalue
          exact hvalue
      split <;> exact ht

theorem State.readItems_bytes (items : List ReadItem) (s : State) (staged : Bool) (spare : Nat) :
    SameBytes s (s.readItems staged spare items).2 := by
  induction items generalizing s spare with
  | nil => exact SameBytes.refl s
  | cons i items ih => exact (State.readItem_bytes s staged spare i).trans (ih _ _)

/-- A response leaves the memory alone, whatever went before it. -/
theorem SameBytes.respond {s u : State} (h : SameBytes s u) (ep : Endpoint) (op : Byte) (seq : BitVec 16)
    (resp : List Byte) : SameBytes s (u.respond ep op seq resp) :=
  h.trans (SameBytes.of_mcx (State.respond_mcx u ep op seq resp))

theorem State.doRead_bytes (s : State) (ep : Endpoint) (op : Byte) (m : KppMsg) (staged : Bool) (items : List ReadItem) :
    SameBytes s (s.doRead ep op m staged items) :=
  SameBytes.ite _ ((SameBytes.refl s).respond _ _ _ _) (SameBytes.ite _ ((SameBytes.refl s).respond _ _ _ _)
    ((State.readItems_bytes items s staged _).respond _ _ _ _))

theorem State.startCommand_bytes (s : State) (v : ValueItem) : SameBytes s (s.startCommand v) := by
  unfold State.startCommand
  split <;> simp [SameBytes]

theorem State.writeItem_bytes (staging : Bool) (s : State) (v : ValueItem) : SameBytes s (s.writeItem staging v) := by
  unfold State.writeItem
  split
  · exact ⟨rfl, rfl⟩
  · refine SameBytes.ite _ ⟨rfl, rfl⟩ ?_
    split
    · exact ⟨rfl, rfl⟩
    · exact ⟨rfl, rfl⟩
    · split <;> exact ⟨rfl, rfl⟩
    · exact State.startCommand_bytes s v
    · exact SameBytes.of_mcx (State.writeReg_mcx s _ v)
    · exact SameBytes.of_mcx (State.writeReg_mcx s _ v)

theorem State.doWrite_bytes (s : State) (ep : Endpoint) (op : Byte) (m : KppMsg) (items : List ValueItem) :
    SameBytes s (s.doWrite ep op m items) := by
  have hitems : SameBytes s (items.foldl (State.writeItem (s.txn.holds m.handle)) s) :=
    SameBytes.foldl (fun v x => State.writeItem_bytes _ v x) items s
  exact SameBytes.ite _ ((SameBytes.refl s).respond _ _ _ _) (SameBytes.ite _
    ((hitems.respond _ _ _ _).trans (SameBytes.of_mcx (State.switchover_mcx _ _))) (hitems.respond _ _ _ _))

theorem State.perform_bytes (s : State) (ep : Endpoint) (op : Byte) (m : KppMsg) (bytes : List Byte) (choice : BitVec 16)
    (r : Request) : SameBytes s (s.perform ep op m bytes choice r) := by
  unfold State.perform
  extract_lets v
  have hv : SameBytes s v := SameBytes.ite _ ⟨rfl, rfl⟩ (SameBytes.refl s)
  clear_value v
  cases r with
  | read staged items => exact hv.trans (State.doRead_bytes v ep op m staged items)
  | write items => exact hv.trans (State.doWrite_bytes v ep op m items)
  | begin_ => exact SameBytes.respond (u := { v with txn := (v.txn.begin_ choice v.now).2.2 }) hv _ _ _ _
  | commit => exact hv.trans (SameBytes.of_mcx (State.doCommit_mcx v ep m bytes))
  | rollback => exact hv.trans (SameBytes.of_mcx (State.doRollback_mcx v ep m))
  | subscribe on => exact SameBytes.respond (u := { v with kpp := v.kpp.subscribe ep on }) hv _ _ _ _

theorem State.execute_bytes (s : State) (ep : Endpoint) (bytes : List Byte) (choice : BitVec 16) :
    SameBytes s (s.execute ep bytes choice) := by
  unfold State.execute
  refine SameBytes.ite _ ⟨rfl, rfl⟩ ?_
  dsimp only
  refine SameBytes.ite _ ⟨rfl, rfl⟩ ?_
  split
  · exact SameBytes.of_mcx (State.resend_mcx s _ _ _ _)
  split
  · exact SameBytes.of_mcx (State.resend_mcx s _ _ _ _)
  split
  · exact SameBytes.respond (u := s.countMalformed) ⟨rfl, rfl⟩ _ _ _ _
  · exact State.perform_bytes s _ _ _ _ _ _

theorem State.arrive_bytes (s : State) (ep : Endpoint) (bytes : List Byte) (choice : BitVec 16) :
    SameBytes s (s.arrive ep bytes choice) :=
  SameBytes.ite _ ⟨rfl, rfl⟩ (SameBytes.ite _ (SameBytes.of_mcx (State.holdRequest_mcx s ep bytes choice))
    (SameBytes.ite _ ⟨rfl, rfl⟩ (State.execute_bytes s ep bytes choice)))

theorem State.kppArrive_bytes (s : State) (ep : Endpoint) (bytes : List Byte) (choice : BitVec 16) :
    SameBytes s (s.kppArrive ep bytes choice) := by
  have hdiscard : SameBytes s s.discardCan := SameBytes.of_mcx (State.discardCan_mcx s)
  exact SameBytes.ite _ (State.arrive_bytes s ep bytes choice) (SameBytes.ite _ (SameBytes.refl s)
    (SameBytes.ite _ hdiscard (hdiscard.trans (State.arrive_bytes _ ep bytes choice))))

/-- The requests that waited run one after another. -/
theorem State.drain_bytes (l : List (Endpoint × List Byte × BitVec 16)) (s : State) : SameBytes s (s.drain l) := by
  induction l generalizing s with
  | nil => exact ⟨rfl, rfl⟩
  | cons x l ih => exact SameBytes.ite _ ⟨rfl, rfl⟩ ((State.execute_bytes s _ _ _).trans (ih _))

theorem State.validationDone_bytes (s : State) : SameBytes s s.validationDone := by
  unfold State.validationDone
  split
  · refine SameBytes.ite _ (SameBytes.refl s) (SameBytes.trans ?_ (State.drain_bytes _ _))
    split
    · exact SameBytes.of_mcx (State.acceptCommit_mcx s _ _ _)
    · exact SameBytes.of_mcx (State.rejectCommit_mcx s _ _ _ _)
  · exact SameBytes.refl s

theorem State.canBytes_bytes (s : State) (got : List Byte) (counter : Nat) (last : Bool) (bytes : List Byte) :
    SameBytes s (s.canBytes got counter last bytes) := by
  unfold State.canBytes
  refine SameBytes.ite _ (SameBytes.ite _ ⟨rfl, rfl⟩ ?_) (SameBytes.ite _ ⟨rfl, rfl⟩ ⟨rfl, rfl⟩)
  exact State.arrive_bytes (State.free { s with kpp := { s.kpp with can := none } }).2 _ _ _

theorem State.canSegment_bytes (s : State) (frame : List Byte) : SameBytes s (s.canSegment frame) := by
  have hdiscard : ∀ v : State, SameBytes v v.discardCan := fun v => SameBytes.of_mcx (State.discardCan_mcx v)
  cases frame with
  | nil => exact SameBytes.refl s
  | cons c bytes =>
    refine SameBytes.trans (u := if s.canLate then s.discardCan else s)
      (SameBytes.ite _ (hdiscard s) (SameBytes.refl s)) ?_
    simp only [State.canSegment]
    generalize (if s.canLate then s.discardCan else s) = v
    refine SameBytes.ite _ (SameBytes.ite _ ((hdiscard v).trans (State.canBytes_bytes _ _ _ _ _)) (hdiscard v)) ?_
    split
    · exact SameBytes.refl v
    · exact SameBytes.ite _ (State.canBytes_bytes v _ _ _ _) (hdiscard v)

/-! ### Claims and takeovers (14 R339, R346) -/

theorem State.runHeld_bytes (s : State) : SameBytes s s.runHeld :=
  State.drain_bytes _ { s with kpp := { s.kpp with waiting := [], held := [] } }

theorem State.claim_bytes (s : State) (unit : Nat) : SameBytes s (s.claim unit) := by
  unfold State.claim
  extract_lets late c again c' unit' v1 v2 v3 v4 x
  have h4 : SameBytes s v4 := SameBytes.of_mcx (by simp only [v4]; split <;> simp [v3, v2, v1])
  exact SameBytes.ite _ h4 (h4.trans (State.runHeld_bytes { v4 with spring := _ }))

theorem State.renewal_bytes (s : State) (unit : Nat) (epoch : Word) : SameBytes s (s.renewal unit epoch) :=
  SameBytes.ite _ (SameBytes.ite _ ⟨rfl, rfl⟩ (SameBytes.refl s))
    (SameBytes.ite _ (State.claim_bytes s unit) (SameBytes.refl s))

theorem State.takeoverDone_bytes (s : State) : SameBytes s s.takeoverDone := by
  unfold State.takeoverDone
  refine SameBytes.ite _ (SameBytes.refl s) ?_
  extract_lets v1 v2 v3 c v4
  have h2 : v2.mcx = s.mcx := by simp only [v2]; split <;> simp [v1]
  have h4 : (v4.declareConflict (effectiveCode v4 v4.plan)).mcx = s.mcx := by simp [v4, v3, h2]
  exact (SameBytes.of_mcx h4).trans (State.runHeld_bytes _)

/-! ### Resets of the main domain (19 R432 to R437) -/

theorem Mcx.canonical_empty : ({} : Mcx).canonical := ⟨rfl, rfl, rfl⟩

/-- The memory controller of `s` is that of `u`, or as at reset. -/
@[reducible] def KeepsOrResetsMcx (s u : State) : Prop := u.mcx = s.mcx ∨ u.mcx = {}

theorem KeepsOrResetsMcx.canonical {s u : State} (h : KeepsOrResetsMcx s u) (hs : MemoryCanonical s) :
    MemoryCanonical u := by
  rw [memoryCanonical_iff] at *
  rcases h with h | h
  · exact h ▸ hs
  · exact h ▸ Mcx.canonical_empty

theorem KeepsOrResetsMcx.ite {s a b : State} (c : Prop) [Decidable c] (ha : KeepsOrResetsMcx s a)
    (hb : KeepsOrResetsMcx s b) : KeepsOrResetsMcx s (if c then a else b) := by
  split
  · exact ha
  · exact hb

theorem State.powerDown_mcx (s : State) : s.powerDown.mcx = {} := rfl

theorem State.railFault_mcx (s : State) (ch : Nat) : (s.railFault ch).mcx = {} := rfl

theorem State.powerOn_mcx (s : State) (crystal32 : Bool) : (s.powerOn crystal32).mcx = {} := rfl

theorem State.release_mcx (s : State) (devnum : BitVec 9) (safeCfg : Bool) : (s.release devnum safeCfg).mcx = {} := by
  simp only [State.release, State.sample_mcx]
  rfl

theorem State.railTimeout_mcx (s : State) : KeepsOrResetsMcx s s.railTimeout :=
  KeepsOrResetsMcx.ite _ (.inr (State.railFault_mcx s _)) (.inl rfl)

theorem State.undervoltage_mcx (s : State) : KeepsOrResetsMcx s s.undervoltage :=
  KeepsOrResetsMcx.ite _ (.inr (State.powerDown_mcx s)) (.inl rfl)

theorem State.shutdownStep_mcx (s : State) : KeepsOrResetsMcx s s.shutdownStep :=
  KeepsOrResetsMcx.ite _ (.inl rfl) <| KeepsOrResetsMcx.ite _ (.inl rfl) <|
    KeepsOrResetsMcx.ite _ (.inl (State.parkMirror_mcx s)) <| KeepsOrResetsMcx.ite _ (.inr rfl) <|
    KeepsOrResetsMcx.ite _ (.inl rfl) <| KeepsOrResetsMcx.ite _ (.inl rfl) (.inl (State.shutdownEnd_mcx s))

theorem State.supplyRound_mcx (s : State) : KeepsOrResetsMcx s s.supplyRound := by
  unfold State.supplyRound
  extract_lets x out runs vsys low lowRun overRun hardRun anyOut inRun v1 v2 sets v3 held v4 going v5
  have h3 : v3.mcx = s.mcx := by simp only [v3]; split_ifs <;> simp [v2, v1]
  have h5 : v5.mcx = s.mcx := by simp only [v5]; split_ifs <;> simp [v4, h3]
  split
  · exact .inr (State.railFault_mcx v5 _)
  · exact .inl h5

theorem State.stateRound_mcx (s : State) : KeepsOrResetsMcx s s.stateRound := by
  have hsupply : ∀ v : State, v.mcx = s.mcx → KeepsOrResetsMcx s v.supplyRound := fun v hv => by
    have hround := State.supplyRound_mcx v
    rwa [KeepsOrResetsMcx, hv] at hround
  unfold State.stateRound
  split
  · exact hsupply _ (by split_ifs <;> simp)
  · extract_lets sleeping v
    have hv : v.mcx = s.mcx := by simp only [v]; split <;> rfl
    exact KeepsOrResetsMcx.ite _ (hsupply v hv) (.inl hv)
  · exact .inl (State.sleepRound_mcx s)
  · exact .inl (State.coldRound_mcx s)
  · exact KeepsOrResetsMcx.ite _ (.inl rfl) (.inl (State.sequence1_mcx s 4))
  · exact .inl (State.faultRound_mcx s)
  · exact .inl (State.vsysRound_mcx s)

theorem State.round_mcx (s : State) (r : RoundIn) : KeepsOrResetsMcx s (s.round r) := by
  have hround := State.stateRound_mcx (s.roundDecisions r)
  rw [KeepsOrResetsMcx, State.roundDecisions_mcx] at hround
  unfold State.round
  refine KeepsOrResetsMcx.ite _ (.inl rfl) (KeepsOrResetsMcx.ite _ ?_ hround)
  rw [KeepsOrResetsMcx, State.vanaCheck_mcx]
  exact hround

/-! ### Effects that keep the canonical form -/

/-- The effect `f` of a command keeps the canonical form of the memory. -/
def KeepsCanonical (f : State → State) : Prop := ∀ s, MemoryCanonical s → MemoryCanonical (f s)

theorem KeepsCanonical.of_bytes {f : State → State} (h : ∀ s, SameBytes s (f s)) : KeepsCanonical f :=
  fun s hs => (h s).canonical hs

theorem KeepsCanonical.of_keepsOrResets {f : State → State} (h : ∀ s, KeepsOrResetsMcx s (f s)) : KeepsCanonical f :=
  fun s hs => (h s).canonical hs

theorem KeepsCanonical.ite {f g : State → State} (c : State → Prop) [DecidablePred c] (hf : KeepsCanonical f)
    (hg : KeepsCanonical g) : KeepsCanonical fun s => if c s then f s else g s := by
  intro s hs
  dsimp only
  split
  · exact hf s hs
  · exact hg s hs

theorem KeepsCanonical.id : KeepsCanonical fun s => s := fun _ hs => hs

theorem KeepsCanonical.foldl {α : Type} {f : State → α → State} (h : ∀ x, KeepsCanonical fun s => f s x) (xs : List α) :
    KeepsCanonical fun s => xs.foldl f s := by
  intro s hs
  induction xs generalizing s with
  | nil => exact hs
  | cons x xs ih => exact ih (f s x) (h x s hs)

/-! ### Accesses to the memory (10 R245, R246, R252; 18 R400) -/

theorem State.lineArrives_bytes (s : State) (user : MemUser) (line : Nat) (bytes : List Byte) (bad : Bool) :
    SameBytes s (s.lineArrives user line bytes bad) := by
  unfold State.lineArrives
  (repeat' split) <;> simp [SameBytes]

theorem State.lineRead_canonical (user : MemUser) (line : Nat) (flips : List (Nat × BitVec 13)) :
    KeepsCanonical fun s => s.lineRead user line flips := by
  intro s hs
  dsimp only
  unfold State.lineRead
  split
  · exact hs
  · exact (State.lineArrives_bytes _ user line _ _).canonical (State.readLine_canonical user line flips hs)

theorem State.writeBytes_canonical (user : MemUser) (a : Nat) (bs : List Byte) :
    KeepsCanonical fun s => s.writeBytes user a bs :=
  KeepsCanonical.foldl (fun _ _ hs => State.writeLine_canonical user _ _ hs) _

theorem State.ringWrite_canonical : KeepsCanonical State.ringWrite := by
  intro s hs
  unfold State.ringWrite
  split
  · exact hs
  next u rest _ =>
    extract_lets e v1 e1 gap raised lost v2
    have hevr : ∀ x : Evr, MemoryCanonical { s with evr := x } := fun _ => hs
    have h2 : MemoryCanonical v2 := by
      simp only [v2]
      split
      · exact State.writeBytes_canonical .ring _ _ _ (hevr _)
      · exact (SameBytes.of_mcx (State.raiseIf_mcx _ _ _ _ _)).canonical (hevr _)
    clear_value v2
    split <;> exact h2

end Sys2Proof.Machine
end

section
/-!
SUPPORT. The commands of the memory controller: what each makes of the memory where it acts, and that all of them keep its
canonical form (10 R252 to R261).
-/
namespace Sys2Proof.Machine

/-! ### The fill of the Tarn region (10 R257) -/

/-- An address outside both Tarn buffers and outside the spares that stand for their lines. -/
def Mcx.outsideTarn (m : Mcx) (a : Nat) : Bool :=
  decide (2 * 16777216 ≤ a) && !(m.remap.any fun e => e.line < 524288 && a / 64 == 33554432 + 32 * e.chan + e.spare)

/-- Both Tarn buffers hold zero in full. -/
def Mcx.filled (m : Mcx) : Mcx :=
  { m with
    bootFill := true, written := List.range 8192 ++ m.written.filter fun p => 8192 ≤ p
    data := m.data.filter fun c => m.outsideTarn c.1, check := m.check.filter fun c => m.outsideTarn c.1
    writebacks := m.writebacks.filter fun w => 524288 ≤ w.1
    dropped := sat32 m.dropped (count (fun w => w.1 < 524288) m.writebacks) }

/-- What the end of the fill counts, and the pages whose degradation it ends. -/
def State.filled (s : State) : State :=
  let v := { s with mcx := s.mcx.filled }.moved .cuOther (2 * 16777216)
  v.degradedNow (v.mcx.degraded.filter fun d => !(d.page < 8192 && d.cause == 1))

theorem execBootFillComplete_eq (t : Nat) (s : State) : execBootFillComplete t s =
    runMain t (.mram :: mcxFrame)
      (fun s => if !s.mcx.ready || s.mcx.bootFill || s.cu.holder = none then s else s.filled) s := rfl

theorem State.filled_bytes (s : State) : SameBytes { s with mcx := s.mcx.filled } s.filled :=
  (State.moved_bytes _ _ _).trans (State.degradedNow_bytes _ _)

/-! ### A tick of the scrubber (10 R259) -/

/-- The line at position `x` read, and the position that follows; past the last line a pass is complete. -/
def State.scrubbed (s : State) (flips : List (Nat × BitVec 13)) (x : Nat × Nat) : State :=
  let v := (s.readLine .scrub x.2 flips).2.2
  let v := { v with mcx := { v.mcx with scrubPos := x.1 + 1 } }
  match v.mcx.scrubFrom v.mcx.scrubPos with
  | some _ => v
  | none => { v with mcx := { v.mcx with scrubPos := 0, scrubPasses := sat32 v.mcx.scrubPasses } }

/-- The instant of the tick is that of the last multiple of ScrubInterval. -/
def State.scrubTimed (s : State) : State :=
  { s with mcx := { s.mcx with scrubAt := s.now - (s.now - s.mcx.scrubAt) % s.regN 0x480015 } }

/-- The scrubber reads on from its position, or from the first line. -/
def State.scrubNext (s : State) (flips : List (Nat × BitVec 13)) : State :=
  match s.mcx.scrubFrom s.mcx.scrubPos with
  | some x => s.scrubbed flips x
  | none =>
    match s.mcx.scrubFrom 0 with
    | some x => s.scrubbed flips x
    | none => s

theorem execScrubTick_eq (t : Nat) (flips : List (Nat × BitVec 13)) (s : State) : execScrubTick t flips s =
    runMain t (.mram :: mcxFrame)
      (fun s => if !s.mcx.ready || decide (s.now < s.mcx.scrubAt + s.regN 0x480015) then s
        else s.scrubTimed.scrubNext flips) s := rfl

theorem State.scrubbed_canonical (flips : List (Nat × BitVec 13)) (x : Nat × Nat) :
    KeepsCanonical fun s => s.scrubbed flips x := by
  intro s hs
  have hread := State.readLine_canonical .scrub x.2 flips hs
  dsimp only
  unfold State.scrubbed
  dsimp only
  split <;> exact hread

theorem State.scrubNext_canonical (flips : List (Nat × BitVec 13)) : KeepsCanonical fun s => s.scrubNext flips := by
  intro s hs
  dsimp only
  unfold State.scrubNext
  split
  · exact State.scrubbed_canonical flips _ s hs
  · split
    · exact State.scrubbed_canonical flips _ s hs
    · exact hs

/-! ### A line copied into its spare (10 R261) -/

/-- The bytes of `line`, as decoded, stored in spare `x`, which stands for the line from then on. -/
def Mcx.copied (m : Mcx) (line : Nat) (rest : List Nat) (x : Nat × Nat) : Mcx :=
  (List.range 64).foldl
    (fun (v : Mcx) i => v.store (64 * (33554432 + 32 * x.1 + x.2) + i) ((m.decodeLine line).1.getD i 0))
    { m with copies := rest, remap := m.remap ++ [{ line, chan := x.1, spare := x.2 }]
             watch := m.watch.filter fun w => w.line != line }

/-- The copy, with the bytes it moved and its event. -/
def State.copied (s : State) (line : Nat) (rest : List Nat) (x : Nat × Nat) : State :=
  ({ s with mcx := s.mcx.copied line rest x }.moved .scrub 128).raise 0x4802 0x1B line

/-- The first line that waits for its copy gets it, or is left where no spare is free. -/
def State.copyNext (s : State) : State :=
  match s.mcx.copies with
  | [] => s
  | line :: rest =>
    match s.mcx.freeSpare line with
    | none => { s with mcx := { s.mcx with copies := rest } }
    | some x => s.copied line rest x

theorem execRemapCopyComplete_eq (t : Nat) (s : State) : execRemapCopyComplete t s =
    runMain t (.mram :: mcxFrame) (fun s => s.copyNext) s := rfl

theorem State.copied_bytes (s : State) (line : Nat) (rest : List Nat) (x : Nat × Nat) :
    SameBytes { s with mcx := s.mcx.copied line rest x } (s.copied line rest x) :=
  (State.moved_bytes _ _ _).trans (State.raise_bytes _ _ _ _)

theorem Mcx.copied_canonical {m : Mcx} (line : Nat) (rest : List Nat) (x : Nat × Nat) (h : m.canonical) :
    (m.copied line rest x).canonical :=
  Mcx.foldl_canonical _ _ (fun _ _ hv => Mcx.store_canonical _ _ hv) h

theorem State.copyNext_canonical : KeepsCanonical State.copyNext := by
  intro s hs
  unfold State.copyNext
  split
  · exact hs
  · split
    · exact hs
    · exact (State.copied_bytes s _ _ _).canonical (Mcx.copied_canonical _ _ _ hs)

/-! ### Runs -/

theorem MemoryCanonical.keepAll {a o : State} (fr : List UnitId) (ha : MemoryCanonical a) (ho : MemoryCanonical o) :
    MemoryCanonical (a.keepAll o fr) := by
  rw [memoryCanonical_iff, State.keepAll_mcx]
  split
  · exact ho
  · exact ha

section Runs
variable {t : Nat} {fr : List UnitId} {f : State → State} {s u : State} (hf : KeepsCanonical f) (hs : MemoryCanonical s)
include hf hs

theorem run_canonical (he : run t fr f s = .next u) : MemoryCanonical u := by
  rw [run_eq] at he
  cases he
  exact MemoryCanonical.keepAll fr (hf (s.atTime t) hs) hs

theorem runMain_canonical (he : runMain t fr f s = .next u) : MemoryCanonical u :=
  run_canonical (KeepsCanonical.ite (fun v => v.mainOn = true) hf KeepsCanonical.id) hs he

theorem runUnit_canonical (he : runUnit t fr f s = .next u) : MemoryCanonical u :=
  runMain_canonical (KeepsCanonical.ite (fun v => v.unitActs = true) hf KeepsCanonical.id) hs he

theorem runEvr_canonical (he : runEvr t fr f s = .next u) : MemoryCanonical u :=
  runMain_canonical (KeepsCanonical.ite (fun v => v.part.variant.hasRecorder = true) hf KeepsCanonical.id) hs he

theorem runLine_canonical {line : Nat} (he : runLine t line fr f s = .next u) : MemoryCanonical u := by
  unfold runLine at he
  split at he
  · exact runMain_canonical hf hs he
  · cases he

end Runs

/-! ### The commands -/

section Commands
variable {s u : State} {t : Nat} (hs : MemoryCanonical s)
include hs

theorem execCanSegmentReceive_canonical {frame : CanFrame} (he : execCanSegmentReceive t frame s = .next u) :
    MemoryCanonical u :=
  runMain_canonical (KeepsCanonical.of_bytes fun v =>
    SameBytes.ite _ (State.canSegment_bytes v frame.data) (SameBytes.refl v)) hs he

theorem execTarnRecordWrite_canonical (he : execTarnRecordWrite t s = .next u) : MemoryCanonical u := by
  refine runMain_canonical (fun v hv => ?_) hs he
  split
  · exact hv
  next c _ =>
    split
    · exact hv
    · exact KeepsCanonical.foldl (f := fun (w : State) (x : CellCtx) => w.writeWhole .tarnWrite _ _)
        (fun x w hw => State.writeLine_canonical _ _ _ hw) c.cells v hv

theorem execTarnBufferSwap_canonical (he : execTarnBufferSwap t s = .next u) : MemoryCanonical u := by
  refine runMain_canonical (KeepsCanonical.of_bytes fun v => ?_) hs he
  split
  · exact SameBytes.refl v
  · exact SameBytes.ite _ (SameBytes.refl v) ⟨rfl, rfl⟩

theorem execMcxReady_canonical (he : execMcxReady t s = .next u) : MemoryCanonical u := by
  refine runMain_canonical (KeepsCanonical.of_bytes fun v => ?_) hs he
  exact SameBytes.ite _ (SameBytes.refl v) ⟨rfl, rfl⟩

theorem execBootFillComplete_canonical (he : execBootFillComplete t s = .next u) : MemoryCanonical u := by
  rw [execBootFillComplete_eq] at he
  refine runMain_canonical (fun v hv => ?_) hs he
  split
  · exact hv
  · exact (State.filled_bytes v).canonical (Mcx.canonical_filter _ _ hv)

theorem execCorrectionWriteback_canonical {line : Nat} (he : execCorrectionWriteback t line s = .next u) :
    MemoryCanonical u := by
  refine runLine_canonical (fun v hv => ?_) hs he
  split
  · exact hv
  next w _ =>
    refine (State.moved_bytes _ _ _).canonical ?_
    exact Mcx.foldl_canonical w.2 (fun m b => m.store (64 * v.mcx.physical line + b.1 % 64) b.2)
      (fun _ _ hm => Mcx.store_canonical _ _ hm) hv

theorem execMemoryWrite_canonical {user : MemUser} {line : Nat} {bytes : List (Nat × Byte)}
    (he : execMemoryWrite t user line bytes s = .next u) : MemoryCanonical u :=
  runLine_canonical (KeepsCanonical.ite (fun v => v.reaches user line = true)
    (fun _ hv => State.writeLine_canonical user line bytes hv) KeepsCanonical.id) hs he

theorem execScrubTick_canonical {flips : List (Nat × BitVec 13)} (he : execScrubTick t flips s = .next u) :
    MemoryCanonical u := by
  rw [execScrubTick_eq] at he
  refine runMain_canonical (fun v hv => ?_) hs he
  split
  · exact hv
  · exact State.scrubNext_canonical flips v.scrubTimed hv

theorem execWatchEntryExpiry_canonical (he : execWatchEntryExpiry t s = .next u) : MemoryCanonical u := by
  refine runMain_canonical (KeepsCanonical.of_bytes fun v => ?_) hs he
  exact ⟨rfl, rfl⟩

theorem execResetRelease_canonical {devnum : BitVec 9} {safeCfg : Bool}
    (he : execResetRelease t devnum safeCfg s = .next u) : MemoryCanonical u :=
  run_canonical (KeepsCanonical.of_keepsOrResets fun v =>
    KeepsOrResetsMcx.ite _ (.inr (State.release_mcx v devnum safeCfg)) (.inl rfl)) hs he

end Commands

/-- Every command keeps the canonical form: those that leave the memory controller alone keep it, and each of the others is
a run of an operation above. -/
theorem exec_canonical {c : Instr} {s u : State} (hs : MemoryCanonical s) (he : exec c s = .next u) :
    MemoryCanonical u := by
  by_cases hl : .mcx ∉ changesOf c
  · exact (SameBytes.of_mcx ((exec_onlyChanges he).mcx hl)).canonical hs
  cases c
  case kppRead => exact runMain_canonical (KeepsCanonical.of_bytes fun v => State.kppArrive_bytes v _ _ _) hs he
  case kppWrite => exact runMain_canonical (KeepsCanonical.of_bytes fun v => State.kppArrive_bytes v _ _ _) hs he
  case kppReadStaged => exact runMain_canonical (KeepsCanonical.of_bytes fun v => State.kppArrive_bytes v _ _ _) hs he
  case shortMessage => exact runMain_canonical (KeepsCanonical.of_bytes fun v => State.kppArrive_bytes v _ _ _) hs he
  case commitValidationComplete =>
    exact runMain_canonical (KeepsCanonical.of_bytes State.validationDone_bytes) hs he
  case canSegmentReceive => exact execCanSegmentReceive_canonical hs he
  case leaseRenewal => exact runMain_canonical (KeepsCanonical.of_bytes fun v => State.renewal_bytes v _ _) hs he
  case takeoverComplete => exact runMain_canonical (KeepsCanonical.of_bytes State.takeoverDone_bytes) hs he
  case columnStart => exact runMain_canonical (KeepsCanonical.of_bytes State.columnStart_bytes) hs he
  case prefetchComplete => exact runMain_canonical (KeepsCanonical.of_bytes State.prefetchDone_bytes) hs he
  case commitCutoff => exact runMain_canonical (KeepsCanonical.of_bytes State.cutoff_bytes) hs he
  case tarnRecordWrite => exact execTarnRecordWrite_canonical hs he
  case tarnBufferSwap => exact execTarnBufferSwap_canonical hs he
  case mcxReady => exact execMcxReady_canonical hs he
  case bootFillComplete => exact execBootFillComplete_canonical hs he
  case memoryRead => exact runLine_canonical (State.lineRead_canonical _ _ _) hs he
  case correctionWriteback => exact execCorrectionWriteback_canonical hs he
  case memoryWrite => exact execMemoryWrite_canonical hs he
  case scrubTick => exact execScrubTick_canonical hs he
  case watchEntryExpiry => exact execWatchEntryExpiry_canonical hs he
  case remapCopyComplete => exact runMain_canonical State.copyNext_canonical hs he
  case remapClear =>
    exact runUnit_canonical (KeepsCanonical.of_bytes fun v =>
      ⟨State.remapClear_data v _, State.remapClear_check v _⟩) hs he
  case ringUnitWrite => exact runEvr_canonical State.ringWrite_canonical hs he
  case springRound => exact run_canonical (KeepsCanonical.of_keepsOrResets fun v => State.round_mcx v _) hs he
  case vsysUndervoltage => exact run_canonical (KeepsCanonical.of_keepsOrResets State.undervoltage_mcx) hs he
  case powerOn =>
    exact run_canonical (KeepsCanonical.of_keepsOrResets fun v => .inr (State.powerOn_mcx v _)) hs he
  case railConfirmTimeout => exact run_canonical (KeepsCanonical.of_keepsOrResets State.railTimeout_mcx) hs he
  case resetRelease => exact execResetRelease_canonical hs he
  case shutdownStepComplete => exact run_canonical (KeepsCanonical.of_keepsOrResets State.shutdownStep_mcx) hs he
  all_goals exact absurd (by simp [changesOf]) hl

/-- Settles O5: outside the accesses to the memory no operation changes a byte or a check bit; a write and a flipped bit keep
the form; a reset of the main domain empties the memory. -/
theorem theMemoryStaysCanonical : Obligations.TheMemoryStaysCanonical := by
  unfold Obligations.TheMemoryStaysCanonical
  intro s u hs h
  unfold step at h
  split at h
  · cases h
    exact hs
  next c rest _ => exact exec_canonical (s := { s with pending := rest }) hs h

end Sys2Proof.Machine
end

section
/-!
SUPPORT. What every command answers: a next state with the queue as it was and time not gone back, or the fault of a line
beyond the memory (10 R243).
-/
namespace Sys2Proof.Machine

/-- A run keeps the queue, and time does not go back. -/
theorem run_keepsQueue (t : Nat) (fr : List UnitId) (f : State → State) (s : State) :
    ∃ u, run t fr f s = .next u ∧ u.pending = s.pending ∧ s.now ≤ u.now :=
  ⟨_, run_eq, rfl, Nat.le_max_left s.now t⟩

/-- No line lies beyond the memory. -/
theorem runLine_hole {line : Nat} (h : 33554432 ≤ line) (t : Nat) (fr : List UnitId) (f : State → State) (s : State) :
    runLine t line fr f s = .fault (.addressHole (64 * line)) :=
  if_neg (Nat.not_lt.2 h)

/-- Settles O2: every command is a run, or one of the three that name a line, and names one the memory does not have. -/
theorem everyCommandAnswersButMemoryHoles : Obligations.EveryCommandAnswersButMemoryHoles := by
  unfold Obligations.EveryCommandAnswersButMemoryHoles
  constructor
  · intro c s
    refine (exec_runs_or_hole c s).imp_left ?_
    rintro ⟨t, fr, f, -, hrun⟩
    rw [hrun]
    exact run_keepsQueue t fr f s
  · intro s t line user fl bs hline
    exact ⟨runLine_hole hline t _ _ s, runLine_hole hline t _ _ s, runLine_hole hline t _ _ s⟩

end Sys2Proof.Machine
end

section
/-!
SUPPORT. The record of a cell as a row of little-endian words, and what the prefetch takes from it (10 R253 to R255).
-/
namespace Sys2Proof.Machine

/-! ### Words in a row of bytes (00 R13) -/

theorem length_le (n v : Nat) : (le n v).length = n := by
  induction n generalizing v with
  | zero => rfl
  | succ n ih => exact congrArg (· + 1) (ih _)

theorem uAt_after {a : List Byte} (b : List Byte) (o n : Nat) : uAt (a ++ b) (a.length + o) n = uAt b o n := by
  simp only [uAt, bytesAt, List.drop_length_add_append]

theorem uAt_front (n v : Nat) (rest : List Byte) : uAt (le n v ++ rest) 0 n = v % 256 ^ n := by
  have hgot : ((le n v ++ rest).drop 0).take n = le n v := List.take_left' (length_le n v)
  rw [uAt, bytesAt, hgot, length_le, Nat.sub_self, List.replicate_zero, List.append_nil, ofLe_le_mod]

/-- Words of four bytes in a row. -/
def wordBytes (ws : List Nat) : List Byte := ws.flatMap (le 4)

theorem length_wordBytes (ws : List Nat) : (wordBytes ws).length = 4 * ws.length := by
  induction ws with
  | nil => rfl
  | cons w ws ih =>
    rw [wordBytes, List.flatMap_cons, List.length_append, length_le, ← wordBytes, ih, List.length_cons]
    omega

/-- Each word reads back in 32 bits. -/
theorem uAt_wordBytes {ws : List Nat} (tail : List Byte) {k : Nat} (hk : k < ws.length) :
    uAt (wordBytes ws ++ tail) (4 * k) 4 = ws[k] % 2 ^ 32 := by
  induction ws generalizing k with
  | nil => exact absurd hk (Nat.not_lt_zero k)
  | cons w ws ih =>
    rw [wordBytes, List.flatMap_cons, List.append_assoc, ← wordBytes]
    cases k with
    | zero => exact uAt_front 4 w _
    | succ k =>
      have hskip := uAt_after (a := le 4 w) (wordBytes ws ++ tail) (4 * k) 4
      rw [length_le, Nat.add_comm 4] at hskip
      exact hskip.trans (ih (Nat.lt_of_succ_lt_succ hk))

/-! ### The words of a record (10 R253) -/

/-- The control word and the amplitude word three times each, the return words and the range words. -/
def TarnRecord.words (r : TarnRecord) : List Nat :=
  [r.control, r.control, r.control, r.amplitude, r.amplitude, r.amplitude] ++ fit 3 0 r.returnWords ++ fit 3 0 r.rangeWords

/-- The bytes behind the words. -/
def TarnRecord.tail (r : TarnRecord) : List Byte :=
  le 2 r.mu16 ++ le 2 r.sigma16 ++ le 2 r.flags ++ le 1 r.nc ++ le 1 r.nz ++ List.replicate 8 0

theorem TarnRecord.bytes_eq (r : TarnRecord) : r.bytes = wordBytes r.words ++ r.tail := by
  simp only [TarnRecord.bytes, TarnRecord.tail, TarnRecord.words, wordBytes, List.flatMap_append, List.flatMap_cons,
    List.flatMap_nil, List.append_assoc, List.append_nil]

theorem TarnRecord.length_words (r : TarnRecord) : r.words.length = 12 := by
  simp only [TarnRecord.words, List.length_append, length_fit]
  rfl

theorem TarnRecord.length_bytes (r : TarnRecord) : r.bytes.length = 64 := by
  simp only [TarnRecord.bytes_eq, TarnRecord.tail, List.length_append, length_wordBytes, TarnRecord.length_words, length_le,
    List.length_replicate]

theorem TarnRecord.uAt_bytes (r : TarnRecord) {k w : Nat} (hw : r.words[k]? = some w) :
    uAt r.bytes (4 * k) 4 = w % 2 ^ 32 := by
  obtain ⟨hk, rfl⟩ := List.getElem?_eq_some_iff.1 hw
  rw [TarnRecord.bytes_eq, uAt_wordBytes _ hk]

/-- Return word `i` stands behind the six words of the two voted values. -/
theorem TarnRecord.uAt_return (r : TarnRecord) {i : Nat} (hi : i < r.returnWords.length) (hlen : r.returnWords.length ≤ 3) :
    uAt r.bytes (24 + 4 * i) 4 = r.returnWords[i] % 2 ^ 32 := by
  have hword : r.words[6 + i]? = some r.returnWords[i] := by
    have hfit : (fit 3 0 r.returnWords)[i]? = some r.returnWords[i] := by
      rw [fit, List.take_of_length_le hlen, List.getElem?_append_left hi, List.getElem?_eq_getElem hi]
    have hi3 : i < (fit 3 0 r.returnWords).length := by rw [length_fit]; omega
    rw [TarnRecord.words, List.append_assoc, List.getElem?_append_right (by simp), List.getElem?_append_left (by simpa using hi3)]
    simpa using hfit
  have hat := r.uAt_bytes hword
  rwa [show 4 * (6 + i) = 24 + 4 * i by omega] at hat

/-! ### Two of three (10 R255) -/

theorem vote_self (w : Nat) : vote w w w = w := by simp only [vote, Nat.and_self, Nat.or_self]

theorem votedWord_of_equal {bs : List Byte} {o w : Nat} (h0 : uAt bs o 4 = w) (h1 : uAt bs (o + 4) 4 = w)
    (h2 : uAt bs (o + 8) 4 = w) : votedWord bs o = w := by
  rw [votedWord, h0, h1, h2, vote_self]

/-- No copy differs where all three are equal. -/
theorem outvoted_of_equal {bs : List Byte} {o w : Nat} (h0 : uAt bs o 4 = w) (h1 : uAt bs (o + 4) 4 = w)
    (h2 : uAt bs (o + 8) 4 = w) : outvoted bs o = false := by
  simp only [outvoted, Nat.mul_zero, Nat.add_zero, Nat.mul_one, Nat.reduceMul, h0, h1, h2, vote_self, bne_self_eq_false,
    Bool.or_self]

/-- The three copies of the control word, and those of the amplitude word. -/
theorem TarnRecord.voted (r : TarnRecord) :
    votedWord r.bytes 0 = r.control % 2 ^ 32 ∧ votedWord r.bytes 12 = r.amplitude % 2 ^ 32 ∧
      outvoted r.bytes 0 = false ∧ outvoted r.bytes 12 = false := by
  have hcontrol : ∀ k < 3, uAt r.bytes (4 * k) 4 = r.control % 2 ^ 32 := by
    intro k hk
    refine r.uAt_bytes ?_
    interval_cases k <;> rfl
  have hamplitude : ∀ k < 3, uAt r.bytes (4 * (3 + k)) 4 = r.amplitude % 2 ^ 32 := by
    intro k hk
    refine r.uAt_bytes ?_
    interval_cases k <;> rfl
  have c0 := hcontrol 0 (by decide)
  have c1 := hcontrol 1 (by decide)
  have c2 := hcontrol 2 (by decide)
  have a0 := hamplitude 0 (by decide)
  have a1 := hamplitude 1 (by decide)
  have a2 := hamplitude 2 (by decide)
  exact ⟨votedWord_of_equal c0 c1 c2, votedWord_of_equal a0 a1 a2, outvoted_of_equal c0 c1 c2, outvoted_of_equal a0 a1 a2⟩

/-! ### The fields of the words (10 R254) -/

theorem bNat_le (b : Bool) : bNat b ≤ 1 := by cases b <;> decide

theorem bitOf_eq_of_div {v i : Nat} {b : Bool} (h : v / 2 ^ i % 2 = bNat b) : bitOf v i = b := by
  rw [bitOf, Nat.testBit_eq_decide_div_mod_eq, h]
  cases b <;> rfl

section Control
variable (frame grid count : Nat) (sat valid : Bool) (feedback reduction : Nat)

/-- The control word fits its 32 bits, and each of its fields reads back. -/
theorem controlWord_fields :
    let w := controlWord frame grid count sat valid feedback reduction % 2 ^ 32
    field w 23 20 = grid % 16 ∧ field w 19 18 = count % 4 ∧ bitOf w 17 = sat ∧ bitOf w 16 = valid ∧
      field w 15 14 = feedback % 4 ∧ field w 13 7 = reduction % 128 := by
  have hsat := bNat_le sat
  have hvalid := bNat_le valid
  refine ⟨?_, ?_, bitOf_eq_of_div ?_, bitOf_eq_of_div ?_, ?_, ?_⟩ <;>
    · simp only [field, controlWord]
      omega

end Control

/-- The amplitude stands above the position set, which has three bits. -/
theorem field_amplitude (amplitude : Nat) {set : Nat} (h : set < 8) :
    field ((amplitude * 2 ^ 20 + set * 2 ^ 17) % 2 ^ 32) 31 20 = amplitude % 4096 := by
  simp only [field]
  omega

theorem Survivor.field_word (v : Survivor) : field (v.word % 2 ^ 32) 17 0 = v.tau % 2 ^ 18 := by
  have hrefined := bNat_le v.refined
  simp only [field, Survivor.word]
  omega

/-! ### What the prefetch takes (10 R254, R255) -/

/-- The times of the survivors, in their order. -/
theorem recordOf_taus (c : ColCtx) (x : CellCtx) {o : CellOut} (h : o.survivors.length ≤ 3) :
    (List.range o.survivors.length).map (fun i => field (uAt (recordOf c x (some o)).bytes (24 + 4 * i) 4) 17 0) =
      o.survivors.map fun v => v.tau % 2 ^ 18 := by
  have hlen : (recordOf c x (some o)).returnWords.length = o.survivors.length := List.length_map _
  refine List.ext_getElem (by simp) fun i hi _ => ?_
  have hi : i < o.survivors.length := by simpa using hi
  rw [List.getElem_map, List.getElem_map, List.getElem_range,
    TarnRecord.uAt_return _ (hlen.symm ▸ hi) (hlen.symm ▸ h)]
  simp only [recordOf, List.getElem_map]
  exact Survivor.field_word _

/-- The record of a measured cell reads back. -/
theorem priorOf_recordOf_some (c : ColCtx) (x : CellCtx) (o : CellOut) (hsurvivors : o.survivors.length ≤ 3)
    (hfeedback : x.feedback < 4) (hreduction : x.reduction ≤ 96) (hset : c.posSet < 8) :
    priorOf (recordOf c x (some o)).bytes =
      { valid := true, grid := c.gridGen.toNat % 16, saturated := o.saturated, feedback := x.feedback
        reduction := x.reduction, amplitude := o.amplitude % 4096
        taus := o.survivors.map fun v => v.tau % 2 ^ 18 } := by
  obtain ⟨hcontrol, hamplitude, -, -⟩ := (recordOf c x (some o)).voted
  obtain ⟨hgrid, hcount, hsat, hvalid, hfb, hred⟩ :=
    controlWord_fields c.frame.toNat c.gridGen.toNat o.survivors.length o.saturated true x.feedback x.reduction
  have hcontrol : votedWord (recordOf c x (some o)).bytes 0 =
      controlWord c.frame.toNat c.gridGen.toNat o.survivors.length o.saturated true x.feedback x.reduction % 2 ^ 32 := hcontrol
  have hamplitude : votedWord (recordOf c x (some o)).bytes 12 = (o.amplitude * 2 ^ 20 + c.posSet * 2 ^ 17) % 2 ^ 32 :=
    hamplitude
  rw [priorOf, hcontrol, hamplitude, hgrid, hcount, hsat, hvalid, hfb, hred, field_amplitude _ hset,
    Nat.mod_eq_of_lt (a := o.survivors.length) (by omega), Nat.mod_eq_of_lt hfeedback,
    Nat.mod_eq_of_lt (a := x.reduction) (by omega), Nat.min_eq_right hreduction, recordOf_taus c x hsurvivors]

/-- The record of a cell that was not measured has Valid clear (10 R252). -/
theorem priorOf_recordOf_none (c : ColCtx) (x : CellCtx) : (priorOf (recordOf c x none).bytes).valid = false := by
  obtain ⟨-, -, -, hvalid, -, -⟩ := controlWord_fields c.frame.toNat c.gridGen.toNat 0 false false x.feedback x.reduction
  obtain ⟨hcontrol, -, -, -⟩ := (recordOf c x none).voted
  exact (congrArg (bitOf · 16) hcontrol).trans hvalid

/-- Settles O35: a record is a row of words, each of which reads back; the voted ones stand three times alike. -/
theorem tarnRecordsReadBackAsWritten : Obligations.TarnRecordsReadBackAsWritten := by
  unfold Obligations.TarnRecordsReadBackAsWritten
  intro c x o hsurvivors hfeedback hreduction hset
  obtain ⟨-, -, hcontrol, hamplitude⟩ := (recordOf c x (some o)).voted
  exact ⟨TarnRecord.length_bytes _, priorOf_recordOf_some c x o hsurvivors hfeedback hreduction hset,
    priorOf_recordOf_none c x, hcontrol, hamplitude⟩

end Sys2Proof.Machine
end

section
/-!
SUPPORT. The code of the memory (10 R244, R245): the check bits are linear in the byte, so what a decode makes of flipped bits
does not depend on the byte stored; and a write of one byte of a line (10 R243, R246).
-/
namespace Sys2Proof.Machine

/-! ### The check bits are linear (10 R244) -/

/-- Five check bits, c0 the least significant. -/
def checkWord (c0 c1 c2 c3 c4 : Bool) : BitVec 5 :=
  BitVec.ofNat 5 (bNat c0 + 2 * bNat c1 + 4 * bNat c2 + 8 * bNat c3 + 16 * bNat c4)

theorem checkWord_xor : ∀ a0 a1 a2 a3 a4 b0 b1 b2 b3 b4 : Bool,
    checkWord a0 a1 a2 a3 a4 ^^^ checkWord b0 b1 b2 b3 b4 =
      checkWord (a0 ^^ b0) (a1 ^^ b1) (a2 ^^ b2) (a3 ^^ b3) (a4 ^^ b4) := by
  decide

theorem checkBits_xor (d e : Byte) : checkBits (d ^^^ e) = checkBits d ^^^ checkBits e := by
  have _ : Std.Commutative (α := Bool) (· ^^ ·) := ⟨Bool.xor_comm⟩
  change checkWord _ _ _ _ _ = checkWord _ _ _ _ _ ^^^ checkWord _ _ _ _ _
  rw [checkWord_xor]
  simp only [BitVec.getLsbD_xor]
  congr 1 <;> ac_rfl

/-- What a decode makes of the bits `e` and `f` that have flipped does not depend on the byte stored. -/
theorem decodeByte_xor (d e : Byte) (f : BitVec 5) :
    decodeByte (d ^^^ e) (checkBits d ^^^ f) = (d ^^^ (decodeByte e f).1, (decodeByte e f).2) := by
  have hdiff : checkBits d ^^^ f ^^^ checkBits (d ^^^ e) = f ^^^ checkBits e := by
    rw [checkBits_xor, BitVec.xor_comm (checkBits d) f, BitVec.xor_assoc, ← BitVec.xor_assoc (checkBits d),
      BitVec.xor_self, BitVec.zero_xor]
  unfold decodeByte
  rw [hdiff]
  dsimp only
  split
  · rfl
  split
  · split
    · rw [BitVec.xor_assoc]
    · rfl
  · rfl

/-! ### Flipped bits (10 R245) -/

/-- Flipped bits that decode to 0 where 0 is stored decode to the byte where a byte is. -/
theorem decodeByte_flips (d : Byte) {e : Byte} {f : BitVec 5} {r : ByteRead} (h : decodeByte e f = (0, r)) :
    decodeByte (d ^^^ e) (checkBits d ^^^ f) = (d, r) := by
  rw [decodeByte_xor, h]
  exact congrArg (·, r) BitVec.xor_zero

theorem decodeByte_clean (d : Byte) : decodeByte d (checkBits d) = (d, .clean) := by
  have hzero : decodeByte 0 0 = (0, .clean) := by decide
  simpa using decodeByte_flips d hzero

theorem decodeByte_data_flip (d : Byte) {i : Nat} (hi : i < 8) :
    decodeByte (d ^^^ BitVec.ofNat 8 (2 ^ i)) (checkBits d) = (d, .corrected) := by
  have hflip : ∀ i < 8, decodeByte (BitVec.ofNat 8 (2 ^ i)) 0 = (0, .corrected) := by decide
  simpa using decodeByte_flips d (hflip i hi)

theorem decodeByte_check_flip (d : Byte) {i : Nat} (hi : i < 5) :
    decodeByte d (checkBits d ^^^ BitVec.ofNat 5 (2 ^ i)) = (d, .corrected) := by
  have hflip : ∀ i < 5, decodeByte 0 (BitVec.ofNat 5 (2 ^ i)) = (0, .corrected) := by decide
  simpa using decodeByte_flips d (hflip i hi)

/-- The 13 stored bits with bits `i` and `j` alone. -/
def twoFlips (i j : Nat) : BitVec 13 := BitVec.ofNat 13 (2 ^ i + 2 ^ j)

/-- No two flipped bits of the 13 decode to a byte. -/
theorem decodeByte_twoFlips : ∀ j < 13, ∀ i < j,
    (decodeByte (BitVec.ofNat 8 ((twoFlips i j).toNat % 256)) (BitVec.ofNat 5 ((twoFlips i j).toNat / 256))).2 = .bad := by
  decide

/-! ### Check bits in store (10 R246) -/

theorem mget_eq_none_of_above {α : Type} {m : SMap α} {x : Nat} (h : ∀ f ∈ m, x < f.1) : mget m x = none := by
  cases m with
  | nil => rfl
  | cons e m =>
    have he : x < e.1 := h e List.mem_cons_self
    rw [mget, if_neg (Nat.ne_of_lt he), if_pos he]

theorem mget_mdel_self {α : Type} {m : SMap α} (x : Nat) (h : rising m = true) : mget (mdel m x) x = none := by
  induction m with
  | nil => rfl
  | cons e m ih =>
    obtain ⟨hrising, habove⟩ := rising_cons.1 h
    rw [mdel]
    split
    next hx => exact mget_eq_none_of_above fun f hf => hx ▸ habove f hf
    next hx =>
      split
      next hlt => rw [mget, if_neg hx, if_pos hlt]
      next hle => rw [mget, if_neg hx, if_neg hle, ih hrising]

/-- A stored byte carries its own check bits. -/
theorem Mcx.store_storedCheck {m : Mcx} (a : Nat) (b : Byte) (h : m.canonical) :
    (m.store a b).storedCheck a = checkBits b := by
  obtain ⟨hdata, hcheck, -⟩ := h
  rw [Mcx.storedCheck, Mcx.store_eq]
  dsimp only
  rw [memGet_put_self a b hdata, mget_mdel_self a hcheck]
  exact BitVec.xor_zero

/-! ### A write of one byte (10 R243, R246) -/

/-- The bytes and check bits after a write are those stored on what a first write of the page leaves. -/
theorem State.writeLine_bytes {s : State} (user : MemUser) (line : Nat) (bytes : List (Nat × Byte))
    (hready : s.mcx.ready = true) :
    SameBytes { s with mcx := (s.mcx.firstWrite (pageOfLine line)).storeAll (64 * s.mcx.physical line) bytes }
      (s.writeLine user line bytes) := by
  have hmoved : ∀ (m : Mcx) (w : List (Nat × List (Nat × Byte))) (d : Nat), SameBytes { s with mcx := m }
      ({ s with mcx := { m with writebacks := w, dropped := d } }.moved user bytes.length) := fun m w d =>
    State.moved_bytes { s with mcx := { m with writebacks := w, dropped := d } } user bytes.length
  unfold State.writeLine
  rw [if_neg (by simp [hready])]
  dsimp only
  rw [Mcx.firstWrite_physical]
  exact SameBytes.ite _ ((hmoved _ _ _).trans (State.lineRewritten_bytes _ line)) (hmoved _ _ _)

/-- One byte of a page already written: it is stored, and nothing else. -/
theorem State.writeByte_bytes {s : State} (user : MemUser) {line i : Nat} (b : Byte) (hready : s.mcx.ready = true)
    (hwritten : s.mcx.isWritten (pageOfLine line) = true) (hi : i < 64) :
    SameBytes { s with mcx := s.mcx.store (64 * s.mcx.physical line + i) b } (s.writeLine user line [(i, b)]) := by
  have hstored := State.writeLine_bytes user line [(i, b)] hready
  rwa [Mcx.firstWrite, if_pos hwritten, Mcx.storeAll, List.foldl_cons, List.foldl_nil, Nat.mod_eq_of_lt hi] at hstored

theorem memoryWrite_stores {s : State} {t line i : Nat} {user : MemUser} {b : Byte} (hm : s.mainOn = true)
    (hline : line < 33554432) (hi : i < 64) (hs : MemoryCanonical s) (hready : s.mcx.ready = true)
    (hreaches : s.reaches user line = true) (hwritten : s.mcx.isWritten (line / 64) = true) :
    Gives (.memoryWrite t user line [(i, b)]) s fun u => OnlyChanges [.mcx, .kpp, .evr] s u ∧
      memGet u.mcx.data (64 * s.mcx.physical line + i) = b ∧
      u.mcx.storedCheck (64 * s.mcx.physical line + i) = checkBits b ∧
      (∀ a, a ≠ 64 * s.mcx.physical line + i → memGet u.mcx.data a = memGet s.mcx.data a) := by
  have he : exec (.memoryWrite t user line [(i, b)]) s = runMain t (.cu :: memFrame)
      (fun s => if s.reaches user line then s.writeLine user line [(i, b)] else s) s := if_pos hline
  refine gives_of_command he hm (if_pos hreaches) ?_
  rintro u hl ⟨-, hunits, -⟩
  have hcanonical := (memoryCanonical_iff s).1 hs
  obtain ⟨hdata, hcheck⟩ : SameBytes { s with mcx := s.mcx.store (64 * s.mcx.physical line + i) b } u := by
    have hmcx : _ = u.mcx := hunits .mcx (by decide)
    rw [SameBytes, ← hmcx]
    exact State.writeByte_bytes (s := s.atTime t) user b hready hwritten hi
  refine ⟨OnlyChanges.mono (l := [.kpp, .mcx, .evr]) (by decide) hl, ?_, ?_, fun a ha => ?_⟩
  · rw [hdata]
    exact memGet_put_self _ b hcanonical.1
  · rw [Mcx.storedCheck, hdata, hcheck]
    exact Mcx.store_storedCheck _ b hcanonical
  · rw [hdata]
    exact memGet_put_other b hcanonical.1 ha

/-- Settles O38: a write of one byte stores it with its own check bits; and as the code is linear, one or two flipped bits
decode as they do on the byte 0. -/
theorem writesAndTheirCheckBits : Obligations.WritesAndTheirCheckBits := by
  unfold Obligations.WritesAndTheirCheckBits
  refine ⟨fun s t line i user b => memoryWrite_stores, fun d => ?_, fun d i j hij hj => ?_⟩
  · exact ⟨decodeByte_clean d, fun i => decodeByte_data_flip d, fun i => decodeByte_check_flip d⟩
  · exact (congrArg Prod.snd (decodeByte_xor d _ _)).trans (decodeByte_twoFlips j hj i hij)

end Sys2Proof.Machine
end

section
/-!
SUPPORT. What the events of the memory controller leave: the controller ready, the Tarn region filled, a line scrubbed, the watch
list, and a line copied into its spare (10 R257, R259 to R261).
-/
namespace Sys2Proof.Machine

/-! ### What counts and events leave -/

/-- The controller without the counters of the bytes moved (10 R264, R267). -/
def Mcx.uncounted (m : Mcx) : Mcx := { m with userBytes := [], second := 0, secondBytes := [], lastSecond := [] }

theorem State.moved_uncounted (s : State) (user : MemUser) (n : Nat) :
    (s.moved user n).mcx.uncounted = s.mcx.uncounted := by
  simp only [State.moved, Mcx.atSecond]
  split <;> rfl

/-- Bytes moved keep whatever does not depend on those counters. -/
theorem State.moved_keeps {α : Type} (f : Mcx → α) (hf : ∀ m, f m.uncounted = f m) (s : State) (user : MemUser) (n : Nat) :
    f (s.moved user n).mcx = f s.mcx := by
  rw [← hf, State.moved_uncounted, hf]

theorem State.degradedNow_mcx (s : State) (l : List Degraded) : (s.degradedNow l).mcx = { s.mcx with degraded := l } :=
  State.raiseIf_mcx _ _ _ _ _

/-! ### The fill of the Tarn region (10 R257) -/

theorem memGet_of_unlisted {m : List Host.Cell} {x : Nat} (h : ∀ c ∈ m, x ≠ c.1) : memGet m x = 0 := by
  induction m with
  | nil => rfl
  | cons c m ih =>
    obtain ⟨hc, hm⟩ := List.forall_mem_cons.1 h
    rw [memGet, if_neg hc, ih hm, ite_self]

theorem Mcx.filled_data (m : Mcx) {a : Nat} (ha : a < 33554432) : memGet m.filled.data a = 0 := by
  refine memGet_of_unlisted fun c hc heq => ?_
  have houtside := List.of_mem_filter hc
  simp only [Mcx.outsideTarn, Bool.and_eq_true, decide_eq_true_eq] at houtside
  omega

theorem Mcx.filled_isWritten (m : Mcx) {p : Nat} (hp : p < 8192) : m.filled.isWritten p = true :=
  List.contains_iff_mem.2 (List.mem_append_left _ (List.mem_range.2 hp))

theorem State.filled_fills (s : State) :
    s.filled.mcx.bootFill = true ∧ s.filled.mcx.written = s.mcx.filled.written := by
  simp only [State.filled, State.degradedNow_mcx]
  exact ⟨State.moved_keeps Mcx.bootFill (fun _ => rfl) { s with mcx := s.mcx.filled } _ _,
    State.moved_keeps Mcx.written (fun _ => rfl) { s with mcx := s.mcx.filled } _ _⟩

theorem bootFillComplete_fills {s : State} {t h : Nat} (hm : s.mainOn = true) (hready : s.mcx.ready = true)
    (hfill : s.mcx.bootFill = false) (hholder : s.cu.holder = some h) :
    Gives (.bootFillComplete t) s fun u => OnlyChanges [.mcx, .kpp, .evr] s u ∧ u.mcx.bootFill = true ∧
      (∀ a, a < 33554432 → memGet u.mcx.data a = 0) ∧ (∀ p, p < 8192 → u.mcx.isWritten p = true) := by
  refine gives_of_command (execBootFillComplete_eq t s) hm (a := (s.atTime t).filled) (if_neg ?_) ?_
  · simp [hready, hfill, hholder]
  rintro u hl ⟨-, hunits, -⟩
  have hmcx : _ = u.mcx := hunits .mcx (by decide)
  obtain ⟨hfilled, hwritten⟩ := State.filled_fills (s.atTime t)
  obtain ⟨hdata, -⟩ := State.filled_bytes (s.atTime t)
  simp only [← hmcx, Mcx.isWritten, hwritten, hdata]
  exact ⟨OnlyChanges.mono (l := [.kpp, .mcx, .evr]) (by decide) hl, hfilled, fun a => s.mcx.filled_data,
    fun p => s.mcx.filled_isWritten⟩

/-! ### A line scrubbed (10 R259) -/

/-- A read of a clean line moves its bytes, and that is all. -/
theorem State.readLine_clean {s : State} (user : MemUser) {line : Nat} (hready : s.mcx.ready = true)
    (hwritten : s.mcx.isWritten (pageOfLine line) = true) (hclean : (s.mcx.decodeLine line).2 = ([], false)) :
    (s.readLine user line []).2.2 = s.moved user 64 := by
  have hdecode : (s.moved user 64).mcx.decodeLine line = ((s.mcx.decodeLine line).1, [], false) :=
    (State.moved_keeps (fun m => m.decodeLine line) (fun _ => rfl) s user 64).trans (Prod.ext rfl hclean)
  rw [State.readLine, if_neg (by simp [hready]), if_neg (by simp [hwritten])]
  dsimp only [List.foldl_nil]
  rw [hdecode]
  rfl

theorem State.scrubbed_bytes (s : State) (x : Nat × Nat) : SameBytes s (s.scrubbed [] x) := by
  have hread := State.readLine_bytes s .scrub x.2
  unfold State.scrubbed
  dsimp only
  split <;> exact hread

/-- The position that follows is the next one, or the first with a pass complete. -/
theorem State.scrubbed_pos (s : State) (flips : List (Nat × BitVec 13)) (x : Nat × Nat) :
    (s.scrubbed flips x).mcx.scrubPos = x.1 + 1 ∨
      ((s.scrubbed flips x).mcx.scrubPos = 0 ∧
        (s.scrubbed flips x).mcx.scrubPasses = sat32 (s.readLine .scrub x.2 flips).2.2.mcx.scrubPasses) := by
  unfold State.scrubbed
  dsimp only
  split
  · exact .inl rfl
  · exact .inr ⟨rfl, rfl⟩

theorem State.scrubNext_of_some {s : State} (flips : List (Nat × BitVec 13)) {x : Nat × Nat}
    (hfrom : s.mcx.scrubFrom s.mcx.scrubPos = some x) : s.scrubNext flips = s.scrubbed flips x := by
  rw [State.scrubNext, hfrom]

theorem scrubTick_reads {s : State} {t n line : Nat} (hm : s.mainOn = true) (hready : s.mcx.ready = true)
    (hfrom : s.mcx.scrubFrom s.mcx.scrubPos = some (n, line)) (hclean : (s.mcx.decodeLine line).2 = ([], false))
    (hwritten : s.mcx.isWritten (line / 64) = true) (hdue : s.mcx.scrubAt + s.regN 0x480015 ≤ max s.now t) :
    Gives (.scrubTick t []) s fun u => OnlyChanges [.mcx, .kpp, .evr] s u ∧ u.mcx.data = s.mcx.data ∧
      (u.mcx.scrubPos = n + 1 ∨ (u.mcx.scrubPos = 0 ∧ u.mcx.scrubPasses = sat32 s.mcx.scrubPasses)) := by
  refine gives_of_command (execScrubTick_eq t [] s) hm (a := (s.atTime t).scrubTimed.scrubbed [] (n, line)) ?_ ?_
  · refine (if_neg fun h => ?_).trans (State.scrubNext_of_some [] hfrom)
    rcases Bool.or_eq_true_iff.1 h with h | h
    · simp [hready] at h
    · exact Nat.not_lt.2 hdue (of_decide_eq_true h)
  rintro u hl ⟨-, hunits, -⟩
  have hmcx : _ = u.mcx := hunits .mcx (by decide)
  have hpos := (s.atTime t).scrubTimed.scrubbed_pos [] (n, line)
  rw [State.readLine_clean (s := (s.atTime t).scrubTimed) .scrub hready hwritten hclean] at hpos
  have hpasses : _ = s.mcx.scrubPasses :=
    State.moved_keeps Mcx.scrubPasses (fun _ => rfl) (s.atTime t).scrubTimed .scrub 64
  refine ⟨OnlyChanges.mono (l := [.kpp, .mcx, .evr]) (by decide) hl, ?_, ?_⟩
  · rw [← hmcx]
    exact ((s.atTime t).scrubTimed.scrubbed_bytes (n, line)).1
  · rw [← hmcx, ← hpasses]
    exact hpos

theorem scrubTick_waits {s : State} {t : Nat} (flips : List (Nat × BitVec 13)) (hm : s.mainOn = true)
    (hearly : max s.now t < s.mcx.scrubAt + s.regN 0x480015) :
    Gives (.scrubTick t flips) s fun u => OnlyChanges [] s u :=
  gives_unchanged (execScrubTick_eq t flips s) hm (if_pos (Bool.or_eq_true_iff.2 (.inr (decide_eq_true hearly))))

/-! ### A line copied into its spare (10 R261) -/

theorem Mcx.storeAll_keeps (m : Mcx) (base : Nat) (l : List (Nat × Byte)) :
    ∃ d c, m.storeAll base l = { m with data := d, check := c } := by
  induction l generalizing m with
  | nil => exact ⟨m.data, m.check, rfl⟩
  | cons x l ih => exact ih (m.store (base + x.1 % 64) x.2)

/-- The table, the lines that wait and the watch list once `line` stands in spare `x`. -/
def Mcx.remapped (m : Mcx) (line : Nat) (rest : List Nat) (x : Nat × Nat) : Mcx :=
  { m with
    copies := rest, remap := m.remap ++ [{ line, chan := x.1, spare := x.2 }]
    watch := m.watch.filter fun w => w.line != line }

/-- The bytes of a line, each with its number. -/
def numbered (bs : List Byte) : List (Nat × Byte) := (List.range 64).map fun i => (i, bs.getD i 0)

theorem mem_numbered {bs : List Byte} {x : Nat × Byte} : x ∈ numbered bs ↔ x.1 < 64 ∧ x.2 = bs.getD x.1 0 := by
  rw [numbered, List.mem_map]
  constructor
  · rintro ⟨i, hi, rfl⟩
    exact ⟨List.mem_range.1 hi, rfl⟩
  · rintro ⟨hlt, hbyte⟩
    exact ⟨x.1, List.mem_range.2 hlt, Prod.ext rfl hbyte.symm⟩

theorem nodup_numbered (bs : List Byte) : ((numbered bs).map Prod.fst).Nodup := by
  rw [numbered, List.map_map]
  exact (List.map_id _).symm ▸ List.nodup_range

/-- The copy is a write of the whole spare. -/
theorem Mcx.copied_eq (m : Mcx) (line : Nat) (rest : List Nat) (x : Nat × Nat) :
    m.copied line rest x =
      (m.remapped line rest x).storeAll (64 * (33554432 + 32 * x.1 + x.2)) (numbered (m.decodeLine line).1) := by
  rw [Mcx.storeAll, numbered, List.foldl_map]
  refine List.foldl_ext _ _ _ fun v i hi => ?_
  rw [Nat.mod_eq_of_lt (List.mem_range.1 hi)]

theorem Mcx.copied_reads {m : Mcx} (line : Nat) (rest : List Nat) (x : Nat × Nat) (h : m.canonical) {i : Nat} (hi : i < 64) :
    memGet (m.copied line rest x).data (64 * (33554432 + 32 * x.1 + x.2) + i) = (m.decodeLine line).1.getD i 0 := by
  rw [Mcx.copied_eq]
  exact Mcx.storeAll_get (m := m.remapped line rest x) _ (x := (i, (m.decodeLine line).1.getD i 0)) h
    (fun _ hx => (mem_numbered.1 hx).1) (nodup_numbered _) (mem_numbered.2 ⟨hi, rfl⟩)

theorem State.copied_remaps (s : State) (line : Nat) (rest : List Nat) (x : Nat × Nat) :
    (s.copied line rest x).mcx.copies = rest ∧
      (s.copied line rest x).mcx.remap = s.mcx.remap ++ [{ line, chan := x.1, spare := x.2 }] ∧
      (s.copied line rest x).mcx.watch = s.mcx.watch.filter fun w => w.line != line := by
  obtain ⟨d, c, hkept⟩ := (s.mcx.remapped line rest x).storeAll_keeps (64 * (33554432 + 32 * x.1 + x.2))
    (numbered (s.mcx.decodeLine line).1)
  rw [State.copied, State.raise_mcx, Mcx.copied_eq, hkept]
  exact ⟨State.moved_keeps Mcx.copies (fun _ => rfl) _ _ _, State.moved_keeps Mcx.remap (fun _ => rfl) _ _ _,
    State.moved_keeps Mcx.watch (fun _ => rfl) _ _ _⟩

theorem State.copyNext_of_spare {s : State} {line : Nat} {rest : List Nat} {x : Nat × Nat} (hcopies : s.mcx.copies = line :: rest)
    (hspare : s.mcx.freeSpare line = some x) : s.copyNext = s.copied line rest x := by
  rw [State.copyNext, hcopies]
  dsimp only
  rw [hspare]

theorem remapCopyComplete_copies {s : State} {t line : Nat} {rest : List Nat} {x : Nat × Nat} (hm : s.mainOn = true)
    (hcopies : s.mcx.copies = line :: rest) (hspare : s.mcx.freeSpare line = some x) (hs : MemoryCanonical s) :
    Gives (.remapCopyComplete t) s fun u => OnlyChanges [.mcx, .kpp, .evr] s u ∧ u.mcx.copies = rest ∧
      u.mcx.remap = s.mcx.remap ++ [{ line, chan := x.1, spare := x.2 }] ∧
      (∀ i, i < 64 → memGet u.mcx.data (64 * (33554432 + 32 * x.1 + x.2) + i) = (s.mcx.decodeLine line).1.getD i 0) ∧
      (∀ w, w ∈ u.mcx.watch → w.line ≠ line) := by
  refine gives_of_command (execRemapCopyComplete_eq t s) hm (a := (s.atTime t).copied line rest x)
    (State.copyNext_of_spare hcopies hspare) ?_
  rintro u hl ⟨-, hunits, -⟩
  have hmcx : _ = u.mcx := hunits .mcx (by decide)
  obtain ⟨hrest, hremap, hwatch⟩ := (s.atTime t).copied_remaps line rest x
  obtain ⟨hdata, -⟩ := State.copied_bytes (s.atTime t) line rest x
  rw [← hmcx, hrest, hremap, hwatch, hdata]
  refine ⟨OnlyChanges.mono (l := [.kpp, .mcx, .evr]) (by decide) hl, rfl, rfl,
    fun i => Mcx.copied_reads line rest x ((memoryCanonical_iff s).1 hs), fun w hw => ?_⟩
  have hother : (w.line != line) = true := (List.mem_filter.1 hw).2
  exact bne_iff_ne.1 hother

/-! ### The events of the controller itself (10 R257, R260, R261) -/

/-- A command whose effect is the controller `m` leaves that. -/
theorem gives_mcx {i : Instr} {t : Nat} {fr : List UnitId} {f : State → State} {s : State} {m : Mcx}
    (he : exec i s = runMain t fr f s) (hm : s.mainOn = true) (ha : f (s.atTime t) = { s.atTime t with mcx := m })
    (hchanges : changesOf i = [.mcx]) (hframe : .mcx ∉ fr) :
    Gives i s fun u => OnlyChanges [.mcx] s u ∧ u.mcx = m := by
  refine gives_of_command he hm ha ?_
  rintro u hl ⟨-, hunits, -⟩
  exact ⟨hchanges ▸ hl, (hunits .mcx hframe : m = u.mcx).symm⟩

/-- Settles O37: each event is the branch of its command that acts, or none does; what a fill, a scrubbed line and a copy leave
is read off the controller they make. -/
theorem memoryBecomesReadyAndIsScrubbed : Obligations.MemoryBecomesReadyAndIsScrubbed := by
  unfold Obligations.MemoryBecomesReadyAndIsScrubbed
  refine ⟨⟨fun s t hm hready => ?ready, fun s t h => bootFillComplete_fills, fun s t hm hacts => ?clear⟩,
    fun s t n line => scrubTick_reads, fun s t fl => scrubTick_waits fl, fun s t hm => ?watch,
    fun s t line rest x => remapCopyComplete_copies⟩
  case ready => exact gives_mcx (exec_mcxReady s) hm (if_neg (by simp [hready])) rfl (by decide)
  case clear => exact gives_mcx (exec_remapClear s) hm ((if_pos hacts).trans (if_pos rfl)) rfl (by decide)
  case watch => exact gives_mcx (exec_watchEntryExpiry s) hm rfl rfl (by decide)

end Sys2Proof.Machine
end

section
/-!
SUPPORT. What a unit numbered for a port leaves there, queued or dropped; the blocks of a finished column and of a copied one; and
the datagrams of the reduced stream (11 R275 to R283).
-/
namespace Sys2Proof.Machine

/-! ### The ports -/

@[simp] theorem State.outPort_setOutPort (s : State) (n : Nat) (o : OutPort) : (s.setOutPort n o).outPort n = o := by
  unfold State.outPort State.setOutPort
  split <;> rfl

theorem State.outPort_congr {s u : State} (h : u.fmt = s.fmt) (n : Nat) : u.outPort n = s.outPort n := by
  rw [State.outPort, State.outPort, h]

@[simp] theorem State.outPort_restall (s : State) (n : Nat) : (s.restall n).outPort n = s.outPort n :=
  State.outPort_congr (State.setLink_fmt _ _ _) n

@[simp] theorem State.outPort_raise (s : State) (code sub d n : Nat) : (s.raise code sub d).outPort n = s.outPort n :=
  State.outPort_congr (State.raise_fmt _ _ _ _) n

@[simp] theorem State.outPort_feedRing (s : State) (kind : Nat) (seq frame : Word) (bytes : List Byte) (n : Nat) :
    (s.feedRing kind seq frame bytes).outPort n = s.outPort n := by
  unfold State.feedRing
  split <;> rfl

/-- The event of a drop only marks the port, so that a frame raises it once (11 R280). -/
theorem State.outPort_dropEvent (s : State) (n : Nat) :
    (s.dropEvent n).outPort n = { s.outPort n with dropRaised := true } := by
  unfold State.dropEvent
  dsimp only
  split
  next hraised => rw [← hraised]
  next => rw [State.outPort_raise, State.outPort_setOutPort]

/-! ### A unit numbered for a port (11 R278, R280, R281) -/

/-- Port `o` has numbered unit `u` and queued it, as `p`. -/
def OutPort.Queues (o p : OutPort) (u : OutUnit) : Prop :=
  p.seq = o.seq + 1 ∧ p.queue = o.queue ++ [u] ∧ p.store = o.store + u.bytes.length ∧ p.dropped = o.dropped

/-- Port `o` has numbered a unit and dropped it, as `p`. -/
def OutPort.Drops (o p : OutPort) : Prop :=
  p.seq = o.seq + 1 ∧ p.queue = o.queue ∧ p.dropped = sat32 o.dropped ∧ p.gap = true

/-- Port `n` takes a unit of a kind and a length: it is Active, waits for no frame header, and its store has room. -/
def State.PortTakes (s : State) (n kind len : Nat) : Prop :=
  (s.link n).state = linkActive ∧ (s.outPort n).waitHeader = false ∧ (s.outPort n).store + len ≤ storeRoom kind

section Unit
variable {s : State} {n kind : Nat} (frame : Word) {mk : Word → Bool → List Byte}

theorem State.queueUnit_queues (h : s.PortTakes n kind (mk (s.outPort n).seq (s.outPort n).gap).length) :
    (s.outPort n).Queues ((s.queueUnit n kind frame mk).outPort n)
      { kind, seq := (s.outPort n).seq, frame, bytes := mk (s.outPort n).seq (s.outPort n).gap } := by
  obtain ⟨hactive, hheader, hroom⟩ := h
  unfold State.queueUnit
  dsimp only
  rw [if_pos (by simp [hactive, hheader, hroom]), State.outPort_restall, State.outPort_setOutPort]
  exact ⟨rfl, rfl, rfl, rfl⟩

/-- Only a frame header ends the wait for one (11 R281). -/
theorem State.queueUnit_drops (hkind : kind ≠ unitHeader)
    (h : ¬ s.PortTakes n kind (mk (s.outPort n).seq (s.outPort n).gap).length) :
    (s.outPort n).Drops ((s.queueUnit n kind frame mk).outPort n) := by
  unfold State.queueUnit
  dsimp only
  rw [if_neg ?refused, State.outPort_dropEvent, State.outPort_setOutPort]
  · exact ⟨rfl, rfl, rfl, rfl⟩
  case refused =>
    simp only [beq_eq_false_iff_ne.2 hkind, Bool.and_false, Bool.not_false, Bool.and_true, Bool.and_eq_true,
      beq_iff_eq, Bool.not_eq_true', decide_eq_true_eq]
    exact fun ⟨⟨hactive, hheader⟩, hroom⟩ => h ⟨hactive, hheader, hroom⟩

end Unit

/-! ### The blocks of a column (11 R271 to R273, R275, R277) -/

/-- The point block of a column under a number (11 R271, R272). -/
def ColCtx.pointBlock (c : ColCtx) (device : Nat) (outs : List CellOut) (seq : Word) (gap : Bool) : List Byte :=
  let body := outs.flatMap fun o => (cellRecords c o).flatMap Prod.snd
  blockHeader device unitPoints c outs.length body.length c.plan.recordsPerCell seq gap ++ body

/-- With a stream of points, the block is numbered for its port, and the ring is fed with it. -/
theorem State.queuePoints_eq (s : State) {c : ColCtx} (outs : List CellOut) (hpoints : c.plan.output ≠ 3) :
    s.queuePoints c outs =
      (s.queueUnit c.plan.pointPort unitPoints c.frame (c.pointBlock s.part.device outs)).feedRing 1
        (s.outPort c.plan.pointPort).seq c.frame
        (c.pointBlock s.part.device outs (s.outPort c.plan.pointPort).seq (s.outPort c.plan.pointPort).gap) :=
  if_neg hpoints

theorem State.queuePoints_touches (s : State) (c : ColCtx) (outs : List CellOut) :
    OnlyChanges outputUnits s (s.queuePoints c outs) :=
  OnlyChanges.ite _ (State.feedRing_touches s _ _ _ _)
    ((State.queueUnit_touches s _ _ _ _).trans (State.feedRing_touches _ _ _ _ _))

theorem State.queueHists_touches (s : State) (c : ColCtx) (entries : List (List Byte)) :
    OnlyChanges outputUnits s (s.queueHists c entries) :=
  OnlyChanges.ite _ (OnlyChanges.refl _ s)
    (OnlyChanges.ite_after _ (State.queueUnit_touches s _ _ _ _) (State.feedRing_touches _ _ _ _ _))

theorem State.queueHists_points (s : State) {c : ColCtx} (entries : List (List Byte)) (hpoints : c.plan.output = 1) :
    s.queueHists c entries = s :=
  if_pos (.inl hpoints)

/-- The state once the point block of the finished column `c` has been numbered, and its records have reached the reduced
stream. -/
def State.columnQueued (s : State) (c : ColCtx) : State :=
  let outs := c.outs s.prx.outCells
  let v := s.queuePoints c outs
  { v with fmt := { v.fmt with eth := v.fmt.eth.column v.part.device c outs }, pipe := { v.pipe with doneQueued := true } }

section Column
variable {s : State} {t : Nat} {c : ColCtx} (hm : s.mainOn = true) (hdone : s.pipe.done = some c)
  (hopen : s.pipe.doneQueued = false) (hvisit : c.visit + 1 ≠ c.plan.columns) (hpoints : c.plan.output = 1)
include hm hdone hopen hvisit hpoints

/-- The block of a finished column that is not the frame's last is numbered for the port of the point stream, and changes that
port as a unit numbered there does. -/
theorem columnBlockQueue_numbers : Gives (.columnBlockQueue t) s fun u =>
    OnlyChanges [.pipe, .fmt, .linkA, .linkB, .kpp, .evr] s u ∧ u.pipe = { s.pipe with doneQueued := true } ∧
      u.outPort c.plan.pointPort = ((s.atTime t).queueUnit c.plan.pointPort unitPoints c.frame
        (c.pointBlock s.part.device (c.outs s.prx.outCells))).outPort c.plan.pointPort := by
  refine gives_of_command (exec_columnBlockQueue s) hm (a := (s.atTime t).columnQueued c) ?_ ?_
  · simp only [State.atTime_pipe, hdone, hopen, Bool.false_eq_true, if_false, if_neg hvisit,
      State.queueHists_points _ _ hpoints]
    rfl
  rintro u hl ⟨-, hunits, -⟩
  have hpipe : _ = u.pipe := hunits .pipe (by decide)
  have hfmt : _ = u.fmt := hunits .fmt (by decide)
  have hkept : s.pipe = ((s.atTime t).queuePoints c (c.outs s.prx.outCells)).pipe :=
    (State.queuePoints_touches (s.atTime t) c _).2 .pipe (by decide)
  refine ⟨hl.mono (l := [.kpp, .pipe, .fmt, .linkA, .linkB, .evr]) (by decide), ?_, ?_⟩
  · rw [← hpipe, hkept]
    rfl
  · have hqueued : ((s.atTime t).columnQueued c).outPort c.plan.pointPort =
        ((s.atTime t).queuePoints c (c.outs s.prx.outCells)).outPort c.plan.pointPort := rfl
    rw [State.outPort_congr hfmt.symm, hqueued, State.queuePoints_eq _ _ (by rw [hpoints]; decide),
      State.outPort_feedRing]
    rfl

end Column

/-- The entries of the copied column `c`, one for each cell it exports (11 R273). -/
def State.copiedEntries (s : State) (c : ColCtx) : List (List Byte) :=
  (c.cells.filter fun x => c.plan.exported x.row c.column).map fun x =>
    histEntry c.plan x.row (c.coarseLit x.port) (c.zoomLit x.port) ((mget s.hac.ext x.channel).getD {})

/-- The state with the buffer of the Pool released. -/
def State.poolReleased (s : State) : State :=
  { s with pipe := { s.pipe with ext := none }, hac := { s.hac with ext := [] } }

/-- The state once column `c` has been copied and its block queued, with the trailers after the last column. -/
def State.columnCopied (s : State) (c : ColCtx) : State :=
  let v := s.poolReleased.queueHists c (s.copiedEntries c)
  if c.visit + 1 = c.plan.columns then v.queueTrailers c.frame else v

theorem State.columnCopied_touches (s : State) (c : ColCtx) : OnlyChanges outputUnits s.poolReleased (s.columnCopied c) :=
  OnlyChanges.ite_after _ (State.queueHists_touches _ c _) (State.queueTrailers_touches _ _)

theorem h4ColumnCopy_releases {s : State} {t : Nat} {c : ColCtx} (hm : s.mainOn = true) (hext : s.pipe.ext = some c)
    (hruns : c.plan.runsPrx = false) : Gives (.h4ColumnCopy t) s fun u =>
      OnlyChanges [.pipe, .hac, .fmt, .linkA, .linkB, .kpp, .evr] s u ∧ u.pipe = { s.pipe with ext := none } ∧
        u.hac = { s.hac with ext := [] } := by
  refine gives_of_command (exec_h4ColumnCopy s) hm (a := (s.atTime t).columnCopied c) ?_ ?_
  · simp only [State.atTime_pipe, hext, hruns, Bool.false_eq_true, if_false]
    rfl
  rintro u hl ⟨-, hunits, -⟩
  obtain ⟨-, hkept⟩ := (s.atTime t).columnCopied_touches c
  exact ⟨hl.mono (l := [.kpp, .pipe, .hac, .fmt, .linkA, .linkB, .evr]) (by decide),
    ((hkept .pipe (by decide)).trans (hunits .pipe (by decide))).symm,
    ((hkept .hac (by decide)).trans (hunits .hac (by decide))).symm⟩

/-! ### The reduced stream (11 R282, R283) -/

/-- The stream once its oldest datagram `d` has left for its price, 8,000 units of 1/1,000 bit a byte. -/
def Eth.sentFirst (e : Eth) (d : List Byte) (rest : List (List Byte)) : Eth :=
  { e with ready := rest, tokens := e.tokens - 8000 * d.length, sent := sat32 e.sent }

/-- The stream once its oldest datagram has been dropped. -/
def Eth.droppedFirst (e : Eth) (rest : List (List Byte)) : Eth := { e with ready := rest, dropped := sat32 e.dropped }

/-- The state with the reduced stream `e`. -/
def State.setEth (s : State) (e : Eth) : State := { s with fmt := { s.fmt with eth := e } }

section Datagram
variable {s : State} {t : Nat} {d : List Byte} {rest : List (List Byte)} (hm : s.mainOn = true)
  (hready : s.fmt.eth.ready = d :: rest) (hon : s.fmt.eth.on = true) (hkpp : s.kppReady = false)
include hm hready hon hkpp

theorem ethStreamDatagram_sends (htokens : 8000 * d.length ≤ (s.fmt.eth.refill (max s.now t)).tokens) :
    let e := s.fmt.eth.refill (max s.now t)
    Gives (.ethStreamDatagram t) s fun u => OnlyChanges [.fmt] s u ∧
      u.out = [.datagram s.ipv4 udpPort e.addr e.port d] ∧ u.fmt = { s.fmt with eth := e.sentFirst d rest } := by
  intro e
  have hkpp : (s.atTime t).kppReady = false := hkpp
  refine gives_of_command (exec_ethStreamDatagram s) hm
    (a := ((s.atTime t).setEth (e.sentFirst d rest)).send (.datagram s.ipv4 udpPort e.addr e.port d)) ?_ ?_
  · simp only [State.atTime_fmt, State.atTime_now, hready, hon, hkpp, Bool.not_true, Bool.or_self, Bool.false_eq_true,
      if_false]
    exact if_neg (Nat.not_lt.2 htokens)
  · rintro u hl ⟨hout, hunits, -⟩
    exact ⟨hl, hout, (hunits .fmt (by decide)).symm⟩

theorem ethStreamDatagram_drops (htokens : (s.fmt.eth.refill (max s.now t)).tokens < 8000 * d.length) :
    Gives (.ethStreamDatagram t) s fun u => OnlyChanges [.fmt] s u ∧ u.out = [] ∧
      u.fmt = { s.fmt with eth := (s.fmt.eth.refill (max s.now t)).droppedFirst rest } := by
  have hkpp : (s.atTime t).kppReady = false := hkpp
  refine gives_of_command (exec_ethStreamDatagram s) hm
    (a := (s.atTime t).setEth ((s.fmt.eth.refill (max s.now t)).droppedFirst rest)) ?_ ?_
  · simp only [State.atTime_fmt, State.atTime_now, hready, hon, hkpp, Bool.not_true, Bool.or_self, Bool.false_eq_true,
      if_false]
    exact if_pos htokens
  · rintro u hl ⟨hout, hunits, -⟩
    exact ⟨hl, hout, (hunits .fmt (by decide)).symm⟩

end Datagram

/-- Settles O36: the point block of a column is a unit that its port takes or drops, and the ring and the reduced stream leave the
port as that made it; the copy of an H4 column and the two ends of a datagram are the branches of their commands. -/
theorem blocksAreQueuedOrDropped : Obligations.BlocksAreQueuedOrDropped := by
  unfold Obligations.BlocksAreQueuedOrDropped
  refine ⟨?block, fun s t c => h4ColumnCopy_releases, ?datagram⟩
  case block =>
    intro s t c hm hdone hopen hvisit hpoints _ n o outs body bytes
    refine (columnBlockQueue_numbers hm hdone hopen hvisit hpoints).mono fun u ⟨hl, hpipe, hport⟩ => ⟨hl, hpipe, ?_⟩
    have htakes : s.PortTakes n unitPoints bytes.length → o.Queues (u.outPort n) _ := fun h =>
      hport ▸ State.queueUnit_queues (s := s.atTime t) c.frame (mk := c.pointBlock s.part.device outs) h
    have hdrops : ¬ s.PortTakes n unitPoints bytes.length → o.Drops (u.outPort n) := fun h =>
      hport ▸ State.queueUnit_drops (s := s.atTime t) c.frame (mk := c.pointBlock s.part.device outs) (by decide) h
    refine ⟨?_, fun hactive hheader hroom => (htakes ⟨hactive, hheader, hroom⟩).2, fun h => (hdrops ?_).2⟩
    · by_cases h : s.PortTakes n unitPoints bytes.length
      · exact (htakes h).1
      · exact (hdrops h).1
    · rintro ⟨hactive, hheader, hroom⟩
      rcases h with h | h | h
      · exact h hactive
      · exact Bool.false_ne_true (hheader.symm.trans h)
      · exact Nat.not_le.2 h hroom
  case datagram =>
    intro s t d rest hm hready hon hkpp
    exact ⟨ethStreamDatagram_sends hm hready hon hkpp, ethStreamDatagram_drops hm hready hon hkpp⟩

end Sys2Proof.Machine
end

section
/-!
SUPPORT. The Druelo links: what a command makes of the link of its port, and what a message of the back channel and its loss do
(12 R300 to R303).
-/
namespace Sys2Proof.Machine

/-! ### The link of a port -/

@[simp] theorem State.link_setLink (s : State) (n : Nat) (l : Link) : (s.setLink n l).link n = l := by
  unfold State.link State.setLink
  split <;> rfl

theorem State.link_setLink_other (s : State) {n : Nat} (l : Link) (hn : n < 2) :
    (s.setLink n l).link (1 - n) = s.link (1 - n) := by
  obtain rfl | rfl : n = 0 ∨ n = 1 := by omega
  · rfl
  · rfl

@[simp] theorem State.setLink_setLink (s : State) (n : Nat) (l m : Link) :
    (s.setLink n l).setLink n m = s.setLink n m := by
  unfold State.setLink
  split <;> rfl

theorem State.link_congr {s u : State} (ha : u.linkA = s.linkA) (hb : u.linkB = s.linkB) (n : Nat) :
    u.link n = s.link n := by
  rw [State.link, State.link, ha, hb]

@[simp] theorem State.link_atTime (s : State) (t n : Nat) : (s.atTime t).link n = s.link n := rfl

@[simp] theorem State.hasPort_atTime (s : State) (t n : Nat) : (s.atTime t).hasPort n = s.hasPort n := rfl

@[simp] theorem State.link_setOutPort (s : State) (n k : Nat) (o : OutPort) : (s.setOutPort n o).link k = s.link k :=
  State.link_congr (State.setOutPort_linkA _ _ _) (State.setOutPort_linkB _ _ _) k

@[simp] theorem State.link_raise (s : State) (code sub d k : Nat) : (s.raise code sub d).link k = s.link k :=
  State.link_congr (State.raise_linkA _ _ _ _) (State.raise_linkB _ _ _ _) k

@[simp] theorem State.link_dropEvent (s : State) (n k : Nat) : (s.dropEvent n).link k = s.link k := by
  unfold State.dropEvent
  dsimp only
  split
  · rfl
  · rw [State.link_raise, State.link_setOutPort]

/-- A command whose frame holds neither link leaves the links as its effect left them. -/
theorem Leaves.link {fr : List UnitId} {a u : State} (h : Leaves fr a u) (ha : .linkA ∉ fr) (hb : .linkB ∉ fr) (n : Nat) :
    u.link n = a.link n :=
  State.link_congr (h.2.1 .linkA ha).symm (h.2.1 .linkB hb).symm n

/-- A command whose effect writes the link of one port changes nothing else. -/
theorem gives_setLink {i : Instr} {t port : Nat} {fr : List UnitId} {f : State → State} {s : State} {l : Link}
    (he : exec i s = runMain t fr f s) (hm : s.mainOn = true) (hport : port < 2) (hfr : .linkA ∉ fr ∧ .linkB ∉ fr)
    (ha : f (s.atTime t) = (s.atTime t).setLink port l) : Gives i s fun u => LinkBecomes s u port l := by
  refine gives_of_effect he hm ha (State.setLink_touches _ _ _) fun u hl hleft => ⟨hl, ?_, ?_⟩
  · rw [hleft.link hfr.1 hfr.2, State.link_setLink]
  · rw [hleft.link hfr.1 hfr.2, State.link_setLink_other _ _ hport]
    rfl

/-- A command keeps to its list, and leaves the link of a port as its effect `a` has it. -/
theorem gives_link {i : Instr} {t : Nat} (port : Nat) {fr : List UnitId} {f : State → State} {s a : State}
    (he : exec i s = runMain t fr f s) (hm : s.mainOn = true) (hfr : .linkA ∉ fr ∧ .linkB ∉ fr) (ha : f (s.atTime t) = a) :
    Gives i s fun u => OnlyChanges (changesOf i) s u ∧ u.link port = a.link port :=
  gives_of_command he hm ha fun _ hl hleft => ⟨hl, hleft.link hfr.1 hfr.2 port⟩

/-! ### Exits from Active and returns to Detect (12 R303) -/

/-- The stall clock moves nothing but itself. -/
theorem Link.stall_eq (l : Link) (now : Nat) (waiting : Bool) :
    ∃ ns since, l.stall now waiting = { l with stallNs := ns, stallFrom := since } := by
  unfold Link.stall
  dsimp only
  (repeat' split) <;> exact ⟨_, _, rfl⟩

theorem State.link_discardUnits (s : State) (n : Nat) (runs : Bool) :
    ∃ abort, (s.discardUnits n runs).link n = { s.link n with wire := none, pos := 0, abort } := by
  unfold State.discardUnits
  dsimp only
  split
  · exact ⟨_, State.link_setLink _ _ _⟩
  · exact ⟨_, (State.link_dropEvent _ _ _).trans (State.link_setLink _ _ _)⟩

/-- An exit from Active counts itself and its cause, gives up the unit in flight and stops the stall clock; the rest of the
link stays. -/
theorem State.link_exitActive (s : State) (n cause : Nat) (runs : Bool) :
    ∃ abort ns since, (s.exitActive n cause runs).link n = { s.link n with
      wire := none, pos := 0, abort, stallNs := ns, stallFrom := since, exits := sat32 (s.link n).exits, lastCause := cause
      state := linkDetect } := by
  obtain ⟨abort, hdiscard⟩ := State.link_discardUnits s n runs
  unfold State.exitActive
  dsimp only
  rw [State.link_raise, State.link_setLink, hdiscard]
  obtain ⟨ns, since, hstall⟩ := Link.stall_eq ({ s.link n with
    wire := none, pos := 0, abort, exits := sat32 (s.link n).exits, lastCause := cause, state := linkDetect } : Link)
    (s.discardUnits n runs).now false
  exact ⟨abort, ns, since, hstall⟩

/-- A return to Detect keeps the record of losses, from Active or from an attempt. -/
theorem State.link_toDetect (s : State) (n cause : Nat) (full : Bool) :
    ((s.toDetect n cause full).link n).state = linkDetect ∧ ((s.toDetect n cause full).link n).lost = (s.link n).lost ∧
      ((s.toDetect n cause full).link n).losses = (s.link n).losses := by
  unfold State.toDetect
  dsimp only
  rw [State.link_setLink]
  by_cases hactive : (s.link n).state = linkActive
  · obtain ⟨abort, ns, since, hexit⟩ := State.link_exitActive s n cause true
    rw [if_pos hactive, hexit]
    cases full <;> exact ⟨rfl, rfl, rfl⟩
  · rw [if_neg hactive, State.link_setLink]
    cases full <;> exact ⟨rfl, rfl, rfl⟩

/-- The link back in Detect from an attempt, at 4 lanes where `full`. -/
def Link.attemptLeft (l : Link) (now : Nat) (full : Bool) : Link :=
  let d := l.attemptEnded.detect now
  if full then d.full else d

theorem Link.attemptLeft_detects (l : Link) (now : Nat) (full : Bool) :
    (l.attemptLeft now full).state = linkDetect ∧ (l.attemptLeft now full).spaceFrom = some l.attemptAt := by
  cases full <;> exact ⟨rfl, rfl⟩

theorem Link.not_active_of_training {l : Link} (h : l.training = true) : l.state ≠ linkActive := by
  intro hactive
  simp [Link.training, hactive, linkActive, linkPhase, linkEqualize, linkAlign] at h

/-- A Retrain in an attempt ends it (12 R303). -/
theorem State.retrain_of_training {s : State} {n : Nat} (full : Bool) (h : (s.link n).training = true) :
    s.retrain n full = s.setLink n ((s.link n).attemptLeft s.now full) := by
  unfold State.retrain State.toDetect
  simp only [h, Bool.true_or, if_true, if_neg (Link.not_active_of_training h), State.link_setLink, State.setLink_now,
    State.setLink_setLink]
  rfl

/-! ### Messages (12 R300, R301) -/

/-- A valid message has been heard at `now`. -/
def Link.heard (l : Link) (now : Nat) : Link := { l with lastMsg := now, lost := false }

/-- A message has been ignored and counted. -/
def Link.rejected (l : Link) : Link := { l with errors := sat32 l.errors, statusRun := 0 }

theorem backMessage_valid {s : State} {n type : Nat} {m : BackMsg} (f : State → State) (h : ValidMessage s n type m) :
    backMessage s n type m f = f (s.setLink n ((s.link n).heard s.now)) := by
  obtain ⟨-, hhas, -, hlen, hcrc⟩ := h
  have hright : ¬ (m.payload.length ≠ 8 ∨ crc8 (BitVec.ofNat 8 type :: m.payload) ≠ m.crc) := by
    rw [hlen, hcrc]
    simp
  unfold backMessage
  rw [if_neg (by simp [hhas])]
  exact if_neg hright

theorem backMessage_wrong {s : State} {n type : Nat} {m : BackMsg} (f : State → State) (hhas : s.hasPort n = true)
    (hcrc : crc8 (BitVec.ofNat 8 type :: m.payload) ≠ m.crc) :
    backMessage s n type m f = s.setLink n (s.link n).rejected := by
  unfold backMessage
  rw [if_neg (by simp [hhas])]
  exact if_pos (.inr hcrc)

/-- A message whose CRC-8 is wrong is ignored and counted, whatever its type (12 R300). -/
theorem wrongMessage_rejected {i : Instr} {s : State} {t port type : Nat} {m : BackMsg} {fr : List UnitId}
    {g : State → State → State} (he : exec i s = runMain t fr (fun v => backMessage v port type m (g v)) s)
    (hfr : .linkA ∉ fr ∧ .linkB ∉ fr) (hm : s.mainOn = true) (hhas : s.hasPort port = true) (hport : port < 2)
    (hcrc : crc8 (BitVec.ofNat 8 type :: m.payload) ≠ m.crc) :
    ∃ u, exec i s = .next u ∧ u.link port = (s.link port).rejected :=
  (gives_setLink he hm hport hfr (backMessage_wrong (s := s.atTime t) _ hhas hcrc)).mono fun _ h => h.2.1

theorem backChannelError_rejected {s : State} {t port : Nat} (hm : s.mainOn = true) (hhas : s.hasPort port = true)
    (hport : port < 2) : Gives (.backChannelError t port) s fun u => LinkBecomes s u port (s.link port).rejected :=
  gives_setLink (exec_backChannelError s) hm hport (by decide) (if_neg (by simp [hhas]))

section Valid
variable {s : State} {t port : Nat} {m : BackMsg}

/-- A valid message is heard, and writes what its type makes of the link that heard it. -/
theorem validMessage_sets {i : Instr} {type : Nat} {fr : List UnitId} {g : State → State → State} {l : Link}
    (he : exec i s = runMain t fr (fun v => backMessage v port type m (g v)) s) (hfr : .linkA ∉ fr ∧ .linkB ∉ fr)
    (h : ValidMessage s port type m)
    (hg : g (s.atTime t) ((s.atTime t).setLink port ((s.link port).heard (max s.now t))) = (s.atTime t).setLink port l) :
    Gives i s fun u => LinkBecomes s u port l := by
  obtain ⟨hm, -, hport, -⟩ := id h
  exact gives_setLink he hm hport hfr ((backMessage_valid (s := s.atTime t) _ h).trans hg)

theorem eqReport_keeps (h : ValidMessage s port 2 m) : Gives (.eqReport t port m) s fun u => LinkBecomes s u port
    { (s.link port).heard (max s.now t) with
      eqReports := overlay (s.link port).eqReports (8 * (uAt m.payload 0 1 % 4)) m.payload } := by
  refine validMessage_sets (exec_eqReport s) (by decide) h ?_
  rw [State.link_setLink, State.setLink_setLink]
  rfl

theorem alignReport_keeps (h : ValidMessage s port 3 m) : Gives (.alignReport t port m) s fun u => LinkBecomes s u port
    { (s.link port).heard (max s.now t) with deskew := bytesAt m.payload 0 4 } := by
  refine validMessage_sets (exec_alignReport s) (by decide) h ?_
  rw [State.link_setLink, State.setLink_setLink]

/-- What a Status of payload `b` shows of the receiver (12 R301). -/
def Link.shown (l : Link) (b : List Byte) : Link :=
  { l with rxState := uAt b 0 1, phase := uAt b 1 1 % 16, equal := uAt b 2 1 % 16, lock := uAt b 3 1 % 16 }

/-- In Detect a Status is one more of a run of up to four (12 R303). -/
theorem State.status_detect {s : State} {n : Nat} {b : List Byte} (h : (s.link n).state = linkDetect) :
    s.status n b = s.setLink n { (s.link n).shown b with statusRun := min 4 ((s.link n).statusRun + 1) } := by
  unfold State.status
  exact if_pos h

theorem Link.not_behind_of_detect {l : Link} (c : Word) (h : l.state = linkDetect) : ¬ l.behind c = true := by
  simp [Link.behind, h, linkDetect, linkActive]

theorem statusMessage_detect (h : ValidMessage s port 1 m) (hstate : (s.link port).state = linkDetect) :
    Gives (.statusMessage t port m) s fun u => LinkBecomes s u port
      { ((s.link port).heard (max s.now t)).shown m.payload with statusRun := min 4 ((s.link port).statusRun + 1) } := by
  refine validMessage_sets (exec_statusMessage s) (by decide) h ?_
  rw [State.link_atTime, if_neg (Link.not_behind_of_detect _ hstate),
    State.status_detect (by rw [State.link_setLink]; exact hstate), State.link_setLink, State.setLink_setLink]
  rfl

theorem retrainMessage_ends (h : ValidMessage s port 4 m) (htrain : (s.link port).training = true) :
    Gives (.retrainMessage t port m) s fun u => OnlyChanges (changesOf (.retrainMessage t port m)) s u ∧
      u.link port = ((s.link port).heard (max s.now t)).attemptLeft (max s.now t) (bitOf (uAt m.payload 0 1) 0) := by
  obtain ⟨hm, -⟩ := id h
  have hends : backMessage (s.atTime t) port 4 m (fun v => v.retrain port (bitOf (uAt m.payload 0 1) 0)) =
      (s.atTime t).setLink port (((s.link port).heard (max s.now t)).attemptLeft (max s.now t) (bitOf (uAt m.payload 0 1) 0)) := by
    rw [backMessage_valid (s := s.atTime t) _ h, State.retrain_of_training _ (by rw [State.link_setLink]; exact htrain),
      State.link_setLink, State.setLink_setLink, State.setLink_now]
    rfl
  exact (gives_link port (exec_retrainMessage s) hm (by decide) hends).mono fun u ⟨hl, hlink⟩ =>
    ⟨hl, hlink.trans (State.link_setLink _ _ _)⟩

end Valid

/-! ### The loss of the back channel (12 R302, R303) -/

/-- The loss has been counted, and no Status counts any more. -/
def Link.silent (l : Link) : Link := { l with lost := true, losses := sat32 l.losses, statusRun := 0 }

/-- The state after a loss: back in Detect at 4 lanes, except from Off, which stays. -/
def State.backChannelLost (s : State) (n : Nat) : State :=
  let u := s.setLink n (s.link n).silent
  if (s.link n).state = linkDetect ∨ (s.link n).state = linkOff then u else u.toDetect n 1 true

theorem State.link_backChannelLost_idle {s : State} {n : Nat} (h : (s.link n).state ≤ 1) :
    (s.backChannelLost n).link n = (s.link n).silent := by
  have hidle : (s.link n).state = linkDetect ∨ (s.link n).state = linkOff := by
    unfold linkDetect linkOff
    omega
  rw [State.backChannelLost, if_pos hidle, State.link_setLink]

theorem State.link_backChannelLost {s : State} {n : Nat} :
    ((s.backChannelLost n).link n).lost = true ∧ ((s.backChannelLost n).link n).losses = sat32 (s.link n).losses ∧
      ((s.link n).state ≠ linkOff → ((s.backChannelLost n).link n).state = linkDetect) := by
  by_cases hidle : (s.link n).state = linkDetect ∨ (s.link n).state = linkOff
  · rw [State.backChannelLost, if_pos hidle, State.link_setLink]
    exact ⟨rfl, rfl, fun hoff => hidle.resolve_right hoff⟩
  · rw [State.backChannelLost, if_neg hidle]
    obtain ⟨hstate, hlost, hlosses⟩ := State.link_toDetect (s.setLink n (s.link n).silent) n 1 true
    rw [State.link_setLink] at hlost hlosses
    exact ⟨hlost, hlosses, fun _ => hstate⟩

section Loss
variable {s : State} {t port : Nat} (hm : s.mainOn = true) (hhas : s.hasPort port = true) (hlost : (s.link port).lost = false)
include hm

theorem backChannelLoss_early (hearly : max s.now t < (s.link port).lastMsg + 500000) :
    Gives (.backChannelLoss t port) s fun u => OnlyChanges [] s u :=
  gives_unchanged (exec_backChannelLoss s) hm (if_pos (by
    simp only [Bool.or_eq_true, decide_eq_true_eq]
    exact .inr hearly))

include hhas hlost
theorem backChannelLoss_late (hlate : (s.link port).lastMsg + 500000 ≤ max s.now t) :
    Gives (.backChannelLoss t port) s fun u => OnlyChanges (changesOf (.backChannelLoss t port)) s u ∧
      u.link port = ((s.atTime t).backChannelLost port).link port := by
  refine gives_link port (exec_backChannelLoss s) hm (by decide) (if_neg ?_)
  rw [State.hasPort_atTime, State.link_atTime, hhas, hlost, State.atTime_now, decide_eq_false (Nat.not_lt.2 hlate)]
  decide

end Loss

/-- Settles O40: a valid message is heard and then acts, one with a wrong CRC-8 is rejected whatever its type, and the loss is
judged on the instant of the last valid one. -/
theorem backChannelMessages : Obligations.BackChannelMessages := by
  unfold Obligations.BackChannelMessages
  refine ⟨⟨fun s t port m => eqReport_keeps, fun s t port m => alignReport_keeps, ?status, ?retrain⟩, ?wrong, ?loss⟩
  case status =>
    intro s t port m h hstate
    simpa only [Link.shown, Link.heard] using statusMessage_detect h hstate
  case retrain =>
    intro s t port m h htrain
    refine (retrainMessage_ends h htrain).mono fun u ⟨hl, hlink⟩ => ?_
    rw [hlink]
    obtain ⟨hstate, hspace⟩ := Link.attemptLeft_detects ((s.link port).heard (max s.now t)) (max s.now t)
      (bitOf (uAt m.payload 0 1) 0)
    refine ⟨hl.mono (by simp [changesOf]), hstate, hspace, fun hfull => ?_, fun hkeep => ?_⟩
    · rw [show bitOf (uAt m.payload 0 1) 0 = true from hfull]
      exact ⟨rfl, rfl⟩
    · rw [show bitOf (uAt m.payload 0 1) 0 = false from hkeep]
      exact ⟨rfl, rfl⟩
  case wrong =>
    intro s t port hm hhas hport l
    exact ⟨backChannelError_rejected hm hhas hport, fun m _ =>
      ⟨wrongMessage_rejected (exec_statusMessage s) (by decide) hm hhas hport,
        wrongMessage_rejected (exec_eqReport s) (by decide) hm hhas hport,
        wrongMessage_rejected (exec_alignReport s) (by decide) hm hhas hport,
        wrongMessage_rejected (exec_retrainMessage s) (by decide) hm hhas hport⟩⟩
  case loss =>
    intro s t port hm hhas hport hlost
    refine ⟨backChannelLoss_early hm, fun hlate => (backChannelLoss_late hm hhas hlost hlate).mono fun u ⟨hl, hlink⟩ => ?_⟩
    obtain ⟨hgone, hlosses, hstate⟩ := State.link_backChannelLost (s := s.atTime t) (n := port)
    rw [hlink]
    exact ⟨hl.mono (by simp [changesOf]), hgone, hstate, hlosses, fun h => State.link_backChannelLost_idle h⟩

end Sys2Proof.Machine
end

section
/-!
SUPPORT. Training attempts of the Druelo links: their start, the limits of their states, and the width after a failure
(12 R303, R304, R306).
-/
namespace Sys2Proof.Machine

/-! ### The width after a failure (12 R304) -/

theorem lanesIn_low (p : Nat) : lanesIn 3 p = (p.testBit 0 && p.testBit 1) := by
  have hlanes : laneList 3 = [0, 1] := by decide
  simp [lanesIn, hlanes, bitOf]

theorem lanesIn_high (p : Nat) : lanesIn 12 p = (p.testBit 2 && p.testBit 3) := by
  have hlanes : laneList 12 = [2, 3] := by decide
  simp [lanesIn, hlanes, bitOf]

/-- No lane is in the empty set. -/
theorem ne_zero_of_lanesIn {mask p : Nat} (hmask : lanesIn mask 0 = false) (h : lanesIn mask p = true) : p ≠ 0 := by
  rintro rfl
  exact Bool.false_ne_true (hmask.symm.trans h)

/-- Of a set of lanes that is not empty, the lowest lane is in it and no lane below it is. -/
theorem lowestLane_least : ∀ p, p < 16 → p ≠ 0 →
    lowestLane p < 4 ∧ p.testBit (lowestLane p) = true ∧ ∀ j, j < lowestLane p → p.testBit j = false := by
  decide

/-- Only the width, the lanes and the run of blind failures follow a failure. -/
theorem Link.nextWidth_eq (l : Link) (p : Nat) :
    ∃ width lanes blind, l.nextWidth p = { l with width, lanes, blind } := by
  unfold Link.nextWidth Link.setWidth
  dsimp only
  split_ifs <;> exact ⟨_, _, _, rfl⟩

section Width
variable {l : Link} {p : Nat}

theorem Link.nextWidth_low (hwidth : l.width = 4) (hp : p ≠ 0) (hlow : lanesIn 3 p = true) :
    l.nextWidth p = ({ l with blind := 0 } : Link).setWidth 2 3 := by
  simp only [Link.nextWidth, hp, hwidth, hlow, ne_eq, not_false_eq_true, if_true]

theorem Link.nextWidth_high (hwidth : l.width = 4) (hp : p ≠ 0) (hlow : lanesIn 3 p = false) (hhigh : lanesIn 12 p = true) :
    l.nextWidth p = ({ l with blind := 0 } : Link).setWidth 2 12 := by
  simp only [Link.nextWidth, hp, hwidth, hlow, hhigh, ne_eq, not_false_eq_true, if_true, Bool.false_eq_true, if_false]

theorem Link.nextWidth_single (hwidth : l.width = 4) (hp : p ≠ 0) (hlow : lanesIn 3 p = false) (hhigh : lanesIn 12 p = false) :
    l.nextWidth p = ({ l with blind := 0 } : Link).setWidth 1 (2 ^ lowestLane p) := by
  simp only [Link.nextWidth, hp, hwidth, hlow, hhigh, ne_eq, not_false_eq_true, if_true, Bool.false_eq_true, if_false]

theorem Link.nextWidth_blind (hblind : l.blind < 2) : l.nextWidth 0 = { l with blind := l.blind + 1 } := by
  have hagain : l.blind + 1 < 3 := by omega
  simp only [Link.nextWidth, hagain, ne_eq, not_true_eq_false, if_true, if_false]

theorem Link.nextWidth_thirdBlind (hwidth : l.width = 4) (hblind : l.blind = 2) :
    l.nextWidth 0 = ({ l with blind := 0 } : Link).setWidth 2 3 := by
  simp only [Link.nextWidth, hwidth, hblind, ne_eq, not_true_eq_false, if_true, if_false, Nat.lt_irrefl, Nat.reduceAdd]

end Width

/-! ### Limits (12 R303, R304, R306) -/

/-- The limit of state `st`, `after` its entry, acts: it is reached, and no loss of the back channel wins over it. -/
def Link.LimitActs (l : Link) (st after now : Nat) : Prop :=
  l.state = st ∧ l.stateAt + after ≤ now ∧ l.lossBy (l.stateAt + after) = false

/-- The link after an attempt that a limit ended and `count` counted, back in Detect. -/
def Link.limited (l : Link) (count : Link → Link) (now : Nat) : Link := (count l).attemptEnded.detect now

/-- A limit that acts ends the attempt; beside it only the next width and what a Retrain would take back are written. -/
theorem State.limit_acts {s : State} {n st after : Nat} (shown : Link → Nat) (count : Link → Link) (hhas : s.hasPort n = true)
    (h : (s.link n).LimitActs st after s.now) :
    ∃ width lanes blind tried, s.limit n st after shown count =
      s.setLink n { (s.link n).limited count s.now with width, lanes, blind, tried } := by
  obtain ⟨hstate, hreached, hheard⟩ := h
  obtain ⟨width, lanes, blind, hnext⟩ :=
    Link.nextWidth_eq (count (s.link n)).attemptEnded ((s.link n).lanes &&& shown (s.link n))
  unfold State.limit
  dsimp only
  rw [if_neg ?waits, hnext]
  · exact ⟨_, _, _, _, rfl⟩
  case waits =>
    rw [hhas, hstate, hheard, decide_eq_false (Nat.not_lt.2 hreached), bne_self_eq_false]
    decide

theorem limit_ends {i : Instr} {t port st : Nat} {fr : List UnitId} {after : State → Nat} {s : State} {shown : Link → Nat}
    {count : Link → Link} (he : exec i s = runMain t fr (fun v => v.limit port st (after v) shown count) s)
    (hfr : .linkA ∉ fr ∧ .linkB ∉ fr) (hm : s.mainOn = true) (hhas : s.hasPort port = true) (hport : port < 2)
    (h : (s.link port).LimitActs st (after (s.atTime t)) (max s.now t)) :
    Gives i s fun u => OnlyChanges [.linkA, .linkB] s u ∧ ∃ width lanes blind tried,
      u.link port = { (s.link port).limited count (max s.now t) with width, lanes, blind, tried } := by
  obtain ⟨width, lanes, blind, tried, hlimit⟩ := State.limit_acts (s := s.atTime t) shown count hhas h
  exact (gives_setLink he hm hport hfr hlimit).mono fun u ⟨hl, hlink, _⟩ => ⟨hl, width, lanes, blind, tried, hlink⟩

section Attempt
variable {s : State} {t port : Nat} (hm : s.mainOn = true) (hhas : s.hasPort port = true) (hport : port < 2)
include hm hhas hport

theorem trainingAttemptStart_starts (hstate : (s.link port).state = linkDetect) (hpll : (s.link port).pll = true)
    (hrun : 4 ≤ (s.link port).statusRun) (hspace : (s.link port).spaceFrom = none) :
    Gives (.trainingAttemptStart t port) s fun u => LinkBecomes s u port
      { s.link port with state := linkPhase, stateAt := max s.now t, attemptAt := max s.now t, statusRun := 0
                         attempts := sat32 (s.link port).attempts } :=
  gives_setLink (exec_trainingAttemptStart s) hm hport (by decide) (if_neg (by
    simp [hhas, hstate, hpll, hspace, Nat.not_lt.2 hrun]))

theorem phaseLimit_fails (h : (s.link port).LimitActs linkPhase 1000000 (max s.now t)) :
    Gives (.phaseLimit t port) s fun u => OnlyChanges [.linkA, .linkB] s u ∧ (u.link port).state = linkDetect ∧
      (u.link port).phaseFails = sat32 (s.link port).phaseFails ∧ (u.link port).spaceFrom = some (s.link port).attemptAt ∧
      (u.link port).scram = (List.range 4).map scrambleSeed := by
  refine (limit_ends (exec_phaseLimit s) (by decide) hm hhas hport h).mono fun u ⟨hl, width, lanes, blind, tried, hlink⟩ => ?_
  rw [hlink]
  exact ⟨hl, rfl, rfl, rfl, rfl⟩

theorem equalizeLimit_fails (h : (s.link port).LimitActs linkEqualize 2000000 (max s.now t)) :
    Gives (.equalizeLimit t port) s fun u => OnlyChanges [.linkA, .linkB] s u ∧ (u.link port).state = linkDetect ∧
      (u.link port).equalFails = sat32 (s.link port).equalFails ∧ (u.link port).spaceFrom = some (s.link port).attemptAt := by
  refine (limit_ends (exec_equalizeLimit s) (by decide) hm hhas hport h).mono
    fun u ⟨hl, width, lanes, blind, tried, hlink⟩ => ?_
  rw [hlink]
  exact ⟨hl, rfl, rfl, rfl⟩

theorem alignLimit_fails
    (h : (s.link port).LimitActs linkAlign (ceilDiv (6 * 16384 * 66 * 1000) (s.laneRate port)) (max s.now t)) :
    Gives (.alignLimit t port) s fun u => OnlyChanges [.linkA, .linkB] s u ∧ (u.link port).state = linkDetect ∧
      (u.link port).alignFails = sat32 (s.link port).alignFails ∧ (u.link port).spaceFrom = some (s.link port).attemptAt := by
  refine (limit_ends (after := fun v => ceilDiv (6 * 16384 * 66 * 1000) (v.laneRate port)) (exec_alignLimit s) (by decide) hm
    hhas hport h).mono fun u ⟨hl, width, lanes, blind, tried, hlink⟩ => ?_
  rw [hlink]
  exact ⟨hl, rfl, rfl, rfl⟩

end Attempt

/-- Settles O41: each limit that acts counts its own failure on the way back to Detect, and the set of lanes seen decides the width
of the next attempt. -/
theorem trainingAttemptsAndWidths : Obligations.TrainingAttemptsAndWidths := by
  unfold Obligations.TrainingAttemptsAndWidths
  refine ⟨fun s t port hm hhas hport => ⟨trainingAttemptStart_starts hm hhas hport, ?phase, ?equalize, ?align⟩, ?width⟩
  case phase => exact fun hstate hreached hheard => phaseLimit_fails hm hhas hport ⟨hstate, hreached, hheard⟩
  case equalize => exact fun hstate hreached hheard => equalizeLimit_fails hm hhas hport ⟨hstate, hreached, hheard⟩
  case align => exact fun hstate hreached hheard => alignLimit_fails hm hhas hport ⟨hstate, hreached, hheard⟩
  case width =>
    intro l p hwidth hlanes hp n
    rw [← Bool.and_eq_true, ← Bool.and_eq_true, ← lanesIn_low, ← lanesIn_high, Bool.not_eq_true, Bool.not_eq_true]
    refine ⟨fun hlow => ?low, fun ⟨hlow, hhigh⟩ => ?high, fun ⟨hlow, hhigh, hp0⟩ => ?single, ?blind, ?thirdBlind⟩
    case low =>
      have hn : n = _ := Link.nextWidth_low hwidth (ne_zero_of_lanesIn (by decide) hlow) hlow
      rw [hn]
      exact ⟨rfl, rfl⟩
    case high =>
      have hn : n = _ := Link.nextWidth_high hwidth (ne_zero_of_lanesIn (by decide) hhigh) hlow hhigh
      rw [hn]
      exact ⟨rfl, rfl⟩
    case single =>
      have hn : n = _ := Link.nextWidth_single hwidth hp0 hlow hhigh
      obtain ⟨hlane, hseen, hleast⟩ := lowestLane_least p hp hp0
      rw [hn]
      exact ⟨rfl, lowestLane p, hlane, hseen, hleast, rfl⟩
    case blind =>
      rintro rfl hblind
      have hn : n = _ := Link.nextWidth_blind hblind
      rw [hn]
      exact ⟨hwidth, hlanes, rfl⟩
    case thirdBlind =>
      rintro rfl hblind
      have hn : n = _ := Link.nextWidth_thirdBlind hwidth hblind
      rw [hn]
      exact ⟨rfl, rfl, rfl⟩

end Sys2Proof.Machine
end

section
/-!
SUPPORT. The registers of a Druelo port, its Retrain commands, and the blocks and markers it sends in Detect (12 R292 to R295, R303,
R306, R307).
-/
namespace Sys2Proof.Machine

/-! ### The registers of a port (12 R307) -/

theorem linkKey_not_spring {n sub : Nat} (hn : n < 2) (hsub : sub < 0x100) : ¬ linkKey n sub / 256 = 0x6800 := by
  unfold linkKey
  omega

theorem State.rwp_touches (s : State) (x : ObjMap) : OnlyChanges [.rwp] s { s with rwp := x } :=
  ⟨rfl, fun y hy => by cases y <;> simp_all [sameUnit]⟩

/-- A register of a port is written among the RWP objects. -/
theorem State.setReg_linkKey (s : State) {n sub : Nat} (v : List Byte) (hn : n < 2) (hsub : sub < 0x100) :
    s.setReg (linkKey n sub) .rwp v = { s with rwp := mset s.rwp (linkKey n sub) v } := by
  rw [State.setReg, if_neg (linkKey_not_spring hn hsub), if_pos rfl]

/-- A register of a port reads what was written last among the RWP objects. -/
theorem State.reg_linkKey {s : State} {n sub : Nat} {x : ObjMap} {v : List Byte} (hn : n < 2) (hsub : sub < 0x100)
    (h : s.rwp = mset x (linkKey n sub) v) : s.reg (linkKey n sub) = v := by
  rw [State.reg, if_neg (linkKey_not_spring hn hsub), h, mget_mset_self]
  rfl

@[simp] theorem State.regN_setLink (s : State) (n : Nat) (l : Link) (key : Nat) : (s.setLink n l).regN key = s.regN key := by
  simp only [State.regN, State.reg, State.setLink_spring, State.setLink_rwp, State.setLink_rw]

/-! ### The relock of the PLL (12 R303, R306) -/

@[simp] theorem State.exitActive_rwp (s : State) (n cause : Nat) (runs : Bool) : (s.exitActive n cause runs).rwp = s.rwp := by
  have hdrop : ∀ v : State, (v.dropEvent n).rwp = v.rwp := fun v =>
    ((State.dropEvent_touches v n).2 .rwp (by decide)).symm
  have hdiscard : (s.discardUnits n runs).rwp = s.rwp := by
    unfold State.discardUnits
    dsimp only
    split_ifs <;> simp [hdrop]
  simp [State.exitActive, hdiscard]

/-- A relock leaves the port in Detect at 4 lanes, with its lock and its count of periods as they were. -/
theorem State.link_relock (s : State) (n : Nat) :
    ∃ l : Link, (s.relock n).link n = l ∧ l.state = linkDetect ∧ l.width = 4 ∧ l.lanes = 15 ∧ l.pll = (s.link n).pll ∧
      l.lockAt = (s.link n).lockAt ∧ l.blockCount = (s.link n).blockCount ∧ l.periods = (s.link n).periods := by
  refine ⟨_, rfl, ?_⟩
  unfold State.relock
  dsimp only
  rw [State.link_setLink]
  by_cases hactive : (s.link n).state = linkActive
  · obtain ⟨abort, ns, since, hexit⟩ := State.link_exitActive s n 5 true
    rw [if_pos hactive, hexit]
    split <;> exact ⟨rfl, rfl, rfl, rfl, rfl, rfl, rfl⟩
  · rw [if_neg hactive]
    split <;> exact ⟨rfl, rfl, rfl, rfl, rfl, rfl, rfl⟩

/-- A code above 5 is stored as 5 (12 R307). -/
theorem le_min_five (v : Byte) : le 1 (min 5 v.toNat) = [if v.toNat < 5 then v else 5] := by
  split
  next hlt => rw [Nat.min_eq_right (Nat.le_of_lt hlt), le, BitVec.ofNat_toNat, BitVec.setWidth_eq, le]
  next hge => rw [Nat.min_eq_left (Nat.not_lt.1 hge)]; rfl

/-- The link once its PLL is to lock again. -/
def Link.unlocked (l : Link) : Link :=
  let u := { l with pll := false }
  if u.state = linkDetect ∨ u.state = linkOff then u.full else u

theorem Link.unlocked_pll (l : Link) : l.unlocked.pll = false := by
  unfold Link.unlocked
  dsimp only
  split <;> rfl

theorem Link.unlocked_state (l : Link) : l.unlocked.state = l.state := by
  unfold Link.unlocked
  dsimp only
  split <;> rfl

section Writes
variable {s : State} {n : Nat} (hhas : s.hasPort n = true) (hn : n < 2)
include hhas hn

theorem State.laneRateWrite_eq (v : List Byte) :
    s.laneRateWrite n v = ({ s with rwp := mset s.rwp (linkKey n 0x40) v } : State).setLink n (s.link n).unlocked := by
  unfold State.laneRateWrite
  rw [if_neg (by simp [hhas]), State.setReg_linkKey s v hn (by decide)]
  rfl

/-- A port disabled is Off, from Active as from any other state. -/
theorem State.portEnableWrite_off :
    ((s.portEnableWrite n [0]).link n).state = linkOff ∧
      (s.portEnableWrite n [0]).rwp = mset s.rwp (linkKey n 0x41) [0] := by
  unfold State.portEnableWrite
  rw [if_neg (by simp [hhas]), State.setReg_linkKey s _ hn (by decide)]
  dsimp only
  rw [if_pos (by decide), State.link_setLink, State.setLink_rwp]
  refine ⟨rfl, ?_⟩
  split
  · exact State.exitActive_rwp _ _ _ _
  · rfl

/-- A port enabled in Off is in Detect at 4 lanes. -/
theorem State.portEnableWrite_on (hoff : (s.link n).state = linkOff) (hpll : (s.link n).pll = true) :
    s.portEnableWrite n [1] =
      ({ s with rwp := mset s.rwp (linkKey n 0x41) [1] } : State).setLink n ((s.link n).detect s.now).full := by
  have hstarts : ((s.link n).state = linkOff && (s.link n).pll) = true := by simp [hoff, hpll]
  unfold State.portEnableWrite
  rw [if_neg (by simp [hhas]), State.setReg_linkKey s _ hn (by decide)]
  dsimp only
  rw [if_neg (by decide)]
  exact if_pos hstarts

end Writes

/-- The link once its PLL has locked at `now`. -/
def Link.locked (l : Link) (now : Nat) : Link := { l with pll := true, lockAt := now, periods := 0, blockCount := 0 }

section Control
variable {s : State} {t port : Nat} (hm : s.mainOn = true) (hhas : s.hasPort port = true) (hport : port < 2)
include hm hhas

theorem portPllLock_detects (hpll : (s.link port).pll = false) (henabled : s.regN (linkKey port 0x41) = 1) :
    Gives (.portPllLock t port) s fun u => OnlyChanges (changesOf (.portPllLock t port)) s u ∧
      (u.link port).pll = true ∧ (u.link port).state = linkDetect ∧ (u.link port).width = 4 ∧ (u.link port).lanes = 15 ∧
      (u.link port).blockCount = 0 ∧ (u.link port).periods = 0 ∧ (u.link port).lockAt = max s.now t := by
  have heffect : ((s.atTime t).setLink port ((s.link port).locked (max s.now t))).regN (linkKey port 0x41) ≠ 0 := by
    rw [State.regN_setLink, show (s.atTime t).regN (linkKey port 0x41) = 1 from henabled]
    decide
  refine (gives_link port (exec_portPllLock s) hm (by decide)
    (a := ((s.atTime t).setLink port ((s.link port).locked (max s.now t))).relock port)
    ((if_neg (by simp [hhas, hpll])).trans (if_neg heffect))).mono fun u ⟨hl, hlink⟩ => ?_
  obtain ⟨l, hrelock, hstate, hwidth, hlanes, hlocked, hat, hcount, hperiods⟩ :=
    State.link_relock ((s.atTime t).setLink port ((s.link port).locked (max s.now t))) port
  rw [State.link_setLink] at hlocked hat hcount hperiods
  rw [hlink, hrelock]
  exact ⟨hl, hlocked, hstate, hwidth, hlanes, hcount, hperiods, hat⟩

/-! ### Retrain (12 R303, R307) -/

theorem retrain_ends {i : Instr} {fr : List UnitId} {full : Bool}
    (he : exec i s = runUnit t fr (fun v => if v.hasPort port then v.retrain port full else v) s)
    (hfr : .linkA ∉ fr ∧ .linkB ∉ fr) (hacts : s.unitActs = true) (htrain : (s.link port).training = true) :
    Gives i s fun u => OnlyChanges (changesOf i) s u ∧ u.link port = (s.link port).attemptLeft (max s.now t) full := by
  refine (gives_link port he hm hfr (((if_pos hacts).trans (if_pos hhas)).trans
    (State.retrain_of_training (s := s.atTime t) full htrain))).mono fun u ⟨hl, hlink⟩ => ⟨hl, ?_⟩
  rw [hlink, State.link_setLink]
  rfl

/-! ### LaneRate and PortEnable (12 R303, R306, R307) -/

include hport
theorem laneRateWrite_unlocks (v : Byte) (hacts : s.unitActs = true) :
    Gives (.laneRateWrite t port v) s fun u => OnlyChanges [.linkA, .linkB, .rwp] s u ∧
      u.reg (linkKey port 0x40) = le 1 (min 5 v.toNat) ∧ (u.link port).pll = false ∧
      (u.link port).state = (s.link port).state := by
  refine gives_of_effect (l := [.linkA, .linkB, .rwp]) (exec_laneRateWrite s) hm
    ((if_pos hacts).trans (State.laneRateWrite_eq (s := s.atTime t) hhas hport (le 1 (min 5 v.toNat))))
    (((State.rwp_touches _ _).mono (by decide)).trans ((State.setLink_touches _ _ _).mono (by decide))) ?_
  rintro u hl hleft
  have hrwp : _ = u.rwp := hleft.2.1 .rwp (by decide)
  rw [State.setLink_rwp] at hrwp
  rw [hleft.link (by decide) (by decide), State.link_setLink]
  exact ⟨hl, State.reg_linkKey hport (by decide) hrwp.symm, Link.unlocked_pll _, Link.unlocked_state _⟩

omit hhas hport
theorem portEnableWrite_gives (v : Byte) (hacts : s.unitActs = true) :
    let a := (s.atTime t).portEnableWrite port (if v = 0 then [0] else [1])
    Gives (.portEnableWrite t port v) s fun u => OnlyChanges (changesOf (.portEnableWrite t port v)) s u ∧
      u.rwp = a.rwp ∧ u.link port = a.link port := by
  intro a
  refine gives_of_command (exec_portEnableWrite s) hm (if_pos hacts) fun u hl hleft => ⟨hl, ?_, ?_⟩
  · exact (hleft.2.1 .rwp (by decide)).symm
  · exact hleft.link (by decide) (by decide) port

include hhas hport
theorem portEnableWrite_disables (hacts : s.unitActs = true) :
    Gives (.portEnableWrite t port 0) s fun u => OnlyChanges (changesOf (.portEnableWrite t port 0)) s u ∧
      u.reg (linkKey port 0x41) = [0] ∧ (u.link port).state = linkOff := by
  refine (portEnableWrite_gives hm 0 hacts).mono fun u ⟨hl, hrwp, hlink⟩ => ?_
  obtain ⟨hoff, hregs⟩ := State.portEnableWrite_off (s := s.atTime t) hhas hport
  exact ⟨hl, State.reg_linkKey hport (by decide) (hrwp.trans hregs), by rw [hlink]; exact hoff⟩

theorem portEnableWrite_enables {v : Byte} (hv : v ≠ 0) (hacts : s.unitActs = true) (hoff : (s.link port).state = linkOff)
    (hpll : (s.link port).pll = true) :
    Gives (.portEnableWrite t port v) s fun u => OnlyChanges (changesOf (.portEnableWrite t port v)) s u ∧
      u.reg (linkKey port 0x41) = [1] ∧ (u.link port).state = linkDetect ∧ (u.link port).width = 4 := by
  refine (portEnableWrite_gives hm v hacts).mono fun u ⟨hl, hrwp, hlink⟩ => ?_
  rw [if_neg hv, State.portEnableWrite_on (s := s.atTime t) hhas hport hoff hpll] at hrwp hlink
  rw [State.setLink_rwp] at hrwp
  rw [hlink, State.link_setLink]
  exact ⟨hl, State.reg_linkKey hport (by decide) hrwp, rfl, rfl⟩

end Control

/-! ### Blocks in Detect (12 R292 to R294) -/

/-- What a lane sends in a block period, as BLOCK_PERIOD has it for each lane in turn. -/
def State.laneSends (n : Nat) (s : State) (lane : Nat) : State :=
  if bitOf (s.link n).lanes lane then
    let (b, s) := s.laneBlock n
    s.sendBlock n lane b
  else s.sendBlock n lane (true, idleBlock (s.link n))

/-- The idle block of link `l` on a lane, scrambled by the lane's own scrambler: the scrambler after it and what goes out. -/
def Link.idleSent (l : Link) (lane : Nat) : BitVec 58 × BitVec 64 :=
  scramble (l.scram.getD lane (scrambleSeed lane)) (payload (idleBlock l))

/-- The link once a lane has sent an idle block. -/
def Link.idled (l : Link) (lane : Nat) : Link := { l with scram := setAt l.scram lane (l.idleSent lane).1 }

/-- The block of one lane leaves the scramblers of the others. -/
theorem Link.idleSent_idled (l : Link) {lane other : Nat} (h : lane ≠ other) :
    (l.idled lane).idleSent other = l.idleSent other := by
  have hother : (setAt l.scram lane (l.idleSent lane).1).getD other (scrambleSeed other) =
      l.scram.getD other (scrambleSeed other) := by
    simp only [setAt, List.getD_eq_getElem?_getD, List.getElem?_set_ne h]
  unfold Link.idleSent Link.idled
  rw [hother]
  rfl

/-- A block of control or data goes out scrambled. -/
theorem State.sendBlock_eq (s : State) (n lane : Nat) (b : Block) :
    s.sendBlock n lane b =
      let sent := scramble ((s.link n).scram.getD lane (scrambleSeed lane)) (payload b.2)
      (s.setLink n { s.link n with scram := setAt (s.link n).scram lane sent.1 }).send (.block n lane b.1 sent.2) :=
  rfl

/-- In Detect, with no unit to give up, every lane sends an idle block, in use or not. -/
theorem State.laneSends_idle {s : State} {n : Nat} (lane : Nat) (hstate : (s.link n).state = linkDetect)
    (habort : (s.link n).abort = none) :
    s.laneSends n lane = (s.setLink n ((s.link n).idled lane)).send (.block n lane true ((s.link n).idleSent lane).2) := by
  have hblock : s.laneBlock n = ((true, idleBlock (s.link n)), s) := by
    unfold State.laneBlock
    dsimp only
    rw [habort, hstate]
    rfl
  unfold State.laneSends
  rw [hblock]
  exact (ite_self _).trans (State.sendBlock_eq _ _ _ _)

/-- In Detect a row of lanes sends an idle block each, and only the scramblers move on. -/
theorem State.lanesSend_idle {n : Nat} : ∀ (lanes : List Nat) {s : State}, lanes.Nodup → (s.link n).state = linkDetect →
    (s.link n).abort = none →
    (∃ scram, (lanes.foldl (State.laneSends n) s).link n = { s.link n with scram }) ∧
      (lanes.foldl (State.laneSends n) s).out =
        s.out ++ lanes.map fun lane => Output.block n lane true ((s.link n).idleSent lane).2
  | [], s, _, _, _ => ⟨⟨_, rfl⟩, (List.append_nil _).symm⟩
  | lane :: lanes, s, hdistinct, hstate, habort => by
    obtain ⟨hfresh, hrest⟩ := List.nodup_cons.1 hdistinct
    have hlink : (State.laneSends n s lane).link n = (s.link n).idled lane := by
      rw [State.laneSends_idle lane hstate habort]
      exact State.link_setLink _ _ _
    have hout : (State.laneSends n s lane).out = s.out ++ [.block n lane true ((s.link n).idleSent lane).2] := by
      rw [State.laneSends_idle lane hstate habort]
      exact congrArg (· ++ _) (State.setLink_out _ _ _)
    obtain ⟨⟨scram, hscram⟩, houts⟩ := State.lanesSend_idle lanes (s := State.laneSends n s lane) hrest
      (by rw [hlink]; exact hstate) (by rw [hlink]; exact habort)
    refine ⟨⟨scram, ?_⟩, ?_⟩
    · rw [List.foldl_cons, hscram, hlink]
      rfl
    · rw [List.foldl_cons, houts, hout, hlink, List.append_assoc, List.map_cons]
      refine congrArg (s.out ++ ·) (congrArg (_ :: ·) (List.map_congr_left fun other hother => ?_))
      rw [Link.idleSent_idled _ (Ne.symm (ne_of_mem_of_not_mem hother hfresh))]

/-- The stall clock set anew moves nothing else of the link. -/
theorem State.link_restall (s : State) (n : Nat) :
    ∃ ns since, (s.restall n).link n = { s.link n with stallNs := ns, stallFrom := since } := by
  obtain ⟨ns, since, hstall⟩ := Link.stall_eq (s.link n) s.now (s.unitsWait n)
  exact ⟨ns, since, (State.link_setLink _ _ _).trans hstall⟩

/-- A block period counted. -/
def Link.counted (l : Link) : Link :=
  { l with blockCount := l.blockCount + 1, periods := l.periods + 1, trainCount := l.trainCount + 1 }

/-- The state once the lanes have sent their blocks and the period has been counted. -/
def State.blockCounted (s : State) (n : Nat) : State :=
  let u := (List.range 4).foldl (State.laneSends n) s
  (u.setLink n (u.link n).counted).restall n

theorem State.blockCounted_idle {s : State} {n : Nat} (hstate : (s.link n).state = linkDetect)
    (habort : (s.link n).abort = none) :
    ((s.blockCounted n).link n).blockCount = (s.link n).blockCount + 1 ∧
      ((s.blockCounted n).link n).periods = (s.link n).periods + 1 ∧
      (s.blockCounted n).out =
        s.out ++ (List.range 4).map fun lane => Output.block n lane true ((s.link n).idleSent lane).2 := by
  obtain ⟨⟨scram, hscram⟩, hout⟩ := State.lanesSend_idle (List.range 4) List.nodup_range hstate habort
  unfold State.blockCounted
  generalize (List.range 4).foldl (State.laneSends n) s = u at hscram hout
  dsimp only
  obtain ⟨ns, since, hstall⟩ := State.link_restall (u.setLink n (u.link n).counted) n
  rw [State.link_setLink, hscram] at hstall
  rw [hscram, hstall]
  exact ⟨rfl, rfl, (State.setLink_out _ _ _).trans ((State.setLink_out _ _ _).trans hout)⟩

/-! ### Outputs sent in a row -/

/-- An output for each entry of a list, in its order. -/
def State.sendEach {α : Type} (s : State) (l : List α) (f : α → Output) : State := l.foldl (fun s x => s.send (f x)) s

theorem State.sendEach_touches {α : Type} (s : State) (l : List α) (f : α → Output) : OnlyChanges [] s (s.sendEach l f) :=
  State.sendAll_touches l _ (fun v x => State.send_touches v (f x)) s

theorem State.sendEach_eq {α : Type} (s : State) (l : List α) (f : α → Output) :
    s.sendEach l f = { s with out := s.out ++ l.map f } := by
  induction l generalizing s with
  | nil => simp [State.sendEach]
  | cons x l ih => exact (ih (s.send (f x))).trans (by simp [State.send])

section Periods
variable {s : State} {t port : Nat} (hm : s.mainOn = true) (hhas : s.hasPort port = true) (hport : port < 2)
  (hpll : (s.link port).pll = true) (hdue : (s.atTime t).periodDue port = true) (hstate : (s.link port).state = linkDetect)
include hm hhas hpll hdue hstate

theorem blockPeriod_idles (habort : (s.link port).abort = none) (hcount : (s.link port).blockCount < 16383) :
    Gives (.blockPeriod t port) s fun u => OnlyChanges (changesOf (.blockPeriod t port)) s u ∧
      (u.link port).blockCount = (s.link port).blockCount + 1 ∧ (u.link port).periods = (s.link port).periods + 1 ∧
      u.out = (List.range 4).map fun lane => Output.block port lane true ((s.link port).idleSent lane).2 := by
  refine gives_of_command (exec_blockPeriod s) hm (a := (s.atTime t).blockCounted port) ?_ fun u hl hleft => ?_
  · refine (if_neg ?_).trans (if_neg ?_)
    · rw [State.hasPort_atTime, State.link_atTime, hhas, hpll, hdue, decide_eq_false (Nat.not_le.2 hcount)]
      decide
    · rw [State.link_atTime, hstate]
      decide
  · obtain ⟨hblocks, hperiods, hout⟩ := State.blockCounted_idle (s := s.atTime t) hstate habort
    rw [hleft.link (by decide) (by decide)]
    exact ⟨hl, hblocks, hperiods, hleft.1.trans hout⟩

/-! ### Markers (12 R295) -/

include hport
theorem markerPeriod_marks (hcount : (s.link port).blockCount = 16383) :
    Gives (.markerPeriod t port) s fun u =>
      LinkBecomes s u port { s.link port with blockCount := 0, periods := (s.link port).periods + 1 } ∧
        u.out = (List.range 4).map fun lane =>
          Output.block port lane true (payload (markerBlock (s.link port).width lane)) := by
  refine gives_of_effect (exec_markerPeriod s) hm (a := ((s.atTime t).setLink port
      { s.link port with blockCount := 0, periods := (s.link port).periods + 1 }).sendEach (List.range 4) fun lane =>
        Output.block port lane true (payload (markerBlock (s.link port).width lane))) ?acts
    ((State.setLink_touches _ _ _).trans ((State.sendEach_touches _ _ _).mono (by decide))) fun u hl hleft => ?_
  case acts =>
    refine (if_neg ?_).trans (if_neg ?_)
    · rw [State.hasPort_atTime, State.link_atTime, hhas, hpll, hdue, hcount, decide_eq_false (Nat.lt_irrefl _)]
      decide
    · rw [State.link_atTime, hstate]
      decide
  rw [State.sendEach_eq] at hleft
  have hlink := hleft.link (by decide) (by decide)
  refine ⟨⟨hl, (hlink port).trans (State.link_setLink _ _ _), (hlink (1 - port)).trans (State.link_setLink_other _ _ hport)⟩,
    hleft.1.trans ?_⟩
  rw [State.setLink_out]
  rfl

end Periods

/-- Settles O42: each write and each Retrain is the branch of its command that acts; in Detect the lanes send their idle blocks one
after the other, none moving the scrambler of another, and a marker period goes past the scramblers. -/
theorem portControlBlocksAndMarkers : Obligations.PortControlBlocksAndMarkers := by
  unfold Obligations.PortControlBlocksAndMarkers
  refine ⟨fun s t port hm hhas hport => ⟨?lock, ?rate, ?disable, ?enable, ?retrain⟩,
    fun s t port hm hhas hport hpll hdue => ⟨?block, ?marker⟩⟩
  case lock =>
    intro hpll henabled
    exact (portPllLock_detects hm hhas hpll henabled).mono fun u ⟨hl, h⟩ => ⟨hl.mono (by simp [changesOf]), h⟩
  case rate =>
    intro hacts v
    refine (laneRateWrite_unlocks hm hhas hport v hacts).mono fun u ⟨hl, hreg, h⟩ => ⟨hl, ?_, h⟩
    rw [← le_min_five]
    exact hreg
  case disable =>
    intro hacts
    exact (portEnableWrite_disables hm hhas hport hacts).mono fun u ⟨hl, h⟩ => ⟨hl.mono (by simp [changesOf]), h⟩
  case enable =>
    intro hacts hoff hpll v hv
    exact (portEnableWrite_enables hm hhas hport hv hacts hoff hpll).mono fun u ⟨hl, h⟩ =>
      ⟨hl.mono (by simp [changesOf]), h⟩
  case retrain =>
    intro hacts htrain
    constructor
    · refine (retrain_ends hm hhas (exec_retrain4Lanes s) (by decide) hacts htrain).mono fun u ⟨hl, hlink⟩ => ?_
      rw [hlink]
      exact ⟨hl.mono (by simp [changesOf]), rfl, rfl, rfl⟩
    · refine (retrain_ends hm hhas (exec_retrainPresentWidth s) (by decide) hacts htrain).mono fun u ⟨hl, hlink⟩ => ?_
      rw [hlink]
      exact ⟨hl.mono (by simp [changesOf]), rfl, rfl, rfl⟩
  case block =>
    intro hstate habort hcount
    exact (blockPeriod_idles hm hhas hpll hdue hstate habort hcount).mono fun u ⟨hl, h⟩ =>
      ⟨hl.mono (by simp [changesOf]), h⟩
  case marker => exact fun hstate hcount => markerPeriod_marks hm hhas hport hpll hdue hstate hcount

end Sys2Proof.Machine
end

section
/-!
SUPPORT. A step and the state at reset; the reading rules the proofs below share; and the state that EMIT_EN outlasts.
-/

namespace Sys2Proof.Machine

/-! ### Steps and the reset -/

theorem step_of_cons {s : State} {c : Instr} {rest : List Instr} (h : s.pending = c :: rest) :
    step s = exec c { s with pending := rest } := by
  unfold step
  rw [h]

theorem step_of_nil {s : State} (h : s.pending = []) : step s = .next s := by
  unfold step
  rw [h]

/-- Settles O1: the two branches of a step. -/
theorem stepRunsTheFrontCommand : Obligations.StepRunsTheFrontCommand := by
  unfold Obligations.StepRunsTheFrontCommand
  exact ⟨fun _ _ _ => step_of_cons, fun _ => step_of_nil⟩

/-- Settles O4: every field of the reset state has the value it is declared with. -/
theorem theStateAtReset : Obligations.TheStateAtReset := by
  unfold Obligations.TheStateAtReset
  have hemission : EmissionSafe State.reset := ⟨rfl, fun _ => rfl⟩
  have hpart : PartSafe State.reset := by
    unfold PartSafe
    decide
  have hdests : DestinationsBounded State.reset := ⟨Nat.zero_le 2, Nat.zero_le 2, Nat.zero_le 2⟩
  exact ⟨rfl, rfl, rfl, rfl, hemission, rfl, rfl, rfl, rfl, reset_memory_canonical, rfl, rfl, hpart, hdests⟩

/-! ### A restart of the rails with the main domain on (13 R321; 19 R432) -/

/-- The guard is Armed in a Running Spring that still waits for a restart after a power-down, and RAIL_RESTART_DELAY is next. -/
def armedBeforeRestart : State :=
  { State.reset with
    pending := [.railRestartDelay 100000000]
    emg := { State.reset.emg with state := .armed, emitEn := true }
    spring := { State.reset.spring with restartWait := true } }

theorem armedBeforeRestart_safe : EmissionSafe armedBeforeRestart := ⟨rfl, fun h => absurd h (by decide)⟩

/-- The restart takes the Spring to Sequencing, so the main domain into reset, and leaves the guard as it is. -/
theorem armedBeforeRestart_step :
    ∃ u, step armedBeforeRestart = .next u ∧ u.mainOn = false ∧ u.emg.emitEn = true := by
  rw [step_of_cons (c := .railRestartDelay 100000000) rfl, exec_railRestartDelay]
  exact ⟨_, run_eq, rfl, rfl⟩

/-- Refutes O20: the claim asks nothing of the Spring, and RAIL_RESTART_DELAY looks only at its wait for a restart. -/
theorem not_emissionIsEnabledExactlyWhenArmed : ¬ Obligations.EmissionIsEnabledExactlyWhenArmed := by
  unfold Obligations.EmissionIsEnabledExactlyWhenArmed
  intro h
  obtain ⟨u, hstep, hmain, hemit⟩ := armedBeforeRestart_step
  obtain ⟨-, hlow⟩ := h armedBeforeRestart u armedBeforeRestart_safe hstep
  rw [hlow hmain] at hemit
  exact absurd hemit (by decide)

end Sys2Proof.Machine
end

section
/-!
SUPPORT. Shared rules of the commands below: those that a unit gives, those that run with the main domain in reset as well, and
the units of a completed command.
-/

namespace Sys2Proof.Machine

/-- A command of the acting unit, as `gives_of_effect`. -/
theorem gives_of_unit_effect {i : Instr} {t : Nat} {fr l : List UnitId} {f : State → State} {s a : State} {P : State → Prop}
    (he : exec i s = runUnit t fr f s) (hm : s.mainOn = true) (hacts : s.unitActs = true) (ha : f (s.atTime t) = a)
    (hl : OnlyChanges l (s.atTime t) a) (hp : ∀ u, OnlyChanges l s u → Leaves fr a u → P u) : Gives i s P :=
  gives_of_effect he hm ((if_pos hacts).trans ha) hl hp

/-- A command of the acting unit, as `gives_of_command`. -/
theorem gives_of_unit_command {i : Instr} {t : Nat} {fr : List UnitId} {f : State → State} {s a : State} {P : State → Prop}
    (he : exec i s = runUnit t fr f s) (hm : s.mainOn = true) (hacts : s.unitActs = true) (ha : f (s.atTime t) = a)
    (hp : ∀ u, OnlyChanges (changesOf i) s u → Leaves fr a u → P u) : Gives i s P :=
  gives_of_command he hm ((if_pos hacts).trans ha) hp

/-- A command that runs with the main domain in reset as well, as `gives_of_effect`. -/
theorem gives_of_run_effect {i : Instr} {t : Nat} {fr l : List UnitId} {f : State → State} {s a : State} {P : State → Prop}
    (he : exec i s = run t fr f s) (ha : f (s.atTime t) = a) (hl : OnlyChanges l (s.atTime t) a)
    (hp : ∀ u, OnlyChanges l s u → Leaves fr a u → P u) : Gives i s P := by
  subst ha
  exact gives_run he (hp _ (OnlyChanges.of_effect hl) (Leaves.of_keepAll _ _ _ _ _))

/-- A command that runs with the main domain in reset as well, as `gives_of_command`. -/
theorem gives_of_run_command {i : Instr} {t : Nat} {fr : List UnitId} {f : State → State} {s a : State} {P : State → Prop}
    (he : exec i s = run t fr f s) (ha : f (s.atTime t) = a)
    (hp : ∀ u, OnlyChanges (changesOf i) s u → Leaves fr a u → P u) : Gives i s P := by
  subst ha
  exact gives_run he (hp _ (exec_onlyChanges (he.trans run_eq)) (Leaves.of_keepAll _ _ _ _ _))

end Sys2Proof.Machine
end

section
/-!
SUPPORT. The emission guard: what a trip makes of it, its feedback and test pulses, and the edges of its re-arm source
(13 R317 to R328).
-/

namespace Sys2Proof.Machine

/-- The guard alone. -/
theorem State.emgOnly_touches (s : State) (g : Emg) : OnlyChanges [.emg] s { s with emg := g } :=
  ⟨rfl, fun x hx => by cases x <;> simp_all [sameUnit]⟩

section Guard
variable {i : Instr} {t : Nat} {fr : List UnitId} {f : State → State} {s a : State} (hfr : .emg ∉ fr)
include hfr

/-- A command of the guard gives what its effect makes of the guard. -/
theorem gives_guard {l : List UnitId} (he : exec i s = runMain t fr f s) (hm : s.mainOn = true) (ha : f (s.atTime t) = a)
    (hl : ∀ x, x ∈ changesOf i → x ∈ l) : Gives i s fun u => OnlyChanges l s u ∧ u.emg = a.emg :=
  gives_of_command he hm ha fun _ hc hleft => ⟨hc.mono hl, (hleft.2.1 .emg hfr).symm⟩

/-- So does one of the acting unit. -/
theorem gives_guard_unit {l : List UnitId} (he : exec i s = runUnit t fr f s) (hm : s.mainOn = true)
    (hacts : s.unitActs = true) (ha : f (s.atTime t) = a) (hl : ∀ x, x ∈ changesOf i → x ∈ l) :
    Gives i s fun u => OnlyChanges l s u ∧ u.emg = a.emg :=
  gives_guard hfr he hm ((if_pos hacts).trans ha) hl

/-- One whose effect writes the guard alone changes nothing else. -/
theorem gives_guard_alone {g : Emg} (he : exec i s = runMain t fr f s) (hm : s.mainOn = true)
    (ha : f (s.atTime t) = { s.atTime t with emg := g }) : Gives i s fun u => OnlyChanges [.emg] s u ∧ u.emg = g :=
  gives_of_effect he hm ha (State.emgOnly_touches _ g) fun _ hl hleft => ⟨hl, (hleft.2.1 .emg hfr).symm⟩

end Guard

theorem emg_not_mem_emgFrame : UnitId.emg ∉ emgFrame := by decide

theorem emg_not_mem_emgFrame_quiet : UnitId.emg ∉ UnitId.kpp :: .evr :: emgFrame := by decide

/-! ### Trips (13 R317, R331) -/

/-- A trip of source `k` out of Armed. -/
def Emg.trippedBy (g : Emg) (k now : Nat) (time : Time80) (frame : Word) : Emg :=
  { g.arise k now with
    state := .tripped, emitEn := false, fellAt := now, lastCause := k, trips := sat32 g.trips, held := true
    history := addTrip g.history { time, cause := k, frame } }

@[simp] theorem Emg.arise_fields (g : Emg) (k now : Nat) :
    (g.arise k now).emitEn = g.emitEn ∧ (g.arise k now).state = g.state ∧ (g.arise k now).trips = g.trips ∧
      (g.arise k now).history = g.history ∧ (g.arise k now).aborted = g.aborted ∧ (g.arise k now).passed = g.passed ∧
      (g.arise k now).failures = g.failures ∧ (g.arise k now).ignored = g.ignored ∧
      (g.arise k now).accepted = g.accepted ∧ (g.arise k now).wins = g.wins ∧ (g.arise k now).bookings = g.bookings ∧
      (g.arise k now).ledgerCorrected = g.ledgerCorrected := by
  unfold Emg.arise
  split <;> exact ⟨rfl, rfl, rfl, rfl, rfl, rfl, rfl, rfl, rfl, rfl, rfl, rfl⟩

theorem State.refuseRearm_of_other {s : State} {k : Nat} (h : ∀ m, s.emg.rearmed ≠ some (s.now, m)) :
    s.refuseRearm k = s := by
  unfold State.refuseRearm
  split
  next at_ n hn =>
    refine if_neg fun ⟨hat, _⟩ => h n ?_
    rw [hn, hat]
  · rfl

theorem State.refuseRearm_of_unarmed {s : State} {k : Nat} (h : s.emg.state ≠ .armed) : s.refuseRearm k = s := by
  unfold State.refuseRearm
  split
  · exact if_neg fun ⟨_, harmed⟩ => h harmed
  · rfl

theorem State.refuseRearm_of_same {s : State} {k : Nat} {m : Word} (harmed : s.emg.state = .armed)
    (h : s.emg.rearmed = some (s.now, m)) :
    (s.refuseRearm k).emg = { s.emg with
      state := .tripped, emitEn := false, accepted := m, ignored := sat32 s.emg.ignored, rearmed := none } := by
  unfold State.refuseRearm
  split
  next at_ n hn =>
    obtain ⟨rfl, rfl⟩ : at_ = s.now ∧ n = m := by simpa using hn.symm.trans h
    rw [if_pos ⟨rfl, harmed⟩, State.raise_emg]
  next hn => exact absurd (hn.symm.trans h) (by simp)

/-- The guard after a trip whose source no re-arm of the same cycle precedes. -/
theorem State.tripWith_emg {s : State} {k : Nat} {abort : Bool} (hr : s.refuseRearm k = s) :
    (s.tripWith k abort).emg = if s.emg.state = .tripped then
        { s.emg.arise k s.now with
          history := addTrip s.emg.history { time := s.localTime, cause := k, frame := s.frameNow } }
      else
        { s.emg.arise k s.now with
          history := addTrip s.emg.history { time := s.localTime, cause := k, frame := s.frameNow }
          emitEn := false, fellAt := if s.emg.emitEn then s.now else (s.emg.arise k s.now).fellAt
          state := .tripped, lastCause := k, trips := sat32 s.emg.trips, held := true
          aborted := if s.emg.state == .testing && abort then sat32 s.emg.aborted else s.emg.aborted } := by
  unfold State.tripWith
  rw [hr]
  by_cases h : s.emg.state = .tripped
  · simp [h]
  · cases hemit : s.emg.emitEn <;> simp [h, hemit, Emg.emitOff]

theorem State.trip_of_inactive {s : State} {k : Nat} (h : (isCondition k && s.emg.sourceActive k) = false) :
    s.trip k = s.tripWith k true :=
  if_neg (by rw [h]; decide)

theorem State.trip_armed_emg {s : State} {k : Nat} (hactive : (isCondition k && s.emg.sourceActive k) = false)
    (harmed : s.emg.state = .armed) (hemit : s.emg.emitEn = true) (hr : ∀ m, s.emg.rearmed ≠ some (s.now, m)) :
    (s.trip k).emg = s.emg.trippedBy k s.now s.localTime s.frameNow := by
  rw [State.trip_of_inactive hactive, State.tripWith_emg (State.refuseRearm_of_other hr)]
  simp [harmed, hemit, Emg.trippedBy]

theorem State.emissionStop_key (s : State) : s.emissionStop (0x4553 : Word).toNat = s.trip 11 := if_pos (by decide)

theorem State.ledgerReads_good (s : State) (n : Nat) :
    s.ledgerReads n false = { s with emg := { s.emg with ledgerCorrected := sat32 s.emg.ledgerCorrected n } } := by
  simp only [State.ledgerReads, Bool.false_eq_true, if_false]

theorem State.ledgerReads_bad (s : State) (n : Nat) :
    s.ledgerReads n true =
      State.trip { s with emg := { s.emg with ledgerCorrected := sat32 s.emg.ledgerCorrected n } } 7 := by
  simp only [State.ledgerReads, if_true]

section Armed
variable {s : State} {t : Nat} (hm : s.mainOn = true) (harmed : s.emg.state = .armed) (hemit : s.emg.emitEn = true)
  (hr : ∀ m, s.emg.rearmed ≠ some (max s.now t, m))
include hm harmed hemit hr

theorem clockMonitorFail_trips (h : s.emg.sourceActive 8 = false) :
    Gives (.clockMonitorFail t) s (TripsArmed 8 t s s.emg) := by
  refine (gives_guard emg_not_mem_emgFrame (exec_clockMonitorFail s) hm rfl (by simp [changesOf])).mono
    fun u ⟨hl, hu⟩ => ⟨hl, hu.trans ?_⟩
  exact State.trip_armed_emg (s := s.atTime t) (by rw [State.atTime_emg, h]; rfl) harmed hemit hr

theorem gateReadbackEdge_trips {port : Nat} (h : s.emg.gated.contains port = true) :
    Gives (.gateReadbackEdge t port) s (TripsArmed 9 t s s.emg) := by
  have hgated : (s.atTime t).outputGated port = true := by
    rw [State.outputGated, State.atTime_emg, h, Bool.or_true]
  refine (gives_guard emg_not_mem_emgFrame (exec_gateReadbackEdge s) hm (if_pos hgated) (by simp [changesOf])).mono
    fun u ⟨hl, hu⟩ => ⟨hl, hu.trans ?_⟩
  exact State.trip_armed_emg (s := s.atTime t) rfl harmed hemit hr

theorem emissionStop_trips (hacts : s.unitActs = true) : Gives (.emissionStop t 0x4553) s (TripsArmed 11 t s s.emg) := by
  refine (gives_guard_unit emg_not_mem_emgFrame (exec_emissionStop s) hm hacts (State.emissionStop_key _)
    (by simp [changesOf])).mono
    fun u ⟨hl, hu⟩ => ⟨hl, hu.trans ?_⟩
  exact State.trip_armed_emg (s := s.atTime t) rfl harmed hemit hr

/-- A sweep that finds an uncorrectable read or a sum that differs. -/
theorem ledgerSweep_trips (n : Nat) {bad mismatch : Bool} (h : (bad != mismatch) = true) :
    Gives (.ledgerSweep t n bad mismatch) s
      (TripsArmed 7 t s { s.emg with ledgerCorrected := sat32 s.emg.ledgerCorrected n }) := by
  have ha : (let v := (s.atTime t).ledgerReads n bad; if mismatch && !bad then v.trip 7 else v) =
      State.trip { s.atTime t with emg := { s.emg with ledgerCorrected := sat32 s.emg.ledgerCorrected n } } 7 := by
    cases bad with
    | true =>
      obtain rfl : mismatch = false := by simpa using h
      exact (if_neg Bool.false_ne_true).trans (State.ledgerReads_bad _ n)
    | false =>
      obtain rfl : mismatch = true := by simpa using h
      refine (if_pos rfl).trans ?_
      rw [State.ledgerReads_good]
      rfl
  refine (gives_guard emg_not_mem_emgFrame (exec_ledgerSweep s) hm ha (by simp [changesOf])).mono
    fun u ⟨hl, hu⟩ => ⟨hl, hu.trans ?_⟩
  exact State.trip_armed_emg rfl harmed hemit hr

end Armed

theorem ledgerSweep_counts {s : State} {t : Nat} (hm : s.mainOn = true) (n : Nat) :
    Gives (.ledgerSweep t n false false) s fun u => OnlyChanges [.emg, .kpp, .evr] s u ∧
      u.emg = { s.emg with ledgerCorrected := sat32 s.emg.ledgerCorrected n } :=
  gives_guard emg_not_mem_emgFrame (exec_ledgerSweep s) hm rfl (by simp [changesOf])

theorem emissionStop_refuses_rearm {s : State} {t : Nat} {m : Word} (hm : s.mainOn = true) (hacts : s.unitActs = true)
    (harmed : s.emg.state = .armed) (h : s.emg.rearmed = some (max s.now t, m)) :
    Gives (.emissionStop t 0x4553) s fun u => OnlyChanges [.emg, .kpp, .evr] s u ∧
      u.emg.state = .tripped ∧ u.emg.emitEn = false ∧ u.emg.accepted = m ∧ u.emg.ignored = sat32 s.emg.ignored := by
  have hback := State.refuseRearm_of_same (s := s.atTime t) (k := 11) harmed h
  have htrip : ((s.atTime t).trip 11).emg = (State.tripWith ((s.atTime t).refuseRearm 11) 11 true).emg := by
    rw [State.trip_of_inactive rfl]
    unfold State.tripWith
    rw [State.refuseRearm_of_unarmed (s := (s.atTime t).refuseRearm 11) (by rw [hback]; simp)]
  rw [State.tripWith_emg (State.refuseRearm_of_unarmed (by rw [hback]; simp)), hback, if_pos rfl] at htrip
  refine (gives_guard_unit emg_not_mem_emgFrame (exec_emissionStop s) hm hacts (State.emissionStop_key _)
    (by simp [changesOf])).mono
    fun u ⟨hl, hu⟩ => ⟨hl, ?_⟩
  rw [hu, htrip]
  simp

theorem clockMonitorRecovery_clears {s : State} {t : Nat} (hm : s.mainOn = true) (h : s.emg.sourceActive 8 = true) :
    Gives (.clockMonitorRecovery t) s fun u => OnlyChanges [.emg] s u ∧
      u.emg = { s.emg with sources := s.emg.sources - 2 ^ 8 } :=
  gives_guard_alone emg_not_mem_emgFrame_quiet (exec_clockMonitorRecovery s) hm (if_pos h)

/-- Settles O21: a trip finds no re-arm of its cycle and takes the guard out of Armed, or takes the re-arm back first. -/
theorem tripsEndEmission : Obligations.TripsEndEmission := by
  unfold Obligations.TripsEndEmission
  refine ⟨fun s t port n hm harmed hemit hr => ⟨clockMonitorFail_trips hm harmed hemit hr,
    gateReadbackEdge_trips hm harmed hemit hr, emissionStop_trips hm harmed hemit hr,
    ledgerSweep_trips hm harmed hemit hr n rfl, ledgerSweep_trips hm harmed hemit hr n rfl, ledgerSweep_counts hm n⟩,
    fun s t m hm hacts harmed h => emissionStop_refuses_rearm hm hacts harmed h,
    fun s t hm h => clockMonitorRecovery_clears hm h⟩

end Sys2Proof.Machine
end

section
/-!
SUPPORT. EMIT_EN_FB, the test pulses and the edges of the re-arm source (13 R322 to R328).
-/

namespace Sys2Proof.Machine

/-! ### The verdict of a test (13 R323) -/

theorem State.checkTest_of_not_testing {s : State} (h : s.emg.state ≠ .testing) : s.checkTest = s :=
  if_pos (by simp [h])

theorem State.checkTest_of_checked {s : State} (h : s.emg.checked = true) : s.checkTest = s :=
  if_pos (by simp [h])

theorem State.checkTest_passes {s : State} (ht : s.emg.state = .testing) (hc : s.emg.checked = false)
    (hfb : s.emg.fb = false) :
    s.checkTest = { s with emg := { s.emg with checked := true, passed := sat32 s.emg.passed } } := by
  simp [State.checkTest, ht, hc, hfb]

theorem State.checkTest_fails {s : State} (ht : s.emg.state = .testing) (hc : s.emg.checked = false)
    (hfb : s.emg.fb = true) (hlate : s.emg.fellAt + 20000 ≤ s.now) :
    s.checkTest = (State.tripWith { s with emg := { s.emg with failures := sat32 s.emg.failures } } 5 false).raise
      0x5803 0x34 0 := by
  simp [State.checkTest, ht, hc, hfb, Nat.not_lt.2 hlate]

/-! ### The level of EMIT_EN_FB (13 R322) -/

theorem State.clearSource_emg (s : State) (k : Nat) : s.clearSource k = { s with emg := { s.emg with
    sources := if s.emg.sourceActive k then s.emg.sources - 2 ^ k else s.emg.sources } } := by
  unfold State.clearSource
  split <;> rfl

theorem State.feedback_falls_untested {s : State} (h : s.emg.state ≠ .testing) :
    s.feedback false = { s with emg := { s.emg with
      fb := false, sources := if s.emg.sourceActive 5 then s.emg.sources - 2 ^ 5 else s.emg.sources } } := by
  have hcheck : (if !false && decide (s.emg.fellAt + 20000 < s.now) then s.checkTest else s) = s := by
    rw [State.checkTest_of_not_testing h, ite_self]
  unfold State.feedback
  rw [hcheck]
  simp only [Bool.not_false, if_true, Bool.false_and, Bool.or_false, State.clearSource_emg, Emg.sourceActive]
  exact State.checkTest_of_not_testing h

theorem State.feedback_falls_in_test {s : State} (ht : s.emg.state = .testing) (hc : s.emg.checked = false)
    (hactive : s.emg.sourceActive 5 = false) (hearly : s.now ≤ s.emg.fellAt + 20000) :
    s.feedback false = { s with emg := { s.emg with fb := false, checked := true, passed := sat32 s.emg.passed } } := by
  have hcheck : (if !false && decide (s.emg.fellAt + 20000 < s.now) then s.checkTest else s) = s :=
    if_neg (by simpa using hearly)
  unfold State.feedback
  rw [hcheck]
  unfold Emg.sourceActive at hactive
  simp only [Bool.not_false, if_true, Bool.false_and, Bool.or_false, State.clearSource_emg, Emg.sourceActive, hactive,
    Bool.false_eq_true, if_false]
  exact State.checkTest_passes ht hc rfl

theorem State.feedback_rises {s : State} :
    s.feedback true =
      (let v : State := { s with emg := { s.emg with fb := true, onSeen := s.emg.onSeen || s.emg.emitEn } }
       if !s.emg.emitEn && decide (20000 < s.now - s.emg.fellAt) then v.trip 5 else v) := by
  simp [State.feedback]

theorem State.feedback_rises_late {s : State} (hemit : s.emg.emitEn = false) (hlate : s.emg.fellAt + 20000 < s.now) :
    s.feedback true = State.trip { s with emg := { s.emg with fb := true } } 5 := by
  have hover : 20000 < s.now - s.emg.fellAt := by omega
  simp [State.feedback_rises, hemit, hover]

theorem emitEnFbChange_on {s : State} {t : Nat} {level : Bool} {a : State} (hm : s.mainOn = true)
    (ha : (s.atTime t).feedback level = a) :
    Gives (.emitEnFbChange t level) s fun u => OnlyChanges [.emg, .kpp, .evr] s u ∧ u.emg = a.emg :=
  gives_of_run_command (exec_emitEnFbChange s) ((if_pos (show (s.atTime t).mainOn = true from hm)).trans ha)
    fun _ hl hleft => ⟨hl.mono (by simp [changesOf]), (hleft.2.1 .emg emg_not_mem_emgFrame).symm⟩

theorem emitEnFbChange_off {s : State} {t : Nat} {level : Bool} (hm : s.mainOn = false) :
    Gives (.emitEnFbChange t level) s fun u => OnlyChanges [.emg] s u ∧ u.emg = { s.emg with fb := level } := by
  refine gives_of_run_effect (exec_emitEnFbChange s) (if_neg ?_) (State.emgOnly_touches _ _) fun _ hl hleft =>
    ⟨hl, (hleft.2.1 .emg emg_not_mem_emgFrame).symm⟩
  rw [show (s.atTime t).mainOn = false from hm]
  decide

/-- Source 5 arises in a guard that is Tripped. -/
theorem State.trip_feedback_tripped {s : State} (ht : s.emg.state = .tripped) (hactive : s.emg.sourceActive 5 = false) :
    (s.trip 5).emg = { s.emg with
      sources := s.emg.sources ||| 2 ^ 5
      history := addTrip s.emg.history { time := s.localTime, cause := 5, frame := s.frameNow } } := by
  rw [State.trip_of_inactive (by rw [hactive]; rfl), State.tripWith_emg (State.refuseRearm_of_unarmed (by rw [ht]; decide)),
    if_pos ht]
  rfl

theorem Emg.startTest_armed {g : Emg} (hemit : g.emitEn = true) (at_ : Nat) : g.startTest at_ = { g with
    state := .testing, emitEn := false, fellAt := at_, checked := false, testFrom := at_ } := by
  simp [Emg.startTest, Emg.emitOff, hemit]

theorem Emg.testIsDue_armed {g : Emg} {at_ : Nat} (harmed : g.state = .armed) (h : g.testFrom + 1000000000 ≤ at_) :
    g.testIsDue at_ = true := by
  simp [Emg.testIsDue, harmed, h]

section Feedback
variable {s : State} {t : Nat} (hm : s.mainOn = true)
include hm

theorem emitEnFbChange_falls_untested (h : s.emg.state ≠ .testing) :
    Gives (.emitEnFbChange t false) s fun u => OnlyChanges [.emg, .kpp, .evr] s u ∧ u.emg = { s.emg with
      fb := false, sources := if s.emg.sourceActive 5 then s.emg.sources - 2 ^ 5 else s.emg.sources } :=
  emitEnFbChange_on hm (State.feedback_falls_untested (s := s.atTime t) h)

theorem emitEnFbChange_falls_in_test (ht : s.emg.state = .testing) (hc : s.emg.checked = false)
    (hactive : s.emg.sourceActive 5 = false) (hearly : max s.now t ≤ s.emg.fellAt + 20000) :
    Gives (.emitEnFbChange t false) s fun u => OnlyChanges [.emg, .kpp, .evr] s u ∧
      u.emg = { s.emg with fb := false, checked := true, passed := sat32 s.emg.passed } :=
  emitEnFbChange_on hm (State.feedback_falls_in_test (s := s.atTime t) ht hc hactive hearly)

theorem emitEnFbChange_rises_on (hemit : s.emg.emitEn = true) :
    Gives (.emitEnFbChange t true) s fun u => OnlyChanges [.emg, .kpp, .evr] s u ∧
      u.emg = { s.emg with fb := true, onSeen := true } := by
  refine (emitEnFbChange_on hm rfl).mono fun u ⟨hl, hu⟩ => ⟨hl, hu.trans ?_⟩
  simp [State.feedback_rises, hemit]

theorem emitEnFbChange_rises_soon (hemit : s.emg.emitEn = false) (hearly : max s.now t ≤ s.emg.fellAt + 20000) :
    Gives (.emitEnFbChange t true) s fun u => OnlyChanges [.emg, .kpp, .evr] s u ∧ u.emg = { s.emg with fb := true } := by
  have hsoon : ¬ 20000 < max s.now t - s.emg.fellAt := by omega
  refine (emitEnFbChange_on hm rfl).mono fun u ⟨hl, hu⟩ => ⟨hl, hu.trans ?_⟩
  simp [State.feedback_rises, hemit, hsoon]

theorem emitEnFbChange_rises_late (hemit : s.emg.emitEn = false) (ht : s.emg.state = .tripped)
    (hactive : s.emg.sourceActive 5 = false) (hlate : s.emg.fellAt + 20000 < max s.now t) :
    Gives (.emitEnFbChange t true) s fun u => OnlyChanges [.emg, .kpp, .evr] s u ∧ u.emg = { s.emg with
      sources := s.emg.sources ||| 2 ^ 5
      history := addTrip s.emg.history { time := (s.atTime t).localTime, cause := 5, frame := s.frameNow }
      fb := true } := by
  refine (emitEnFbChange_on hm (State.feedback_rises_late (s := s.atTime t) hemit hlate)).mono fun u ⟨hl, hu⟩ =>
    ⟨hl, hu.trans ?_⟩
  exact State.trip_feedback_tripped (s := { s.atTime t with emg := { s.emg with fb := true } }) ht hactive

theorem feedbackStuck_trips (hemit : s.emg.emitEn = false) (ht : s.emg.state = .tripped)
    (hactive : s.emg.sourceActive 5 = false) (hlate : s.emg.fellAt + 20000 < max s.now t) (hfb : s.emg.fb = true) :
    Gives (.feedbackStuck t) s fun u => OnlyChanges [.emg, .kpp, .evr] s u ∧ u.emg = { s.emg with
      sources := s.emg.sources ||| 2 ^ 5
      history := addTrip s.emg.history { time := (s.atTime t).localTime, cause := 5, frame := s.frameNow } } := by
  have hover : 20000 < max s.now t - s.emg.fellAt := by omega
  have hstuck : (!s.emg.emitEn && s.emg.fb && s.emg.state != .testing &&
      decide (20000 < max s.now t - s.emg.fellAt)) = true := by
    simp [hemit, hfb, ht, hover]
  refine (gives_guard emg_not_mem_emgFrame (exec_feedbackStuck s) hm (if_pos hstuck) (by simp [changesOf])).mono
    fun u ⟨hl, hu⟩ => ⟨hl, hu.trans ?_⟩
  exact State.trip_feedback_tripped (s := s.atTime t) ht hactive

theorem supplyNotOn_reports (hemit : s.emg.emitEn = true) (hfb : s.emg.fb = false) (hseen : s.emg.onSeen = false)
    (hraised : s.emg.notOnRaised = false) (hlate : s.emg.roseAt + 1000000 ≤ max s.now t) :
    Gives (.supplyNotOn t) s fun u => OnlyChanges [.emg, .kpp, .evr] s u ∧ u.emg = { s.emg with notOnRaised := true } := by
  have hover : 1000000 ≤ max s.now t - s.emg.roseAt := by omega
  have hdue : (s.emg.emitEn && !s.emg.fb && !s.emg.onSeen && !s.emg.notOnRaised &&
      decide (1000000 ≤ max s.now t - s.emg.roseAt)) = true := by
    simp [hemit, hfb, hseen, hraised, hover]
  refine (gives_guard emg_not_mem_emgFrame (exec_supplyNotOn s) hm (if_pos hdue) (by simp [changesOf])).mono
    fun u ⟨hl, hu⟩ => ⟨hl, hu.trans ?_⟩
  exact State.raise_emg _ _ _ _

/-! ### Test pulses (13 R323) -/

theorem testPulseStart_starts (harmed : s.emg.state = .armed) (hemit : s.emg.emitEn = true) (hturn : s.pipe.inTurn = true)
    (hdue : s.emg.testFrom + 1000000000 ≤ s.pipe.turnStart + 500000) (hfrom : s.pipe.turnStart + 500000 ≤ max s.now t)
    (hto : max s.now t < s.pipe.turnStart + 500000 + 50000) :
    Gives (.testPulseStart t) s fun u => OnlyChanges [.emg] s u ∧ u.emg = { s.emg with
      state := .testing, emitEn := false, fellAt := s.pipe.turnStart + 500000, checked := false
      testFrom := s.pipe.turnStart + 500000 } := by
  have hstarts : (s.pipe.inTurn && s.emg.testIsDue (s.pipe.turnStart + 500000) &&
      decide (s.pipe.turnStart + 500000 ≤ max s.now t) &&
      decide (max s.now t < s.pipe.turnStart + 500000 + 50000)) = true := by
    rw [hturn, Emg.testIsDue_armed harmed hdue, decide_eq_true hfrom, decide_eq_true hto]
    rfl
  rw [← Emg.startTest_armed hemit]
  exact gives_guard_alone emg_not_mem_emgFrame_quiet (exec_testPulseStart s) hm (if_pos hstarts)

theorem testDueTimer_starts (harmed : s.emg.state = .armed) (hemit : s.emg.emitEn = true) (hidle : s.pipe.running = false)
    (hdue : s.emg.testFrom + 1000000000 ≤ max s.now t) :
    Gives (.testDueTimer t) s fun u => OnlyChanges [.emg] s u ∧ u.emg = { s.emg with
      state := .testing, emitEn := false, fellAt := max s.now t, checked := false, testFrom := max s.now t } := by
  have hstarts : (!s.pipe.running && s.emg.testIsDue (max s.now t)) = true := by
    rw [hidle, Emg.testIsDue_armed harmed hdue]
    rfl
  rw [← Emg.startTest_armed hemit]
  exact gives_guard_alone emg_not_mem_emgFrame_quiet (exec_testDueTimer s) hm (if_pos hstarts)

theorem testPulseCheck_passes (ht : s.emg.state = .testing) (hc : s.emg.checked = false) (hfb : s.emg.fb = false) :
    Gives (.testPulseCheck t) s fun u => OnlyChanges [.emg, .kpp, .evr] s u ∧
      u.emg = { s.emg with checked := true, passed := sat32 s.emg.passed } :=
  gives_guard emg_not_mem_emgFrame (exec_testPulseCheck s) hm (State.checkTest_passes (s := s.atTime t) ht hc hfb)
    (by simp [changesOf])

theorem testPulseCheck_fails (ht : s.emg.state = .testing) (hc : s.emg.checked = false) (hfb : s.emg.fb = true)
    (hlate : s.emg.fellAt + 20000 ≤ max s.now t) :
    Gives (.testPulseCheck t) s fun u => OnlyChanges [.emg, .kpp, .evr] s u ∧
      u.emg.state = .tripped ∧ u.emg.emitEn = false ∧ u.emg.failures = sat32 s.emg.failures ∧ u.emg.lastCause = 5 ∧
      u.emg.sources.testBit 5 = true ∧ u.emg.aborted = s.emg.aborted ∧ u.emg.passed = s.emg.passed := by
  refine (gives_guard emg_not_mem_emgFrame (exec_testPulseCheck s) hm
    (State.checkTest_fails (s := s.atTime t) ht hc hfb hlate) (by simp [changesOf])).mono fun u ⟨hl, hu⟩ => ⟨hl, ?_⟩
  rw [State.raise_emg, State.tripWith_emg (State.refuseRearm_of_unarmed (by simp [ht]))] at hu
  have hbit : (s.emg.sources ||| 2 ^ 5).testBit 5 = true := by
    rw [Nat.testBit_or, Nat.testBit_two_pow_self, Bool.or_true]
  have hcond : isCondition 5 = true := rfl
  simpa [hu, ht, Emg.arise, hcond] using hbit

theorem testPulseEnd_rises (ht : s.emg.state = .testing) (hc : s.emg.checked = true ∨ s.emg.fb = false)
    (hover : s.emg.fellAt + 50000 ≤ max s.now t) :
    Gives (.testPulseEnd t) s fun u => OnlyChanges [.emg, .kpp, .evr] s u ∧ u.emg = { s.emg with
      state := .armed, emitEn := true, roseAt := s.emg.fellAt + 50000, onSeen := s.emg.fb, notOnRaised := false
      checked := true, passed := if s.emg.checked then s.emg.passed else sat32 s.emg.passed } := by
  have hdue : (s.emg.state == .testing && decide (s.emg.fellAt + 50000 ≤ max s.now t)) = true := by
    rw [ht, decide_eq_true hover]
    rfl
  refine (gives_guard emg_not_mem_emgFrame (exec_testPulseEnd s) hm (if_pos hdue) (by simp [changesOf])).mono
    fun u ⟨hl, hu⟩ => ⟨hl, hu.trans ?_⟩
  by_cases hchecked : s.emg.checked = true
  · simp [State.checkTest_of_checked (s := s.atTime t) hchecked, ht, hchecked, Emg.emitOn]
  · have hunchecked : s.emg.checked = false := by simpa using hchecked
    have hfb : s.emg.fb = false := hc.resolve_left hchecked
    simp [State.checkTest_passes (s := s.atTime t) ht hunchecked hfb, ht, hunchecked, Emg.emitOn]

end Feedback

/-- Settles O22: each level and each step of a test is the branch of its command that acts. -/
theorem feedbackAndTestPulses : Obligations.FeedbackAndTestPulses := by
  unfold Obligations.FeedbackAndTestPulses
  refine ⟨fun s t level hm => emitEnFbChange_off hm, fun s t hm => ?_, fun s t hm => ?_⟩
  · exact ⟨emitEnFbChange_falls_untested hm, emitEnFbChange_falls_in_test hm, emitEnFbChange_rises_on hm,
      emitEnFbChange_rises_soon hm,
      fun hemit ht hactive hlate => ⟨emitEnFbChange_rises_late hm hemit ht hactive hlate,
        feedbackStuck_trips hm hemit ht hactive hlate⟩,
      supplyNotOn_reports hm⟩
  · exact ⟨fun harmed hemit => ⟨testPulseStart_starts hm harmed hemit, testDueTimer_starts hm harmed hemit⟩,
      fun ht hc => ⟨testPulseCheck_passes hm ht hc, testPulseCheck_fails hm ht hc⟩, testPulseEnd_rises hm⟩

/-! ### The re-arm source (13 R325 to R328) -/

/-- The guard an accepted edge leaves. -/
def Emg.rearmedAt (g : Emg) (now : Nat) : Emg :=
  { g with
    state := .armed, emitEn := true, roseAt := now, onSeen := g.fb, notOnRaised := false
    testFrom := now, accepted := sat32 g.accepted, rearmed := some (now, g.accepted) }

/-- An edge arms: Tripped, every source inactive, the hold-off over. -/
def Emg.Rearms (g : Emg) (now : Nat) : Prop :=
  g.state = .tripped ∧ g.sourcesAt now = 0 ∧ g.releasedAt + g.holdOff ≤ now

theorem State.rearmEdge_arms {s : State} (h : s.emg.Rearms s.now) : s.rearmEdge.emg = s.emg.rearmedAt s.now := by
  obtain ⟨ht, hsources, hover⟩ := h
  have hheld : ¬ s.now - s.emg.releasedAt < s.emg.holdOff := by omega
  simp [State.rearmEdge, ht, hsources, hheld, Emg.rearmedAt, Emg.emitOn]

theorem State.rearmEdge_ignored {s : State}
    (h : s.emg.state ≠ .tripped ∨ s.emg.sourcesAt s.now ≠ 0 ∨ s.now - s.emg.releasedAt < s.emg.holdOff) :
    s.rearmEdge.emg = { s.emg with ignored := sat32 s.emg.ignored } := by
  have hrefused : ¬ (s.emg.state == .tripped && s.emg.sourcesAt s.now == 0 &&
      !decide (s.now - s.emg.releasedAt < s.emg.holdOff)) = true := by
    simp only [Bool.and_eq_true, beq_iff_eq, Bool.not_eq_true', decide_eq_false_iff_not]
    tauto
  simp only [State.rearmEdge, if_neg hrefused, State.raise_emg]

theorem State.rearmRequest_zero {s : State} (hsource : s.emg.source = true) :
    s.rearmRequest 0 = { s with emg := { s.emg with held := false } } := by
  simp [State.rearmRequest, hsource]

theorem State.rearmRequest_one {s : State} {n : Nat} (hsource : s.emg.source = true) (hheld : s.emg.held = false)
    (hn : n ≠ 0) : s.rearmRequest n = State.rearmEdge { s with emg := { s.emg with held := true } } := by
  have hone : (n != 0) = true := by simpa using hn
  simp [State.rearmRequest, hsource, hheld, hone]

section Rearm
variable {s : State} {t : Nat} (hm : s.mainOn = true)
include hm

/-- An edge of the pin after its debouncing, where the pin is the selected source. -/
theorem rearmPinEdge_selected (hsource : s.emg.source = false) (hdue : s.emg.pinFrom ≤ max s.now t) :
    Gives (.rearmPinEdge t) s fun u => OnlyChanges [.emg, .kpp, .evr] s u ∧
      u.emg = (State.rearmEdge { s.atTime t with emg := { s.emg with pinFrom := max s.now t + 10016000 } }).emg :=
  gives_guard emg_not_mem_emgFrame (exec_rearmPinEdge s) hm
    ((if_neg (Nat.not_lt.2 hdue)).trans (if_neg (by simp [hsource]))) (by simp [changesOf])

theorem rearmPinEdge_unselected (hsource : s.emg.source = true) (hdue : s.emg.pinFrom ≤ max s.now t) :
    Gives (.rearmPinEdge t) s fun u => OnlyChanges [.emg, .kpp, .evr] s u ∧
      u.emg = { s.emg with pinFrom := max s.now t + 10016000 } :=
  gives_guard emg_not_mem_emgFrame (exec_rearmPinEdge s) hm ((if_neg (Nat.not_lt.2 hdue)).trans (if_pos hsource))
    (by simp [changesOf])

theorem rearmPinEdge_early (hearly : max s.now t < s.emg.pinFrom) :
    Gives (.rearmPinEdge t) s fun u => OnlyChanges [.emg, .kpp, .evr] s u ∧ u.emg = s.emg :=
  gives_guard (a := s.atTime t) emg_not_mem_emgFrame (exec_rearmPinEdge s) hm (if_pos hearly) (by simp [changesOf])

variable (hacts : s.unitActs = true)
include hacts

theorem rearmRequest_unselected (hsource : s.emg.source = false) (v : Byte) :
    Gives (.rearmRequest t v) s fun u => OnlyChanges [.emg, .kpp, .evr] s u ∧
      u.emg = { s.emg with ignored := sat32 s.emg.ignored } :=
  gives_guard_unit emg_not_mem_emgFrame (exec_rearmRequest s) hm hacts (if_pos (by simp [hsource])) (by simp [changesOf])

theorem rearmRequest_released (hsource : s.emg.source = true) :
    Gives (.rearmRequest t 0) s fun u => OnlyChanges [.emg, .kpp, .evr] s u ∧ u.emg = { s.emg with held := false } :=
  (gives_guard_unit (l := [.emg, .kpp, .evr]) emg_not_mem_emgFrame (exec_rearmRequest s) hm hacts
    (State.rearmRequest_zero (s := s.atTime t) hsource) (by simp [changesOf])).mono fun _ h => h

/-- A 1 written after a 0 is an edge. -/
theorem rearmRequest_selected (hsource : s.emg.source = true) (hheld : s.emg.held = false) {v : Byte} (hv : v ≠ 0) :
    Gives (.rearmRequest t v) s fun u => OnlyChanges [.emg, .kpp, .evr] s u ∧
      u.emg = (State.rearmEdge { s.atTime t with emg := { s.emg with held := true } }).emg := by
  have hn : v.toNat ≠ 0 := fun h => hv (BitVec.eq_of_toNat_eq h)
  exact gives_guard_unit emg_not_mem_emgFrame (exec_rearmRequest s) hm hacts
    (State.rearmRequest_one (s := s.atTime t) hsource hheld hn) (by simp [changesOf])

end Rearm

/-- Settles O23: an edge of the selected source arms where `Emg.Rearms` holds, and is counted as ignored elsewhere. -/
theorem rearmNeedsEverySourceInactive : Obligations.RearmNeedsEverySourceInactive := by
  unfold Obligations.RearmNeedsEverySourceInactive
  intro s t v hm hv
  refine ⟨fun ht hsources hover => ⟨fun hsource hdue => ?_, fun hsource hacts hheld => ?_⟩,
    fun hrefused => ⟨fun hsource hdue => ?_, fun hsource hacts hheld => ?_⟩,
    rearmPinEdge_unselected hm, rearmPinEdge_early hm, fun hsource hacts => rearmRequest_unselected hm hacts hsource v,
    fun hsource hacts => rearmRequest_released hm hacts hsource⟩
  · refine (rearmPinEdge_selected hm hsource hdue).mono fun u ⟨hl, hu⟩ => ⟨hl, hu.trans ?_⟩
    exact State.rearmEdge_arms ⟨ht, hsources, hover⟩
  · refine (rearmRequest_selected hm hacts hsource hheld hv).mono fun u ⟨hl, hu⟩ => ⟨hl, hu.trans ?_⟩
    exact State.rearmEdge_arms ⟨ht, hsources, hover⟩
  · refine (rearmPinEdge_selected hm hsource hdue).mono fun u ⟨hl, hu⟩ => ⟨hl, hu.trans ?_⟩
    exact State.rearmEdge_ignored hrefused
  · refine (rearmRequest_selected hm hacts hsource hheld hv).mono fun u ⟨hl, hu⟩ => ⟨hl, hu.trans ?_⟩
    exact State.rearmEdge_ignored hrefused

end Sys2Proof.Machine
end

section
/-!
SUPPORT. The ledger of the emission guard: its windows of buckets and their totals, and the commands that book and advance
them (13 R310, R312, R318).
-/

namespace Sys2Proof.Machine

/-! ### Counted maps -/

theorem mget_mdel_other {α : Type} {m : SMap α} {x y : Nat} (hm : rising m = true) (h : y ≠ x) :
    mget (mdel m x) y = mget m y := by
  induction m with
  | nil => rfl
  | cons e m ih =>
    obtain ⟨hrest, habove⟩ := rising_cons.1 hm
    rw [mdel]
    split
    · subst x
      rw [mget, if_neg h]
      split
      next hlt => exact mget_eq_none_of_above fun f hf => hlt.trans (habove f hf)
      · rfl
    split
    · rfl
    · rw [mget, mget, ih hrest]

theorem rising_mput {m : SMap Nat} (k v : Nat) (h : rising m = true) : rising (mput m k v) = true := by
  unfold mput
  split
  · exact rising_mdel k h
  · exact rising_mset k v h

theorem mcount_mput_self_of_rising {m : SMap Nat} (k v : Nat) (h : rising m = true) : mcount (mput m k v) k = v := by
  unfold mput mcount
  split
  next hv => rw [mget_mdel_self k h, hv]; rfl
  · rw [mget_mset_self]; rfl

theorem mcount_mput_of_rising {m : SMap Nat} {k j : Nat} (v : Nat) (h : rising m = true) (hj : j ≠ k) :
    mcount (mput m k v) j = mcount m j := by
  unfold mput mcount
  split
  · rw [mget_mdel_other h hj]
  · rw [mget_mset_other m v hj]

theorem mcount_madd {m : SMap Nat} (k d j : Nat) (h : rising m = true) :
    mcount (madd m k d) j = mcount m j + if j = k then d else 0 := by
  unfold madd
  split
  next hj => rw [hj, mcount_mput_self_of_rising k _ h]
  next hj => rw [mcount_mput_of_rising _ h hj]; rfl

theorem rising_madd {m : SMap Nat} (k d : Nat) (h : rising m = true) : rising (madd m k d) = true := rising_mput k _ h

theorem mcount_cons {e : Nat × Nat} {m : SMap Nat} (h : rising (e :: m) = true) (j : Nat) :
    mcount (e :: m) j = if j = e.1 then e.2 else mcount m j := by
  unfold mcount
  rw [mget]
  split
  · rfl
  split
  next hlt => rw [mget_eq_none_of_above fun f hf => hlt.trans ((rising_cons.1 h).2 f hf)]
  · rfl

theorem sumOf_eq_sum (l : List Nat) : sumOf l = l.sum := List.sum_eq_foldl.symm

/-! ### A bucket out of the window -/

/-- A total without what a bucket holds. -/
def withoutBucket (t m : SMap Nat) : SMap Nat := m.foldl (fun t x => mput t x.1 (mcount t x.1 - x.2)) t

theorem rising_withoutBucket {t : SMap Nat} (m : SMap Nat) (h : rising t = true) : rising (withoutBucket t m) = true := by
  induction m generalizing t with
  | nil => exact h
  | cons e m ih => exact ih (rising_mput _ _ h)

theorem mcount_withoutBucket {t m : SMap Nat} (j : Nat) (ht : rising t = true) (hm : rising m = true) :
    mcount (withoutBucket t m) j = mcount t j - mcount m j := by
  induction m generalizing t with
  | nil => rfl
  | cons e m ih =>
    obtain ⟨hrest, habove⟩ := rising_cons.1 hm
    have hnext := ih (rising_mput e.1 (mcount t e.1 - e.2) ht) hrest
    refine hnext.trans ?_
    rw [mcount_cons hm]
    split
    next hj =>
      have hgone : mcount m e.1 = 0 := by rw [mcount, mget_eq_none_of_above habove]; rfl
      rw [hj, mcount_mput_self_of_rising _ _ ht, hgone, Nat.sub_zero]
    next hj => rw [mcount_mput_of_rising _ ht hj]

/-- Several buckets leave one after another. -/
theorem foldl_withoutBucket (gone : List (SMap Nat)) {t : SMap Nat} (ht : rising t = true)
    (hgone : ∀ m ∈ gone, rising m = true) :
    rising (gone.foldl withoutBucket t) = true ∧
      ∀ j, mcount (gone.foldl withoutBucket t) j = mcount t j - (gone.map fun m => mcount m j).sum := by
  induction gone generalizing t with
  | nil => exact ⟨ht, fun j => rfl⟩
  | cons m gone ih =>
    have hm := hgone m List.mem_cons_self
    obtain ⟨hrising, hcount⟩ := ih (rising_withoutBucket m ht) fun x hx => hgone x (List.mem_cons_of_mem _ hx)
    refine ⟨hrising, fun j => ?_⟩
    rw [List.map_cons, List.sum_cons, ← Nat.sub_sub, ← mcount_withoutBucket j ht hm]
    exact hcount j

/-! ### The window (13 R310) -/

/-- The total is the sum of 1 to 33 buckets. -/
def LedgerWin.Sound (w : LedgerWin) : Prop :=
  rising w.total = true ∧ (∀ m ∈ w.buckets, rising m = true) ∧ 1 ≤ w.buckets.length ∧ w.buckets.length ≤ 33 ∧
    ∀ b, mcount w.total b = sumOf (w.buckets.map fun m => mcount m b)

theorem LedgerWin.advance_eq (w : LedgerWin) : w.advance =
    { bucket := w.bucket + 1, buckets := (([] : SMap Nat) :: w.buckets).take 33
      total := ((([] : SMap Nat) :: w.buckets).drop 33).foldl withoutBucket w.total } := rfl

theorem LedgerWin.Sound.advance {w : LedgerWin} (h : w.Sound) : w.advance.Sound := by
  obtain ⟨htotal, hbuckets, -, -, hsum⟩ := h
  have hall : ∀ m ∈ ([] : SMap Nat) :: w.buckets, rising m = true := by
    intro m hm
    rcases List.mem_cons.1 hm with rfl | hm
    · rfl
    · exact hbuckets m hm
  obtain ⟨hrising, hcount⟩ := foldl_withoutBucket ((([] : SMap Nat) :: w.buckets).drop 33) htotal
    fun m hm => hall m (List.mem_of_mem_drop hm)
  rw [LedgerWin.advance_eq]
  refine ⟨hrising, fun m hm => hall m (List.mem_of_mem_take hm), ?_, ?_, fun b => ?_⟩
  · simp
  · exact List.length_take_le _ _
  · have hsplit := congrArg (fun l => (List.map (fun m => mcount m b) l).sum)
      (List.take_append_drop 33 (([] : SMap Nat) :: w.buckets))
    have hempty : mcount ([] : SMap Nat) b = 0 := rfl
    simp only [List.map_append, List.sum_append, List.map_cons, List.sum_cons, hempty, Nat.zero_add] at hsplit
    rw [hcount, hsum, sumOf_eq_sum, sumOf_eq_sum, ← hsplit]
    exact Nat.add_sub_cancel _ _

theorem LedgerWin.Sound.advanceBy {w : LedgerWin} (n : Nat) (h : w.Sound) : (w.advanceBy n).Sound := by
  induction n generalizing w with
  | zero => exact h
  | succ n ih => exact ih h.advance

theorem LedgerWin.advanceBy_bucket (n : Nat) (w : LedgerWin) : (w.advanceBy n).bucket = w.bucket + n := by
  induction n generalizing w with
  | zero => rfl
  | succ n ih =>
    refine (ih w.advance).trans ?_
    show w.bucket + 1 + n = w.bucket + (n + 1)
    omega

/-- The newest `n` buckets are empty `n` buckets on. -/
theorem LedgerWin.advanceBy_empty (n : Nat) {w : LedgerWin} {j : Nat} (h : ∀ m ∈ w.buckets.take j, m = []) :
    ∀ m ∈ (w.advanceBy n).buckets.take (j + n), m = [] := by
  induction n generalizing w j with
  | zero => exact h
  | succ n ih =>
    have hnext : ∀ m ∈ w.advance.buckets.take (j + 1), m = [] := by
      intro m hm
      rw [LedgerWin.advance_eq, List.take_take, Nat.min_comm, ← List.take_take, List.take_succ_cons] at hm
      rcases List.mem_cons.1 (List.mem_of_mem_take hm) with rfl | hm
      · rfl
      · exact h m hm
    have hlast := ih hnext
    rwa [Nat.add_assoc, Nat.add_comm 1 n] at hlast

theorem LedgerWin.Sound.value_of_empty {w : LedgerWin} (h : w.Sound) (he : ∀ m ∈ w.buckets, m = []) (b : Nat) :
    w.value b = 0 := by
  obtain ⟨-, -, -, -, hsum⟩ := h
  have hzero : (w.buckets.map fun m => mcount m b).sum = 0 := by
    refine List.sum_eq_zero fun x hx => ?_
    obtain ⟨m, hm, rfl⟩ := List.mem_map.1 hx
    rw [he m hm]
    rfl
  rw [LedgerWin.value, hsum, sumOf_eq_sum, hzero]
  rfl

theorem LedgerWin.Sound.reach {w : LedgerWin} (h : w.Sound) (k : Nat) : (w.reach k).Sound := by
  unfold LedgerWin.reach
  split_ifs
  · exact h
  · exact h.advanceBy _
  · exact ⟨rfl, by simp [rising], Nat.le_refl 1, by simp, fun b => rfl⟩

theorem LedgerWin.reach_bucket (w : LedgerWin) (k : Nat) : (w.reach k).bucket = max w.bucket k := by
  unfold LedgerWin.reach
  split_ifs
  · omega
  · rw [LedgerWin.advanceBy_bucket]
    omega
  · show k = max w.bucket k
    omega

/-- Nothing is left in a window 33 buckets on. -/
theorem LedgerWin.Sound.reach_far {w : LedgerWin} (h : w.Sound) {k : Nat} (hk : w.bucket + 33 ≤ k) (b : Nat) :
    (w.reach k).value b = 0 := by
  unfold LedgerWin.reach
  rw [if_neg (by omega)]
  split
  · have hlast := h.advanceBy (k - w.bucket)
    obtain ⟨-, -, -, hlen, -⟩ := hlast
    have hempty := LedgerWin.advanceBy_empty (k - w.bucket) (w := w) (j := 0) (by simp)
    rw [List.take_of_length_le (by omega)] at hempty
    exact (h.advanceBy _).value_of_empty hempty b
  · rfl

/-! ### A booking (13 R312) -/

theorem sum_modify_madd {l : List (SMap Nat)} {i : Nat} (b e j : Nat) (hi : i < l.length)
    (hl : ∀ m ∈ l, rising m = true) :
    ((l.modify i fun m => madd m b e).map fun m => mcount m j).sum =
      (l.map fun m => mcount m j).sum + if j = b then e else 0 := by
  induction l generalizing i with
  | nil => exact absurd hi (Nat.not_lt_zero i)
  | cons m l ih =>
    cases i with
    | zero =>
      simp only [List.modify_zero_cons, List.map_cons, List.sum_cons, mcount_madd b e j (hl m List.mem_cons_self)]
      omega
    | succ i =>
      have hrest := ih (Nat.lt_of_succ_lt_succ hi) fun x hx => hl x (List.mem_cons_of_mem _ hx)
      simp only [List.modify_succ_cons, List.map_cons, List.sum_cons, hrest]
      omega

/-- The buckets with empty ones up to the `i`-th before the current one. -/
def LedgerWin.upTo (w : LedgerWin) (i : Nat) : List (SMap Nat) :=
  w.buckets ++ List.replicate (i + 1 - w.buckets.length) []

theorem LedgerWin.book_eq (w : LedgerWin) {i : Nat} (hi : i < 33) (b e : Nat) :
    w.book i b e = { w with buckets := (w.upTo i).modify i fun m => madd m b e, total := madd w.total b e } :=
  if_neg (by omega)

theorem LedgerWin.length_upTo (w : LedgerWin) (i : Nat) : (w.upTo i).length = max w.buckets.length (i + 1) := by
  simp only [LedgerWin.upTo, List.length_append, List.length_replicate]
  omega

theorem LedgerWin.getD_upTo (w : LedgerWin) (i : Nat) : (w.upTo i).getD i [] = w.buckets.getD i [] := by
  simp only [LedgerWin.upTo, List.getD_eq_getElem?_getD, List.getElem?_append, List.getElem?_replicate]
  split
  · rfl
  · rw [List.getElem?_eq_none (by omega)]
    split <;> rfl

theorem LedgerWin.rising_upTo {w : LedgerWin} (h : ∀ m ∈ w.buckets, rising m = true) (i : Nat) :
    ∀ m ∈ w.upTo i, rising m = true := by
  intro m hm
  rcases List.mem_append.1 hm with hm | hm
  · exact h m hm
  · rw [(List.mem_replicate.1 hm).2]
    rfl

theorem LedgerWin.sum_upTo (w : LedgerWin) (i b : Nat) :
    ((w.upTo i).map fun m => mcount m b).sum = (w.buckets.map fun m => mcount m b).sum := by
  have hempty : mcount ([] : SMap Nat) b = 0 := rfl
  simp [LedgerWin.upTo, hempty]

theorem LedgerWin.Sound.book {w : LedgerWin} (h : w.Sound) (i b e : Nat) : (w.book i b e).Sound := by
  by_cases hi : i < 33
  · obtain ⟨htotal, hbuckets, hlow, hhigh, hsum⟩ := h
    have hrising := LedgerWin.rising_upTo hbuckets i
    have hlen := w.length_upTo i
    rw [LedgerWin.book_eq w hi]
    refine ⟨rising_madd b e htotal, fun m hm => ?_, ?_, ?_, fun j => ?_⟩
    · obtain ⟨k, hk, rfl⟩ := List.mem_iff_getElem.1 hm
      rw [List.getElem_modify]
      split
      · exact rising_madd b e (hrising _ (List.getElem_mem _))
      · exact hrising _ (List.getElem_mem _)
    · rw [List.length_modify]
      omega
    · rw [List.length_modify]
      omega
    · rw [sumOf_eq_sum, sum_modify_madd b e j (by omega) hrising, w.sum_upTo, mcount_madd b e j htotal, hsum, sumOf_eq_sum]
  · rw [LedgerWin.book, if_pos (by omega)]
    exact h

section Book
variable {w : LedgerWin} (h : w.Sound) {i : Nat} (hi : i < 33) (b e : Nat)
include h hi

theorem LedgerWin.book_value : (w.book i b e).value b = min (mcount w.total b + e) 0xFFFFFFFF := by
  rw [LedgerWin.book_eq w hi, LedgerWin.value, mcount_madd b e b h.1, if_pos rfl]

theorem LedgerWin.book_value_other {b' : Nat} (hb : b' ≠ b) : (w.book i b e).value b' = w.value b' := by
  rw [LedgerWin.book_eq w hi, LedgerWin.value, mcount_madd b e b' h.1, if_neg hb, Nat.add_zero]
  rfl

theorem LedgerWin.book_bucket :
    mcount ((w.book i b e).buckets.getD i []) b = mcount (w.buckets.getD i []) b + e := by
  have hlen := w.length_upTo i
  have hget : ((w.upTo i).modify i fun m => madd m b e).getD i [] = madd ((w.upTo i).getD i []) b e := by
    rw [List.getD_eq_getElem _ _ (by rw [List.length_modify]; omega), List.getElem_modify, if_pos rfl,
      List.getD_eq_getElem _ _ (by omega)]
  have hrising : rising ((w.upTo i).getD i []) = true := by
    rw [List.getD_eq_getElem _ _ (by omega)]
    exact LedgerWin.rising_upTo h.2.1 i _ (List.getElem_mem _)
  rw [LedgerWin.book_eq w hi, hget, mcount_madd b e b hrising, if_pos rfl, w.getD_upTo]

end Book

/-! ### LEDGER_BOOKING and LEDGER_BUCKET_ADVANCE (13 R310, R312, R318) -/

theorem Emg.foldl_book (ael : List Byte) (bs : List Booking) (g : Emg) :
    (bs.foldl (fun g b => g.book ael b) g).wins =
      mapIdx g.wins (fun i w => bs.foldl (fun w b => w.bookIn (g.bucketAt i b.at_) b) w) ∧
    (bs.foldl (fun g b => g.book ael b) g).ledgerCorrected = g.ledgerCorrected := by
  induction bs generalizing g with
  | nil => exact ⟨List.ext_getElem (by simp [mapIdx]) (by simp [mapIdx]), rfl⟩
  | cons b bs ih =>
    obtain ⟨hwins, hcorrected⟩ := ih (g.book ael b)
    refine ⟨hwins.trans ?_, hcorrected⟩
    simp only [Emg.book, mapIdx, List.mapIdx_mapIdx, List.foldl_cons]
    rfl

/-- The same ledger. -/
@[reducible] def KeepsLedger (s u : State) : Prop :=
  u.emg.wins = s.emg.wins ∧ u.emg.bookings = s.emg.bookings ∧ u.emg.ledgerCorrected = s.emg.ledgerCorrected

theorem KeepsLedger.trans {s u v : State} (a : KeepsLedger s u) (b : KeepsLedger u v) : KeepsLedger s v :=
  ⟨b.1.trans a.1, b.2.1.trans a.2.1, b.2.2.trans a.2.2⟩

theorem State.refuseRearm_keepsLedger (s : State) (k : Nat) : KeepsLedger s (s.refuseRearm k) := by
  unfold State.refuseRearm
  (repeat' split) <;> simp [KeepsLedger]

theorem State.tripWith_keepsLedger (s : State) (k : Nat) (abort : Bool) : KeepsLedger s (s.tripWith k abort) := by
  refine (State.refuseRearm_keepsLedger s k).trans ?_
  unfold State.tripWith Emg.emitOff
  dsimp only
  split_ifs <;> simp [KeepsLedger]

theorem State.tripWith_state (s : State) (k : Nat) (abort : Bool) : (s.tripWith k abort).emg.state = .tripped := by
  unfold State.tripWith
  dsimp only
  generalize s.refuseRearm k = v
  by_cases h : v.emg.state = .tripped <;> simp [h]

theorem State.decideGate_keepsLedger (s : State) (p : Plan) (c : Nat) (pulses : List (Nat × Nat)) (each slotAt : Nat) :
    KeepsLedger s (s.decideGate p c pulses each slotAt) ∧ (s.decideGate p c pulses each slotAt).emg.state = s.emg.state := by
  unfold State.decideGate
  dsimp only
  (repeat' split) <;> simp [KeepsLedger]

theorem State.nextSlotDecision_keepsLedger (s : State) :
    KeepsLedger s s.nextSlotDecision ∧ s.nextSlotDecision.emg.state = s.emg.state := by
  unfold State.nextSlotDecision
  split
  · dsimp only
    split
    · exact State.decideGate_keepsLedger _ _ _ _ _ _
    · exact ⟨⟨rfl, rfl, rfl⟩, rfl⟩
  · exact ⟨⟨rfl, rfl, rfl⟩, rfl⟩

/-- What reads of the ledger leave of it. -/
theorem State.ledgerReads_ledger (s : State) (n : Nat) (bad : Bool) :
    (s.ledgerReads n bad).emg.wins = s.emg.wins ∧ (s.ledgerReads n bad).emg.bookings = s.emg.bookings ∧
      (s.ledgerReads n bad).emg.ledgerCorrected = sat32 s.emg.ledgerCorrected n ∧
      (bad = true → (s.ledgerReads n bad).emg.state = .tripped) := by
  cases bad with
  | false =>
    rw [State.ledgerReads_good]
    exact ⟨rfl, rfl, rfl, fun h => absurd h Bool.false_ne_true⟩
  | true =>
    rw [State.ledgerReads_bad, State.trip_of_inactive rfl]
    obtain ⟨hwins, hbookings, hcorrected⟩ := State.tripWith_keepsLedger
      { s with emg := { s.emg with ledgerCorrected := sat32 s.emg.ledgerCorrected n } } 7 true
    exact ⟨hwins, hbookings, hcorrected, fun _ => State.tripWith_state _ 7 true⟩

theorem ledgerBooking_books {s : State} {t n : Nat} {bad : Bool} (hm : s.mainOn = true) (hwait : s.emg.bookings ≠ []) :
    Gives (.ledgerBooking t n bad) s fun u => OnlyChanges [.emg, .kpp, .evr] s u ∧ u.emg.bookings = [] ∧
      u.emg.wins = mapIdx s.emg.wins (fun i w =>
        s.emg.bookings.foldl (fun w b => w.bookIn (s.emg.bucketAt i b.at_) b) w) ∧
      u.emg.ledgerCorrected = sat32 s.emg.ledgerCorrected n ∧ (bad = true → u.emg.state = .tripped) := by
  obtain ⟨hwins, hcorrected⟩ := Emg.foldl_book (valueIn (s.atTime t).plan 0x580008) s.emg.bookings s.emg
  have hfull : ¬ (s.atTime t).emg.bookings.isEmpty = true := by
    rw [List.isEmpty_iff]
    exact hwait
  refine (gives_guard (l := [.emg, .kpp, .evr]) emg_not_mem_emgFrame (exec_ledgerBooking s) hm (if_neg hfull)
    (by simp [changesOf])).mono fun u ⟨hl, hu⟩ => ⟨hl, ?_⟩
  obtain ⟨⟨hdwins, hdbookings, hdcorrected⟩, hdstate⟩ := State.nextSlotDecision_keepsLedger
    (State.ledgerReads { s.atTime t with emg := s.emg.settled (valueIn (s.atTime t).plan 0x580008) } n bad)
  obtain ⟨hrwins, hrbookings, hrcorrected, hrstate⟩ := State.ledgerReads_ledger
    { s.atTime t with emg := s.emg.settled (valueIn (s.atTime t).plan 0x580008) } n bad
  rw [hu]
  refine ⟨hdbookings.trans hrbookings, (hdwins.trans hrwins).trans hwins, ?_, fun hbad => hdstate.trans (hrstate hbad)⟩
  refine (hdcorrected.trans hrcorrected).trans ?_
  exact congrArg (sat32 · n) hcorrected

theorem ledgerBucketAdvance_reaches {s : State} {t i : Nat} (hm : s.mainOn = true) :
    Gives (.ledgerBucketAdvance t i) s fun u => OnlyChanges [.emg] s u ∧ u.emg = { s.emg with
      wins := s.emg.wins.modify i fun w =>
        w.reach ((max s.now t - s.emg.releasedAt) / bucketNs (s.emg.windows.getD i 20)) } :=
  gives_guard_alone emg_not_mem_emgFrame_quiet (exec_ledgerBucketAdvance s) hm rfl

/-- Settles O24: a booking and a bucket's leaving change the total and one bucket alike; the bookings run over every window. -/
theorem theLedgerCountsEveryPulse : Obligations.TheLedgerCountsEveryPulse := by
  unfold Obligations.TheLedgerCountsEveryPulse
  refine ⟨⟨fun w h i b e => ⟨LedgerWin.Sound.book h i b e, fun hi => if_pos hi, fun hi =>
      ⟨LedgerWin.book_value h hi b e, LedgerWin.book_bucket h hi b e, fun b' hb => LedgerWin.book_value_other h hi b e hb⟩⟩,
    fun w k h => ⟨LedgerWin.Sound.reach h k, w.reach_bucket k, fun hk b => LedgerWin.Sound.reach_far h hk b⟩⟩,
    fun s t n bad hm hwait => ledgerBooking_books hm hwait, fun s t i hm => ledgerBucketAdvance_reaches hm⟩

end Sys2Proof.Machine
end

section
/-!
SUPPORT. The control lease: its ends, offers, claims and takeovers, the fences, heartbeats and reloads of the units, and the
writes of the checkpoint (14).
-/

namespace Sys2Proof.Machine

/-- A command of the arbiter gives what its effect makes of it. -/
theorem gives_cu {i : Instr} {t : Nat} {fr : List UnitId} {f : State → State} {s a : State} {l : List UnitId}
    (he : exec i s = runMain t fr f s) (hm : s.mainOn = true) (ha : f (s.atTime t) = a)
        (hfr : .cu ∉ fr) (hl : ∀ x, x ∈ changesOf i → x ∈ l) :
    Gives i s fun u => OnlyChanges l s u ∧ u.cu = a.cu :=
  gives_of_command he hm ha fun _ hc hleft => ⟨hc.mono hl, (hleft.2.1 .cu hfr).symm⟩

/-! ### The two units -/

@[simp] theorem Cu.unit_setUnit_self (c : Cu) (n : Nat) (x : CtrlUnit) : (c.setUnit n x).unit n = x := by
  unfold Cu.unit Cu.setUnit
  split <;> rfl

theorem Cu.unit_setUnit_other {c : Cu} {n : Nat} (x : CtrlUnit) (hn : n < 2) :
    (c.setUnit n x).unit (1 - n) = c.unit (1 - n) := by
  obtain rfl | rfl : n = 0 ∨ n = 1 := by omega
  · rfl
  · rfl

theorem Cu.setUnit_unit_self (c : Cu) (n : Nat) : c.setUnit n (c.unit n) = c := by
  unfold Cu.unit Cu.setUnit
  split <;> rfl

/-- A unit replaced leaves the lease and the checkpoint. -/
@[simp] theorem Cu.setUnit_fields (c : Cu) (n : Nat) (x : CtrlUnit) :
    (c.setUnit n x).lease = c.lease ∧ (c.setUnit n x).holder = c.holder ∧ (c.setUnit n x).former = c.former ∧
      (c.setUnit n x).epoch = c.epoch ∧ (c.setUnit n x).lastRenewal = c.lastRenewal ∧
      (c.setUnit n x).takingOver = c.takingOver ∧ (c.setUnit n x).takeovers = c.takeovers ∧
      (c.setUnit n x).autonomyEnd = c.autonomyEnd ∧ (c.setUnit n x).checkFails = c.checkFails ∧
      (c.setUnit n x).reloads = c.reloads ∧ (c.setUnit n x).mailboxLosses = c.mailboxLosses := by
  unfold Cu.setUnit
  split <;> exact ⟨rfl, rfl, rfl, rfl, rfl, rfl, rfl, rfl, rfl, rfl, rfl⟩

theorem Cu.unit_setUnit_fenced {c : Cu} {v : Nat} {x : CtrlUnit} (hx : x.fenced = (c.unit v).fenced) (n : Nat) :
    ((c.setUnit v x).unit n).fenced = (c.unit n).fenced := by
  unfold Cu.unit Cu.setUnit at *
  by_cases hv : v = 0 <;> by_cases hn : n = 0 <;> simp_all

/-! ### The ends of the lease (14 R336, R339, R347) -/

theorem State.expire_ends {s : State} {h : Nat} (cause : Nat) (hh : s.cu.holder = some h) :
    LeaseEnds h cause s (s.expire cause) s.now := by
  refine ⟨State.expire_touches s cause, ?_⟩
  unfold State.expire
  rw [hh]
  simp

theorem State.leaseExpiry_of_overdue {s : State} (hheld : s.cu.lease = .held)
    (hold : s.cu.lastRenewal + 3920000 ≤ s.now) : s.leaseExpiry = s.expire 1 := by
  unfold State.leaseExpiry
  rw [if_neg (by rintro ⟨-, hnow, -⟩; omega), if_pos ⟨hheld, hold⟩]

section Ends
variable {i : Instr} {s a : State} {t h cause : Nat} {fr : List UnitId} {f : State → State} (hm : s.mainOn = true)
  (hh : s.cu.holder = some h)
include hm hh

theorem leaseEnds_of_expire (he : exec i s = runMain t fr f s) (ha : f (s.atTime t) = (s.atTime t).expire cause)
    (hfr : .cu ∉ fr) : Gives i s fun u => LeaseEnds h cause s u (max s.now t) := by
  refine gives_of_effect he hm ha (State.expire_touches _ cause) fun u hl hleft => ⟨hl, ?_⟩
  obtain ⟨_, hends⟩ := State.expire_ends (s := s.atTime t) cause hh
  have hcu : u.cu = ((s.atTime t).expire cause).cu := (hleft.2.1 .cu hfr).symm
  rw [hcu]
  exact hends

end Ends

/-- Settles O43: each of the three lets the holder's lease expire with its own cause. -/
theorem leaseEndsByReleaseExpiryOrSwitchover : Obligations.LeaseEndsByReleaseExpiryOrSwitchover := by
  unfold Obligations.LeaseEndsByReleaseExpiryOrSwitchover
  refine fun s t h hm hheld hh => ⟨?_, fun hold => ?_, fun hacts hready hpaired => ?_⟩
  · exact leaseEnds_of_expire hm hh (exec_leaseRelease s) (if_pos ⟨hheld, hh, rfl⟩) (by decide)
  · exact leaseEnds_of_expire hm hh (exec_leaseExpiry s) (State.leaseExpiry_of_overdue (s := s.atTime t) hheld hold) (by decide)
  · refine leaseEnds_of_expire hm hh (exec_switchover s) ((if_pos hacts).trans ?_) (by decide)
    refine if_pos ⟨by decide, hheld, hacts, hready, ?_⟩
    exact congrArg (! ·) hpaired

/-! ### Guard time and offers (14 R339 to R342) -/

@[simp] theorem Emg.emitOff_sources (g : Emg) (now : Nat) : (g.emitOff now).sources = g.sources := by
  unfold Emg.emitOff
  split <;> rfl

theorem State.tripWith_sources (s : State) (k : Nat) (abort : Bool) :
    (s.tripWith k abort).emg.sources = ((s.refuseRearm k).emg.arise k (s.refuseRearm k).now).sources := by
  unfold State.tripWith
  dsimp only
  generalize s.refuseRearm k = v
  by_cases h : v.emg.state = .tripped <;> simp [h]

theorem Emg.arise_sets_condition {k : Nat} (g : Emg) (now : Nat) (hk : isCondition k = true) :
    bitOf (g.arise k now).sources k = true := by
  simp [Emg.arise, hk, bitOf]

/-- The source of a trip that is a condition is active afterwards. -/
theorem State.trip_sets_condition {s : State} {k : Nat} (hk : isCondition k = true) :
    bitOf (s.trip k).emg.sources k = true := by
  unfold State.trip
  split
  next h => exact (Bool.and_eq_true_iff.1 h).2
  · rw [State.tripWith_sources]
    exact Emg.arise_sets_condition _ _ hk

theorem leaseGrant_offers {s : State} {t f : Nat} (hm : s.mainOn = true) (hguard : s.cu.lease = .guard)
    (hf : s.cu.former = some f) (hover : s.cu.expiredAt + 1000000 ≤ max s.now t) :
    Gives (.leaseGrant t) s fun u => OnlyChanges [.cu] s u ∧ u.cu.lease = .offerStandby ∧ u.cu.epoch = s.cu.epoch + 1 ∧
      u.cu.grantedAt = max s.now t ∧ (u.cu.unit f).state = .loading := by
  have ha : (s.atTime t).grant = { s.atTime t with cu :=
      { s.cu.setUnit f { (s.cu.unit f).reloading with fenced := false } with
        lease := .offerStandby, epoch := s.cu.epoch + 1, grantedAt := max s.now t } } := by
    unfold State.grant
    rw [State.atTime_cu, hguard, hf]
    refine (if_pos hover).trans ?_
    simp
  refine (gives_cu (exec_leaseGrant s) hm ha
      (by decide) (by simp [changesOf])).mono fun u ⟨hl, hu⟩ => ⟨hl, ?_⟩
  rw [hu]
  exact ⟨rfl, rfl, rfl, congrArg CtrlUnit.state (Cu.unit_setUnit_self s.cu f _)⟩

theorem offerTimeout_opens {s : State} {t : Nat} (hm : s.mainOn = true) (hoffer : s.cu.lease = .offerStandby)
    (hclaimed : s.cu.claimed = true) (hover : s.cu.expiredAt + 30000000 ≤ max s.now t) :
    Gives (.offerTimeout t) s fun u => OnlyChanges [.cu, .kpp, .evr] s u ∧ u.cu = { s.cu with lease := .offerOpen } :=
  (gives_cu (exec_offerTimeout s) hm (if_pos ⟨hoffer, hclaimed, hover⟩)
      (by decide) (by simp [changesOf])).mono fun _ ⟨hl, hu⟩ =>
    ⟨hl, hu.trans (State.raise_cu _ _ _ _)⟩

theorem preferredClaimTimeout_opens {s : State} {t v : Nat} (hm : s.mainOn = true) (hoffer : s.cu.lease = .offerStandby)
    (hclaimed : s.cu.claimed = false) (hv : s.cu.verified = some v) (hover : v + 30000000 ≤ max s.now t) :
    Gives (.preferredClaimTimeout t) s fun u => OnlyChanges [.cu] s u ∧ u.cu = { s.cu with lease := .offerOpen } := by
  refine gives_cu (exec_preferredClaimTimeout s) hm (a := { s.atTime t with cu := { s.cu with lease := .offerOpen } }) ?_
      (by decide) (by simp [changesOf])
  unfold State.preferredTimeout
  rw [State.atTime_cu, hv]
  exact if_pos ⟨hoffer, by simp [hclaimed], hover⟩

theorem autonomyWindowEnd_trips {s : State} {t e : Nat} (hm : s.mainOn = true) (hh : s.cu.holder = none)
    (he : s.cu.autonomyEnd = some e) (hover : e ≤ max s.now t) (hclaim : (s.atTime t).claimWaits = false) :
    Gives (.autonomyWindowEnd t) s fun u => OnlyChanges [.cu, .emg, .kpp, .evr] s u ∧ u.cu.lease = .none ∧
      u.cu.autonomyEnd = none ∧ bitOf u.emg.sources 10 = true := by
  have ha : (s.atTime t).autonomyOver =
      State.trip { s.atTime t with cu := { s.cu with lease := .none, autonomyEnd := none } } 10 := by
    unfold State.autonomyOver
    rw [State.atTime_cu, he]
    exact if_pos ⟨hover, hh, hclaim⟩
  refine gives_of_command (exec_autonomyWindowEnd s) hm ha fun u hc hleft => ⟨hc.mono (by simp [changesOf]), ?_⟩
  have hcu := (hleft.2.1 .cu (by decide)).symm.trans ((State.trip_touches _ 10).2 .cu (by decide)).symm
  have hemg : u.emg = _ := (hleft.2.1 .emg (by decide)).symm
  rw [hcu, hemg]
  exact ⟨rfl, rfl, State.trip_sets_condition rfl⟩

/-- Settles O44: each of the four finds its time over and the offer as it must be. -/
theorem offersFollowTheGuardTime : Obligations.OffersFollowTheGuardTime := by
  unfold Obligations.OffersFollowTheGuardTime
  exact ⟨fun s t f => leaseGrant_offers, fun s t => offerTimeout_opens, fun s t v => preferredClaimTimeout_opens,
    fun s t e => autonomyWindowEnd_trips⟩

end Sys2Proof.Machine
end

section
/-!
SUPPORT. Claims and takeovers (14 R335, R339, R340, R346, R348).
-/

namespace Sys2Proof.Machine

/-! ### Claims (14 R339, R340) -/

/-- The redundancy of a plan replaces one unit and leaves its fence. -/
theorem State.redundancy_cu (s : State) (single : Bool) :
    ∃ v x, (s.redundancy single).cu = s.cu.setUnit v x ∧ x.fenced = (s.cu.unit v).fenced := by
  have hsame : ∃ v x, s.cu = s.cu.setUnit v x ∧ x.fenced = (s.cu.unit v).fenced :=
    ⟨0, s.cu.unit 0, (Cu.setUnit_unit_self s.cu 0).symm, rfl⟩
  have hhold : ∃ v x, (s.holdUnit s.standby).cu = s.cu.setUnit v x ∧ x.fenced = (s.cu.unit v).fenced := by
    unfold State.holdUnit
    dsimp only
    split
    · exact hsame
    · exact ⟨_, _, State.raise_cu _ _ _ _, rfl⟩
  unfold State.redundancy
  dsimp only
  split_ifs
  · exact hhold
  · exact hsame
  · exact ⟨_, _, rfl, rfl⟩
  · exact hsame

/-- `d` is `c` with unit `h` as the holder whose takeover runs. -/
def Cu.ClaimedBy (c : Cu) (h now : Nat) (d : Cu) : Prop :=
  d.lease = .held ∧ d.holder = some h ∧ d.epoch = c.epoch ∧ d.lastRenewal = now ∧ d.takingOver = true ∧
    d.takeovers = sat32 c.takeovers ∧ (d.unit h).fenced = false ∧ d.autonomyEnd = none

theorem Cu.ClaimedBy.setUnit {h now v : Nat} {c d : Cu} {x : CtrlUnit} (hd : c.ClaimedBy h now d)
    (hx : x.fenced = (d.unit v).fenced) : c.ClaimedBy h now (d.setUnit v x) := by
  obtain ⟨hlease, hholder, hepoch, hrenewal, htaking, htakeovers, hfence, hend⟩ := hd
  refine ⟨?_, ?_, ?_, ?_, ?_, ?_, (Cu.unit_setUnit_fenced hx h).trans hfence, ?_⟩ <;> simp [*]

theorem State.claim_claimed {s : State} {h : Nat} (hc : s.cu.claimed = true) :
    s.cu.ClaimedBy h s.now (s.claim h).cu := by
  unfold State.claim
  extract_lets late c again c' x v0 v1 v2 v3 y
  have hagain : again = true := hc
  have h0 : s.cu.ClaimedBy h s.now v0.cu := by
    refine ⟨?_, ?_, ?_, ?_, ?_, ?_, ?_, ?_⟩ <;> simp [v0, c', c, hagain, Cu.claimEpoch, hc]
  have h2 : v2.cu = v0.cu := (State.raise_cu _ _ _ _).trans ((State.setSource_touches v0 10 false).2 .cu (by decide)).symm
  have h3 : s.cu.ClaimedBy h s.now v3.cu := by
    rw [← h2] at h0
    simp only [v3]
    split
    · obtain ⟨v, x, hcu, hx⟩ := State.redundancy_cu v2 v2.plan.single
      rw [hcu]
      exact h0.setUnit hx
    · exact h0
  rw [if_pos hagain]
  exact h3

theorem leaseRenewal_renews {s : State} {t h : Nat} (hm : s.mainOn = true) (hheld : s.cu.lease = .held)
    (hh : s.cu.holder = some h) (hfence : (s.cu.unit h).fenced = false)
    (hin : max s.now t < s.cu.lastRenewal + 4080000) :
    Gives (.leaseRenewal t h s.cu.epoch) s fun u => OnlyChanges [.cu] s u ∧
      u.cu = { s.cu with lastRenewal := max s.now t, priorRenewal := s.cu.lastRenewal } := by
  have ha : (s.atTime t).renewal h s.cu.epoch =
      { s.atTime t with cu := { s.cu with lastRenewal := max s.now t, priorRenewal := s.cu.lastRenewal } } :=
    (if_pos hheld).trans (if_pos ⟨hh, rfl, hfence, hin⟩)
  exact gives_of_effect (exec_leaseRenewal s) hm ha (State.cu_touches _ _) fun u hl hleft =>
    ⟨hl, (hleft.2.1 .cu (by decide)).symm⟩

theorem leaseRenewal_claims {s : State} {t h : Nat} (hm : s.mainOn = true) (hfree : s.cu.lease ≠ .held)
    (hoffer : s.offeredTo h = true) (hc : s.cu.claimed = true) :
    Gives (.leaseRenewal t h s.cu.epoch) s fun u => s.cu.ClaimedBy h (max s.now t) u.cu := by
  have ha : (s.atTime t).renewal h s.cu.epoch = (s.atTime t).claim h :=
    (if_neg hfree).trans (if_pos ⟨hoffer, (if_pos hc).symm⟩)
  refine gives_of_command (exec_leaseRenewal s) hm ha fun u _ hleft => ?_
  have hcu : u.cu = _ := (hleft.2.1 .cu (by decide)).symm
  rw [hcu]
  exact State.claim_claimed (s := s.atTime t) hc

/-! ### The end of a takeover (14 R346, R348) -/

/-- `u` has the requests that wait and the destinations of `s`, and its synchronisation constants. -/
structure KeepsTakeover (s u : State) : Prop where
  dests : u.kpp.dests = s.kpp.dests
  waiting : u.kpp.waiting = s.kpp.waiting
  held : u.kpp.held = s.kpp.held
  cu : u.cu = s.cu
  integ : u.ntu.integ = s.ntu.integ
  servo : u.ntu.servo = s.ntu.servo
  txn : u.txn = s.txn

theorem KeepsTakeover.refl (s : State) : KeepsTakeover s s := ⟨rfl, rfl, rfl, rfl, rfl, rfl, rfl⟩

theorem KeepsTakeover.trans {s u v : State} (a : KeepsTakeover s u) (b : KeepsTakeover u v) : KeepsTakeover s v :=
  ⟨b.dests.trans a.dests, b.waiting.trans a.waiting, b.held.trans a.held, b.cu.trans a.cu, b.integ.trans a.integ,
    b.servo.trans a.servo, b.txn.trans a.txn⟩

theorem State.record_keepsRequests (s : State) (code sub : Nat) (d : Word) :
    (s.record code sub d).kpp.waiting = s.kpp.waiting ∧ (s.record code sub d).kpp.held = s.kpp.held := by
  unfold State.record
  dsimp only
  split_ifs <;> exact ⟨rfl, rfl⟩

theorem State.trigger_keepsRequests (s : State) (source : Nat) :
    (s.trigger source).kpp.waiting = s.kpp.waiting ∧ (s.trigger source).kpp.held = s.kpp.held := by
  unfold State.trigger
  dsimp only
  (repeat' split) <;> first | exact ⟨rfl, rfl⟩ | exact State.record_keepsRequests _ _ _ _

theorem State.raise_keepsTakeover (s : State) (code sub d : Nat) : KeepsTakeover s (s.raise code sub d) := by
  refine ⟨(State.raise_keepsDests s code sub d).1, ?_, ?_, by simp, by simp, by simp, by simp⟩ <;>
  · unfold State.raise
    dsimp only
    split_ifs <;> simp only [State.trigger_keepsRequests, State.record_keepsRequests]

theorem State.loseStore_keepsTakeover (s : State) : KeepsTakeover s s.loseStore := by
  unfold State.loseStore
  split <;> exact ⟨rfl, rfl, rfl, rfl, rfl, rfl, rfl⟩

theorem State.abortUpdate_keepsTakeover (s : State) : KeepsTakeover s s.abortUpdate := by
  unfold State.abortUpdate
  split <;> exact ⟨rfl, rfl, rfl, rfl, rfl, rfl, rfl⟩

theorem State.loseSkew_keepsTakeover (s : State) : KeepsTakeover s s.loseSkew := by
  unfold State.loseSkew
  split <;> exact ⟨rfl, rfl, rfl, rfl, rfl, rfl, rfl⟩

theorem State.resumeIndex_keepsTakeover (s : State) : KeepsTakeover s s.resumeIndex := by
  unfold State.resumeIndex State.signatureEvents
  dsimp only
  split
  · refine KeepsTakeover.trans ?_ (State.raise_keepsTakeover _ _ _ _)
    exact ⟨rfl, rfl, rfl, rfl, rfl, rfl, rfl⟩
  · exact ⟨rfl, rfl, rfl, rfl, rfl, rfl, rfl⟩

theorem State.declareConflict_keepsTakeover (s : State) (code : Nat) : KeepsTakeover s (s.declareConflict code) := by
  unfold State.declareConflict
  split
  · refine KeepsTakeover.trans ?_ (State.raise_keepsTakeover _ _ _ _)
    exact ⟨rfl, rfl, rfl, rfl, rfl, rfl, rfl⟩
  · exact KeepsTakeover.refl s

/-- With no request held none runs. -/
theorem State.runHeld_of_none {s : State} (hw : s.kpp.waiting = []) (hh : s.kpp.held = []) : s.runHeld = s := by
  unfold State.runHeld
  calc
    _ = { s with kpp := { s.kpp with waiting := [], held := [] } } := by rw [hw, hh]; rfl
    _ = { s with kpp := { s.kpp with waiting := s.kpp.waiting, held := s.kpp.held } } := by rw [hw, hh]
    _ = s := rfl

/-- The transaction of the former holder is lost. -/
theorem State.loseTxn_idle (s : State) :
    (if s.txn.state = .idle then s else { s with txn := s.txn.lost } : State).txn.state = .idle := by
  split
  next h => exact h
  · rfl

theorem State.takeCheckpoint_of_some {s : State} {k : Checkpoint} (hk : s.cu.checkpointInForce = some k) :
    s.takeCheckpoint = ({ s with cu := { s.cu with ckUsed := k.frame } } : State).restoreFirmware k := by
  unfold State.takeCheckpoint
  rw [hk]

theorem State.takeoverDone_restores {s : State} {h : Nat} {k : Checkpoint} (hh : s.cu.holder = some h)
    (htaking : s.cu.takingOver = true) (hk : s.cu.checkpointInForce = some k) (hheld : s.kpp.held = [])
    (hwaiting : s.kpp.waiting = []) :
    s.takeoverDone.cu.takingOver = false ∧ s.takeoverDone.cu.holder = some h ∧ s.takeoverDone.cu.ckUsed = k.frame ∧
      s.takeoverDone.kpp.dests = k.dests ∧ s.takeoverDone.ntu.integ = k.integ ∧ s.takeoverDone.ntu.servo = k.servo ∧
      s.takeoverDone.txn.state = .idle := by
  unfold State.takeoverDone
  rw [if_neg (by simp [hh, htaking]), State.takeCheckpoint_of_some hk]
  extract_lets c v0 v1 v2 c2 v3
  have h1 : KeepsTakeover { v0 with txn := v1.txn } v1 := by
    by_cases h : v0.txn.state = .idle
    · simp only [v1, if_pos h]
      exact KeepsTakeover.refl v0
    · simp only [v1, if_neg h]
      exact ⟨rfl, rfl, rfl, rfl, rfl, rfl, rfl⟩
  have h2 : KeepsTakeover v1 v2 := (((State.loseStore_keepsTakeover v1).trans (State.abortUpdate_keepsTakeover _)).trans
    (State.loseSkew_keepsTakeover _)).trans (State.resumeIndex_keepsTakeover _)
  have h12 := h1.trans h2
  have h4 := State.declareConflict_keepsTakeover v3 (effectiveCode v3 v3.plan)
  have hidle : v2.txn.state = .idle := (congrArg Txn.state h2.txn).trans (State.loseTxn_idle v0)
  rw [State.runHeld_of_none (h4.waiting.trans (h12.waiting.trans hwaiting)) (h4.held.trans (h12.held.trans hheld)), h4.cu,
    h4.dests, h4.integ, h4.servo, h4.txn]
  refine ⟨rfl, (congrArg Cu.holder h12.cu).trans hh, congrArg Cu.ckUsed h12.cu, h12.dests, h12.integ, h12.servo, hidle⟩

theorem takeoverComplete_restores {s : State} {t h : Nat} {k : Checkpoint} (hm : s.mainOn = true)
    (hh : s.cu.holder = some h) (htaking : s.cu.takingOver = true) (hk : s.cu.checkpointInForce = some k)
    (hheld : s.kpp.held = []) (hwaiting : s.kpp.waiting = []) :
    Gives (.takeoverComplete t) s fun u => u.cu.takingOver = false ∧ u.cu.holder = some h ∧ u.cu.ckUsed = k.frame ∧
      u.kpp.dests = k.dests ∧ u.ntu.integ = k.integ ∧ u.ntu.servo = k.servo ∧ u.txn.state = .idle := by
  refine gives_of_command (exec_takeoverComplete s) hm rfl fun u _ hleft => ?_
  have hcu : u.cu = _ := (hleft.2.1 .cu (by decide)).symm
  have hkpp : u.kpp = _ := (hleft.2.1 .kpp (by decide)).symm
  have htxn : u.txn = _ := (hleft.2.1 .txn (by decide)).symm
  rw [hcu, hkpp, htxn, hleft.2.2 (by decide)]
  exact State.takeoverDone_restores (s := s.atTime t) hh htaking hk hheld hwaiting

/-- Settles O45: a renewal moves the times alone, a claim installs the claimer, and the end of a takeover restores the
checkpoint in force. -/
theorem claimsAndTakeovers : Obligations.ClaimsAndTakeovers := by
  unfold Obligations.ClaimsAndTakeovers
  exact ⟨⟨fun s t h => leaseRenewal_renews, fun s t h => leaseRenewal_claims⟩,
    fun s t h k hm hh htaking hk => takeoverComplete_restores hm hh htaking hk⟩

end Sys2Proof.Machine
end

section
/-!
SUPPORT. Fences, heartbeats and reloads of the two units, and the writes of the checkpoint (14 R334, R338, R342 to R345).
-/

namespace Sys2Proof.Machine

/-! ### Fences, heartbeats and reloads (14 R334, R338, R342, R345) -/

theorem State.unitActs_of_fenced {s : State} {h : Nat} (hh : s.cu.holder = some h) (hf : (s.cu.unit h).fenced = true) :
    s.unitActs = false := by
  simp [State.unitActs, hh, hf]

theorem fenceTimerExpiry_fences {s : State} {t h : Nat} (hm : s.mainOn = true) (hh : s.cu.holder = some h)
    (hover : s.cu.lastRenewal + 3000000 ≤ max s.now t) :
    Gives (.fenceTimerExpiry t h) s fun u => OnlyChanges [.cu] s u ∧ u.unitActs = false ∧
      u.cu = s.cu.setUnit h { s.cu.unit h with fenced := true } := by
  refine (gives_cu (exec_fenceTimerExpiry s) hm (if_pos ⟨hh, hover⟩)
      (by decide) (by simp [changesOf])).mono fun u ⟨hl, hu⟩ => ⟨hl, ?_, hu⟩
  refine State.unitActs_of_fenced (h := h) ?_ ?_
  · simp [hu, hh]
  · simp [hu]

theorem State.heartbeat_counts {s : State} {n : Nat} (hn : n < 2) :
    ((s.heartbeat n).cu.unit n).lastHeartbeat = s.now ∧ (s.heartbeat n).cu.unit (1 - n) = s.cu.unit (1 - n) ∧
      ((s.cu.unit n).lost = true → (s.cu.unit n).beats < 9 → ((s.heartbeat n).cu.unit n).lost = true) ∧
      ((s.cu.unit n).beats = 9 → s.now < (s.cu.unit n).lastHeartbeat + 2000000 →
        ((s.heartbeat n).cu.unit n).lost = false) := by
  simp only [State.heartbeat, Cu.unit_setUnit_self, Cu.unit_setUnit_other _ hn, true_and]
  refine ⟨fun hlost hbeats => ?_, fun hbeats hin => ?_⟩
  · simp only [hlost, Bool.true_and, if_true, decide_eq_true_eq]
    split <;> omega
  · cases hlost : (s.cu.unit n).lost with
    | false => rfl
    | true => simp [hbeats, hin]

theorem heartbeat_counts {s : State} {t n : Nat} (hn : n < 2) (hm : s.mainOn = true) :
    Gives (.heartbeat t n) s fun u => OnlyChanges [.cu] s u ∧ (u.cu.unit n).lastHeartbeat = max s.now t ∧
      u.cu.unit (1 - n) = s.cu.unit (1 - n) ∧
      ((s.cu.unit n).lost = true → (s.cu.unit n).beats < 9 → (u.cu.unit n).lost = true) ∧
      ((s.cu.unit n).beats = 9 → max s.now t < (s.cu.unit n).lastHeartbeat + 2000000 → (u.cu.unit n).lost = false) := by
  refine (gives_cu (exec_heartbeat s) hm rfl
      (by decide) (by simp [changesOf])).mono fun u ⟨hl, hu⟩ => ⟨hl, ?_⟩
  rw [hu]
  exact State.heartbeat_counts (s := s.atTime t) hn

theorem heartbeatLoss_loses {s : State} {t n : Nat} (hn : n < 2) (hm : s.mainOn = true) (hlost : (s.cu.unit n).lost = false)
    (hover : (s.cu.unit n).lastHeartbeat + 10000000 ≤ max s.now t) :
    Gives (.heartbeatLoss t n) s fun u => OnlyChanges [.cu, .kpp, .evr] s u ∧ u.cu.mailboxLost = true ∧
      u.cu.mailboxLosses = if s.cu.mailboxLost then s.cu.mailboxLosses else sat32 s.cu.mailboxLosses := by
  have hin : ¬ ((s.cu.unit n).lost = true ∨ (s.atTime t).now < (s.cu.unit n).lastHeartbeat + 10000000) := by
    rintro (h | h)
    · exact Bool.false_ne_true (hlost.symm.trans h)
    · exact absurd (h.trans_le hover) (lt_irrefl _)
  refine (gives_cu (exec_heartbeatLoss s) hm (if_neg hin)
      (by decide) (by simp [changesOf])).mono fun u ⟨hl, hu⟩ => ⟨hl, ?_⟩
  rw [hu, State.raiseIf_cu]
  constructor
  · obtain rfl | rfl : n = 0 ∨ n = 1 := by omega
    · rfl
    · exact Bool.or_true _
  · cases h : s.cu.mailboxLost <;> simp [h]

theorem standbyImageCheck_reloads {s : State} {t : Nat} (hm : s.mainOn = true) (hready : s.standbyState = .ready)
    (hover : (s.cu.unit s.standby).readyAt + 10000000000 ≤ max s.now t) :
    Gives (.standbyImageCheck t false) s fun u => OnlyChanges [.cu] s u ∧
      (u.cu.unit s.standby).state = .loading ∧ u.cu.checkFails = sat32 s.cu.checkFails := by
  have ha : (s.atTime t).imageCheck false = { s.atTime t with cu :=
      { s.cu.setUnit s.standby (s.cu.unit s.standby).reloading with checkFails := sat32 s.cu.checkFails } } := by
    refine (if_neg ?_).trans ((if_neg Bool.false_ne_true).trans ?_)
    · rintro (hbusy | hearly)
      · exact hbusy hready
      · exact absurd (hearly.trans_le hover) (lt_irrefl _)
    · simp only [(Cu.setUnit_fields _ _ _).2.2.2.2.2.2.2.2.1]
      rfl
  refine (gives_cu (exec_standbyImageCheck s) hm ha
      (by decide) (by simp [changesOf])).mono fun u ⟨hl, hu⟩ => ⟨hl, ?_⟩
  rw [hu]
  exact ⟨congrArg CtrlUnit.state (Cu.unit_setUnit_self s.cu _ _), rfl⟩

section Reload
variable {s : State} {t n : Nat} (hm : s.mainOn = true) (hload : (s.cu.unit n).state = .loading)
  (hreload : (s.cu.unit n).reload = true)
include hm hload hreload

theorem standbyReloadComplete_readies (hloaded : (s.cu.unit n).loaded = some true) :
    Gives (.standbyReloadComplete t n true) s fun u => OnlyChanges [.cu, .kpp, .evr] s u ∧ (u.cu.unit n).state = .ready ∧
      u.cu.reloads = sat32 s.cu.reloads := by
  refine (gives_cu (exec_standbyReloadComplete s) hm rfl
      (by decide) (by simp [changesOf])).mono fun u ⟨hl, hu⟩ => ⟨hl, ?_⟩
  rw [hu]
  unfold State.reloadDone
  rw [if_neg (by simp [hload, hreload])]
  dsimp only
  rw [State.atTime_cu, hloaded]
  exact ⟨congrArg CtrlUnit.state (Cu.unit_setUnit_self _ n _), by simp⟩

theorem standbyReloadComplete_fails (hfails : (s.cu.unit n).fails = 2) :
    Gives (.standbyReloadComplete t n false) s fun u => OnlyChanges [.cu, .kpp, .evr] s u ∧
      (u.cu.unit n).state = .failed ∧ u.cu.reloads = sat32 s.cu.reloads := by
  refine (gives_cu (exec_standbyReloadComplete s) hm rfl
      (by decide) (by simp [changesOf])).mono fun u ⟨hl, hu⟩ => ⟨hl, ?_⟩
  rw [hu]
  unfold State.reloadDone
  rw [if_neg (by simp [hload, hreload])]
  dsimp only
  rw [State.atTime_cu, hfails, if_neg (by simp), if_neg (by decide), State.raise_cu]
  exact ⟨congrArg CtrlUnit.state (Cu.unit_setUnit_self _ n _), by simp⟩

end Reload

/-- Settles O46: each command finds its time over and moves the unit it names. -/
theorem fencesHeartbeatsAndReloads : Obligations.FencesHeartbeatsAndReloads := by
  unfold Obligations.FencesHeartbeatsAndReloads
  exact ⟨⟨fun s t h _ => fenceTimerExpiry_fences, fun s t n => heartbeat_counts, fun s t n => heartbeatLoss_loses⟩,
    fun s t hm _ => standbyImageCheck_reloads hm, fun s t n _ => standbyReloadComplete_readies,
    fun s t n _ => standbyReloadComplete_fails⟩

/-! ### The checkpoint (14 R344) -/

theorem Cu.slot_setSlot_self (c : Cu) (k : Nat) (x : Checkpoint) : (c.setSlot k x).slot k = x := by
  unfold Cu.slot Cu.setSlot
  split <;> rfl

theorem State.checkpointStart_writes {s : State} {f : Word} (hacts : s.unitActs = true) (hidle : s.cu.writing = none) :
    ∃ n, n < 49152 ∧ (s.checkpointStart f).cu =
      { s.cu.setSlot (1 - s.cu.lastSlot) { s.checkpoint f with length := n } with
        writing := some (1 - s.cu.lastSlot, f), ckAt := s.now } := by
  refine ⟨Config.freeNat s.freeCount % 49152, Nat.mod_lt _ (by decide), ?_⟩
  unfold State.checkpointStart
  rw [if_neg (by simp [hacts, hidle])]
  rfl

theorem checkpointWriteStart_writes {s : State} {t : Nat} (hm : s.mainOn = true) (hacts : s.unitActs = true)
    (hidle : s.cu.writing = none) (hturn : s.pipe.inTurn = true) (hfrom : s.pipe.turnStart + 200000 ≤ max s.now t)
    (hto : max s.now t < s.pipe.turnStart + 1500000) (honce : s.cu.ckTurn ≠ some s.pipe.frame) :
    Gives (.checkpointWriteStart t) s fun u => OnlyChanges [.cu] s u ∧
      u.cu.writing = some (1 - s.cu.lastSlot, s.pipe.frame) ∧
      (∃ n, n < 49152 ∧ u.cu.slot (1 - s.cu.lastSlot) = { s.checkpoint s.pipe.frame with length := n }) ∧
      (u.cu.slot (1 - s.cu.lastSlot)).good = false := by
  refine (gives_cu (exec_checkpointWriteStart s) hm (if_pos ⟨hturn, hfrom, hto, honce, hacts⟩)
      (by decide) (by simp [changesOf])).mono
    fun u ⟨hl, hu⟩ => ⟨hl, ?_⟩
  obtain ⟨n, hn, hcu⟩ := State.checkpointStart_writes (f := s.pipe.frame)
    (s := { s.atTime t with cu := { s.cu with ckTurn := some s.pipe.frame } }) hacts hidle
  have hslot : u.cu.slot (1 - s.cu.lastSlot) = { s.checkpoint s.pipe.frame with length := n } := by
    rw [hu]
    exact (congrArg (Cu.slot · (1 - s.cu.lastSlot)) hcu).trans (Cu.slot_setSlot_self _ _ _)
  refine ⟨?_, ⟨n, hn, hslot⟩, ?_⟩
  · rw [hu]
    exact congrArg Cu.writing hcu
  · rw [hslot]
    rfl

theorem checkpointTimer_writes {s : State} {t : Nat} (hm : s.mainOn = true) (hacts : s.unitActs = true)
    (hidle : s.cu.writing = none) (hstill : s.pipe.running = false) (hover : s.cu.ckAt + 40000000 ≤ max s.now t) :
    Gives (.checkpointTimer t) s fun u => OnlyChanges [.cu] s u ∧
      u.cu.writing = some (1 - s.cu.lastSlot, 0xFFFFFFFF) ∧ u.cu.ckAt = max s.now t := by
  have hdue : (!(s.atTime t).pipe.running) = true ∧ s.cu.ckAt + 40000000 ≤ max s.now t :=
    ⟨congrArg (! ·) hstill, hover⟩
  refine (gives_cu (exec_checkpointTimer s) hm (if_pos hdue)
      (by decide) (by simp [changesOf])).mono fun u ⟨hl, hu⟩ => ⟨hl, ?_⟩
  obtain ⟨n, -, hcu⟩ := State.checkpointStart_writes (f := 0xFFFFFFFF) (s := s.atTime t) hacts hidle
  rw [hu, hcu]
  exact ⟨rfl, rfl⟩

section Complete
variable {s : State} {t k : Nat} {f : Word} (hm : s.mainOn = true) (hw : s.cu.writing = some (k, f))
include hm hw

theorem checkpointWriteComplete_completes (hacts : s.unitActs = true) (hin : max s.now t ≤ s.checkpointDue f) :
    Gives (.checkpointWriteComplete t) s fun u => OnlyChanges [.cu] s u ∧ u.cu.writing = none ∧ u.cu.lastSlot = k ∧
      (u.cu.slot k).good = true ∧ u.cu.ckFrame = f ∧ u.cu.ckCount = sat32 s.cu.ckCount := by
  have ha : (s.atTime t).checkpointDone = { s.atTime t with cu :=
      { s.cu.setSlot k { s.cu.slot k with good := true } with
        writing := none, lastSlot := k, ckFrame := f
        ckCount := sat32 (s.cu.setSlot k { s.cu.slot k with good := true }).ckCount } } := by
    unfold State.checkpointDone
    rw [State.atTime_cu, hw]
    exact (if_neg (by rw [show (s.atTime t).unitActs = true from hacts]; decide)).trans (if_neg (Nat.not_lt.2 hin))
  refine (gives_cu (exec_checkpointWriteComplete s) hm ha
      (by decide) (by simp [changesOf])).mono fun u ⟨hl, hu⟩ => ⟨hl, ?_⟩
  rw [hu]
  refine ⟨rfl, rfl, congrArg Checkpoint.good (Cu.slot_setSlot_self s.cu k _), rfl, congrArg sat32 ?_⟩
  unfold Cu.setSlot
  split <;> rfl

theorem checkpointWriteComplete_fails (hacts : s.unitActs = true) (hlate : s.checkpointDue f < max s.now t) :
    Gives (.checkpointWriteComplete t) s fun u => OnlyChanges [.cu] s u ∧
      u.cu = { s.cu with writing := none, ckFailures := sat32 s.cu.ckFailures } := by
  refine gives_cu (a := (s.atTime t).checkpointFails) (exec_checkpointWriteComplete s) hm ?_
      (by decide) (by simp [changesOf])
  unfold State.checkpointDone
  rw [State.atTime_cu, hw]
  exact (if_neg (by rw [show (s.atTime t).unitActs = true from hacts]; decide)).trans (if_pos hlate)

theorem checkpointDeadline_fails (hf : f ≠ 0xFFFFFFFF) (hover : s.pipe.turnStart + 1500000 ≤ max s.now t) :
    Gives (.checkpointDeadline t) s fun u => OnlyChanges [.cu] s u ∧
      u.cu = { s.cu with writing := none, ckFailures := sat32 s.cu.ckFailures } := by
  have hdue : (s.atTime t).checkpointDue f ≤ (s.atTime t).now := (if_neg hf).trans_le hover
  refine gives_cu (a := (s.atTime t).checkpointFails) (exec_checkpointDeadline s) hm ?_
      (by decide) (by simp [changesOf])
  unfold State.checkpointDeadline
  rw [State.atTime_cu, hw]
  exact if_pos hdue

end Complete

/-- Settles O47: a write starts in the slot not written last, and ends good or as a failure. -/
theorem checkpointWrites : Obligations.CheckpointWrites := by
  unfold Obligations.CheckpointWrites
  exact ⟨fun s t => checkpointWriteStart_writes, fun s t => checkpointTimer_writes,
    fun s t k f _ hm hacts hw => ⟨checkpointWriteComplete_completes hm hw hacts, checkpointWriteComplete_fails hm hw hacts⟩,
    fun s t k f hm hw => checkpointDeadline_fails hm hw⟩

end Sys2Proof.Machine
end

section
/-!
SUPPORT. The captures of the WCU: triggers, records and the skew calibration (15 R355 to R360).
-/

namespace Sys2Proof.Machine

theorem State.wcu_touches (s : State) (x : Wcu) : OnlyChanges [.wcu] s { s with wcu := x } :=
  ⟨rfl, fun y hy => by cases y <;> simp_all [sameUnit]⟩

section Wcu
variable {i : Instr} {t : Nat} {fr : List UnitId} {f : State → State} {s a : State} (hm : s.mainOn = true)
  (hv : s.part.variant.hasRecorder = true)
include hm hv

/-- A command of the WCU, on a variant that has it, gives what its effect makes of it. -/
theorem gives_wcu {l : List UnitId} (he : exec i s = runWcu t fr f s) (ha : f (s.atTime t) = a)
    (hfr : .wcu ∉ fr ++ wcuFrame) (hl : ∀ x, x ∈ changesOf i → x ∈ l) :
    Gives i s fun u => OnlyChanges l s u ∧ u.wcu = a.wcu :=
  gives_of_command he hm ((if_pos hv).trans ha) fun _ hc hleft => ⟨hc.mono hl, (hleft.2.1 .wcu hfr).symm⟩

/-- So does one of the acting unit. -/
theorem gives_wcu_unit {l : List UnitId} (he : exec i s = runWcuUnit t fr f s) (hacts : s.unitActs = true)
    (ha : f (s.atTime t) = a) (hfr : .wcu ∉ fr ++ wcuFrame) (hl : ∀ x, x ∈ changesOf i → x ∈ l) :
    Gives i s fun u => OnlyChanges l s u ∧ u.wcu = a.wcu :=
  gives_wcu hm hv he ((if_pos hacts).trans ha) hfr hl

/-- One whose effect writes the WCU alone changes nothing else. -/
theorem gives_wcu_alone {x : Wcu} (he : exec i s = runWcu t fr f s) (ha : f (s.atTime t) = { s.atTime t with wcu := x })
    (hfr : .wcu ∉ fr ++ wcuFrame) : Gives i s fun u => OnlyChanges [.wcu] s u ∧ u.wcu = x :=
  gives_of_effect he hm ((if_pos hv).trans ha) (State.wcu_touches _ x) fun _ hl hleft =>
    ⟨hl, (hleft.2.1 .wcu hfr).symm⟩

end Wcu

/-! ### Triggers (15 R355 to R358) -/

/-- The WCU after a trigger of an armed one. -/
def State.wcuGoes (s : State) (source at64 : Nat) : Wcu :=
  { s.wcu with
    state := if s.wcu.set.mode = 0 then .postFill else .capturing
    head := some (State.triggerHead { s with wcu := { s.wcu with lastTrig := some (at64 / 64), prior := none } } source at64)
    triggers := sat32 s.wcu.triggers, lastTrig := some (at64 / 64)
    prior := some { triggers := s.wcu.triggers, missed := s.wcu.missed, stamps := s.wcu.stamps
                    stampOverflow := s.wcu.stampOverflow } }

theorem State.wcuTrigger_of_armed {s : State} {source at64 : Nat} (harmed : s.wcu.state = .armed)
    (hlast : s.wcu.lastTrig ≠ some (at64 / 64)) : s.wcuTrigger source at64 = { s with wcu := s.wcuGoes source at64 } := by
  have hrearm : s.wcuRearm at64 = s := if_pos (Or.inl (by simp [harmed]))
  unfold State.wcuTrigger
  rw [hrearm]
  dsimp only
  rw [if_neg hlast, harmed]
  rfl

/-- An armed WCU starts its capture at a trigger. -/
def CaptureStarts (s u : State) (source at64 : Nat) : Prop :=
  OnlyChanges [.wcu] s u ∧ u.wcu.state = (if s.wcu.set.mode = 0 then .postFill else .capturing) ∧
    u.wcu.triggers = sat32 s.wcu.triggers ∧
    ∃ h, u.wcu.head = some h ∧ h.source = source ∧ h.at64 = at64 ∧ h.frame = s.pipe.frame

section Armed
variable {s : State} {t : Nat} (hm : s.mainOn = true) (hv : s.part.variant.hasRecorder = true)
  (harmed : s.wcu.state = .armed)
include hm hv harmed

theorem forceTrigger_starts (hacts : s.unitActs = true) (hlast : s.wcu.lastTrig ≠ some (max s.now t)) :
    Gives (.forceTrigger t 0x4654) s fun u => CaptureStarts s u 0x30 (64 * max s.now t) := by
  have hat : 64 * max s.now t / 64 = max s.now t := Nat.mul_div_cancel_left _ (by decide)
  refine (gives_wcu_alone hm hv (exec_forceTrigger s) ((if_pos hacts).trans ((if_pos (by decide)).trans
    (State.wcuTrigger_of_armed harmed ?_))) (by decide)).mono fun u ⟨hl, hu⟩ => ?_
  · rw [State.atTime_now, hat]
    exact hlast
  · rw [CaptureStarts, hu]
    exact ⟨hl, rfl, rfl, _, rfl, rfl, rfl, rfl⟩

theorem wcuTrigger_starts {x : WcuSource} {source at64 : Nat} (hx : (s.atTime t).triggerSource x = some (source, at64))
    (hlast : s.wcu.lastTrig ≠ some (at64 / 64)) :
    Gives (.wcuTrigger t x) s fun u => CaptureStarts s u source at64 := by
  have ha : (s.atTime t).sourceTrigger x = { s.atTime t with wcu := (s.atTime t).wcuGoes source at64 } := by
    unfold State.sourceTrigger
    rw [hx]
    exact State.wcuTrigger_of_armed (s := s.atTime t) harmed hlast
  refine (gives_wcu_alone hm hv (exec_wcuTrigger s) ha (by decide)).mono fun u ⟨hl, hu⟩ => ?_
  rw [CaptureStarts, hu]
  exact ⟨hl, rfl, rfl, _, rfl, rfl, rfl, rfl⟩

theorem wcuStop_stops (hacts : s.unitActs = true) (hlast : s.wcu.lastTrig ≠ some (max s.now t)) :
    Gives (.wcuStop t) s fun u => OnlyChanges [.wcu] s u ∧
      u.wcu = { s.wcu with state := .done, head := none, stopped := true } := by
  have hkeep : s.wcu.untrigger (max s.now t) = s.wcu := by
    unfold Wcu.untrigger
    split
    · rfl
    · exact if_pos hlast
  have ha : (s.atTime t).wcuStop =
      { s.atTime t with wcu := { s.wcu with state := .done, head := none, stopped := true } } := by
    unfold State.wcuStop
    simp only [State.atTime_wcu, State.atTime_now, harmed, hkeep]
  exact (gives_wcu_unit hm hv (exec_wcuStop s) hacts ha (by decide) (by simp [changesOf]))

end Armed

/-! ### Records (15 R354, R357, R358) -/

theorem mget_foldl_append {α : Type} (f : Nat → α) {l : List Nat} (hl : l.Nodup) {p : Nat} (hp : p ∈ l)
    (m : SMap (List α)) :
    ((mget (l.foldl (fun (m : SMap (List α)) p => mset m p ((mget m p).getD [] ++ [f p])) m) p).getD []).length =
      ((mget m p).getD []).length + 1 := by
  have hother : ∀ (l : List Nat) (m : SMap (List α)), p ∉ l →
      mget (l.foldl (fun (m : SMap (List α)) p => mset m p ((mget m p).getD [] ++ [f p])) m) p = mget m p := by
    intro l
    induction l with
    | nil => exact fun _ _ => rfl
    | cons q l ih =>
      intro m hq
      obtain ⟨hne, hrest⟩ := not_or.1 (mt List.mem_cons.2 hq)
      exact (ih _ hrest).trans (mget_mset_other m _ hne)
  induction l generalizing m with
  | nil => exact absurd hp List.not_mem_nil
  | cons q l ih =>
    obtain ⟨hq, hrest⟩ := List.nodup_cons.1 hl
    rw [List.foldl_cons]
    obtain rfl | hne := eq_or_ne p q
    · rw [hother l _ hq, mget_mset_self]
      simp
    · rw [ih hrest ((List.mem_cons.1 hp).resolve_left hne), mget_mset_other m _ hne]

theorem State.addRecords_adds {s : State} (h : WcuHead) (pre : Nat) (short : Bool) (samples : Nat → List WcuSample)
    {p : Nat} (hp : p < 16) (hpair : bitOf s.wcu.set.pairs p = true) :
    ((mget (s.addRecords h pre short samples).wcu.records p).getD []).length =
      ((mget s.wcu.records p).getD []).length + 1 :=
  mget_foldl_append _ (List.nodup_range.filter _) (List.mem_filter.2 ⟨List.mem_range.2 hp, hpair⟩) s.wcu.records

section Records
variable {s : State} {t : Nat} {h : WcuHead} (hm : s.mainOn = true) (hv : s.part.variant.hasRecorder = true)
  (hhead : s.wcu.head = some h)
include hm hv hhead

theorem postfillComplete_records (samples : List (Nat × List WcuSample)) (hst : s.wcu.state = .postFill)
    (hpast : h.past s.wcu.set.post (64 * max s.now t) = true) :
    Gives (.postfillComplete t samples) s fun u => OnlyChanges [.wcu, .kpp, .evr] s u ∧
      u.wcu.state = .done ∧ u.wcu.head = none ∧ ∀ p, p < 16 → bitOf s.wcu.set.pairs p = true →
        ((mget u.wcu.records p).getD []).length = ((mget s.wcu.records p).getD []).length + 1 := by
  have ha : (s.atTime t).postFilled samples = State.captureDone ((s.atTime t).addRecords h (s.wcu.preSamples h).1
      (s.wcu.preSamples h).2 fun p => samplesOf samples p ((s.wcu.preSamples h).1 + s.wcu.set.post)) := by
    unfold State.postFilled
    rw [State.atTime_wcu, hst, hhead]
    exact if_neg (by rw [State.atTime_now, hpast]; decide)
  refine (gives_wcu hm hv (exec_postfillComplete s) ha
      (by decide) (by simp [changesOf])).mono fun u ⟨hl, hu⟩ => ⟨hl, ?_⟩
  rw [hu, State.captureDone, State.raise_wcu]
  exact ⟨rfl, rfl, fun p hp hpair => State.addRecords_adds (s := s.atTime t) h _ _ _ hp hpair⟩

theorem segmentRecordComplete_records (samples : List (Nat × List WcuSample)) (hst : s.wcu.state = .capturing)
    (hpast : h.past (s.wcu.set.segLen - s.wcu.set.segPre) (64 * max s.now t) = true) :
    Gives (.segmentRecordComplete t samples) s fun u => OnlyChanges [.wcu] s u ∧
      u.wcu.state = .rearming ∧ ∀ p, p < 16 → bitOf s.wcu.set.pairs p = true →
        ((mget u.wcu.records p).getD []).length = ((mget s.wcu.records p).getD []).length + 1 := by
  have ha : (s.atTime t).segmentDone samples =
      (let v := (s.atTime t).addRecords h s.wcu.set.segPre false fun p => samplesOf samples p s.wcu.set.segLen
       { v with wcu := { v.wcu with state := .rearming } }) := by
    unfold State.segmentDone
    rw [State.atTime_wcu, hst, hhead]
    exact if_neg (by rw [State.atTime_now, hpast]; decide)
  refine (gives_wcu hm hv (exec_segmentRecordComplete s) ha
      (by decide) (by simp [changesOf])).mono fun u ⟨hl, hu⟩ => ⟨hl, ?_⟩
  rw [hu]
  exact ⟨rfl, fun p hp hpair => State.addRecords_adds (s := s.atTime t) h _ _ _ hp hpair⟩

end Records

theorem wcuRearm_rearms {s : State} {t : Nat} (hm : s.mainOn = true) (hv : s.part.variant.hasRecorder = true)
    (hst : s.wcu.state = .rearming) (hbusy : s.wcu.busyOver (64 * max s.now t) = true) :
    Gives (.wcuRearm t) s fun u => OnlyChanges [.wcu, .kpp, .evr] s u ∧ u.wcu.head = none ∧
      u.wcu.records = s.wcu.records ∧
      u.wcu.state = if s.wcu.set.capacity ≤ s.wcu.recordsPerPair then .done else .armed := by
  refine (gives_wcu hm hv (exec_wcuRearm s) rfl
      (by decide) (by simp [changesOf])).mono fun u ⟨hl, hu⟩ => ⟨hl, ?_⟩
  rw [hu, State.wcuRearm, State.atTime_wcu, State.atTime_now, hbusy, if_neg (by simp [hst])]
  split
  next hfull =>
    rw [State.captureDone, State.raise_wcu]
    exact ⟨rfl, rfl, rfl⟩
  next => exact ⟨rfl, rfl, rfl⟩

/-! ### Arm and the skew calibration (15 R359, R360) -/

theorem wcuArm_arms {s : State} {t : Nat} (hm : s.mainOn = true) (hv : s.part.variant.hasRecorder = true)
    (hacts : s.unitActs = true) (hst : s.wcu.state = .idle ∧ s.regN 0x500010 ≠ 0 ∨ s.wcu.state = .done) :
    Gives (.wcuArm t) s fun u => OnlyChanges [.wcu] s u ∧
      u.wcu.state = .armed ∧ u.wcu.set = s.wcuSettings ∧ u.wcu.armedAt = max s.now t ∧ u.wcu.records = [] ∧
      u.wcu.missed = 0 ∧ u.wcu.ignored = 0 := by
  have hready : ¬ ((s.atTime t).wcu.state ≠ .done ∧ ((s.atTime t).wcu.state ≠ .idle ∨ (s.atTime t).regN 0x500010 = 0)) := by
    rintro ⟨hdone, hidle | hpairs⟩
    · exact hst.elim (fun h => hidle h.1) hdone
    · exact hst.elim (fun h => h.2 hpairs) hdone
  refine (gives_wcu_unit hm hv (exec_wcuArm s) hacts (if_neg hready)
      (by decide) (by simp [changesOf])).mono fun u ⟨hl, hu⟩ => ⟨hl, ?_⟩
  rw [hu]
  exact ⟨rfl, rfl, rfl, rfl, rfl, rfl⟩

theorem skewCalibrate_starts {s : State} {t : Nat} (hm : s.mainOn = true) (hv : s.part.variant.hasRecorder = true)
    (hacts : s.unitActs = true) (hst : s.wcu.state = .idle ∨ s.wcu.state = .done) :
    Gives (.skewCalibrate t 0x5343) s fun u => OnlyChanges [.wcu] s u ∧ u.wcu = { s.wcu with
      state := .calibrating, calStatus := 1, head := none, calAt := max s.now t, calFrames := s.pipe.running } :=
  gives_wcu_unit hm hv (exec_skewCalibrate s) hacts (if_pos ⟨by decide, hst⟩)
      (by decide) (by simp [changesOf])

/-- No enabled pair failed where each has a trim in its range. -/
theorem trims_complete_iff (trims : List (Nat × List Byte)) (pairs : Nat) :
    (((List.range 16).filter fun p => bitOf pairs p).filter fun p =>
        ((trims.find? fun x => x.1 == p && trimOk x.2).map Prod.snd).isNone).isEmpty = true ↔
      ∀ p, p < 16 → bitOf pairs p = true → ∃ x ∈ trims, x.1 = p ∧ trimOk x.2 = true := by
  simp only [List.isEmpty_iff, List.filter_eq_nil_iff, List.mem_filter, List.mem_range, and_imp, Option.isNone_map,
    Option.isNone_iff_eq_none, List.find?_eq_none, Bool.and_eq_true, beq_iff_eq, not_forall, not_not, exists_prop]

theorem skewCalibrationComplete_ends {s : State} {t : Nat} (hm : s.mainOn = true)
    (hv : s.part.variant.hasRecorder = true) (hst : s.wcu.state = .calibrating) (hpulsed : (s.atTime t).skewPulsed = true)
    (trims : List (Nat × List Byte)) :
    Gives (.skewCalibrationComplete t trims) s fun u => OnlyChanges [.wcu, .rwp, .kpp, .evr] s u ∧ u.wcu.state = .idle ∧
      (u.wcu.calStatus = 2 ∨ u.wcu.calStatus = 3) ∧
      (u.wcu.calStatus = 2 ↔ ∀ p, p < 16 → bitOf (s.regN 0x500010) p = true →
        ∃ x ∈ trims, x.1 = p ∧ trimOk x.2 = true) := by
  refine (gives_wcu hm hv (exec_skewCalibrationComplete s) rfl
      (by decide) (by simp [changesOf])).mono fun u ⟨hl, hu⟩ => ⟨hl, ?_⟩
  have hready : ¬ ((s.atTime t).wcu.state ≠ .calibrating ∨ (s.atTime t).skewPulsed = false) := by
    rw [State.atTime_wcu, hst, hpulsed]
    simp
  rw [hu, State.skewCalibrated, if_neg hready]
  dsimp only
  rw [State.raiseIf_wcu, ← trims_complete_iff]
  refine ⟨rfl, ?_⟩
  dsimp only
  split
  next h => exact ⟨Or.inl rfl, iff_of_true rfl h⟩
  next h => exact ⟨Or.inr rfl, iff_of_false (by decide) h⟩

/-- Settles O48: each command finds the capture in the state it needs and takes it to the next. -/
theorem capturesRunThroughTheirStates : Obligations.CapturesRunThroughTheirStates := by
  unfold Obligations.CapturesRunThroughTheirStates
  exact fun s t hm hv => ⟨wcuArm_arms hm hv,
    fun harmed => ⟨forceTrigger_starts hm hv harmed, fun x source at64 => wcuTrigger_starts hm hv harmed⟩,
    fun h samples hhead => ⟨postfillComplete_records hm hv hhead samples, segmentRecordComplete_records hm hv hhead samples,
      wcuRearm_rearms hm hv⟩,
    fun hacts harmed => wcuStop_stops hm hv harmed hacts, skewCalibrate_starts hm hv,
    skewCalibrationComplete_ends hm hv⟩

end Sys2Proof.Machine
end

section
/-!
SUPPORT. The Monitor Converter: conversions, the settling of the multiplexer, sequences, the slot configuration and the
reference (16 R366 to R373).
-/

namespace Sys2Proof.Machine

/-- A command of the monitor converter gives what its effect makes of it. -/
theorem gives_mon {i : Instr} {t : Nat} {fr : List UnitId} {f : State → State} {s a : State} {l : List UnitId}
    (he : exec i s = runMain t fr f s) (hm : s.mainOn = true) (ha : f (s.atTime t) = a)
    (hl : OnlyChanges l (s.atTime t) a) (hfr : .mon ∉ fr) :
    Gives i s fun u => OnlyChanges l s u ∧ u.mon = a.mon :=
  gives_of_effect he hm ha hl fun _ hl hleft => ⟨hl, (hleft.2.1 .mon hfr).symm⟩

/-! ### Conversions (16 R366, R370) -/

theorem MonSlot.take_of_not_due {m : MonSlot} {c : SlotCfg} (now : Nat) (x : Nat × Bool) (h : m.taken + 1 < c.ratio) :
    m.take now c x = ({ m with samples := (x :: m.samples).take (3 * c.ratio), taken := m.taken + 1 }, none) :=
  if_pos h

theorem Mon.converted_slots (m : Mon) (input : Nat) (ovr : Bool) : (m.converted input ovr).slots = m.slots := rfl

/-- The monitor converter after a conversion into slot `i` that gives no output yet. -/
def State.monTaken (s : State) (conv i : Nat) (x : Nat × Bool) : Mon :=
  let c := s.slotCfg i
  let m := s.mon.slots.getD i {}
  { s.mon.converted c.input x.2 with
    lastSlot := setAt s.mon.lastSlot conv i, convAt := setAt s.mon.convAt conv s.now
    slots := setAt s.mon.slots i { m with samples := (x :: m.samples).take (3 * c.ratio), taken := m.taken + 1 } }

theorem State.conversion_takes {s : State} {conv i vref : Nat} {uV : Int} (hset : s.mon.settled = true) (hconv : conv < 4)
    (hburst : s.inBurst conv = false) (hover : max s.mon.settledAt (s.mon.convAt.getD conv 0) + 200 ≤ s.now)
    (hnext : s.nextSlot conv = some i) (hdue : (s.mon.slots.getD i {}).taken + 1 < (s.slotCfg i).ratio)
    (hrec : mcount s.mon.recovery (s.slotCfg i).input = 0) :
    s.conversion conv uV vref =
      { s with mon := s.monTaken conv i (monSample (monInput (s.slotCfg i).input uV) (s.mon.vref vref)) } := by
  have hready : ¬ ((!s.mon.settled) = true ∨ 3 < conv ∨ s.inBurst conv = true ∨
      s.now < max s.mon.settledAt (s.mon.convAt.getD conv 0) + 200) := by
    rw [hset, hburst]
    simp only [Bool.not_true, Bool.false_eq_true, false_or]
    omega
  unfold State.conversion
  rw [if_neg hready, hnext]
  dsimp only
  rw [Mon.converted_slots, MonSlot.take_of_not_due _ _ hdue, hrec, show decide (0 < 0) = false from rfl, Bool.or_false]
  rfl

theorem monConversion_takes {s : State} {t conv i vref : Nat} {uV : Int} (hm : s.mainOn = true)
    (hset : s.mon.settled = true) (hconv : conv < 4) (hburst : (s.atTime t).inBurst conv = false)
    (hover : max s.mon.settledAt (s.mon.convAt.getD conv 0) + 200 ≤ max s.now t) (hnext : s.nextSlot conv = some i)
    (hi : i < s.mon.slots.length) (hdue : (s.mon.slots.getD i {}).taken + 1 < (s.slotCfg i).ratio)
    (hrec : mcount s.mon.recovery (s.slotCfg i).input = 0) :
    let x := monSample (monInput (s.slotCfg i).input uV) (s.mon.vref vref)
    Gives (.monConversion t conv uV vref) s fun u => OnlyChanges [.mon] s u ∧
      (u.mon.slots.getD i {}).taken = (s.mon.slots.getD i {}).taken + 1 ∧
      (u.mon.slots.getD i {}).samples.head? = some x ∧
      (u.mon.slots.getD i {}).result = (s.mon.slots.getD i {}).result ∧
      u.mon.overRange = (if x.2 then sat32 s.mon.overRange else s.mon.overRange) := by
  intro x
  refine (gives_mon (exec_monConversion s) hm
    (State.conversion_takes (s := s.atTime t) hset hconv hburst hover hnext hdue hrec) (State.mon_touches _ _)
        (by decide)).mono
    fun u ⟨hl, hu⟩ => ⟨hl, ?_⟩
  have hslot : u.mon.slots.getD i {} = { s.mon.slots.getD i {} with
      samples := (x :: (s.mon.slots.getD i {}).samples).take (3 * (s.slotCfg i).ratio)
      taken := (s.mon.slots.getD i {}).taken + 1 } := by
    rw [hu]
    simp [State.monTaken, setAt, List.getD_eq_getElem?_getD, hi]
    rfl
  rw [hslot]
  refine ⟨rfl, ?_, rfl, ?_⟩
  · obtain ⟨n, hn⟩ : ∃ n, 3 * (s.slotCfg i).ratio = n + 1 := ⟨3 * (s.slotCfg i).ratio - 1, by omega⟩
    dsimp only
    rw [hn]
    rfl
  · rw [hu]
    rfl

theorem muxSettleEnd_ends {s : State} {t : Nat} (hm : s.mainOn = true) (hwait : s.rfe.muxWait = true)
    (hover : s.rfe.muxAt + s.muxSettleNs ≤ max s.now t) :
    Gives (.muxSettleEnd t) s fun u => OnlyChanges [.rfe, .mon] s u ∧ u.rfe = { s.rfe with muxWait := false } := by
  have hready : ¬ (!(s.atTime t).rfe.muxWait ||
      decide ((s.atTime t).now < (s.atTime t).rfe.muxAt + (s.atTime t).muxSettleNs)) = true := by
    rw [State.atTime_rfe, hwait]
    exact fun h => absurd (of_decide_eq_true h) (Nat.not_lt.2 hover)
  exact gives_of_command (exec_muxSettleEnd s) hm (if_neg hready) fun u hc hleft =>
    ⟨hc.mono (by simp [changesOf]), (hleft.2.1 .rfe (by decide)).symm⟩

/-! ### Sequences (16 R373) -/

section Sequence
variable {s : State} {t : Nat} (hm : s.mainOn = true) (hacts : s.unitActs = true) (hrun : s.mon.seqRunning = true)
include hm hacts hrun

theorem sequenceTrigger_queues (hq : s.mon.seqQueued = false) :
    Gives (.sequenceTrigger t 0x5351) s fun u => OnlyChanges [.mon] s u ∧ u.mon = { s.mon with seqQueued := true } := by
  refine gives_mon (a := { s.atTime t with mon := { s.mon with seqQueued := true } }) (exec_sequenceTrigger s) hm
    ((if_pos hacts).trans ((if_pos (by decide)).trans ?_)) (State.mon_touches _ _) (by decide)
  exact (if_neg (by simp [hrun])).trans (if_pos (by simp [hq]))

theorem sequenceTrigger_overruns (hq : s.mon.seqQueued = true) :
    Gives (.sequenceTrigger t 0x5351) s fun u => OnlyChanges [.mon, .kpp, .evr] s u ∧ u.mon = { s.mon with
      overruns := sat32 s.mon.overruns, seqOverrun := true, overrunAt := max s.now t
      overrunNow := (if s.mon.overrunAt = max s.now t then s.mon.overrunNow else 0) + 1 } := by
  have ha : (s.atTime t).sequence = State.raiseIf { s.atTime t with mon := { s.mon with
      overruns := sat32 s.mon.overruns, seqOverrun := true, overrunAt := max s.now t
      overrunNow := (if s.mon.overrunAt = max s.now t then s.mon.overrunNow else 0) + 1 } } (!s.mon.seqOverrun) 0x5402 0x15 0 :=
    (if_neg (by simp [hrun])).trans (if_neg (by simp [hq]))
  refine (gives_mon (exec_sequenceTrigger s) hm ((if_pos hacts).trans ((if_pos (by decide)).trans ha))
    (((State.mon_touches _ _).mono (by simp)).trans ((State.raiseIf_touches _ _ _ _ _).mono (by simp)))
        (by decide)).mono
    fun u ⟨hl, hu⟩ => ⟨hl, hu.trans (State.raiseIf_mon _ _ _ _ _)⟩

end Sequence

/-! ### The slot configuration (16 R369) -/

theorem getD_overlay_other {bs new : List Byte} {o i : Nat} (h : i < o ∨ o + new.length ≤ i) :
    (overlay bs o new).getD i 0 = bs.getD i 0 := by
  have hhead : (bs.take o ++ List.replicate (o - (bs.take o).length) 0).length = o := by
    rw [List.length_append, List.length_take, List.length_replicate]
    omega
  simp only [overlay, List.getD_eq_getElem?_getD]
  obtain h | h := h
  · rw [List.append_assoc, List.getElem?_append_left (by rwa [hhead])]
    by_cases hb : i < bs.length
    · rw [List.getElem?_append_left (by rw [List.length_take]; omega), List.getElem?_take_of_lt h]
    · rw [List.getElem?_append_right (by rw [List.length_take]; omega), List.getElem?_replicate,
        List.getElem?_eq_none (Nat.not_lt.1 hb)]
      split <;> rfl
  · rw [List.getElem?_append_right (by rwa [List.length_append, hhead]), List.length_append, hhead, List.getElem?_drop,
      Nat.add_sub_cancel' h]

theorem getD_overlay_zero {bs new : List Byte} {i : Nat} (h : i < new.length) :
    (overlay bs 0 new).getD i 0 = new.getD i 0 := by
  simp [overlay, List.getD_eq_getElem?_getD, List.getElem?_append_left h]

theorem getD_apply_other {f : FieldFix} {off len i : Nat} (bs : List Byte)
    (hlen : ∀ b, (f.fix.apply f.n b).length = f.n) (h : ∀ j, i < j * f.stride + f.o ∨ j * f.stride + f.o + f.n ≤ i) :
    (f.apply off len bs).getD i 0 = bs.getD i 0 := by
  unfold FieldFix.apply
  generalize List.range (bs.length / f.stride) = l
  suffices hall : ∀ acc : List Byte, (l.foldl (fun acc i =>
      let p := i * f.stride + f.o
      if p < off + len ∧ off < p + f.n then overlay acc p (f.fix.apply f.n (bytesAt acc p f.n)) else acc) acc).getD i 0 =
      acc.getD i 0 from hall bs
  induction l with
  | nil => exact fun _ => rfl
  | cons j l ih =>
    intro acc
    rw [List.foldl_cons, ih]
    dsimp only
    split
    · exact getD_overlay_other (by rw [hlen]; exact h j)
    · rfl

/-- SlotConfig as a write leaves it: byte 1 of each slot has reserved bits. -/
theorem getD_storedValue_slotConfig {row : ObjRow} (hrow : objRow 0x540010 = some row) (len : Nat) (bs : List Byte) {i : Nat}
    (hi : i % 8 ≠ 1) : (storedValue row 0 len bs).getD i 0 = bs.getD i 0 := by
  obtain rfl : rowB 0x540010 .rwp defaultSlotConfig 128 = row := Option.some.inj hrow
  have hfix : mget fixes 0x540010 = some [{ stride := 8, o := 1, n := 1, fix := .bits 0xF7 }] := by decide
  simp only [storedValue, rowB, hfix, Option.getD_some, List.foldl_cons, List.foldl_nil]
  exact getD_apply_other bs (fun b => rfl) fun j => by
    change i < j * 8 + 1 ∨ j * 8 + 1 + 1 ≤ i
    omega

theorem State.endSequence_of_idle {s : State} (h : s.mon.seqRunning = false) : s.endSequence = s :=
  if_neg (by simp [h])

/-- The state after a new SlotConfig while no sequence runs. -/
def State.slotConfigured (s : State) (v : List Byte) : State :=
  let changed := fun i => bytesAt (s.reg 0x540010) (8 * i) 8 != bytesAt v (8 * i) 8
  let w := (s.setReg 0x540010 .rwp v).restartSlots changed
  let owes := fun (i : Nat) (m : MonSlot) => if changed i && w.triggeredSlots i then { m with seqDone := false } else m
  { w with mon := { w.mon with slots := mapIdx w.mon.slots owes } }

theorem State.setSlotConfig_of_idle {s : State} (v : List Byte) (hrun : s.mon.seqRunning = false) :
    s.setSlotConfig v = s.slotConfigured v := State.endSequence_of_idle hrun

theorem State.slotConfigured_touches (s : State) (v : List Byte) : OnlyChanges [.rwp, .mon] s (s.slotConfigured v) :=
  ((State.rwp_touches s _).mono (by simp)).trans
    (((State.mon_touches _ _).mono (by simp)).trans ((State.mon_touches _ _).mono (by simp)))

theorem getD_mapIdx_fixed {α : Type} {l : List α} {f : Nat → α → α} {i : Nat} (d : α) (hf : ∀ m, f i m = m) :
    (mapIdx l f).getD i d = l.getD i d := by
  simp only [mapIdx, List.getD_eq_getElem?_getD, List.getElem?_mapIdx]
  cases l[i]? with
  | none => rfl
  | some m => exact hf m

/-- A slot whose eight bytes are those of before is as it was. -/
theorem State.slotConfigured_keeps {s : State} {v : List Byte} {i : Nat}
    (hsame : bytesAt (s.reg 0x540010) (8 * i) 8 = bytesAt v (8 * i) 8) :
    (s.slotConfigured v).mon.slots.getD i {} = s.mon.slots.getD i {} :=
  (getD_mapIdx_fixed _ fun m => by simp [hsame]).trans (getD_mapIdx_fixed _ fun m => by simp [hsame])

theorem slotConfigWrite_writes {s : State} {t : Nat} {v : List Byte} (hm : s.mainOn = true) (hacts : s.unitActs = true)
    (hrun : s.mon.seqRunning = false) (hv : v.length = 128) :
    Gives (.slotConfigWrite t 0 v) s fun u => OnlyChanges [.rwp, .mon] s u ∧
      (∀ i, i < 128 → i % 8 ≠ 1 → (u.reg 0x540010).getD i 0 = v.getD i 0) ∧
      ∀ i, i < 16 → bytesAt (s.reg 0x540010) (8 * i) 8 = bytesAt (u.reg 0x540010) (8 * i) 8 →
        u.mon.slots.getD i {} = s.mon.slots.getD i {} := by
  obtain ⟨row, hrow⟩ : ∃ row, objRow 0x540010 = some row := ⟨_, rfl⟩
  obtain hmax : row.maxLen = 128 := congrArg ObjRow.maxLen (Option.some.inj (hrow.symm.trans rfl))
  have ha : (s.atTime t).slotConfigWrite 0 v =
      (s.atTime t).slotConfigured (storedValue row 0 v.length (overlay ((s.atTime t).reg 0x540010) 0 v)) := by
    unfold State.slotConfigWrite
    rw [hrow]
    exact (if_neg (by omega)).trans (State.setSlotConfig_of_idle _ hrun)
  refine gives_of_unit_effect (exec_slotConfigWrite s) hm hacts ha (State.slotConfigured_touches _ _) fun u hl hleft => ?_
  have hu : u.reg 0x540010 = storedValue row 0 v.length (overlay ((s.atTime t).reg 0x540010) 0 v) := by
    unfold State.reg
    rw [if_neg (by decide), ← hleft.2.1 .rwp (by decide)]
    exact congrArg (fun o => Option.getD o _) (mget_mset_self _ _ _)
  rw [hu]
  refine ⟨hl, fun i hi hres => ?_, fun i hi hsame => ?_⟩
  · rw [getD_storedValue_slotConfig hrow _ _ hres]
    exact getD_overlay_zero (hv ▸ hi)
  · rw [← hleft.2.1 .mon (by decide)]
    exact State.slotConfigured_keeps (s := s.atTime t) hsame

/-! ### The reference (16 R368) -/

theorem State.settle_touches (s : State) : OnlyChanges [.mon] s s.settle :=
  OnlyChanges.ite _ (OnlyChanges.refl _ s) ((State.mon_touches s _).trans (State.mon_touches _ _))

theorem State.settle_mon (s : State) : s.settle.mon.settled = true ∧ s.settle.mon.run = s.mon.run := by
  unfold State.settle
  split
  next h => exact ⟨h, rfl⟩
  · exact ⟨rfl, rfl⟩

theorem State.unsettle_touches (s : State) : OnlyChanges [.mon, .kpp, .evr] s s.unsettle :=
  OnlyChanges.ite _ (((State.mon_touches s _).mono (by simp)).trans ((State.raise_touches _ _ _ _).mono (by simp)))
    (OnlyChanges.refl _ s)

theorem State.unsettle_mon (s : State) : s.unsettle.mon.settled = false ∧ s.unsettle.mon.run = s.mon.run := by
  unfold State.unsettle
  split
  · rw [State.raise_mon]
    exact ⟨rfl, rfl⟩
  next h => exact ⟨Bool.eq_false_iff.2 h, rfl⟩

/-- The state after the instant of a check is kept. -/
def State.checkedNow (s : State) : State := { s with mon := { s.mon with checkAt := some s.now } }

def State.withRun (s : State) (run : Nat) : State := { s with mon := { s.mon with run } }

/-- A check of the external reference that does not come too soon. -/
theorem State.vrefCheck_of_due {s : State} (mV : Nat) (hsel : s.mon.select = 1)
    (hdue : ∀ x, s.mon.checkAt = some x → x + 10000 ≤ s.now) : s.vrefCheck mV =
      if 50 * (max mV (s.regN 0x540004) - min mV (s.regN 0x540004)) ≤ s.regN 0x540004 then
        if min 64 (s.mon.run + 1) = 64 then (s.checkedNow.withRun (min 64 (s.mon.run + 1))).settle
        else s.checkedNow.withRun (min 64 (s.mon.run + 1))
      else (s.checkedNow.withRun 0).unsettle := by
  unfold State.vrefCheck
  extract_lets nominal early
  have hearly : early = false := by
    simp only [early]
    split
    next x hx => exact decide_eq_false (Nat.not_lt.2 (hdue x hx))
    · rfl
  clear_value early
  subst hearly
  exact if_neg fun h => h.elim (fun hsel' => hsel' hsel) Bool.false_ne_true

theorem State.withRun_touches (s : State) (run : Nat) : OnlyChanges [.mon] s (s.checkedNow.withRun run) :=
  State.mon_touches s _

section Vref
variable {s : State} {t mV : Nat} (hm : s.mainOn = true) (hsel : s.mon.select = 1)
  (hdue : ∀ x, s.mon.checkAt = some x → x + 10000 ≤ max s.now t)
include hm hsel hdue

theorem vrefExtCheck_good (hgood : 50 * (max mV (s.regN 0x540004) - min mV (s.regN 0x540004)) ≤ s.regN 0x540004) :
    Gives (.vrefExtCheck t mV) s fun u => OnlyChanges [.mon] s u ∧ u.mon.run = min 64 (s.mon.run + 1) ∧
      u.mon.settled = (s.mon.settled || decide (63 ≤ s.mon.run)) := by
  have ha := (State.vrefCheck_of_due (s := s.atTime t) mV hsel hdue).trans (if_pos hgood)
  by_cases hrun : min 64 (s.mon.run + 1) = 64
  · refine (gives_mon (exec_vrefExtCheck s) hm (ha.trans (if_pos hrun))
      ((State.withRun_touches _ _).trans (State.settle_touches _))
          (by decide)).mono fun u ⟨hl, hu⟩ => ⟨hl, ?_⟩
    rw [hu, (State.settle_mon _).1, (State.settle_mon _).2, decide_eq_true (by omega), Bool.or_true]
    exact ⟨rfl, rfl⟩
  · refine (gives_mon (exec_vrefExtCheck s) hm (ha.trans (if_neg hrun)) (State.withRun_touches _ _)
      (by decide)).mono
      fun u ⟨hl, hu⟩ => ⟨hl, ?_⟩
    rw [hu, decide_eq_false (by omega), Bool.or_false]
    exact ⟨rfl, rfl⟩

theorem vrefExtCheck_bad (hbad : s.regN 0x540004 < 50 * (max mV (s.regN 0x540004) - min mV (s.regN 0x540004))) :
    Gives (.vrefExtCheck t mV) s fun u => OnlyChanges [.mon, .kpp, .evr] s u ∧ u.mon.run = 0 ∧
      u.mon.settled = false := by
  have ha := (State.vrefCheck_of_due (s := s.atTime t) mV hsel hdue).trans (if_neg (Nat.not_le.2 hbad))
  refine (gives_mon (exec_vrefExtCheck s) hm ha
    (((State.withRun_touches _ _).mono (by simp)).trans (State.unsettle_touches _))
        (by decide)).mono fun u ⟨hl, hu⟩ => ⟨hl, ?_⟩
  rw [hu, (State.unsettle_mon _).1, (State.unsettle_mon _).2]
  exact ⟨rfl, rfl⟩

end Vref

theorem referenceSettle_settles {s : State} {t : Nat} (hm : s.mainOn = true) (hsel : s.mon.select = 0)
    (hover : s.emg.releasedAt + 1500000 ≤ max s.now t) :
    Gives (.referenceSettle t) s fun u => OnlyChanges [.mon] s u ∧ u.mon.settled = true :=
  (gives_mon (exec_referenceSettle s) hm (if_pos ⟨hsel, hover⟩) (State.settle_touches _)
      (by decide)).mono fun _ ⟨hl, hu⟩ =>
    ⟨hl, (congrArg Mon.settled hu).trans (State.settle_mon _).1⟩

/-- Settles O49: each command meets its condition, and what it makes of the converter is read off. -/
theorem monitorSlotsAndReferences : Obligations.MonitorSlotsAndReferences := by
  unfold Obligations.MonitorSlotsAndReferences
  exact ⟨fun s t conv i vref uV hm hset hconv _ => monConversion_takes hm hset hconv, fun s t => muxSettleEnd_ends,
    fun s t hm hacts hrun => ⟨sequenceTrigger_queues hm hacts hrun, sequenceTrigger_overruns hm hacts hrun⟩,
    fun s t v => slotConfigWrite_writes,
    fun s t mV hm hsel hdue => ⟨vrefExtCheck_good hm hsel hdue, vrefExtCheck_bad hm hsel hdue⟩,
    fun s t => referenceSettle_settles⟩

end Sys2Proof.Machine
end

section
/-!
SUPPORT. The time unit: its synchronisation states, the peer delay, the clock set, edge stamps and frequencies (17 R385 to R391).
-/

namespace Sys2Proof.Machine

/-- A command of the time unit gives what its effect makes of it and sends. -/
theorem gives_ntu {i : Instr} {t : Nat} {fr : List UnitId} {f : State → State} {s a : State} {l : List UnitId}
    (he : exec i s = runMain t fr f s) (hm : s.mainOn = true) (ha : f (s.atTime t) = a)
        (hfr : .ntu ∉ fr) (hl : ∀ x, x ∈ changesOf i → x ∈ l) :
    Gives i s fun u => OnlyChanges l s u ∧ u.ntu = a.ntu ∧ u.out = a.out :=
  gives_of_command he hm ha fun _ hc ⟨hout, _, hntu⟩ => ⟨hc.mono hl, hntu hfr, hout⟩

/-! ### Changes of SyncState (17 R384, R388) -/

theorem State.syncTo_ntu (s : State) (st : SyncState) : (s.syncTo st).ntu =
    if s.ntu.sync = st then s.ntu else { s.ntu with sync := st, goodRun := 0, badRun := 0 } := by
  unfold State.syncTo
  split
  · rfl
  · rw [State.raise_ntu]

theorem State.syncTo_fields (s : State) (st : SyncState) :
    (s.syncTo st).ntu.sync = st ∧ (s.syncTo st).ntu.servo = s.ntu.servo ∧ (s.syncTo st).ntu.integ = s.ntu.integ ∧
      (s.syncTo st).ntu.clock = s.ntu.clock ∧ (s.syncTo st).ntu.holdoverAt = s.ntu.holdoverAt ∧
      (s.syncTo st).ntu.accepted = s.ntu.accepted ∧ (s.syncTo st).ntu.sawSync = s.ntu.sawSync ∧
      (s.syncTo st).ntu.offset = s.ntu.offset ∧ (s.syncTo st).ntu.reqAt = s.ntu.reqAt ∧
      (s.syncTo st).ntu.lostResp = s.ntu.lostResp ∧ (s.syncTo st).ntu.linkDelay = s.ntu.linkDelay ∧
      (s.syncTo st).ntu.asCapable = s.ntu.asCapable := by
  rw [State.syncTo_ntu]
  split
  next h => exact ⟨h, rfl, rfl, rfl, rfl, rfl, rfl, rfl, rfl, rfl, rfl, rfl⟩
  · exact ⟨rfl, rfl, rfl, rfl, rfl, rfl, rfl, rfl, rfl, rfl, rfl, rfl⟩

theorem State.syncFree_fields (s : State) : s.syncFree.ntu.sync = .free ∧ s.syncFree.ntu.servo = 0 :=
  have h := State.syncTo_fields { s with ntu := { s.ntu with servo := 0 } } .free
  ⟨h.1, h.2.1⟩

theorem State.holdover_fields (s : State) : s.holdover.ntu.sync = .holdover ∧ s.holdover.ntu.servo = s.ntu.servo ∧
    s.holdover.ntu.holdoverAt = s.now := by
  obtain ⟨hsync, hservo, _, _, hat, _⟩ := State.syncTo_fields { s with ntu := { s.ntu with holdoverAt := s.now } } .holdover
  exact ⟨hsync, hservo, hat⟩

/-! ### Sync and Follow_Up (17 R386, R388) -/

section Serving
variable {s : State} {t : Nat} (hm : s.mainOn = true) (hserve : s.serving = true)
include hm hserve

theorem syncReceive_waits {m : SyncMsg} (hdomain : m.domain = s.domain) (htwo : m.twoStep = true) :
    Gives (.syncReceive t m) s fun u => OnlyChanges [.ntu] s u ∧
      u.ntu.sawSync = some (m.seqId, ((s.atTime t).clockNs : Int) - (s.regN 0x60000C : Nat),
        ((syncInterval m.logInterval : Nat) : Int)) := by
  have hours : ¬ (m.domain ≠ (s.atTime t).domain ∨ m.twoStep = false) := by
    rintro (h | h)
    · exact h hdomain
    · exact Bool.false_ne_true (h.symm.trans htwo)
  have hserving : ¬ (!(s.atTime t).serving) = true := by
    rw [show (s.atTime t).serving = true from hserve]
    decide
  refine (gives_ntu (exec_syncReceive s) hm ((if_neg hserving).trans (if_neg hours))
      (by decide) (by simp [changesOf])).mono fun u ⟨hl, hu, _⟩ => ⟨hl, ?_⟩
  rw [hu]
  rfl

theorem syncReceive_ignores {m : SyncMsg} (hother : m.domain ≠ s.domain ∨ m.twoStep = false) :
    Gives (.syncReceive t m) s fun u => OnlyChanges [.ntu] s u ∧
      u.ntu.ignoredSyncs = sat32 s.ntu.ignoredSyncs ∧ u.ntu.sawSync = s.ntu.sawSync := by
  have hserving : ¬ (!(s.atTime t).serving) = true := by
    rw [show (s.atTime t).serving = true from hserve]
    decide
  refine (gives_ntu (exec_syncReceive s) hm ((if_neg hserving).trans (if_pos hother))
      (by decide) (by simp [changesOf])).mono fun u ⟨hl, hu, _⟩ => ⟨hl, ?_⟩
  rw [hu]
  exact ⟨rfl, rfl⟩

theorem announceReceive_sets (gm : BitVec 64) :
    Gives (.announceReceive t s.domain gm) s fun u => OnlyChanges [.ntu] s u ∧ u.ntu = { (s.atTime t).ntu with gm } := by
  have hours : ((s.atTime t).serving && s.domain == (s.atTime t).domain) = true :=
    Bool.and_eq_true_iff.2 ⟨hserve, beq_self_eq_true _⟩
  exact (gives_ntu (exec_announceReceive s) hm (if_pos hours)
      (by decide) (by simp [changesOf])).mono fun u ⟨hl, hu, _⟩ => ⟨hl, hu⟩

end Serving

/-- The state once a Follow_Up has completed the Sync received, before its servo step. -/
def State.syncAccepted (s : State) (interval offset : Int) : State :=
  { s with ntu := { s.ntu with
      sawSync := none, accepted := sat32 s.ntu.accepted, lastSyncAt := s.now, intervalNs := interval.toNat
      offset := sat32i offset } }

theorem State.regN_congr {s u : State} (hrw : u.rw = s.rw) (hrwp : u.rwp = s.rwp) (hspring : u.spring = s.spring) (k : Nat) :
    u.regN k = s.regN k := by
  unfold State.regN State.reg
  rw [hrw, hrwp, hspring]

/-- A step of the clock changes the clock, its count and the gates alone. -/
theorem State.timeStep_fields (s : State) (offset : Int) (frac : Nat) :
    (s.timeStep offset frac).ntu = { s.ntu with
      clock := (s.timeStep offset frac).ntu.clock, steps := sat32 s.ntu.steps, fmeas := (s.timeStep offset frac).ntu.fmeas } := by
  unfold State.timeStep
  dsimp only
  rw [State.raise_ntu]
  rfl

/-- What a servo step leaves: the synchronisation state, and the clock within the step limit. -/
structure ServoKeeps (s v : State) (moved : Int) : Prop where
  accepted : v.ntu.accepted = s.ntu.accepted
  sawSync : v.ntu.sawSync = s.ntu.sawSync
  offset : v.ntu.offset = s.ntu.offset
  sync : v.ntu.sync = s.ntu.sync
  goodRun : v.ntu.goodRun = s.ntu.goodRun
  asCapable : v.ntu.asCapable = s.ntu.asCapable
  regN : ∀ k, v.regN k = s.regN k
  clock : (moved.natAbs : Int) ≤ s.regN 0x60000D → v.ntu.clock = s.ntu.clock

theorem State.servoStep_keeps (s : State) (offset interval ff : Int) :
    ServoKeeps s (s.servoStep offset interval ff) offset := by
  unfold State.servoStep
  dsimp only
  split
  next hfar =>
    have hstep := State.timeStep_fields { s with ntu := { s.ntu with integ := 0 } } offset (s.ntu.clock % 2 ^ 32)
    refine ⟨?_, ?_, ?_, ?_, ?_, ?_, fun k => State.regN_congr ?_ ?_ ?_ k, fun hnear => absurd hfar (not_lt.2 hnear)⟩
    iterate 6 rw [hstep]
    all_goals simp [State.timeStep, State.setClock]
  next => exact ⟨rfl, rfl, rfl, rfl, rfl, rfl, fun _ => rfl, fun _ => rfl⟩

/-- The offset of the Sync that a Follow_Up completes. -/
def State.syncOffset (s : State) (rx : Int) (m : FollowUpMsg) : Int :=
  rx - (m.originNs + m.correctionNs + (s.ntu.linkDelay : Int))

/-- The state after the servo step of the Sync that a Follow_Up completes. -/
def State.servoed (s : State) (rx interval : Int) (m : FollowUpMsg) : State :=
  (s.syncAccepted interval (s.syncOffset rx m)).servoStep (s.syncOffset rx m) (max 1 interval)
    (feedForward m.rateOffset41 s.ntu.ratioNum s.ntu.ratioDen)

theorem State.atTime_ntu_sync (s : State) (t : Nat) : (s.atTime t).ntu.sync = s.ntu.sync := rfl

section FollowUp
variable {s : State} {t seq : Nat} {rx interval : Int} {m : FollowUpMsg} (hm : s.mainOn = true) (hserve : s.serving = true)
  (hsaw : s.ntu.sawSync = some (seq, rx, interval)) (hdomain : m.domain = s.domain) (hseq : m.seqId = seq)
include hserve hsaw hdomain hseq

theorem State.followUp_of_completes : s.followUp m =
    if s.ntu.asCapable then (s.servoed rx interval m).syncState (s.syncOffset rx m)
    else match s.ntu.sync with
      | .free => { s.servoed rx interval m with ntu := { (s.servoed rx interval m).ntu with servo := 0 } }
      | .holdover => s.servoed rx interval m
      | .acquiring => (s.servoed rx interval m).syncState (s.syncOffset rx m)
      | .locked => (s.servoed rx interval m).syncState (s.syncOffset rx m) := by
  have hcomplete : s.completes m = some (rx, interval) := by
    unfold State.completes
    rw [hsaw]
    exact if_neg (by simp [hserve, hdomain, hseq])
  have hkeeps := State.servoStep_keeps (s.syncAccepted interval (s.syncOffset rx m)) (s.syncOffset rx m) (max 1 interval)
    (feedForward m.rateOffset41 s.ntu.ratioNum s.ntu.ratioDen)
  have hcap : (s.servoed rx interval m).ntu.asCapable = s.ntu.asCapable := hkeeps.asCapable
  have hsync : (s.servoed rx interval m).ntu.sync = s.ntu.sync := hkeeps.sync
  unfold State.followUp
  rw [hcomplete, ← hcap, ← hsync]
  rfl

include hm

theorem followUpReceive_acquires (hfree : s.ntu.sync = .free) (hcap : s.ntu.asCapable = true) :
    Gives (.followUpReceive t m) s fun u => OnlyChanges [.ntu, .kpp, .evr] s u ∧
      u.ntu.accepted = sat32 s.ntu.accepted ∧ u.ntu.sawSync = none ∧ u.ntu.offset = sat32i (s.syncOffset rx m) ∧
      u.ntu.sync = .acquiring ∧ u.ntu.integ = 0 := by
  have hk := State.servoStep_keeps ((s.atTime t).syncAccepted interval (s.syncOffset rx m)) (s.syncOffset rx m)
    (max 1 interval) (feedForward m.rateOffset41 s.ntu.ratioNum s.ntu.ratioDen)
  have ha : (s.atTime t).followUp m =
      State.syncTo { (s.atTime t).servoed rx interval m with
        ntu := { ((s.atTime t).servoed rx interval m).ntu with integ := 0 } } .acquiring := by
    rw [State.followUp_of_completes (s := s.atTime t) hserve hsaw hdomain hseq]
    refine (if_pos hcap).trans ?_
    unfold State.syncState
    rw [show ((s.atTime t).servoed rx interval m).ntu.sync = .free from hk.sync.trans hfree]
  refine (gives_ntu (exec_followUpReceive s) hm ha
      (by decide) (by simp [changesOf])).mono fun u ⟨hl, hu, _⟩ => ⟨hl, ?_⟩
  obtain ⟨hsync, -, hinteg, -, -, haccepted, hnone, hoffset, -⟩ := State.syncTo_fields
    { (s.atTime t).servoed rx interval m with
      ntu := { ((s.atTime t).servoed rx interval m).ntu with integ := 0 } } .acquiring
  rw [hu]
  exact ⟨haccepted.trans hk.accepted, hnone.trans hk.sawSync, hoffset.trans hk.offset, hsync, hinteg⟩

theorem followUpReceive_stays_free (hfree : s.ntu.sync = .free) (hcap : s.ntu.asCapable = false) :
    Gives (.followUpReceive t m) s fun u => OnlyChanges [.ntu, .kpp, .evr] s u ∧
      u.ntu.accepted = sat32 s.ntu.accepted ∧ u.ntu.sawSync = none ∧ u.ntu.offset = sat32i (s.syncOffset rx m) ∧
      u.ntu.sync = .free ∧ u.ntu.servo = 0 ∧
      (((s.syncOffset rx m).natAbs : Int) ≤ s.regN 0x60000D → u.ntu.clock = (s.atTime t).ntu.clock) := by
  have hk := State.servoStep_keeps ((s.atTime t).syncAccepted interval (s.syncOffset rx m)) (s.syncOffset rx m)
    (max 1 interval) (feedForward m.rateOffset41 s.ntu.ratioNum s.ntu.ratioDen)
  have ha : (s.atTime t).followUp m = { (s.atTime t).servoed rx interval m with
      ntu := { ((s.atTime t).servoed rx interval m).ntu with servo := 0 } } := by
    rw [State.followUp_of_completes (s := s.atTime t) hserve hsaw hdomain hseq, State.atTime_ntu_sync, hfree]
    exact if_neg (ne_true_of_eq_false hcap)
  refine (gives_ntu (exec_followUpReceive s) hm ha
      (by decide) (by simp [changesOf])).mono fun u ⟨hl, hu, _⟩ => ⟨hl, ?_⟩
  rw [hu]
  exact ⟨hk.accepted, hk.sawSync, hk.offset, hk.sync.trans hfree, rfl, hk.clock⟩

theorem followUpReceive_locks (hacquiring : s.ntu.sync = .acquiring) (hrun : s.ntu.goodRun = 7)
    (hgood : ((s.syncOffset rx m).natAbs : Int) ≤ s.regN 0x60000E)
    (hnear : (s.regN 0x60000D : Int) ≥ (s.syncOffset rx m).natAbs) :
    Gives (.followUpReceive t m) s fun u => OnlyChanges [.ntu, .kpp, .evr] s u ∧ u.ntu.sync = .locked ∧
      u.ntu.clock = (s.atTime t).ntu.clock := by
  have hk := State.servoStep_keeps ((s.atTime t).syncAccepted interval (s.syncOffset rx m)) (s.syncOffset rx m)
    (max 1 interval) (feedForward m.rateOffset41 s.ntu.ratioNum s.ntu.ratioDen)
  have hstate : ((s.atTime t).servoed rx interval m).syncState (s.syncOffset rx m) =
      State.syncTo { (s.atTime t).servoed rx interval m with
        ntu := { ((s.atTime t).servoed rx interval m).ntu with goodRun := 8 } } .locked := by
    unfold State.syncState
    rw [show ((s.atTime t).servoed rx interval m).ntu.sync = .acquiring from hk.sync.trans hacquiring]
    dsimp only
    rw [show ((s.atTime t).servoed rx interval m).ntu.goodRun = 7 from hk.goodRun.trans hrun,
      show ((s.atTime t).servoed rx interval m).regN 0x60000E = s.regN 0x60000E from hk.regN _, decide_eq_true hgood]
    rfl
  have ha : (s.atTime t).followUp m = ((s.atTime t).servoed rx interval m).syncState (s.syncOffset rx m) := by
    rw [State.followUp_of_completes (s := s.atTime t) hserve hsaw hdomain hseq, State.atTime_ntu_sync, hacquiring]
    exact ite_self _
  refine (gives_ntu (exec_followUpReceive s) hm (ha.trans hstate)
      (by decide) (by simp [changesOf])).mono fun u ⟨hl, hu, _⟩ => ⟨hl, ?_⟩
  obtain ⟨hsync, -, -, hclock, -⟩ := State.syncTo_fields { (s.atTime t).servoed rx interval m with
    ntu := { ((s.atTime t).servoed rx interval m).ntu with goodRun := 8 } } .locked
  rw [hu]
  exact ⟨hsync, hclock.trans (hk.clock hnear)⟩

end FollowUp

/-! ### Syncs that fail to come (17 R388) -/

section Timeout
variable {s : State} {t : Nat} (hm : s.mainOn = true)
include hm

theorem syncReceiptTimeout_frees (hover : s.ntu.lastSyncAt + 3 * s.ntu.intervalNs ≤ max s.now t)
    (hacquiring : s.ntu.sync = .acquiring) :
    Gives (.syncReceiptTimeout t) s fun u => OnlyChanges [.ntu, .kpp, .evr] s u ∧ u.ntu.sync = .free ∧ u.ntu.servo = 0 := by
  have ha : (s.atTime t).syncTimeout = (s.atTime t).syncFree := by
    unfold State.syncTimeout
    rw [State.atTime_ntu_sync, hacquiring]
    exact if_neg (Nat.not_lt.2 hover)
  refine (gives_ntu (exec_syncReceiptTimeout s) hm ha
      (by decide) (by simp [changesOf])).mono fun u ⟨hl, hu, _⟩ => ⟨hl, ?_⟩
  rw [hu]
  exact State.syncFree_fields _

theorem syncReceiptTimeout_holds (hover : s.ntu.lastSyncAt + 3 * s.ntu.intervalNs ≤ max s.now t)
    (hlocked : s.ntu.sync = .locked) :
    Gives (.syncReceiptTimeout t) s fun u => OnlyChanges [.ntu, .kpp, .evr] s u ∧
      u.ntu.sync = .holdover ∧ u.ntu.servo = s.ntu.servo ∧ u.ntu.holdoverAt = max s.now t := by
  have ha : (s.atTime t).syncTimeout = (s.atTime t).holdover := by
    unfold State.syncTimeout
    rw [State.atTime_ntu_sync, hlocked]
    exact if_neg (Nat.not_lt.2 hover)
  refine (gives_ntu (exec_syncReceiptTimeout s) hm ha
      (by decide) (by simp [changesOf])).mono fun u ⟨hl, hu, _⟩ => ⟨hl, ?_⟩
  rw [hu]
  exact State.holdover_fields (s.atTime t)

theorem holdoverLimit_frees (hhold : s.ntu.sync = .holdover)
    (hover : s.ntu.holdoverAt + 1000000 * s.regN 0x60000F ≤ max s.now t) :
    Gives (.holdoverLimit t) s fun u => OnlyChanges [.ntu, .kpp, .evr] s u ∧ u.ntu.sync = .free ∧ u.ntu.servo = 0 := by
  refine (gives_ntu (exec_holdoverLimit s) hm (if_pos ⟨hhold, hover⟩)
      (by decide) (by simp [changesOf])).mono fun u ⟨hl, hu, _⟩ => ⟨hl, ?_⟩
  rw [hu]
  exact State.syncFree_fields _

end Timeout

/-- Settles O50: the servo step keeps the state, which the accepted Sync or its absence then changes. -/
theorem synchronisationStates : Obligations.SynchronisationStates := by
  unfold Obligations.SynchronisationStates
  exact ⟨fun s t m hm hserve => ⟨syncReceive_waits hm hserve, syncReceive_ignores hm hserve⟩,
    fun s t seq rx interval m hm hserve hsaw hdomain hseq => ⟨followUpReceive_acquires hm hserve hsaw hdomain hseq,
      followUpReceive_stays_free hm hserve hsaw hdomain hseq, followUpReceive_locks hm hserve hsaw hdomain hseq⟩,
    fun s t gm hm hserve => announceReceive_sets hm hserve gm,
    fun s t hm hover => ⟨syncReceiptTimeout_frees hm hover, syncReceiptTimeout_holds hm hover⟩,
    fun s t => holdoverLimit_frees⟩

end Sys2Proof.Machine
end

section
/-!
SUPPORT. Peer delay, the clock set, edge stamps and frequency measurement (17 R385, R386, R390, R391, R397).
-/

namespace Sys2Proof.Machine

/-! ### Peer delay (17 R386) -/

/-- A port that is not capable is not Locked. -/
theorem State.notCapable_fields (s : State) : s.notCapable.ntu.asCapable = false ∧ s.notCapable.ntu.sync ≠ .locked ∧
    s.notCapable.ntu.reqAt = s.ntu.reqAt ∧ s.notCapable.ntu.lostResp = s.ntu.lostResp ∧
    s.notCapable.ntu.linkDelay = s.ntu.linkDelay := by
  unfold State.notCapable
  dsimp only
  split
  · obtain ⟨hsync, -, -, -, -, -, -, -, hreq, hlost, hdelay, hcap⟩ := State.syncTo_fields
      { s with ntu := { s.ntu with asCapable := false, holdoverAt := s.now } } .holdover
    exact ⟨hcap, ne_of_eq_of_ne hsync (by decide), hreq, hlost, hdelay⟩
  next h => exact ⟨rfl, h, rfl, rfl, rfl⟩

section PeerDelay
variable {s : State} {t : Nat} (hm : s.mainOn = true)
include hm

theorem pdelayReqSend_sends (hserve : s.serving = true) (hdue : s.ntu.pdelayDue (max s.now t) = true)
    (hanswered : s.ntu.reqAt = none) (hlost : s.ntu.lostResp ≤ 9) :
    Gives (.pdelayReqSend t) s fun u => OnlyChanges [.ntu] s u ∧
      u.ntu.sentAt = some (max s.now t) ∧
      u.ntu.reqSeq = (s.ntu.reqSeq + 1) % 65536 ∧ u.ntu.reqAt = some (s.atTime t).txStamp ∧
      u.out = [.gptp 0 ((s.ntu.reqSeq + 1) % 65536) (s.atTime t).txStamp] := by
  have ha : (s.atTime t).pdelaySend = State.send { s.atTime t with ntu := { (s.atTime t).ntu with
      reqSeq := (s.ntu.reqSeq + 1) % 65536, sentAt := some (max s.now t), reqAt := some (s.atTime t).txStamp
      lostResp := s.ntu.lostResp } } (.gptp 0 ((s.ntu.reqSeq + 1) % 65536) (s.atTime t).txStamp) := by
    have hready : ¬ (!(s.atTime t).serving || !(s.atTime t).ntu.pdelayDue (s.atTime t).now) = true := by
      rw [show (s.atTime t).serving = true from hserve,
        show (s.atTime t).ntu.pdelayDue (s.atTime t).now = true from hdue]
      decide
    have hcount : (if (s.atTime t).ntu.reqAt.isSome then (s.atTime t).ntu.lostResp + 1 else (s.atTime t).ntu.lostResp) =
        s.ntu.lostResp := if_neg (by rw [show (s.atTime t).ntu.reqAt = none from hanswered]; decide)
    unfold State.pdelaySend
    rw [if_neg hready]
    dsimp only
    rw [hcount]
    exact if_neg (Nat.not_lt.2 hlost)
  refine gives_of_effect (exec_pdelayReqSend s) hm ha ((State.ntu_touches _ _).trans ((State.send_touches _ _).mono
    (by simp))) fun u hl ⟨hout, _, hntu⟩ => ?_
  rw [hntu (by decide), hout]
  exact ⟨hl, rfl, rfl, rfl, rfl⟩

theorem pdelayReqSend_waits {a : Nat} (ha : s.ntu.sentAt = some a) (hsoon : max s.now t < a + 1000000000) :
    Gives (.pdelayReqSend t) s fun u => OnlyChanges [] s u ∧ u.out = [] := by
  have hdue : (s.atTime t).ntu.pdelayDue (s.atTime t).now = false := by
    unfold Ntu.pdelayDue
    rw [show (s.atTime t).ntu.sentAt = some a from ha]
    exact decide_eq_false (Nat.not_le.2 hsoon)
  have hwait : (!(s.atTime t).serving || !(s.atTime t).ntu.pdelayDue (s.atTime t).now) = true := by
    rw [hdue]
    exact Bool.or_true _
  exact gives_of_effect (exec_pdelayReqSend s) hm (if_pos hwait) (OnlyChanges.refl [] _) fun u hl ⟨hout, _, _⟩ =>
    ⟨hl, hout⟩

theorem pdelayReqReceive_answers (seqId : Nat) (hserve : s.serving = true) :
    Gives (.pdelayReqReceive t seqId) s fun u => OnlyChanges [.ntu] s u ∧ u.ntu = (s.atTime t).ntu ∧
      u.out = [.gptp 1 seqId (s.atTime t).rxStamp, .gptp 2 seqId (s.atTime t).txStamp] :=
  gives_ntu (exec_pdelayReqReceive s) hm (if_pos (show (s.atTime t).serving = true from hserve))
      (by decide) (by simp [changesOf])

theorem pdelayRespReceive_measures {t1 peerRx peerTx : Int} (hserve : s.serving = true) (hreq : s.ntu.reqAt = some t1)
    (hfirst : s.ntu.prevPeer = none) :
    let delay := max 0 (((s.atTime t).rxStamp - t1 - (peerTx - peerRx)) / 2)
    Gives (.pdelayRespReceive t s.ntu.reqSeq peerRx peerTx) s fun u => OnlyChanges [.ntu, .kpp, .evr] s u ∧
      u.ntu.reqAt = none ∧ u.ntu.lostResp = 0 ∧ u.ntu.linkDelay = min 0xFFFFFFFF delay.toNat ∧
      (delay ≤ 800 → u.ntu.asCapable = true ∧ u.ntu.sync = s.ntu.sync) ∧
      (800 < delay → u.ntu.asCapable = false ∧ u.ntu.sync ≠ .locked) := by
  intro delay
  have ha : (s.atTime t).pdelayResponse s.ntu.reqSeq peerRx peerTx =
      (let v : State := { s.atTime t with ntu := { (s.atTime t).ntu with
          reqAt := none, lostResp := 0, prevPeer := some (peerTx, (s.atTime t).rxStamp), ratioNum := 1, ratioDen := 1
          linkDelay := min 0xFFFFFFFF delay.toNat } }
       if delay ≤ 800 then { v with ntu := { v.ntu with asCapable := true } } else v.notCapable) := by
    have hours : ¬ ((!(s.atTime t).serving) = true ∨ s.ntu.reqSeq ≠ (s.atTime t).ntu.reqSeq) := by
      rw [show (s.atTime t).serving = true from hserve]
      rintro (h | h)
      · exact absurd h (by decide)
      · exact h rfl
    unfold State.pdelayResponse
    rw [show (s.atTime t).ntu.reqAt = some t1 from hreq]
    dsimp only
    rw [if_neg hours, show (s.atTime t).ntu.prevPeer = none from hfirst]
    simp only [Int.mul_one, delay]
  refine (gives_ntu (exec_pdelayRespReceive s) hm ha
      (by decide) (by simp [changesOf])).mono fun u ⟨hl, hu, _⟩ => ⟨hl, ?_⟩
  rw [hu]
  dsimp only
  split
  next h => exact ⟨rfl, rfl, rfl, fun _ => ⟨rfl, rfl⟩, fun hfar => absurd h (not_le.2 hfar)⟩
  next h =>
    obtain ⟨hcap, hsync, hreq', hlost, hdelay⟩ := State.notCapable_fields { s.atTime t with ntu := { (s.atTime t).ntu with
      reqAt := none, lostResp := 0, prevPeer := some (peerTx, (s.atTime t).rxStamp), ratioNum := 1, ratioDen := 1
      linkDelay := min 0xFFFFFFFF delay.toNat } }
    exact ⟨hreq', hlost, hdelay, fun hnear => absurd hnear h, fun _ => ⟨hcap, hsync⟩⟩

end PeerDelay

/-! ### The clock set (17 R385, R397) -/

theorem ofLe_lt (bs : List Byte) : ofLe bs < 256 ^ bs.length := by
  induction bs with
  | nil => exact Nat.one_pos
  | cons b bs ih =>
    have hb := b.isLt
    rw [ofLe, List.length_cons, pow_succ]
    omega

theorem uAt_lt (bs : List Byte) (o n : Nat) : uAt bs o n < 256 ^ n := by
  have hlen : (bytesAt bs o n).length = n := by
    simp only [bytesAt, List.length_append, List.length_take, List.length_drop, List.length_replicate]
    omega
  exact (ofLe_lt (bytesAt bs o n)).trans_eq (congrArg _ hlen)

/-- The clock set to a time of the range of Time80. -/
theorem State.timeStep_sets {s : State} {set : Nat} (hset : set < 2 ^ 48 * 1000000000) :
    (s.timeStep ((s.clockNs : Int) - (set : Int)) 0).clockNs = set := by
  have hclock : (s.timeStep ((s.clockNs : Int) - (set : Int)) 0).ntu.clock =
      ((set : Int) % ((2 ^ 48 * 1000000000 : Nat) : Int)).toNat * 2 ^ 32 := by
    unfold State.timeStep
    dsimp only
    rw [State.raise_ntu]
    simp only [State.setClock, State.setClock.unsignedMod, sub_sub_cancel, Nat.add_zero]
  rw [State.clockNs, hclock, Nat.mul_div_cancel _ (Nat.two_pow_pos 32), ← Int.natCast_mod, Int.toNat_natCast,
    Nat.mod_eq_of_lt hset]

theorem State.timeStep_discards (s : State) (offset : Int) (frac : Nat) :
    ∀ m ∈ (s.timeStep offset frac).ntu.fmeas, m.valid = false := by
  unfold State.timeStep
  dsimp only
  rw [State.raise_ntu]
  intro m hm
  obtain ⟨_, _, rfl⟩ := List.mem_map.1 hm
  rfl

theorem State.localTimeSet_of_free {s : State} {v : List Byte} (hfree : s.ntu.sync = .free) (hwaits : s.syncWaits = false) :
    s.localTimeSet v =
      s.timeStep ((s.clockNs : Int) - ((uAt v 0 6 * 1000000000 + uAt v 6 4 % 2 ^ 30 : Nat) : Int)) 0 := by
  have hready : ¬ (s.ntu.sync ≠ .free ∨ s.syncWaits = true) := by
    rw [hwaits]
    rintro (h | h)
    · exact h hfree
    · exact Bool.false_ne_true h
  rw [State.localTimeSet, if_neg hready]

theorem State.localTimeSet_of_refused {s : State} (v : List Byte) (hsync : s.ntu.sync ≠ .free) : s.localTimeSet v = s := by
  rw [State.localTimeSet, if_pos (Or.inl hsync)]

theorem exec_localTimeSet_main {s : State} {t : Nat} (v : List Byte) : exec (.localTimeSet t v) s =
    runMain t (.mon :: ntuFrame) (fun s => if s.unitActs then s.localTimeSet v else s) s := exec_localTimeSet s

theorem localTimeSet_sets {s : State} {t : Nat} {v : List Byte} (hm : s.mainOn = true) (hacts : s.unitActs = true)
    (hfree : s.ntu.sync = .free) (hwaits : (s.atTime t).syncWaits = false) (hns : uAt v 6 4 < 1000000000) :
    Gives (.localTimeSet t v) s fun u => OnlyChanges [.ntu, .kpp, .evr] s u ∧
      u.localTime = { sec := uAt v 0 6, ns := uAt v 6 4 } ∧ u.ntu.steps = sat32 s.ntu.steps ∧
      ∀ m ∈ u.ntu.fmeas, m.valid = false := by
  have hsec : uAt v 0 6 < 2 ^ 48 := (uAt_lt v 0 6).trans_eq (by norm_num)
  have hmod : uAt v 6 4 % 2 ^ 30 = uAt v 6 4 := Nat.mod_eq_of_lt (hns.trans (by norm_num))
  have ha := State.localTimeSet_of_free (s := s.atTime t) (v := v) hfree hwaits
  rw [hmod] at ha
  refine (gives_ntu (exec_localTimeSet_main v) hm ((if_pos hacts).trans ha)
      (by decide) (by simp [changesOf])).mono fun u ⟨hl, hu, _⟩ => ⟨hl, ?_⟩
  have hclock : u.clockNs = uAt v 0 6 * 1000000000 + uAt v 6 4 := by
    rw [State.clockNs, hu]
    refine State.timeStep_sets ?_
    generalize 2 ^ 48 = days at hsec ⊢
    omega
  refine ⟨?_, ?_, ?_⟩
  · have hdiv : (uAt v 0 6 * 1000000000 + uAt v 6 4) / 1000000000 = uAt v 0 6 := by omega
    have hrest : (uAt v 0 6 * 1000000000 + uAt v 6 4) % 1000000000 = uAt v 6 4 := by omega
    rw [State.localTime, hclock, time80, hdiv, hrest, Nat.mod_eq_of_lt hsec]
  · rw [hu, State.timeStep_fields]
    rfl
  · rw [hu]
    exact State.timeStep_discards _ _ _

theorem localTimeSet_refused {s : State} {t : Nat} (v : List Byte) (hm : s.mainOn = true) (hsync : s.ntu.sync ≠ .free) :
    Gives (.localTimeSet t v) s fun u => OnlyChanges [.ntu] s u ∧ u.ntu = (s.atTime t).ntu := by
  have ha : (if (s.atTime t).unitActs then (s.atTime t).localTimeSet v else s.atTime t) = s.atTime t := by
    split
    · exact State.localTimeSet_of_refused v hsync
    · rfl
  exact gives_of_effect (exec_localTimeSet_main v) hm ha (OnlyChanges.refl _ _) fun u hl ⟨_, _, hntu⟩ => ⟨hl, hntu (by decide)⟩

/-! ### Edge stamps and frequencies (17 R390, R391) -/

theorem State.sequence_ntu (s : State) : s.sequence.ntu = s.ntu := by
  unfold State.sequence State.startSequence
  split_ifs
  · rfl
  · rfl
  · rfl
  · exact State.raiseIf_ntu _ _ _ _ _

theorem State.wcuRearm_ntu (s : State) (at64 : Nat) : (s.wcuRearm at64).ntu = s.ntu := by
  unfold State.wcuRearm State.captureDone
  split_ifs
  · rfl
  · exact State.raise_ntu _ _ _ _
  · rfl

theorem State.sourceTrigger_ntu (s : State) (x : WcuSource) : (s.sourceTrigger x).ntu = s.ntu := by
  unfold State.sourceTrigger
  split
  next source at64 _ =>
    rw [← State.wcuRearm_ntu s at64]
    unfold State.wcuTrigger
    dsimp only
    split
    · rfl
    · split <;> rfl
  · rfl

/-- The input after an enabled edge that does not come too soon. -/
def Tsin.stamped (x : Tsin) (time : Time80) (falling : Bool) (now : Nat) : Tsin :=
  if 32 ≤ x.fifo.length then { x with lost := sat32 x.lost, lastAt := some now }
  else { x with fifo := x.fifo ++ [(time, falling)], lastAt := some now }

theorem State.tsinEdge_tsins {s : State} {input : Nat} {falling : Bool} {x : Tsin} (hi : input < 8)
    (hx : s.ntu.tsins[input]? = some x) (hon : s.tsinEnabled input falling = true) (hlast : x.lastAt = none) :
    (s.tsinEdge input falling).ntu.tsins = s.ntu.tsins.set input (x.stamped s.localTime falling s.now) := by
  have hget : s.ntu.tsins.getD input {} = x := by
    rw [List.getD_eq_getElem?_getD, hx]
    rfl
  have hclose : s.tsinTooClose input = false := by
    unfold State.tsinTooClose
    rw [hget, hlast]
  unfold State.tsinEdge
  rw [if_neg (Nat.not_le.2 hi)]
  dsimp only
  rw [hget, hon, hclose]
  simp only [Bool.not_true, Bool.false_eq_true, if_false, Bool.not_false, Bool.and_true, Bool.true_and, Tsin.stamped]
  split_ifs <;> simp [State.sequence_ntu, setAt]

theorem tsinEdge_stamps {s : State} {t input : Nat} {falling : Bool} {x : Tsin} (hm : s.mainOn = true) (hi : input < 8)
    (hx : s.ntu.tsins[input]? = some x) (hon : s.tsinEnabled input falling = true) (hlast : x.lastAt = none) :
    Gives (.tsinEdge t input falling) s fun u => OnlyChanges [.ntu, .mon, .wcu, .kpp, .evr] s u ∧
      u.ntu.tsins = s.ntu.tsins.set input (x.stamped (s.atTime t).localTime falling (max s.now t)) := by
  refine (gives_ntu (exec_tsinEdge s) hm rfl
      (by decide) (by simp [changesOf])).mono fun u ⟨hl, hu, _⟩ => ⟨hl, ?_⟩
  rw [hu]
  refine Eq.trans ?_ (State.tsinEdge_tsins (s := s.atTime t) hi hx hon hlast)
  dsimp only
  split
  · rw [State.sourceTrigger_ntu]
  · rfl

section Gates
variable {s : State} {t input n p g : Nat} (hm : s.mainOn = true) (hcfg : s.fmeasCfg input = (true, p, g))
include hm hcfg

theorem fmeasGateEnd_early (hgates : (s.atTime t).gatesRun (s.ntu.fmeas.getD input {}) g = 0) :
    Gives (.fmeasGateEnd t input n) s fun u => OnlyChanges [] s u := by
  refine gives_unchanged (exec_fmeasGateEnd s) hm ?_
  unfold State.fmeasEnd
  rw [show (s.atTime t).fmeasCfg input = (true, p, g) from hcfg]
  exact if_pos (Or.inr (Or.inr hgates))

theorem fmeasGateEnd_measures (hi : input < 4) (hgates : (s.atTime t).gatesRun (s.ntu.fmeas.getD input {}) g ≠ 0) :
    Gives (.fmeasGateEnd t input n) s fun u => OnlyChanges [.ntu] s u ∧ u.ntu.fmeas = s.ntu.fmeas.set input
      { since := ((s.ntu.fmeas.getD input {}).since +
          1000000 * g * (s.atTime t).gatesRun (s.ntu.fmeas.getD input {}) g) % (2 ^ 48 * 1000000000), valid := true
        overRange := decide (400000000 * g < n * 1000), count := n, mHz := n * 2 ^ p * 1000000 / g } := by
  refine (gives_ntu (exec_fmeasGateEnd s) hm rfl
      (by decide) (by simp [changesOf])).mono fun u ⟨hl, hu, _⟩ => ⟨hl, ?_⟩
  have hrun : ¬ (4 ≤ input ∨ true = false ∨ (s.atTime t).gatesRun ((s.atTime t).ntu.fmeas.getD input {}) g = 0) := by
    rintro (h | h | h)
    · exact absurd hi (Nat.not_lt.2 h)
    · exact Bool.false_ne_true h.symm
    · exact hgates h
  rw [hu]
  unfold State.fmeasEnd
  rw [show (s.atTime t).fmeasCfg input = (true, p, g) from hcfg]
  exact congrArg (fun v : State => v.ntu.fmeas) (if_neg hrun)

end Gates

/-- Settles O51: the messages of the exchange, the clock set, a stamp and a gate, each read off its command. -/
theorem peerDelayAndClocks : Obligations.PeerDelayAndClocks := by
  unfold Obligations.PeerDelayAndClocks
  refine ⟨⟨fun s t => pdelayReqSend_sends, fun s t a hm => pdelayReqSend_waits hm, fun s t seqId hm => pdelayReqReceive_answers hm seqId,
    fun s t t1 peerRx peerTx hm => pdelayRespReceive_measures hm⟩, fun s t v => localTimeSet_sets, fun s t v => localTimeSet_refused v,
    fun s t input falling x hm hi hx hon hlast => ⟨fun hroom => ?_, fun hfull => ?_⟩,
    fun s t input n p g hm hi hcfg => ⟨fmeasGateEnd_early hm hcfg, fmeasGateEnd_measures hm hcfg hi⟩⟩
  · refine (tsinEdge_stamps hm hi hx hon hlast).mono fun u ⟨hl, hu⟩ => ⟨hl, hu.trans ?_⟩
    rw [Tsin.stamped, if_neg (Nat.not_le.2 hroom)]
  · refine (tsinEdge_stamps hm hi hx hon hlast).mono fun u ⟨hl, hu⟩ => ⟨hl, hu.trans ?_⟩
    rw [Tsin.stamped, if_pos hfull]

end Sys2Proof.Machine
end

section
/-!
SUPPORT. The recorder: commands of it, its triggers, and a ring unit written into the memory (18 R400, R404, R405; 10 R247).
-/

namespace Sys2Proof.Machine

section Recorder
variable {i : Instr} {t : Nat} {fr : List UnitId} {f : State → State} {s a : State} (hm : s.mainOn = true)
  (hv : s.part.variant.hasRecorder = true)
include hm hv

/-- A command of the recorder, on a variant that has it, gives what its effect makes of it. -/
theorem gives_evr {l : List UnitId} (he : exec i s = runEvr t fr f s) (ha : f (s.atTime t) = a)
    (hfr : .evr ∉ fr ++ evrFrame) (hl : ∀ x, x ∈ changesOf i → x ∈ l) :
    Gives i s fun u => OnlyChanges l s u ∧ u.evr = a.evr :=
  gives_of_command he hm ((if_pos hv).trans ha) fun _ hc hleft => ⟨hc.mono hl, (hleft.2.1 .evr hfr).symm⟩

/-- So does one of the acting unit. -/
theorem gives_evr_unit {l : List UnitId} (he : exec i s = runEvrUnit t fr f s) (hacts : s.unitActs = true)
    (ha : f (s.atTime t) = a) (hfr : .evr ∉ fr ++ evrFrame) (hl : ∀ x, x ∈ changesOf i → x ∈ l) :
    Gives i s fun u => OnlyChanges l s u ∧ u.evr = a.evr :=
  gives_evr hm hv he ((if_pos hacts).trans ha) hfr hl

/-- One whose effect writes the recorder alone changes nothing else. -/
theorem gives_evr_alone {x : Evr} (he : exec i s = runEvr t fr f s) (ha : f (s.atTime t) = { s.atTime t with evr := x })
    (hfr : .evr ∉ fr ++ evrFrame) : Gives i s fun u => OnlyChanges [.evr] s u ∧ u.evr = x :=
  gives_of_effect he hm ((if_pos hv).trans ha) (State.evr_touches _ x) fun _ hl hleft =>
    ⟨hl, (hleft.2.1 .evr hfr).symm⟩

end Recorder

/-! ### Triggers (18 R404, R405) -/

section Trigger
variable {s : State} {t : Nat} (hm : s.mainOn = true) (hacts : s.unitActs = true)
  (hv : s.part.variant.hasRecorder = true) (harmed : s.evr.armed = true) (hon : bitOf (s.regN 0x640007) 0 = true)
  (hfirst : s.evr.trigAt ≠ some (max s.now t)) (hnone : s.evr.openIncident (max s.now t) = none)

/-- The instant of a trigger is kept. -/
def State.triggeredNow (s : State) : State := { s with evr := { s.evr with trigAt := some s.now } }

/-- A first trigger of its cycle with no incident open. -/
theorem State.trigger_of_none {s : State} {source : Nat} (hv : s.part.variant.hasRecorder = true)
    (harmed : s.evr.armed = true) (hon : bitOf (s.regN 0x640007) source = true) (hfirst : s.evr.trigAt ≠ some s.now)
    (hnone : s.evr.openIncident s.now = none) :
    (s.trigger source).evr = if s.evr.queued < 4 then (s.triggeredNow.newIncident source).evr
      else { s.triggeredNow.evr with lostTriggers := sat32 s.evr.lostTriggers } := by
  unfold State.trigger
  rw [if_neg (by simp [hv, harmed, hon]), if_neg hfirst]
  dsimp only
  have hopen : ({ s.evr with trigAt := some s.now } : Evr).openIncident s.now = none := hnone
  rw [hopen]
  have hqueued : ({ s.evr with trigAt := some s.now } : Evr).queued = s.evr.queued := rfl
  dsimp only
  rw [hqueued]
  split
  · rw [State.record_evr]
    rfl
  · rw [State.record_evr]
    rfl

include hm hacts hv harmed hon hfirst hnone

theorem recorderTrigger_evr : Gives (.recorderTrigger t 0x5452) s fun u => OnlyChanges [.evr, .kpp] s u ∧
    u.evr = if s.evr.queued < 4 then ((s.atTime t).triggeredNow.newIncident 0).evr
      else { (s.atTime t).triggeredNow.evr with lostTriggers := sat32 s.evr.lostTriggers } :=
  (gives_evr_unit hm hv (exec_recorderTrigger s) hacts (if_pos (by decide))
      (by decide) (by simp [changesOf])).mono fun _ ⟨hl, hu⟩ =>
    ⟨hl, hu.trans (State.trigger_of_none (s := s.atTime t) hv harmed hon hfirst hnone)⟩

theorem recorderTrigger_opens (hroom : s.evr.queued < 4) :
    Gives (.recorderTrigger t 0x5452) s fun u => OnlyChanges [.evr, .kpp] s u ∧
      u.evr.last = s.evr.last + 1 ∧ ∃ i, u.evr.incidents = s.evr.incidents ++ [i] ∧ i.number = s.evr.last + 1 ∧
        i.source = 0 ∧ i.opened = true ∧ i.trigFrame = s.pipe.frame ∧
        i.endFrame = s.pipe.frame + BitVec.ofNat 32 (planN s.plan 0x640006) := by
  refine (recorderTrigger_evr hm hacts hv harmed hon hfirst hnone).mono fun u ⟨hl, hu⟩ => ⟨hl, ?_⟩
  rw [hu, if_pos hroom]
  exact ⟨rfl, _, rfl, rfl, rfl, rfl, rfl, rfl⟩

theorem recorderTrigger_loses (hfull : 4 ≤ s.evr.queued) :
    Gives (.recorderTrigger t 0x5452) s fun u => OnlyChanges [.evr, .kpp] s u ∧
      u.evr.incidents = s.evr.incidents ∧ u.evr.lostTriggers = sat32 s.evr.lostTriggers := by
  refine (recorderTrigger_evr hm hacts hv harmed hon hfirst hnone).mono fun u ⟨hl, hu⟩ => ⟨hl, ?_⟩
  rw [hu, if_neg (Nat.not_lt.2 hfull)]
  exact ⟨rfl, rfl⟩

end Trigger

/-! ### A ring unit (18 R400; 10 R247) -/

/-- A write of bytes leaves the recorder and the layout of the memory. -/
structure KeepsLayout (s v : State) : Prop where
  evr : v.evr = s.evr
  ready : v.mcx.ready = s.mcx.ready
  remap : v.mcx.remap = s.mcx.remap
  written : v.mcx.written = s.mcx.written

theorem KeepsLayout.trans {s v w : State} (h : KeepsLayout s v) (k : KeepsLayout v w) : KeepsLayout s w :=
  ⟨k.evr.trans h.evr, k.ready.trans h.ready, k.remap.trans h.remap, k.written.trans h.written⟩

theorem State.moved_keepsLayout (s : State) (user : MemUser) (n : Nat) : KeepsLayout s (s.moved user n) :=
  ⟨rfl, State.moved_keeps Mcx.ready (fun _ => rfl) s user n, State.moved_keeps Mcx.remap (fun _ => rfl) s user n,
    State.moved_keeps Mcx.written (fun _ => rfl) s user n⟩

/-- A line rewritten can only take pages off the list of degraded ones, so the Tarn stays ready. -/
theorem State.lineRewritten_keepsLayout (s : State) (line : Nat) : KeepsLayout s (s.lineRewritten line) := by
  have hready : ∀ l : List Degraded, (∀ b, count (fun d : Degraded => d.page / 4096 == b) l ≤ s.mcx.degradedIn b) →
      KeepsLayout s (s.degradedNow l) := by
    intro l hl
    have hquiet : (s.mcx.tarnReady && !({ s.mcx with degraded := l } : Mcx).tarnReady) = false := by
      cases hb : s.mcx.tarnReady with
      | false => rfl
      | true =>
        simp only [Mcx.tarnReady, Bool.and_eq_true, decide_eq_true_eq] at hb
        obtain ⟨⟨hboot, h0⟩, h1⟩ := hb
        have hstill : ({ s.mcx with degraded := l } : Mcx).tarnReady = true := by
          simp only [Mcx.tarnReady, Bool.and_eq_true, decide_eq_true_eq]
          exact ⟨⟨hboot, (hl 0).trans h0⟩, (hl 1).trans h1⟩
        rw [hstill]
        rfl
    unfold State.degradedNow
    dsimp only
    rw [hquiet]
    exact ⟨rfl, rfl, rfl, rfl⟩
  refine hready _ fun b => ?_
  let g := fun d : Degraded => if d.page = pageOfLine line then { d with rewritten := insertSet line d.rewritten } else d
  have hpage : (fun d : Degraded => d.page / 4096 == b) ∘ g = fun d => d.page / 4096 == b := by
    funext d
    simp only [g, Function.comp_apply]
    split <;> rfl
  calc count (fun d : Degraded => d.page / 4096 == b) ((s.mcx.degraded.map g).filter fun d =>
        !(d.page == pageOfLine line && d.cause == 1 && d.rewritten.length == 64))
      ≤ count (fun d => d.page / 4096 == b) (s.mcx.degraded.map g) := (List.filter_sublist.filter _).length_le
    _ = s.mcx.degradedIn b := by rw [count, List.filter_map, List.length_map, hpage]; rfl

theorem State.writeLine_keepsLayout {s : State} (user : MemUser) {line : Nat} (bytes : List (Nat × Byte))
    (hready : s.mcx.ready = true) (hwritten : s.mcx.isWritten (pageOfLine line) = true) :
    KeepsLayout s (s.writeLine user line bytes) := by
  obtain ⟨d, c, hstored⟩ := Mcx.storeAll_keeps s.mcx (64 * s.mcx.physical line) bytes
  have hfirst : s.mcx.firstWrite (pageOfLine line) = s.mcx := if_pos hwritten
  have hmoved : ∀ w n, KeepsLayout s
      (State.moved { s with mcx := { s.mcx.storeAll (64 * s.mcx.physical line) bytes with writebacks := w, dropped := n } }
        user bytes.length) := by
    intro w n
    refine KeepsLayout.trans ?_ (State.moved_keepsLayout _ user _)
    rw [hstored]
    exact ⟨rfl, rfl, rfl, rfl⟩
  unfold State.writeLine
  rw [if_neg (by simp [hready]), hfirst]
  dsimp only
  split
  · exact (hmoved _ _).trans (State.lineRewritten_keepsLayout _ line)
  · exact hmoved _ _

/-- The part of a write that lies in a line. -/
theorem mem_linePart {a line : Nat} {bs : List Byte} {x : Nat × Byte} :
    x ∈ linePart a bs line ↔ x.1 < 64 ∧ a ≤ 64 * line + x.1 ∧ bs[64 * line + x.1 - a]? = some x.2 := by
  rw [linePart, List.mem_filterMap]
  constructor
  · rintro ⟨i, hi, hx⟩
    split at hx
    next hfrom =>
      obtain ⟨b, hb, rfl⟩ := Option.map_eq_some_iff.1 hx
      exact ⟨List.mem_range.1 hi, hfrom, hb⟩
    · exact absurd hx (by simp)
  · rintro ⟨hlt, hfrom, hb⟩
    exact ⟨x.1, List.mem_range.2 hlt, by rw [if_pos hfrom, hb]; rfl⟩

theorem nodup_linePart (a line : Nat) (bs : List Byte) : ((linePart a bs line).map Prod.fst).Nodup := by
  have hnumber : ∀ i b, b ∈ Option.map Prod.fst
      (if a ≤ 64 * line + i then (bs[64 * line + i - a]?).map fun b => (i, b) else none) → b = i := by
    intro i b hb
    split at hb
    · obtain ⟨x, hx, rfl⟩ := Option.map_eq_some_iff.1 hb
      obtain ⟨c, -, rfl⟩ := Option.map_eq_some_iff.1 hx
      rfl
    · exact absurd hb (by simp)
  rw [linePart, List.map_filterMap]
  exact List.nodup_range.filterMap fun i j b hi hj => (hnumber i b hi).symm.trans (hnumber j b hj)

/-- The memory after the part of a write that lies in `line`: its bytes stand there, and no other changes. -/
theorem State.writeLine_part {s : State} (user : MemUser) {a line : Nat} {bs : List Byte} (hready : s.mcx.ready = true)
    (hremap : s.mcx.remap = []) (hs : MemoryCanonical s) (hwritten : s.mcx.isWritten (pageOfLine line) = true) (x : Nat) :
    memGet (s.writeLine user line (linePart a bs line)).mcx.data x =
      if x / 64 = line ∧ a ≤ x ∧ x < a + bs.length then bs.getD (x - a) 0 else memGet s.mcx.data x := by
  have hphysical : s.mcx.physical line = line := by
    unfold Mcx.physical
    rw [hremap]
    rfl
  have hcanonical := (memoryCanonical_iff s).1 hs
  rw [(State.writeLine_ready user line _ hready).1, Mcx.firstWrite, if_pos hwritten, hphysical]
  split
  next h =>
    obtain ⟨hline, hfrom, hto⟩ := h
    have hx : 64 * line + x % 64 = x := by omega
    have hbyte : bs[x - a]? = some (bs.getD (x - a) 0) := by
      rw [List.getD_eq_getElem?_getD, List.getElem?_eq_getElem (by omega)]
      rfl
    rw [← hx]
    refine Mcx.storeAll_get (64 * line) (x := (x % 64, _)) hcanonical (fun y hy => (mem_linePart.1 hy).1)
      (nodup_linePart a line bs) (mem_linePart.2 ⟨Nat.mod_lt _ (by decide), ?_, ?_⟩)
    · dsimp only
      omega
    · dsimp only
      rw [hx]
      exact hbyte
  next h =>
    refine Mcx.storeAll_get_other hcanonical fun y hy hxy => h ?_
    obtain ⟨hlt, hfrom, hbyte⟩ := mem_linePart.1 hy
    have hlen := (List.getElem?_eq_some_iff.1 hbyte).1
    rw [Nat.mod_eq_of_lt hlt] at hxy
    omega

/-- The first `n` lines of a write. -/
def State.writeLines (s : State) (user : MemUser) (a : Nat) (bs : List Byte) (n : Nat) : State :=
  (List.range n).foldl (fun s k => s.writeLine user (a / 64 + k) (linePart a bs (a / 64 + k))) s

theorem State.writeLines_stores {s : State} (user : MemUser) {a : Nat} {bs : List Byte} (hready : s.mcx.ready = true)
    (hremap : s.mcx.remap = []) (hs : MemoryCanonical s) (n : Nat)
    (hwritten : ∀ k, k < n → s.mcx.isWritten (pageOfLine (a / 64 + k)) = true) :
    KeepsLayout s (s.writeLines user a bs n) ∧ MemoryCanonical (s.writeLines user a bs n) ∧
      ∀ x, memGet (s.writeLines user a bs n).mcx.data x =
        if x / 64 < a / 64 + n ∧ a ≤ x ∧ x < a + bs.length then bs.getD (x - a) 0 else memGet s.mcx.data x := by
  induction n with
  | zero =>
    refine ⟨⟨rfl, rfl, rfl, rfl⟩, hs, fun x => (if_neg ?_).symm⟩
    omega
  | succ n ih =>
    obtain ⟨hkeeps, hcanonical, hdata⟩ := ih fun k hk => hwritten k (by omega)
    have hsucc : s.writeLines user a bs (n + 1) =
        (s.writeLines user a bs n).writeLine user (a / 64 + n) (linePart a bs (a / 64 + n)) := by
      rw [State.writeLines, List.range_succ, List.foldl_concat]
      rfl
    have hpage : (s.writeLines user a bs n).mcx.isWritten (pageOfLine (a / 64 + n)) = true := by
      rw [Mcx.isWritten, hkeeps.written]
      exact hwritten n (by omega)
    rw [hsucc]
    refine ⟨hkeeps.trans (State.writeLine_keepsLayout user _ (hkeeps.ready.trans hready) hpage),
      State.writeLine_canonical user _ _ hcanonical, fun x => ?_⟩
    rw [State.writeLine_part user (hkeeps.ready.trans hready) (hkeeps.remap.trans hremap) hcanonical hpage, hdata]
    split_ifs <;> first | rfl | omega

/-- A write of bytes to pages already written: they stand there, and no other byte changes. -/
theorem State.writeBytes_stores {s : State} (user : MemUser) {a : Nat} {bs : List Byte} (hready : s.mcx.ready = true)
    (hremap : s.mcx.remap = []) (hs : MemoryCanonical s) (hbs : 0 < bs.length)
    (hwritten : ∀ i, i < bs.length → s.mcx.isWritten ((a + i) / 4096) = true) :
    KeepsLayout s (s.writeBytes user a bs) ∧
      ∀ x, memGet (s.writeBytes user a bs).mcx.data x =
        if a ≤ x ∧ x < a + bs.length then bs.getD (x - a) 0 else memGet s.mcx.data x := by
  obtain ⟨hkeeps, -, hdata⟩ := State.writeLines_stores user (a := a) (bs := bs) hready hremap hs
    ((a % 64 + bs.length + 63) / 64) fun k hk => by
      have hpage : pageOfLine (a / 64 + k) = (a + (64 * (a / 64 + k) - a)) / 4096 := by
        unfold pageOfLine
        omega
      rw [hpage]
      exact hwritten _ (by omega)
  refine ⟨hkeeps, fun x => (hdata x).trans ?_⟩
  split_ifs <;> first | rfl | omega

/-- The recorder once the unit `x` of its feed is in the segment being filled. -/
def Evr.filled (e : Evr) (x : RingUnit) (rest : List RingUnit) (seg : Nat) : Evr :=
  { e with
    feed := rest, ring := e.ring ++ [{ x with seg }], segFill := e.segFill + x.size
    incidents := e.incidents.map fun i => i.take { x with seg } }

theorem State.ringWrite_fills {s : State} {x : RingUnit} {rest : List RingUnit} {seg : Nat} (hfeed : s.evr.feed = x :: rest)
    (hlast : x.last = false) (hplace : s.evr.place x.size = some seg) (hseg : seg = s.evr.segment) :
    s.ringWrite = ({ s with evr := s.evr.filled x rest seg } : State).writeBytes .ring (segmentBase seg + s.evr.segFill)
      x.bytes := by
  have hput : ({ s.evr with feed := rest } : Evr).place x.size = some seg := hplace
  unfold State.ringWrite
  rw [hfeed]
  dsimp only
  rw [hput, if_neg (ne_true_of_eq_false hlast)]
  dsimp only
  have hsame : ({ s.evr with feed := rest } : Evr).put x seg =
      { s.evr with feed := rest, ring := s.evr.ring ++ [{ x with seg }], segFill := s.evr.segFill + x.size } := by
    unfold Evr.put
    dsimp only
    rw [if_pos hseg]
    rfl
  rw [hsame]
  dsimp only
  rw [Nat.add_sub_assoc (Nat.le_add_left _ _), Nat.add_sub_cancel]
  rfl

theorem ringUnitWrite_stores {s : State} {t seg : Nat} {x : RingUnit} {rest : List RingUnit} (hm : s.mainOn = true)
    (hv : s.part.variant.hasRecorder = true) (hfeed : s.evr.feed = x :: rest) (hlast : x.last = false)
    (hplace : s.evr.place x.size = some seg) (hseg : seg = s.evr.segment) (hbytes : x.bytes ≠ []) (hs : MemoryCanonical s)
    (hready : s.mcx.ready = true) (hremap : s.mcx.remap = []) :
    let base := segmentBase seg + s.evr.segFill
    (∀ i, i < x.size → s.mcx.isWritten ((base + i) / 4096) = true) →
    Gives (.ringUnitWrite t) s fun u => OnlyChanges [.evr, .mcx, .kpp] s u ∧ u.evr.feed = rest ∧
      u.evr.ring = s.evr.ring ++ [{ x with seg }] ∧ u.evr.segFill = s.evr.segFill + x.size ∧
      u.evr.incidents = s.evr.incidents.map (fun i => i.take { x with seg }) ∧
      (∀ i, i < x.size → memGet u.mcx.data (base + i) = x.bytes.getD i 0) ∧
      ∀ a, (∀ i, i < x.size → a ≠ base + i) → memGet u.mcx.data a = memGet s.mcx.data a := by
  intro base hwritten
  have ha := State.ringWrite_fills (s := s.atTime t) hfeed hlast hplace hseg
  obtain ⟨hkeeps, hdata⟩ := State.writeBytes_stores (s := { s.atTime t with evr := s.evr.filled x rest seg }) .ring
    (a := base) (bs := x.bytes) hready hremap hs (List.length_pos_iff.2 hbytes) hwritten
  refine gives_of_command (exec_ringUnitWrite s) hm ((if_pos hv).trans ha) fun u hl hleft => ?_
  have hevr : u.evr = s.evr.filled x rest seg := (hleft.2.1 .evr (by decide)).symm.trans hkeeps.evr
  have hmem : ∀ a, memGet u.mcx.data a =
      if base ≤ a ∧ a < base + x.bytes.length then x.bytes.getD (a - base) 0 else memGet s.mcx.data a := fun a => by
    rw [← hleft.2.1 .mcx (by decide)]
    exact hdata a
  rw [hevr]
  refine ⟨hl.mono (by simp [changesOf]), rfl, rfl, rfl, rfl, fun i hi => ?_, fun a hout => ?_⟩
  · rw [hmem, if_pos ⟨Nat.le_add_right _ _, Nat.add_lt_add_left hi _⟩, Nat.add_sub_cancel_left]
  · refine (hmem a).trans (if_neg fun ⟨hfrom, hto⟩ => hout (a - base) ?_ ?_)
    · exact Nat.sub_lt_left_of_lt_add hfrom hto
    · omega

/-- Settles O52: a trigger opens an incident or is lost, and a ring unit is put and written as it stands. -/
theorem triggersAndTheRing : Obligations.TriggersAndTheRing := by
  unfold Obligations.TriggersAndTheRing
  refine ⟨fun s t hm hacts hv harmed hon hfirst hnone => ⟨recorderTrigger_opens hm hacts hv harmed hon hfirst hnone,
    recorderTrigger_loses hm hacts hv harmed hon hfirst hnone⟩, fun s t seg x rest => ringUnitWrite_stores⟩

end Sys2Proof.Machine
end

section
/-!
SUPPORT. Incidents on their way into the flash and back: pages, erases, the stored incident and the replay of the journal
(18 R407, R413, R416).
-/

namespace Sys2Proof.Machine

/-! ### What an event leaves of the recorder (18 R404, R405) -/

/-- What the flash holds of an incident. -/
def Incident.sameFlash (i j : Incident) : Prop :=
  j.number = i.number ∧ j.state = i.state ∧ j.segs = i.segs ∧ j.signature = i.signature ∧ j.blocks = i.blocks ∧
    j.written = i.written

theorem Incident.sameFlash.refl (i : Incident) : i.sameFlash i := ⟨rfl, rfl, rfl, rfl, rfl, rfl⟩

/-- `v` has the flash of `s`, and each of its incidents as the flash holds it. -/
structure KeepsFlash (s v : State) : Prop where
  blocks : v.evr.blocks = s.evr.blocks
  journal : v.evr.journal = s.evr.journal
  grownBad : v.evr.grownBad = s.evr.grownBad
  used : v.evr.used = s.evr.used
  iface : v.evr.iface = s.evr.iface
  incidents : ∀ i ∈ s.evr.incidents, ∃ j ∈ v.evr.incidents, i.sameFlash j

theorem KeepsFlash.refl (s : State) : KeepsFlash s s :=
  ⟨rfl, rfl, rfl, rfl, rfl, fun i hi => ⟨i, hi, Incident.sameFlash.refl i⟩⟩

theorem KeepsFlash.trans {s v w : State} (h : KeepsFlash s v) (k : KeepsFlash v w) : KeepsFlash s w := by
  refine ⟨k.blocks.trans h.blocks, k.journal.trans h.journal, k.grownBad.trans h.grownBad, k.used.trans h.used,
    k.iface.trans h.iface, fun i hi => ?_⟩
  obtain ⟨j, hj, a1, a2, a3, a4, a5, a6⟩ := h.incidents i hi
  obtain ⟨l, hl, b1, b2, b3, b4, b5, b6⟩ := k.incidents j hj
  exact ⟨l, hl, b1.trans a1, b2.trans a2, b3.trans a3, b4.trans a4, b5.trans a5, b6.trans a6⟩

theorem KeepsFlash.of_evr {s v : State} (h : v.evr = s.evr) : KeepsFlash s v := by
  refine ⟨by rw [h], by rw [h], by rw [h], by rw [h], by rw [h], fun i hi => ⟨i, ?_, Incident.sameFlash.refl i⟩⟩
  rwa [h]

theorem KeepsFlash.of_map {s v : State} {f : Incident → Incident} (hf : ∀ i : Incident, i.sameFlash (f i))
    (h : v.evr = { s.evr with
      trigAt := v.evr.trigAt, merged := v.evr.merged, incidents := s.evr.incidents.map f }) : KeepsFlash s v := by
  refine ⟨by rw [h], by rw [h], by rw [h], by rw [h], by rw [h], fun i hi => ⟨f i, ?_, hf i⟩⟩
  rw [h]
  exact List.mem_map_of_mem hi

theorem sameFlash_update {n : Nat} {f : Incident → Incident} (hf : ∀ i : Incident, i.sameFlash (f i)) (i : Incident) :
    i.sameFlash (if i.number = n then f i else i) := by
  split
  · exact hf i
  · exact Incident.sameFlash.refl i

theorem State.trigger_keepsFlash (s : State) (source : Nat) : KeepsFlash s (s.trigger source) := by
  unfold State.trigger
  dsimp only
  split
  · exact KeepsFlash.refl s
  split
  · refine KeepsFlash.of_map (f := fun i => if i.opened ∧ i.time = s.localTime ∧ i.number = s.evr.last then
      { i with source := min i.source source } else i) (fun i => ?_) rfl
    split <;> exact ⟨rfl, rfl, rfl, rfl, rfl, rfl⟩
  split
  · refine KeepsFlash.of_map (sameFlash_update (fun i => ?_)) rfl
    split <;> exact ⟨rfl, rfl, rfl, rfl, rfl, rfl⟩
  split
  · refine KeepsFlash.trans ?_ (KeepsFlash.of_evr (State.record_evr _ _ _ _))
    exact ⟨rfl, rfl, rfl, rfl, rfl, fun i hi => ⟨i, List.mem_append_left _ hi, Incident.sameFlash.refl i⟩⟩
  · refine KeepsFlash.trans ?_ (KeepsFlash.of_evr (State.record_evr _ _ _ _))
    exact ⟨rfl, rfl, rfl, rfl, rfl, fun i hi => ⟨i, hi, Incident.sameFlash.refl i⟩⟩

theorem State.raise_keepsFlash (s : State) (code sub d : Nat) : KeepsFlash s (s.raise code sub d) := by
  have hrecord := KeepsFlash.of_evr (State.record_evr s code sub (BitVec.ofNat 32 d))
  have htrigger : ∀ (c : Prop) [Decidable c] (v : State) (source : Nat), KeepsFlash s v →
      KeepsFlash s (if c then v.trigger source else v) := fun c _ v source hv => by
    split
    · exact hv.trans (State.trigger_keepsFlash v source)
    · exact hv
  unfold State.raise
  dsimp only
  split
  · exact KeepsFlash.refl s
  · exact htrigger _ _ _ (htrigger _ _ _ (htrigger _ _ _ hrecord))

/-! ### Pages and erases (18 R407, R413) -/

theorem Evr.block_setBlock_self (e : Evr) (k : Nat) (b : FlashBlock) : (e.setBlock k b).block k = b := by
  unfold Evr.block Evr.setBlock
  rw [mget_mset_self]
  rfl

theorem Evr.block_setBlock_other (e : Evr) {k j : Nat} (b : FlashBlock) (h : j ≠ k) :
    (e.setBlock k b).block j = e.block j := by
  unfold Evr.block Evr.setBlock
  rw [mget_mset_other _ _ h]

theorem State.retire_keepsFlash (s : State) (k : Nat) : KeepsFlash
    { s with evr := { (s.evr.updBlock k fun b => { b with bad := true, free := false, erasing := false }) with
      grownBad := sat32 s.evr.grownBad } } (s.retire k) := State.raise_keepsFlash _ _ _ _

theorem State.retire_fields (s : State) (k : Nat) : ((s.retire k).evr.block k).bad = true ∧
    ((s.retire k).evr.block k).free = false ∧ (s.retire k).evr.grownBad = sat32 s.evr.grownBad ∧
    ∀ i ∈ s.evr.incidents, ∃ j ∈ (s.retire k).evr.incidents, i.sameFlash j := by
  have h := State.retire_keepsFlash s k
  have hblock : (s.retire k).evr.block k = { s.evr.block k with bad := true, free := false, erasing := false } := by
    rw [Evr.block, h.blocks]
    exact Evr.block_setBlock_self s.evr k _
  rw [hblock]
  exact ⟨rfl, rfl, h.grownBad, h.incidents⟩

theorem mem_updateIncident {l : List Incident} {i : Incident} (f : Incident → Incident) (hi : i ∈ l) :
    f i ∈ updateIncident i.number f l :=
  List.mem_map.2 ⟨i, hi, if_pos rfl⟩

/-- The recorder once a page in progress at the interlock has ended. -/
def State.pageEnded (s : State) : State := { s with evr := { s.evr with finishing := false } }

/-- The state after a page with status `ok` ended in block `k`. -/
def State.pageResult (s : State) (i : Incident) (n k : Nat) (ok : Bool) : State :=
  if ok then s.pageEnded.pagePassed i n
  else
    let v := s.pageEnded.retire k
    let per := max 1 v.evr.bytesPerBlock
    let back := fun (i : Incident) => { i with written := i.written / per * per, blocks := i.blocks.filter (· != k) }
    { v with evr := { v.evr with incidents := updateIncident i.number back v.evr.incidents } }

theorem State.pageComplete_of_block {s : State} {n k : Nat} {i : Incident} (hwriting : s.evr.writing = some i)
    (hsize : s.evr.pageSize i = some n) (hmay : s.evr.pageMayEnd i n s.now = true)
    (hblock : i.blocks[i.written / max 1 s.evr.bytesPerBlock]? = some k) (ok : Bool) :
    s.pageComplete ok = s.pageResult i n k ok := by
  have hpage : { s with evr := { s.evr with finishing := false } }.pageBlock i =
      (some k, { s with evr := { s.evr with finishing := false } }) := by
    unfold State.pageBlock
    dsimp only
    rw [show i.blocks[i.written / max 1 ({ s.evr with finishing := false } : Evr).bytesPerBlock]? = some k from hblock]
  unfold State.pageComplete
  rw [hwriting]
  dsimp only
  rw [hsize]
  dsimp only
  rw [hmay, if_neg (by decide), hpage]
  rfl

section Page
variable {s : State} {t n k : Nat} {i : Incident} (hm : s.mainOn = true) (hv : s.part.variant.hasRecorder = true)
  (hwriting : s.evr.writing = some i) (hsize : s.evr.pageSize i = some n)
  (hmay : s.evr.pageMayEnd i n (max s.now t) = true) (hblock : i.blocks[i.written / max 1 s.evr.bytesPerBlock]? = some k)

include hm hv hwriting hsize hmay hblock

theorem pageProgramComplete_passes : Gives (.pageProgramComplete t true) s fun u => OnlyChanges [.evr] s u ∧
    u.evr.blocks = s.evr.blocks ∧
    ∃ j ∈ u.evr.incidents, j.number = i.number ∧ j.written = i.written + n ∧ j.blocks = i.blocks := by
  have ha : (s.atTime t).pageComplete true = (s.atTime t).pageEnded.pagePassed i n :=
    State.pageComplete_of_block (s := s.atTime t) hwriting hsize hmay hblock true
  refine (gives_evr_alone hm hv (exec_pageProgramComplete s) ha (by decide)).mono fun u ⟨hl, hu⟩ => ⟨hl, ?_⟩
  rw [hu]
  exact ⟨rfl, _, mem_updateIncident _ (List.mem_of_find?_eq_some hwriting), rfl, rfl, rfl⟩

theorem pageProgramComplete_retires : Gives (.pageProgramComplete t false) s fun u => OnlyChanges [.evr, .kpp] s u ∧
    (u.evr.block k).bad = true ∧ u.evr.grownBad = sat32 s.evr.grownBad ∧
    ∃ j ∈ u.evr.incidents, j.number = i.number ∧ k ∉ j.blocks := by
  refine (gives_evr hm hv (exec_pageProgramComplete s)
    (State.pageComplete_of_block (s := s.atTime t) hwriting hsize hmay hblock false)
        (by decide) (by simp [changesOf])).mono fun u ⟨hl, hu⟩ => ⟨hl, ?_⟩
  obtain ⟨hbad, -, hgrown, hincidents⟩ := State.retire_fields (s.atTime t).pageEnded k
  obtain ⟨j, hj, hnumber, -⟩ := hincidents i (List.mem_of_find?_eq_some hwriting)
  rw [hu]
  refine ⟨hbad, hgrown, _, List.mem_map.2 ⟨j, hj, if_pos hnumber⟩, hnumber, ?_⟩
  exact fun h => absurd (List.of_mem_filter h) (by simp)

end Page

section Erase
variable {s : State} {t target b : Nat} (hm : s.mainOn = true) (hv : s.part.variant.hasRecorder = true)
  (hlock : s.evr.interlock = false) (herasing : (s.evr.block (blockKey target b)).erasing = true)
include hm hv hlock herasing

/-- An erase no longer to be finished under the interlock. -/
def State.eraseEnded (s : State) (k : Nat) : State :=
  { s with evr := { s.evr with finishErase := s.evr.finishErase.filter (· != k) } }

theorem blockEraseComplete_frees : Gives (.blockEraseComplete t target b true) s fun u => OnlyChanges [.evr] s u ∧
    u.evr.block (blockKey target b) = { s.evr.block (blockKey target b) with
      erases := (s.evr.block (blockKey target b)).erases + 1, erasing := false, free := true } := by
  have ha : (s.atTime t).eraseComplete target b true = { s.atTime t with evr :=
      { (((s.atTime t).eraseEnded (blockKey target b)).evr.setBlock (blockKey target b)
        { s.evr.block (blockKey target b) with
          erases := (s.evr.block (blockKey target b)).erases + 1, erasing := false, free := true }) with
        noSpace := false } } :=
    (if_neg (by simp [hlock, herasing])).trans (if_pos rfl)
  refine (gives_evr_alone hm hv (exec_blockEraseComplete s) ha (by decide)).mono fun u ⟨hl, hu⟩ => ⟨hl, ?_⟩
  rw [hu]
  exact Evr.block_setBlock_self _ _ _

theorem blockEraseComplete_retires : Gives (.blockEraseComplete t target b false) s fun u => OnlyChanges [.evr, .kpp] s u ∧
    (u.evr.block (blockKey target b)).bad = true ∧ (u.evr.block (blockKey target b)).free = false := by
  have ha : (s.atTime t).eraseComplete target b false =
      ((s.atTime t).eraseEnded (blockKey target b)).retire (blockKey target b) :=
    (if_neg (by simp [hlock, herasing])).trans (if_neg Bool.false_ne_true)
  refine (gives_evr hm hv (exec_blockEraseComplete s) ha
      (by decide) (by simp [changesOf])).mono fun u ⟨hl, hu⟩ => ⟨hl, ?_⟩
  obtain ⟨hbad, hfree, -⟩ := State.retire_fields ((s.atTime t).eraseEnded (blockKey target b)) (blockKey target b)
  rw [hu]
  exact ⟨hbad, hfree⟩

end Erase

/-! ### The stored incident (18 R407, R409, R416) -/

theorem State.signatureEvents_keepsFlash (s : State) : KeepsFlash s s.signatureEvents := by
  unfold State.signatureEvents
  dsimp only
  split
  · refine KeepsFlash.trans ?_ (State.raise_keepsFlash _ _ _ _)
    exact KeepsFlash.of_evr rfl
  · exact KeepsFlash.refl s

theorem State.reserve_keepsFlash (s : State) : KeepsFlash s s.reserve.2 := by
  unfold State.reserve
  dsimp only
  split
  · unfold State.exhausted
    split
    · exact KeepsFlash.refl s
    · dsimp only
      refine KeepsFlash.trans ?_ (State.raise_keepsFlash _ _ _ _)
      exact KeepsFlash.of_evr rfl
  · refine KeepsFlash.trans (KeepsFlash.of_evr ?_) (State.signatureEvents_keepsFlash _)
    dsimp only
    split <;> rfl

theorem length_signature (n : Nat) (message : List Byte) : (signature n message).length = 5076 := by
  rw [signature, List.length_map, List.length_range]

theorem State.signIncident_keeps (s : State) (i : Incident) : KeepsFlash s (s.signIncident i).2 ∧
    (s.signIncident i).1.number = i.number ∧ (s.signIncident i).1.signature.length = 5076 := by
  have hkeeps := State.reserve_keepsFlash s
  unfold State.signIncident
  dsimp only
  split
  next hreserve =>
    rw [hreserve] at hkeeps
    exact ⟨hkeeps, rfl, List.length_replicate⟩
  next hreserve =>
    rw [hreserve] at hkeeps
    refine ⟨hkeeps, rfl, ?_⟩
    dsimp only
    exact length_signature _ _

/-- The start of the next incident leaves one that is not queued. -/
theorem Evr.mem_startNext {e : Evr} {j : Incident} (now : Nat) (hj : j ∈ e.incidents)
    (hothers : ∀ q ∈ e.incidents, q.state = .queued → q.number ≠ j.number) : j ∈ (e.startNext now).incidents := by
  unfold Evr.startNext
  split
  next q hq =>
    have hne := hothers q (List.mem_of_find?_eq_some hq) (by simpa using List.find?_some hq)
    exact List.mem_map.2 ⟨j, hj, if_neg (Ne.symm hne)⟩
  · exact hj

theorem Evr.startNext_journal (e : Evr) (now : Nat) : (e.startNext now).journal = e.journal := by
  unfold Evr.startNext
  split <;> rfl

/-- The commit entry of a signed incident `x`, and `x` stored (18 R407, R416). -/
theorem State.stores_commit (v : State) {x : Incident} {journal : List JournalEntry}
    (hj : ∃ j ∈ v.evr.incidents, j.number = x.number) (hlength : x.signature.length = 5076)
    (hjournal : v.evr.journal = journal) :
    let e := { v.evr with
      journal := v.evr.journal ++ [JournalEntry.commit x.number]
      incidents := updateIncident x.number (fun _ => { x with state := .stored, segs := [] }) v.evr.incidents }
    let u := { v with evr := e.startNext v.now }.raise 0x6402 0x40 x.number
    u.evr.journal = journal ++ [.commit x.number] ∧
      ∃ j ∈ u.evr.incidents, j.number = x.number ∧ j.state = .stored ∧ j.segs = [] ∧ j.signature.length = 5076 := by
  intro e u
  have hkeeps : KeepsFlash { v with evr := e.startNext v.now } u := State.raise_keepsFlash _ _ _ _
  obtain ⟨k, hk, hnumber⟩ := hj
  have hstored : { x with state := .stored, segs := [] } ∈ e.incidents :=
    List.mem_map.2 ⟨k, hk, if_pos hnumber⟩
  have hothers : ∀ q ∈ e.incidents, q.state = .queued → q.number ≠ x.number := by
    intro q hq hqueued hsame
    obtain ⟨p, -, rfl⟩ := List.mem_map.1 hq
    split at hqueued
    · cases hqueued
    next hne => exact hne (by rwa [if_neg hne] at hsame)
  obtain ⟨l, hl, a1, a2, a3, a4, -⟩ := hkeeps.incidents _ (Evr.mem_startNext v.now hstored hothers)
  refine ⟨hkeeps.journal.trans ((Evr.startNext_journal e v.now).trans ?_), l, hl, a1, a2, a3, ?_⟩
  · rw [← hjournal]
  · rw [a4]
    exact hlength

theorem incidentStored_stores {s : State} {t : Nat} {i : Incident} (hm : s.mainOn = true) (hacts : s.unitActs = true)
    (hv : s.part.variant.hasRecorder = true) (hwriting : s.evr.writing = some i) (hclosed : i.opened = false)
    (hlock : s.evr.interlock = false) (hreplayed : s.evr.replayed = true) (hbytes : i.bytes ≤ i.written)
    (hused : s.evr.used ≠ 0) :
    Gives (.incidentStored t) s fun u => OnlyChanges [.evr, .mram, .fw, .kpp] s u ∧
      u.evr.journal = s.evr.journal ++ [.commit i.number] ∧
      ∃ j ∈ u.evr.incidents, j.number = i.number ∧ j.state = .stored ∧ j.segs = [] ∧ j.signature.length = 5076 := by
  refine (gives_evr_unit hm hv (exec_incidentStored s) hacts rfl
      (by decide) (by simp [changesOf])).mono fun u ⟨hl, hu⟩ => ⟨hl, ?_⟩
  obtain ⟨hsign, hnumber, hlength⟩ := State.signIncident_keeps (s.atTime t) i
  rw [hu]
  unfold State.incidentStored
  rw [State.atTime_evr, hwriting]
  dsimp only
  rw [if_neg (by simp [hclosed, hlock, hreplayed, hbytes, hused])]
  generalize (s.atTime t).signIncident i = r at hsign hnumber hlength ⊢
  obtain ⟨x, v⟩ := r
  dsimp only at hsign hnumber hlength ⊢
  obtain ⟨j, hj, hjnumber, -⟩ := hsign.incidents i (List.mem_of_find?_eq_some hwriting)
  rw [← hnumber] at hjnumber ⊢
  exact State.stores_commit v ⟨j, hj, hjnumber⟩ hlength hsign.journal

/-! ### The replay of a whole journal (18 R416, R420) -/

section Replay
variable {e : Evr} (hgood : e.journal.length ≤ e.entriesGood)
  (hcommitted : ∀ i ∈ e.incidents, i.state ≠ .queued ∧ e.journal.contains (.commit i.number) = true)
include hgood hcommitted

theorem Evr.replay_of_committed : e.replay = { e with replayed := true } := by
  unfold Evr.replay
  rw [List.take_of_length_le hgood]
  dsimp only
  have hdropped : (e.incidents.flatMap fun i => if e.journal.contains (.commit i.number) then []
      else i.blocks.drop (i.blocksIn e.journal).length) = [] :=
    List.flatMap_eq_nil_iff.2 fun i hi => if_pos (hcommitted i hi).2
  have hkept : (e.incidents.filter fun i => e.journal.contains (.commit i.number) || !(i.state != .queued) ||
      !(i.blocksIn e.journal).isEmpty) = e.incidents :=
    List.filter_eq_self.2 fun i hi => by rw [(hcommitted i hi).2, Bool.true_or, Bool.true_or]
  have hfound : (e.incidents.map fun i => if e.journal.contains (.commit i.number) || !(i.state != .queued) then i
      else e.found e.journal i) = e.incidents :=
    (List.map_congr_left fun i hi => if_pos (by rw [(hcommitted i hi).2, Bool.true_or])).trans (List.map_id _)
  rw [hdropped, hkept, hfound]
  rfl

omit hgood in
theorem Evr.startNext_of_committed (now : Nat) : e.startNext now = e := by
  unfold Evr.startNext
  rw [List.find?_eq_none.2 fun i hi => by simpa using (hcommitted i hi).1]

end Replay

theorem State.replay_of_committed {s : State} (hidentified : s.evr.identified = true) (hfirst : s.evr.replayed = false)
    (hgood : s.evr.journal.length ≤ s.evr.entriesGood)
    (hcommitted : ∀ i ∈ s.evr.incidents, i.state ≠ .queued ∧ s.evr.journal.contains (.commit i.number) = true) :
    s.replay.evr = { s.evr with replayed := true } := by
  unfold State.replay
  rw [if_neg (by simp [hidentified, hfirst]), Evr.replay_of_committed hgood hcommitted]
  dsimp only
  have hlost : (s.evr.incidents.filter fun i => i.state != .queued && !s.evr.journal.contains (.commit i.number)) = [] :=
    List.filter_eq_nil_iff.2 fun i hi => by rw [(hcommitted i hi).2]; simp
  rw [hlost]
  by_cases hwriting : ({ s.evr with replayed := true } : Evr).writing.isSome = true
  · exact congrArg State.evr (if_pos hwriting)
  · exact (congrArg State.evr (if_neg hwriting)).trans
      (Evr.startNext_of_committed (e := { s.evr with replayed := true }) hcommitted s.now)

theorem journalReplay_keeps {s : State} {t : Nat} (hm : s.mainOn = true) (hv : s.part.variant.hasRecorder = true)
    (hidentified : s.evr.identified = true) (hfirst : s.evr.replayed = false)
    (hgood : s.evr.journal.length ≤ s.evr.entriesGood)
    (hcommitted : ∀ i ∈ s.evr.incidents, i.state ≠ .queued ∧ s.evr.journal.contains (.commit i.number) = true) :
    Gives (.journalReplay t) s fun u => OnlyChanges [.evr, .mram, .fw, .kpp] s u ∧
      u.evr = { s.evr with replayed := true } := by
  refine (gives_evr hm hv (exec_journalReplay s) rfl (by decide) (by simp [changesOf])).mono
    fun u ⟨hl, hu⟩ => ⟨hl, hu.trans ?_⟩
  exact State.replay_of_committed (s := s.atTime t) hidentified hfirst hgood hcommitted

/-- Settles O53: the page, the erase and the commit are read off their commands; a replay that drops nothing and
finds nothing lost changes nothing. -/
theorem incidentsAreWrittenAndRecovered : Obligations.IncidentsAreWrittenAndRecovered := by
  unfold Obligations.IncidentsAreWrittenAndRecovered
  refine ⟨?_, ?_, ?_, ?_⟩
  · intro s t n k i hm hv hwriting hsize hmay hblock _
    exact ⟨pageProgramComplete_passes hm hv hwriting hsize hmay hblock,
      pageProgramComplete_retires hm hv hwriting hsize hmay hblock⟩
  · intro s t target b hm hv hlock herasing
    exact ⟨blockEraseComplete_frees hm hv hlock herasing, blockEraseComplete_retires hm hv hlock herasing⟩
  · intro s t i hm hacts hv hwriting hclosed hlock hreplayed hbytes hused
    exact incidentStored_stores hm hacts hv hwriting hclosed hlock hreplayed hbytes hused
  · intro s t hm hv hidentified hfirst hgood hcommitted
    exact journalReplay_keeps hm hv hidentified hfirst hgood hcommitted

end Sys2Proof.Machine
end

section
/-!
SUPPORT. The upkeep of the flash: identification, refresh, wear levelling, protection, deletion and format
(18 R407, R410, R412 to R415, R421; 22 R476, R484).
-/

namespace Sys2Proof.Machine

/-! ### Blocks of the flash -/

/-- The next block depends on the geometry and on the marks and erase counts of the blocks. -/
theorem Evr.nextBlock_congr {e x : Evr} (htargets : x.targets = e.targets) (hused : x.used = e.used)
    (hpage : x.pageBytes = e.pageBytes) (hpages : x.pagesPerBlock = e.pagesPerBlock)
    (hbad : ∀ k, (x.block k).bad = (e.block k).bad) (hfree : ∀ k, (x.block k).free = (e.block k).free)
    (herases : ∀ k, (x.block k).erases = (e.block k).erases) : x.nextBlock = e.nextBlock := by
  unfold Evr.nextBlock Evr.freeBlocks Evr.dataBlocks Evr.goodBlocks
  simp only [htargets, hused, hpage, hpages, hbad, hfree, herases]

/-- An update of one block that keeps its mark, its freedom and its erase count leaves the next block. -/
theorem Evr.nextBlock_setBlock (e : Evr) {k : Nat} {b : FlashBlock} (hbad : b.bad = (e.block k).bad)
    (hfree : b.free = (e.block k).free) (herases : b.erases = (e.block k).erases) :
    (e.setBlock k b).nextBlock = e.nextBlock := by
  have hblock : ∀ j, (e.setBlock k b).block j = if j = k then b else e.block j := fun j => by
    split
    next h => rw [h, Evr.block_setBlock_self]
    next h => exact Evr.block_setBlock_other e b h
  refine Evr.nextBlock_congr rfl rfl rfl rfl (fun j => ?_) (fun j => ?_) (fun j => ?_) <;>
    rw [hblock] <;> split <;> simp_all

theorem Evr.foldl_release_fields (l : List Nat) (e : Evr) : (l.foldl Evr.release e).incidents = e.incidents ∧
    (l.foldl Evr.release e).last = e.last ∧ (l.foldl Evr.release e).journal = e.journal := by
  induction l generalizing e with
  | nil => exact ⟨rfl, rfl, rfl⟩
  | cons k l ih => exact ih (e.release k)

theorem Evr.remove_incidents {e : Evr} {i : Incident} (hi : i ∈ e.incidents) :
    (e.remove i.number).incidents = e.incidents.filter fun x => x.number != i.number := by
  unfold Evr.remove
  split
  next hnone => exact absurd (List.find?_eq_none.1 hnone i hi) (by simp)
  next => exact (Evr.foldl_release_fields _ _).1

theorem State.refresh_counts {s : State} {target b n : Nat} {fixed : List Nat} {i : Incident}
    (howner : s.evr.owner (blockKey target b) = some i) (hidle : s.evr.writing = none)
    (hdue : s.evr.refreshDue s.now = true) (hfull : s.evr.nextBlock = none) :
    ∃ x : Evr, s.refresh target b fixed n = { s with evr := x } ∧ x.uncorrectable = sat32 s.evr.uncorrectable n ∧
      x.corrected = wrap64 s.evr.corrected (count (fun n => n != 0) fixed) := by
  unfold State.refresh
  dsimp only
  rw [howner]
  dsimp only
  rw [hidle, hdue, if_neg (by decide)]
  split
  next new hnew =>
    have hnext := Evr.nextBlock_setBlock { s.evr with refreshAt := some s.now } (k := blockKey target b)
      (b := { s.evr.block (blockKey target b) with refresh := (s.evr.block (blockKey target b)).refresh ||
        (fixed.any fun n => s.regN 0x64002B < n) }) rfl rfl rfl
    exact absurd ((hnew.symm.trans hnext).trans hfull) (by simp)
  next => exact ⟨_, rfl, rfl, rfl⟩

theorem State.wearLevel_moves {s : State} {old new : Nat} {i : Incident} (hspread : 1000 < s.evr.spread)
    (hidle : s.evr.writing = none) (hlock : s.evr.interlock = false)
    (hold : leastBy (fun k => (s.evr.block k).erases)
      (s.evr.dataBlocks.filter fun k => ((s.evr.owner k).map Incident.settled).getD false) = some old)
    (hnew : leastBy (fun k => maxOf (s.evr.freeBlocks.map fun x => (s.evr.block x).erases) - (s.evr.block k).erases)
      s.evr.freeBlocks = some new) (howner : s.evr.owner old = some i) :
    s.wearLevel = { s with evr := s.evr.move i old new } := by
  unfold State.wearLevel
  dsimp only
  rw [if_neg (by simp [hidle, hlock, Nat.not_le.2 hspread]), hold, hnew]
  dsimp only
  rw [howner]

/-- A move allocates the new block and begins the erase of the old one (18 R414). -/
theorem Evr.move_fields (e : Evr) (i : Incident) {old new : Nat} (hne : old ≠ new) :
    ((e.move i old new).block old).erasing = true ∧ ((e.move i old new).block new).free = false ∧
      (e.move i old new).journal = e.journal ++ [.allocate i.number new] := by
  refine ⟨?_, ?_, rfl⟩
  · unfold Evr.move Evr.release Evr.updBlock
    rw [Evr.block_setBlock_self]
  · unfold Evr.move Evr.release Evr.updBlock
    rw [Evr.block_setBlock_other _ _ hne.symm]
    exact congrArg FlashBlock.free (Evr.block_setBlock_self e new _)

section Upkeep
variable {s : State} {t : Nat} (hm : s.mainOn = true) (hacts : s.unitActs = true)
  (hv : s.part.variant.hasRecorder = true)
include hm hv

/-! ### Identification at a wrong VNAND (18 R410, 22 R476, R484) -/

theorem flashIdentify_uses_none {mV : Nat} {targets : List FlashTarget} (hfirst : s.evr.identified = false)
    (hlow : outside mV 1164 1236 = true) (hhigh : outside mV 1746 1854 = true) :
    Gives (.flashIdentify t mV targets) s fun u => OnlyChanges [.evr, .kpp] s u ∧ u.evr.used = 0 ∧ u.evr.iface = 0 := by
  refine (gives_evr hm hv (exec_flashIdentify s) (if_neg (ne_true_of_eq_false hfirst)) (by decide)
    (by simp [changesOf])).mono fun u ⟨hl, hu⟩ => ⟨hl, ?_⟩
  rw [hu]
  unfold State.identifyTargets
  rw [hlow, hhigh]
  dsimp only
  rw [if_pos (by decide)]
  exact ⟨(State.raise_keepsFlash _ _ _ _).used, (State.raise_keepsFlash _ _ _ _).iface⟩

include hacts

/-- A recorder's command of the acting unit without an effect changes nothing. -/
theorem evr_unchanged {i : Instr} {fr : List UnitId} {f : State → State} (he : exec i s = runEvrUnit t fr f s)
    (ha : f (s.atTime t) = s.atTime t) : Gives i s fun u => OnlyChanges [] s u :=
  gives_unchanged he hm ((if_pos hv).trans ((if_pos hacts).trans ha))

/-- One that writes the recorder alone changes nothing else. -/
theorem gives_evr_unit_alone {i : Instr} {fr : List UnitId} {f : State → State} {x : Evr}
    (he : exec i s = runEvrUnit t fr f s) (ha : f (s.atTime t) = { s.atTime t with evr := x })
    (hfr : .evr ∉ fr ++ evrFrame) : Gives i s fun u => OnlyChanges [.evr] s u ∧ u.evr = x :=
  gives_evr_alone hm hv he ((if_pos hacts).trans ha) hfr

/-! ### Refresh and wear levelling (18 R412, R414, R415) -/

theorem refreshRead_counts {target b n : Nat} {fixed : List Nat} {i : Incident}
    (howner : s.evr.owner (blockKey target b) = some i) (hidle : s.evr.writing = none)
    (hdue : s.evr.refreshDue (max s.now t) = true) (hfull : s.evr.nextBlock = none) :
    Gives (.refreshRead t target b fixed n) s fun u => OnlyChanges [.evr] s u ∧
      u.evr.uncorrectable = sat32 s.evr.uncorrectable n ∧
      u.evr.corrected = wrap64 s.evr.corrected (count (fun n => n != 0) fixed) := by
  have ha : ∃ x : Evr, (s.atTime t).refresh target b fixed n = { s.atTime t with evr := x } ∧
      x.uncorrectable = sat32 s.evr.uncorrectable n ∧
      x.corrected = wrap64 s.evr.corrected (count (fun n => n != 0) fixed) :=
    State.refresh_counts (s := s.atTime t) howner hidle hdue hfull
  obtain ⟨x, hx, hbad, hgood⟩ := ha
  refine (gives_evr_unit_alone hm hacts hv (exec_refreshRead s) hx (by decide)).mono fun u ⟨hl, hu⟩ => ?_
  rw [hu]
  exact ⟨hl, hbad, hgood⟩

theorem wearLevelMove_keeps (heven : s.evr.spread ≤ 1000) :
    Gives (.wearLevelMove t) s fun u => OnlyChanges [] s u :=
  evr_unchanged hm hacts hv (exec_wearLevelMove s) (if_pos (.inl heven))

theorem wearLevelMove_moves {old new : Nat} {i : Incident} (hspread : 1000 < s.evr.spread)
    (hidle : s.evr.writing = none) (hlock : s.evr.interlock = false)
    (hold : leastBy (fun k => (s.evr.block k).erases)
      (s.evr.dataBlocks.filter fun k => ((s.evr.owner k).map Incident.settled).getD false) = some old)
    (hnew : leastBy (fun k => maxOf (s.evr.freeBlocks.map fun x => (s.evr.block x).erases) - (s.evr.block k).erases)
      s.evr.freeBlocks = some new) (howner : s.evr.owner old = some i) (hne : old ≠ new) :
    Gives (.wearLevelMove t) s fun u => OnlyChanges [.evr] s u ∧ (u.evr.block old).erasing = true ∧
      (u.evr.block new).free = false ∧ u.evr.journal = s.evr.journal ++ [.allocate i.number new] := by
  have ha : (s.atTime t).wearLevel = { s.atTime t with evr := s.evr.move i old new } :=
    State.wearLevel_moves (s := s.atTime t) hspread hidle hlock hold hnew howner
  refine (gives_evr_unit_alone hm hacts hv (exec_wearLevelMove s) ha (by decide)).mono fun u ⟨hl, hu⟩ => ⟨hl, ?_⟩
  rw [hu]
  exact Evr.move_fields s.evr i hne

/-! ### Protection, deletion and format (18 R407, R413, R421) -/

theorem incidentProtect_marks (n : BitVec 31) : Gives (.incidentProtect t n) s fun u => OnlyChanges [.evr] s u ∧
    u.evr.incidents = s.evr.incidents.map fun i => if i.number = n.toNat then { i with isProtected := true } else i :=
  (gives_evr_unit_alone hm hacts hv (exec_incidentProtect s) rfl (by decide)).mono fun _ ⟨hl, hu⟩ =>
    ⟨hl, by rw [hu]; rfl⟩

theorem incidentUnprotect_unmarks (n : BitVec 31) : Gives (.incidentUnprotect t n) s fun u => OnlyChanges [.evr] s u ∧
    u.evr.incidents = s.evr.incidents.map fun i => if i.number = n.toNat then { i with isProtected := false } else i :=
  (gives_evr_unit_alone hm hacts hv (exec_incidentUnprotect s) rfl (by decide)).mono fun _ ⟨hl, hu⟩ =>
    ⟨hl, by rw [hu]; rfl⟩

theorem incidentDelete_removes {n : Word} {i : Incident} (hi : i ∈ s.evr.incidents) (hnumber : i.number = n.toNat)
    (hsettled : i.settled = true) (hopen : i.isProtected = false) :
    Gives (.incidentDelete t n) s fun u => OnlyChanges [.evr] s u ∧
      u.evr.incidents = s.evr.incidents.filter fun x => x.number != n.toNat := by
  have hany : (s.evr.incidents.any fun i => i.number == n.toNat && i.settled && !i.isProtected) = true :=
    List.any_eq_true.2 ⟨i, hi, by simp [hnumber, hsettled, hopen]⟩
  refine (gives_evr_unit_alone hm hacts hv (exec_incidentDelete s) (if_pos hany) (by decide)).mono
    fun u ⟨hl, hu⟩ => ⟨hl, ?_⟩
  rw [hu, ← hnumber]
  exact Evr.remove_incidents hi

theorem incidentDelete_keeps {n : Word} (hprotected : ∀ i ∈ s.evr.incidents, i.number = n.toNat → i.isProtected = true) :
    Gives (.incidentDelete t n) s fun u => OnlyChanges [] s u := by
  have hnone : (s.evr.incidents.any fun i => i.number == n.toNat && i.settled && !i.isProtected) = false :=
    List.any_eq_false.2 fun i hi => by
      have h := hprotected i hi
      simp only [Bool.and_eq_true, beq_iff_eq, Bool.not_eq_true']
      rintro ⟨⟨hnumber, -⟩, hopen⟩
      exact absurd (h hnumber) (by rw [hopen]; decide)
  exact evr_unchanged hm hacts hv (exec_incidentDelete s) (if_neg (ne_true_of_eq_false hnone))

theorem flashFormat_empties (hstored : ∀ i ∈ s.evr.incidents, i.state = .stored) (hused : s.evr.used ≠ 0)
    (hlock : s.evr.interlock = false) : Gives (.flashFormat t 0x464D) s fun u => OnlyChanges [.evr] s u ∧
      u.evr.incidents = [] ∧ u.evr.last = 0 ∧ u.evr.journal = [] := by
  have hnone : (s.evr.incidents.any fun i => i.state != .stored) = false :=
    List.any_eq_false.2 fun i hi => by simp [hstored i hi]
  have hmay : ¬ (((0x464D : Word).toNat ≠ 0x464D) ∨ (s.evr.incidents.any fun i => i.state != .stored) = true ∨
      s.evr.used = 0 ∨ s.evr.interlock = true) := by simp [hnone, hused, hlock]
  refine (gives_evr_unit_alone hm hacts hv (exec_flashFormat s) (if_neg hmay) (by decide)).mono
    fun u ⟨hl, hu⟩ => ⟨hl, ?_⟩
  rw [hu]
  exact Evr.foldl_release_fields _ _

end Upkeep

/-- Settles O54: each command writes the recorder alone, and the blocks, the journal and the directory follow from
the release and the move of a block. -/
theorem flashUpkeep : Obligations.FlashUpkeep := by
  unfold Obligations.FlashUpkeep
  intro s t hm hacts hv
  refine ⟨?_, ?_, ?_, ?_, ?_, ?_, ?_⟩
  · intro mV targets hfirst hlow hhigh
    exact flashIdentify_uses_none hm hv hfirst hlow hhigh
  · intro target b n fixed i howner hidle hdue hfull
    exact refreshRead_counts hm hacts hv howner hidle hdue hfull
  · exact wearLevelMove_keeps hm hacts hv
  · intro old new i hspread hidle hlock hold hnew howner hne
    exact wearLevelMove_moves hm hacts hv hspread hidle hlock hold hnew howner hne
  · exact fun n => ⟨incidentProtect_marks hm hacts hv n, incidentUnprotect_unmarks hm hacts hv n⟩
  · intro n
    refine ⟨?_, incidentDelete_keeps hm hacts hv⟩
    intro i hi hnumber hsettled hopen
    exact incidentDelete_removes hm hacts hv hi hnumber hsettled hopen
  · exact flashFormat_empties hm hacts hv

end Sys2Proof.Machine
end

section
/-!
SUPPORT. The sequencing of the rails and the faults of the supply (19 R430, R432, R433).
-/

namespace Sys2Proof.Machine

theorem State.spring_touches (s : State) (x : Spring) : OnlyChanges [.spring] s { s with spring := x } :=
  ⟨rfl, fun y hy => by cases y <;> simp_all [sameUnit]⟩

/-- A command of the Spring whose effect writes the Spring alone changes nothing else. -/
theorem gives_spring_alone {i : Instr} {t : Nat} {fr : List UnitId} {f : State → State} {s : State} {x : Spring}
    (he : exec i s = run t fr f s) (ha : f (s.atTime t) = { s.atTime t with spring := x }) (hfr : .spring ∉ fr) :
    Gives i s fun u => OnlyChanges [.spring] s u ∧ u.spring = x :=
  gives_of_run_effect he ha (State.spring_touches _ x) fun _ hl hleft => ⟨hl, (hleft.2.1 .spring hfr).symm⟩

/-! ### The reset of the main domain and the fall of the rails (19 R432, R433, R435) -/

/-- The guard at reset is Tripped, with EMIT_EN low (13 R317, R321). -/
theorem State.mainReset_guard (s : State) : s.mainReset.emg.state = .tripped ∧ s.mainReset.emg.emitEn = false := ⟨rfl, rfl⟩

theorem State.mainReset_params (s : State) : s.mainReset.mram.params = s.mram.params := by
  show s.mramAfterReset.params = s.mram.params
  unfold State.mramAfterReset
  dsimp only
  split <;> rfl

theorem State.railFault_fields (s : State) (ch : Nat) : (s.railFault ch).spring.pmicEn = 0 ∧
    (s.railFault ch).spring.railFaults = sat32 s.spring.railFaults ∧ (s.railFault ch).emg.state = .tripped ∧
    (s.railFault ch).spring.faultTimes = faultWindow s.spring.faultTimes s.now ∧
    if 4 ≤ (faultWindow s.spring.faultTimes s.now).length then (s.railFault ch).spring.state = .faultHold
    else (s.railFault ch).spring.state = .sequencing ∧ (s.railFault ch).spring.restartWait = true ∧
      (s.railFault ch).spring.railAt = s.now := by
  unfold State.railFault
  dsimp only
  split
  · exact ⟨rfl, rfl, rfl, rfl, rfl⟩
  · exact ⟨rfl, rfl, rfl, rfl, rfl, rfl, rfl⟩

section Rail
variable {s : State} {t : Nat} (hstate : s.spring.state = .sequencing) (hrun : s.spring.restartWait = false)
  (hvsys : s.spring.vsysWait = false) (hrail : s.spring.rail < 5)
include hstate hrun hvsys hrail

/-! ### Samples of the rail being raised (19 R430) -/

section Sample
variable {mV : Nat} {pg : Bool} (hdue : s.spring.sampleDue (max s.now t) = true)
include hdue

/-- The sampling instant of the rail is kept. -/
def State.sampledNow (s : State) : Spring := { s.spring with sampleAt := some s.now }

omit hdue in
/-- A sample of a rail being raised, by its place in the window and in the row. -/
theorem State.railSample_of_due (hdue : s.spring.sampleDue s.now = true) : s.railSample mV pg =
    if outside mV (railWindow (railChannels.getD s.spring.rail 6)).1 (railWindow (railChannels.getD s.spring.rail 6)).2
    then { s with spring := { s.sampledNow with railRun := 0 } }
    else if s.spring.railRun + 1 < 5 then { s with spring := { s.sampledNow with railRun := s.spring.railRun + 1 } }
    else { s with spring := { s.sampledNow with
      rail := s.spring.rail + 1, railRun := 0, railAt := s.now, sampleAt := none
      pmicEn := min 31 (2 ^ (s.spring.rail + 1 + 1) - 1), powerGood := s.spring.rail + 1 == 5 && pg } } := by
  unfold State.railSample
  rw [if_neg (by simp [hstate, hrun, hvsys, hdue]), if_neg (Nat.not_le.2 hrail)]
  rfl

theorem railSample_restarts (hout : outside mV (railWindow (railChannels.getD s.spring.rail 6)).1
      (railWindow (railChannels.getD s.spring.rail 6)).2 = true) :
    Gives (.railSample t mV pg) s fun u => OnlyChanges [.spring] s u ∧
      u.spring = { s.spring with railRun := 0, sampleAt := some (max s.now t) } :=
  gives_spring_alone (exec_railSample s)
    ((State.railSample_of_due (s := s.atTime t) hstate hrun hvsys hrail hdue).trans (if_pos hout)) (by decide)

theorem railSample_counts (hin : outside mV (railWindow (railChannels.getD s.spring.rail 6)).1
      (railWindow (railChannels.getD s.spring.rail 6)).2 = false) (hfew : s.spring.railRun < 4) :
    Gives (.railSample t mV pg) s fun u => OnlyChanges [.spring] s u ∧
      u.spring = { s.spring with railRun := s.spring.railRun + 1, sampleAt := some (max s.now t) } :=
  gives_spring_alone (exec_railSample s)
    ((State.railSample_of_due (s := s.atTime t) hstate hrun hvsys hrail hdue).trans
      ((if_neg (ne_true_of_eq_false hin)).trans (if_pos (Nat.add_lt_add_right hfew 1)))) (by decide)

theorem railSample_confirms (hin : outside mV (railWindow (railChannels.getD s.spring.rail 6)).1
      (railWindow (railChannels.getD s.spring.rail 6)).2 = false) (hfifth : s.spring.railRun = 4) :
    Gives (.railSample t mV pg) s fun u => OnlyChanges [.spring] s u ∧ u.spring.rail = s.spring.rail + 1 ∧
      u.spring.railRun = 0 ∧ u.spring.railAt = max s.now t ∧ u.spring.state = .sequencing := by
  refine (gives_spring_alone (exec_railSample s)
    ((State.railSample_of_due (s := s.atTime t) hstate hrun hvsys hrail hdue).trans
      ((if_neg (ne_true_of_eq_false hin)).trans (if_neg (not_lt.2 (Nat.succ_le_succ hfifth.ge)))))
    (by decide)).mono fun u ⟨hl, hu⟩ => ⟨hl, ?_⟩
  rw [hu]
  exact ⟨rfl, rfl, rfl, hstate⟩

end Sample

/-! ### Rail faults (19 R432) -/

theorem railConfirmTimeout_faults (hover : s.spring.railAt + 20000000 ≤ max s.now t) :
    Gives (.railConfirmTimeout t) s fun u =>
      u.spring.pmicEn = 0 ∧ u.spring.railFaults = sat32 s.spring.railFaults ∧ u.emg.state = .tripped ∧
      u.spring.faultTimes = faultWindow s.spring.faultTimes (max s.now t) ∧
      if 4 ≤ (faultWindow s.spring.faultTimes (max s.now t)).length then u.spring.state = .faultHold
      else u.spring.state = .sequencing ∧ u.spring.restartWait = true ∧ u.spring.railAt = max s.now t := by
  refine gives_of_run_command (exec_railConfirmTimeout s) (if_pos ⟨hstate, hrun, hvsys, hrail, hover⟩)
    fun u _ hleft => ?_
  have hspring := hleft.2.1 .spring (by decide)
  have hemg := hleft.2.1 .emg (by decide)
  dsimp only [sameUnit] at hspring hemg
  rw [← hspring, ← hemg]
  exact State.railFault_fields (s.atTime t) _

end Rail

theorem railRestartDelay_restarts {s : State} {t : Nat} (hwait : s.spring.restartWait = true)
    (hover : s.spring.railAt + 100000000 ≤ max s.now t) :
    Gives (.railRestartDelay t) s fun u => OnlyChanges [.spring] s u ∧ u.spring.state = .sequencing ∧ u.spring.rail = 0 ∧
      u.spring.pmicEn = 1 ∧ u.spring.restartWait = false := by
  have hdue : (s.spring.restartWait && decide (s.spring.railAt + 100000000 ≤ max s.now t)) = true := by
    rw [hwait, decide_eq_true hover]
    rfl
  refine (gives_spring_alone (exec_railRestartDelay s) (if_pos hdue) (by decide)).mono fun u ⟨hl, hu⟩ => ⟨hl, ?_⟩
  rw [hu]
  exact ⟨rfl, rfl, rfl, rfl⟩

/-! ### The supply itself (19 R433, R435) -/

theorem vsysUndervoltage_powersDown {s : State} {t : Nat} (hm : s.mainOn = true) :
    Gives (.vsysUndervoltage t) s fun u => u.spring.state = .sequencing ∧ u.spring.vsysWait = true ∧
      u.spring.pmicEn = 0 ∧ u.spring.nextCause = 6 ∧ u.mainOn = false ∧ u.emg.state = .tripped ∧ u.emg.emitEn = false := by
  refine gives_of_run_command (exec_vsysUndervoltage s) (if_pos (.inl hm)) fun u _ hleft => ?_
  have hspring := hleft.2.1 .spring (by decide)
  have hemg := hleft.2.1 .emg (by decide)
  dsimp only [sameUnit] at hspring hemg
  unfold State.mainOn
  rw [← hspring, ← hemg]
  exact ⟨rfl, rfl, rfl, rfl, rfl, State.mainReset_guard _⟩

theorem powerOn_resets (s : State) (t : Nat) (crystal : Bool) : Gives (.powerOn t crystal) s fun u =>
    u.pending = s.pending ∧ u.spring.state = .sleep ∧ u.spring.powerWake = true ∧ u.spring.pmicEn = 0 ∧
    u.emg.state = .tripped ∧ u.emg.emitEn = false ∧ u.mram.params = s.mram.params ∧ u.part = s.part := by
  refine gives_of_run_command (exec_powerOn s) rfl fun u hl hleft => ?_
  have hspring := hleft.2.1 .spring (by decide)
  have hemg := hleft.2.1 .emg (by decide)
  have hmram := hleft.2.1 .mram (by decide)
  dsimp only [sameUnit] at hspring hemg hmram
  rw [← hspring, ← hemg, ← hmram]
  exact ⟨hl.1, rfl, rfl, rfl, rfl, rfl, State.mainReset_params (s.atTime t), (hl.2 .part (by simp [changesOf])).symm⟩

/-- Settles O55: a sample is one of three cases of the rail being raised; a fault and an undervoltage reset the
main domain. -/
theorem railsAreSequencedAndSupervised : Obligations.RailsAreSequencedAndSupervised := by
  unfold Obligations.RailsAreSequencedAndSupervised
  refine ⟨powerOn_resets, ?_, ?_, ?_, ?_⟩
  · intro s t mV pg hstate hrun hvsys hrail hdue w
    exact ⟨railSample_restarts hstate hrun hvsys hrail hdue, railSample_counts hstate hrun hvsys hrail hdue,
      railSample_confirms hstate hrun hvsys hrail hdue⟩
  · intro s t hstate hrun hvsys hrail hover
    exact railConfirmTimeout_faults hstate hrun hvsys hrail hover
  · exact fun s t => railRestartDelay_restarts
  · exact fun s t => vsysUndervoltage_powersDown

end Sys2Proof.Machine
end

section
/-!
SUPPORT. The Spring's rounds, its wake sources, the orderly shutdown and the reset release
(19 R424, R427 to R429, R435 to R437).
-/

namespace Sys2Proof.Machine

/-! ### A round with the main domain in reset (19 R424, R427) -/

/-- What the state's part of a round goes by is the same, and so is the count of rounds. -/
def Spring.sameHold (x y : Spring) : Prop := y.state = x.state ∧ y.faultLow = x.faultLow ∧ y.rounds = x.rounds

theorem Spring.sameHold.trans {x y z : Spring} (h : x.sameHold y) (k : y.sameHold z) : x.sameHold z :=
  ⟨k.1.trans h.1, k.2.1.trans h.2.1, k.2.2.trans h.2.2⟩

theorem Spring.sameHold.of_raw {x y : Spring} (h : y = x) (raw : List Int) (wake : Bool) :
    x.sameHold { y with raw := raw, canWake := wake } := by
  subst h
  exact ⟨rfl, rfl, rfl⟩

theorem State.ntcValue_spring (s : State) (i n : Nat) : (s.ntcValue i n).2.spring = s.spring := by
  unfold State.ntcValue
  split <;> rfl

theorem State.roundValues_hold (s : State) (r : RoundIn) : s.spring.sameHold (s.roundValues r).1.spring := by
  unfold State.roundValues
  dsimp only
  exact .of_raw ((State.ntcValue_spring _ _ _).trans (State.ntcValue_spring s _ _)) _ _

theorem State.ntcRound_hold (s : State) (i n : Nat) : s.spring.sameHold (s.ntcRound i n).spring := by
  unfold State.ntcRound
  dsimp only
  rw [State.raiseIf_spring]
  exact ⟨rfl, rfl, rfl⟩

theorem State.diodeCheck_spring (s : State) : s.diodeCheck.spring = s.spring := by
  unfold State.diodeCheck
  dsimp only
  split_ifs
  · exact State.raiseIf_spring _ _ _ _ _
  · rfl
  · exact State.raise_spring _ _ _ _
  · rfl

theorem State.thermalRound_spring (s : State) : s.thermalRound.spring = s.spring := State.raiseIf_spring _ _ _ _ _

theorem State.keptEvents_spring (s old : State) : ((s.keep old .kpp).keep old .evr).spring = s.spring := rfl

theorem State.temperatureInUse_spring (s : State) (first : Bool) : (s.temperatureInUse first).spring = s.spring := rfl

/-- Its decisions count the round and leave what the state's part goes by. -/
theorem State.roundDecisions_hold {s : State} (r : RoundIn) (hoff : s.mainOn = false) :
    ({ s.spring with rounds := s.spring.rounds + 1 } : Spring).sameHold (s.roundDecisions r).spring := by
  obtain ⟨hstate, hlow, hrounds⟩ := State.roundValues_hold s r
  unfold State.roundDecisions
  dsimp only
  rw [hoff, if_neg Bool.false_ne_true, State.keptEvents_spring, State.thermalRound_spring,
    State.temperatureInUse_spring, State.diodeCheck_spring]
  refine Spring.sameHold.trans ?_ ((State.ntcRound_hold _ 0 _).trans (State.ntcRound_hold _ 1 _))
  exact ⟨hstate, hlow, congrArg (· + 1) hrounds⟩

theorem State.faultRound_holds {s : State} (hlow : s.spring.faultLow = 0) :
    s.faultRound.spring.state = s.spring.state ∧ s.faultRound.spring.rounds = s.spring.rounds := by
  unfold State.faultRound
  dsimp only
  rw [hlow, if_neg (by simp)]
  exact ⟨rfl, rfl⟩

theorem springRound_holds {s : State} {t : Nat} {r : RoundIn} (hhold : s.spring.state = .faultHold)
    (hlow : s.spring.faultLow = 0) (hdue : s.spring.roundDue (max s.now t) = true) :
    Gives (.springRound t r) s fun u => u.spring.rounds = s.spring.rounds + 1 ∧ u.spring.state = .faultHold ∧
      u.part = s.part := by
  have hoff : s.mainOn = false := by
    rw [State.mainOn, hhold]
    rfl
  obtain ⟨hstate, hfault, hrounds⟩ := State.roundDecisions_hold (s := s.atTime t) r hoff
  obtain ⟨hkept, hcount⟩ := State.faultRound_holds (s := (s.atTime t).roundDecisions r) (hfault.trans hlow)
  have hstep : ((s.atTime t).roundDecisions r).stateRound = ((s.atTime t).roundDecisions r).faultRound := by
    unfold State.stateRound
    rw [hstate.trans hhold]
  have hafter : ((s.atTime t).roundDecisions r).faultRound.mainOn = false := by
    rw [State.mainOn, hkept.trans (hstate.trans hhold)]
    rfl
  have ha : (s.atTime t).round r = ((s.atTime t).roundDecisions r).faultRound := by
    unfold State.round
    rw [if_neg (by simp [hdue])]
    dsimp only
    rw [hstep, hafter]
    exact if_neg Bool.false_ne_true
  refine gives_of_run_command (exec_springRound s) ha fun u hl hleft => ?_
  have hspring := hleft.2.1 .spring (by decide)
  dsimp only [sameUnit] at hspring
  rw [← hspring]
  exact ⟨hcount.trans hrounds, hkept.trans (hstate.trans hhold), (hl.2 .part (by simp [changesOf])).symm⟩

/-! ### Wake sources (19 R428) -/

theorem canWakePattern_latches (s : State) (t : Nat) : Gives (.canWakePattern t) s fun u => OnlyChanges [.spring] s u ∧
    u.spring = { s.spring with canWake := true } :=
  gives_spring_alone (exec_canWakePattern s) rfl (by decide)

theorem wakeTimerExpiry_latches {s : State} {t : Nat} (hsleep : s.spring.state = .sleep) (hset : s.regN 0x680023 ≠ 0)
    (hover : s.spring.sleepAt + 1000000000 * s.regN 0x680023 ≤ max s.now t) :
    Gives (.wakeTimerExpiry t) s fun u => OnlyChanges [.spring] s u ∧ u.spring = { s.spring with timerWake := true } :=
  gives_spring_alone (exec_wakeTimerExpiry s) (if_pos ⟨hsleep, hset, hover⟩) (by decide)

/-! ### The orderly shutdown (19 R437) -/

theorem State.setSource_spring (s : State) (k : Nat) (active : Bool) : (s.setSource k active).spring = s.spring :=
  ((State.setSource_touches s k active).2 .spring (by decide)).symm

theorem State.followMirror_spring (s : State) : s.followMirror.spring = s.spring :=
  ((State.followMirror_touches s).2 .spring (by decide)).symm

theorem State.setSource_ite_spring (c : Prop) [Decidable c] (s : State) (k : Nat) (active : Bool) :
    (if c then s.setSource k active else s).spring = s.spring := by
  split
  · exact State.setSource_spring s k active
  · rfl

/-- The interlock is set, and nothing else of the shutdown moves. -/
theorem State.interlockTo_spring (s : State) : (s.interlockTo true).spring.interlock = true ∧
    (s.interlockTo true).spring.state = s.spring.state ∧ (s.interlockTo true).spring.shutStep = s.spring.shutStep ∧
    (s.interlockTo true).spring.shutTo = s.spring.shutTo := by
  unfold State.interlockTo
  split
  next h => exact ⟨h, rfl, rfl, rfl⟩
  · rw [State.setSource_ite_spring, State.raise_spring]
    exact ⟨rfl, rfl, rfl, rfl⟩

theorem State.beginShutdown_fields {s : State} (hrun : s.spring.state = .running) (dest : Nat) :
    (s.beginShutdown dest).spring.state = .shuttingDown ∧ (s.beginShutdown dest).spring.shutStep = 1 ∧
      (s.beginShutdown dest).spring.shutTo = dest ∧ (s.beginShutdown dest).spring.interlock = true := by
  unfold State.beginShutdown
  rw [if_neg (by simp [hrun])]
  obtain ⟨hinterlock, hstate, hstep, hto⟩ := State.interlockTo_spring
    { s with spring := { s.spring with state := .shuttingDown, shutStep := 1, shutAt := s.now, shutTo := dest } }
  exact ⟨hstate, hstep, hto, hinterlock⟩

/-- A command of the acting unit that begins a shutdown while the Spring runs. -/
theorem gives_shutdown {i : Instr} {t dest : Nat} {fr : List UnitId} {f : State → State} {s : State}
    (he : exec i s = runUnit t fr f s) (hm : s.mainOn = true) (hacts : s.unitActs = true)
    (hrun : s.spring.state = .running) (ha : f (s.atTime t) = (s.atTime t).beginShutdown dest) (hfr : .spring ∉ fr)
    (hl : ∀ x, x ∈ changesOf i → x ∈ [.spring, .emg, .kpp, .evr]) :
    Gives i s fun u => OnlyChanges [.spring, .emg, .kpp, .evr] s u ∧ u.spring.state = .shuttingDown ∧
      u.spring.shutStep = 1 ∧ u.spring.shutTo = dest ∧ u.spring.interlock = true := by
  refine gives_of_unit_command he hm hacts ha fun u hc hleft => ⟨hc.mono hl, ?_⟩
  have hspring := hleft.2.1 .spring hfr
  dsimp only [sameUnit] at hspring
  rw [← hspring]
  exact State.beginShutdown_fields (s := s.atTime t) hrun dest

section Shutdown
variable {s : State} {t : Nat} (hshut : s.spring.state = .shuttingDown)
include hshut

/-- A step of the order that is over. -/
theorem State.shutdownStep_of_over (hover : s.shutdownStepOver = true) : s.shutdownStep =
    if s.spring.shutStep < 3 then { s with spring := { s.spring with shutStep := s.spring.shutStep + 1, shutAt := s.now } }
    else if s.spring.shutStep = 3 then
      { s.parkMirror with spring := { s.parkMirror.spring with shutStep := 4, shutAt := s.parkMirror.now } }
    else if s.spring.shutStep = 4 then
      { s.mainReset with spring := { s.mainReset.spring with shutStep := 5, shutAt := s.mainReset.now } }
    else if s.spring.shutStep = 5 then { s with spring := { s.spring with
      pmicEn := 15, rail := 0, powerGood := false, shutStep := 6, shutAt := s.now } }
    else if s.spring.pmicEn ≠ 0 then { s with spring := { s.spring with
      pmicEn := s.spring.pmicEn / 2, shutStep := 6, shutAt := s.now } }
    else s.shutdownEnd := by
  unfold State.shutdownStep
  rw [if_neg (by simp [hshut, hover])]

omit hshut in
theorem State.parkMirror_spring (s : State) : s.parkMirror.spring = s.spring := by
  unfold State.parkMirror
  split
  · exact State.followMirror_spring _
  · rfl

theorem State.shutdownStep_advances (hstep : s.spring.shutStep < 6) (hover : s.shutdownStepOver = true) :
    s.shutdownStep.spring.state = .shuttingDown ∧ s.shutdownStep.spring.shutStep = s.spring.shutStep + 1 ∧
      (s.spring.shutStep = 4 → s.shutdownStep.emg.state = .tripped ∧ s.shutdownStep.rwp = []) := by
  rw [State.shutdownStep_of_over hshut hover]
  split_ifs with h1 h2 h3 h4 h5
  · exact ⟨hshut, rfl, fun h => by omega⟩
  · refine ⟨?_, by rw [h2], fun h => by omega⟩
    rw [State.parkMirror_spring]
    exact hshut
  · exact ⟨hshut, by rw [h3], fun _ => ⟨rfl, rfl⟩⟩
  · exact ⟨hshut, by rw [h4], fun h => by omega⟩
  · omega
  · omega

omit hshut in
theorem shutdownStepComplete_waits (hrunning : (s.atTime t).shutdownStepOver = false) :
    Gives (.shutdownStepComplete t) s fun u => OnlyChanges [] s u :=
  gives_of_run_effect (exec_shutdownStepComplete s) (if_pos (.inr hrunning)) (OnlyChanges.refl [] _) fun _ hl _ => hl

theorem shutdownStepComplete_advances (hstep : s.spring.shutStep < 6) (hover : (s.atTime t).shutdownStepOver = true) :
    Gives (.shutdownStepComplete t) s fun u => u.spring.state = .shuttingDown ∧
      u.spring.shutStep = s.spring.shutStep + 1 ∧ (s.spring.shutStep = 4 → u.emg.state = .tripped ∧ u.rwp = []) := by
  refine gives_of_run_command (exec_shutdownStepComplete s) rfl fun u _ hleft => ?_
  have hspring := hleft.2.1 .spring (by decide)
  have hemg := hleft.2.1 .emg (by decide)
  have hrwp := hleft.2.1 .rwp (by decide)
  dsimp only [sameUnit] at hspring hemg hrwp
  rw [← hspring, ← hemg, ← hrwp]
  exact State.shutdownStep_advances (s := s.atTime t) hshut hstep hover

section Last
variable (hlast : s.spring.shutStep = 6)
include hlast

/-- Step 6 drops the enables one after another and then ends the shutdown. -/
theorem State.shutdownStep_last : s.shutdownStep = if s.spring.pmicEn ≠ 0 then
    { s with spring := { s.spring with pmicEn := s.spring.pmicEn / 2, shutStep := 6, shutAt := s.now } }
    else s.shutdownEnd := by
  have hover : s.shutdownStepOver = true := by
    unfold State.shutdownStepOver
    rw [hlast]
    rfl
  rw [State.shutdownStep_of_over hshut hover, if_neg (by omega), if_neg (by omega), if_neg (by omega),
    if_neg (by omega)]

theorem shutdownStepComplete_drops (hon : s.spring.pmicEn ≠ 0) :
    Gives (.shutdownStepComplete t) s fun u => OnlyChanges [.spring] s u ∧
      u.spring = { s.spring with pmicEn := s.spring.pmicEn / 2, shutAt := max s.now t } := by
  have ha := (State.shutdownStep_last (s := s.atTime t) hshut hlast).trans (if_pos hon)
  refine (gives_spring_alone (exec_shutdownStepComplete s) ha (by decide)).mono fun u ⟨hl, hu⟩ => ⟨hl, hu.trans ?_⟩
  rw [State.atTime_spring, ← hlast]
  rfl

section End
variable (hoff : s.spring.pmicEn = 0) (hcool : s.thermal.shutdown = false)
include hoff hcool

theorem shutdownStepComplete_sleeps (hto : s.spring.shutTo = 0) :
    Gives (.shutdownStepComplete t) s fun u => OnlyChanges [.spring] s u ∧ u.spring.state = .sleep ∧
      u.spring.sleepAt = max s.now t := by
  have hend := (State.shutdownStep_last (s := s.atTime t) hshut hlast).trans (if_neg (not_not.2 hoff))
  have ha := hend.trans ((if_neg (by simp [hcool, hto])).trans (if_neg (by simp [hto])))
  refine (gives_spring_alone (exec_shutdownStepComplete s) ha (by decide)).mono fun u ⟨hl, hu⟩ => ⟨hl, ?_⟩
  rw [hu]
  exact ⟨rfl, rfl⟩

theorem shutdownStepComplete_restarts (hto : s.spring.shutTo = 2) :
    Gives (.shutdownStepComplete t) s fun u => OnlyChanges [.spring] s u ∧ u.spring.state = .sequencing ∧
      u.spring.rail = 0 ∧ u.spring.nextCause = 5 := by
  have hend := (State.shutdownStep_last (s := s.atTime t) hshut hlast).trans (if_neg (not_not.2 hoff))
  have ha := hend.trans ((if_neg (by simp [hcool, hto])).trans (if_pos (by simp [hto])))
  refine (gives_spring_alone (exec_shutdownStepComplete s) ha (by decide)).mono fun u ⟨hl, hu⟩ => ⟨hl, ?_⟩
  rw [hu]
  exact ⟨rfl, rfl, rfl⟩

end End
end Last
end Shutdown

/-! ### The reset release (19 R430, R435, R436) -/

/-- The settings a release samples leave the units at reset. -/
theorem State.release_fields (s : State) (strap : BitVec 9) (safe : Bool) :
    let u := s.release strap safe
    u.spring.state = .running ∧ u.spring.cause = s.spring.nextCause ∧ u.rwp = s.mainReset.storedRwp ∧
      u.emg.state = .tripped ∧ u.emg.emitEn = false ∧ u.emg.releasedAt = s.now ∧ u.txn = {} ∧ u.pipe = {} ∧
      u.mcx = {} ∧
      u.cu = { ({} : Cu) with a := { ({} : Cu).a with lastHeartbeat := s.now }
                              b := { ({} : Cu).b with lastHeartbeat := s.now } } := by
  have hemg {α : Type} (f : Emg → α) (v : State) (b : Bool) := congrArg f (State.raiseIf_emg v b 0x5807 0x07 0)
  exact ⟨congrArg Spring.state (State.raiseIf_spring _ _ _ _ _), congrArg Spring.cause (State.raiseIf_spring _ _ _ _ _),
    State.raiseIf_rwp _ _ _ _ _, hemg Emg.state _ _, hemg Emg.emitEn _ _, hemg Emg.releasedAt _ _,
    State.raiseIf_txn _ _ _ _ _, State.raiseIf_pipe _ _ _ _ _, State.raiseIf_mcx _ _ _ _ _, State.raiseIf_cu _ _ _ _ _⟩

/-- Only a release after a power-on samples the straps (22 R472, 17 R392, 13 R325). -/
theorem State.release_straps (s : State) (strap : BitVec 9) (safe : Bool) :
    let u := s.release strap safe
    (s.spring.nextCause = 1 → u.part.strap = strap.toNat ∧ u.emg.source = safe) ∧
      (s.spring.nextCause ≠ 1 → u.part.strap = s.part.strap ∧ u.part.device = s.part.device ∧
        u.emg.source = s.emg.source) := by
  unfold State.release State.sample
  simp only [State.raiseIf_part, State.raiseIf_emg]
  refine ⟨fun h => ?_, fun h => ?_⟩
  · rw [h]
    exact ⟨rfl, rfl⟩
  · have hcause : (s.spring.nextCause == 1) = false := beq_eq_false_iff_ne.2 h
    rw [hcause]
    exact ⟨rfl, rfl, rfl⟩

theorem State.storedRwp_congr {s v : State} (h : v.mram.params = s.mram.params) : v.storedRwp = s.storedRwp := by
  unfold State.storedRwp
  rw [h]

theorem resetRelease_starts {s : State} {t : Nat} {strap : BitVec 9} {safe : Bool}
    (hstate : s.spring.state = .sequencing) (hrun : s.spring.restartWait = false) (hvsys : s.spring.vsysWait = false)
    (hrail : s.spring.rail = 5) (hgood : s.spring.powerGood = true) (hover : s.spring.railAt + 500000 ≤ max s.now t) :
    Gives (.resetRelease t strap safe) s fun u => u.spring.state = .running ∧ u.spring.cause = s.spring.nextCause ∧
      u.rwp = s.storedRwp ∧ u.emg.state = .tripped ∧ u.emg.emitEn = false ∧ u.emg.releasedAt = max s.now t ∧
      u.txn = {} ∧ u.pipe = {} ∧ u.mcx = {} ∧
      u.cu = { ({} : Cu) with a := { ({} : Cu).a with lastHeartbeat := max s.now t }
                              b := { ({} : Cu).b with lastHeartbeat := max s.now t } } ∧
      (s.spring.nextCause = 1 → u.part.strap = strap.toNat ∧ u.emg.source = safe) ∧
      (s.spring.nextCause ≠ 1 → u.part.strap = s.part.strap ∧ u.part.device = s.part.device ∧
        u.emg.source = s.emg.source) := by
  have hready : (s.spring.state == .sequencing && !s.spring.restartWait && !s.spring.vsysWait && s.spring.rail == 5 &&
      s.spring.powerGood && decide (s.spring.railAt + 500000 ≤ max s.now t)) = true := by
    rw [hstate, hrun, hvsys, hrail, hgood, decide_eq_true hover]
    rfl
  refine gives_of_run_command (exec_resetRelease s) (if_pos hready) fun u _ hleft => ?_
  have hspring := hleft.2.1 .spring (by decide)
  have hrwp := hleft.2.1 .rwp (by decide)
  have hemg := hleft.2.1 .emg (by decide)
  have htxn := hleft.2.1 .txn (by decide)
  have hpipe := hleft.2.1 .pipe (by decide)
  have hmcx := hleft.2.1 .mcx (by decide)
  have hcu := hleft.2.1 .cu (by decide)
  have hpart := hleft.2.1 .part (by decide)
  dsimp only [sameUnit] at hspring hrwp hemg htxn hpipe hmcx hcu hpart
  rw [← hspring, ← hrwp, ← hemg, ← htxn, ← hpipe, ← hmcx, ← hcu, ← hpart]
  obtain ⟨h1, h2, h3, h4, h5, h6, h7, h8, h9, h10⟩ := State.release_fields (s.atTime t) strap safe
  have hstored : (s.atTime t).mainReset.storedRwp = s.storedRwp :=
    State.storedRwp_congr (State.mainReset_params (s.atTime t))
  exact ⟨h1, h2, h3.trans hstored, h4, h5, h6, h7, h8, h9, h10, State.release_straps (s.atTime t) strap safe⟩

/-- Settles O56: each command finds the Spring in the state it needs, and the release starts from the main domain
at reset. -/
theorem sleepResetAndRelease : Obligations.SleepResetAndRelease := by
  unfold Obligations.SleepResetAndRelease
  refine ⟨?_, canWakePattern_latches, fun s t => wakeTimerExpiry_latches, ?_, ?_, ?_⟩
  · intro s t r hhold hlow hdue
    exact springRound_holds hhold hlow hdue
  · intro s t hm hacts hrun
    exact ⟨gives_shutdown (exec_sleepCommand s) hm hacts hrun (if_pos (by decide)) (by decide) (by simp [changesOf]),
      gives_shutdown (exec_resetCommand s) hm hacts hrun (if_pos (by decide)) (by decide) (by simp [changesOf])⟩
  · intro s t hshut
    exact ⟨shutdownStepComplete_waits, shutdownStepComplete_advances hshut, shutdownStepComplete_drops hshut,
      shutdownStepComplete_sleeps hshut, shutdownStepComplete_restarts hshut⟩
  · intro s t strap safe hstate hrun hvsys hrail hgood hover
    exact resetRelease_starts hstate hrun hvsys hrail hgood hover

end Sys2Proof.Machine
end

section
/-!
SUPPORT. The firmware unit: updates, boot records, loads, the fuses and the attestation (20 R443 to R452).
-/

namespace Sys2Proof.Machine

theorem State.fw_touches (s : State) (x : Firmware) : OnlyChanges [.fw] s { s with fw := x } :=
  ⟨rfl, fun y hy => by cases y <;> simp_all [sameUnit]⟩

section Command
variable {i : Instr} {t : Nat} {fr : List UnitId} {f : State → State} {s a : State} (hm : s.mainOn = true)
  (hacts : s.unitActs = true) (he : exec i s = runUnit t fr f s)
include hm hacts he

/-- A command of the acting unit gives what its effect makes of the firmware unit. -/
theorem gives_fw {l : List UnitId} (ha : f (s.atTime t) = a) (hfr : .fw ∉ fr) (hl : ∀ x, x ∈ changesOf i → x ∈ l) :
    Gives i s fun u => OnlyChanges l s u ∧ u.fw = a.fw :=
  gives_of_unit_command he hm hacts ha fun _ hc hleft => ⟨hc.mono hl, (hleft.2.1 .fw hfr).symm⟩

/-- One whose effect writes the firmware unit alone changes nothing else. -/
theorem gives_fw_alone {x : Firmware} (ha : f (s.atTime t) = { s.atTime t with fw := x }) (hfr : .fw ∉ fr) :
    Gives i s fun u => OnlyChanges [.fw] s u ∧ u.fw = x :=
  gives_of_unit_effect he hm hacts ha (State.fw_touches _ x) fun _ hl hleft => ⟨hl, (hleft.2.1 .fw hfr).symm⟩

/-- One without an effect changes nothing. -/
theorem unit_unchanged (ha : f (s.atTime t) = s.atTime t) : Gives i s fun u => OnlyChanges [] s u :=
  gives_unchanged he hm ((if_pos hacts).trans ha)

/-- One that starts a background command starts it where none runs (20 R448). -/
theorem gives_update_start {j : UpdateJob} (hfree : s.fw.update ≠ 1)
    (ha : f (s.atTime t) = (s.atTime t).startUpdate j) (hfr : .fw ∉ fr) : Gives i s fun u => OnlyChanges [.fw] s u ∧
      u.fw = { s.fw with job := some j, jobImage := s.reg 0x700010, update := 1 } :=
  gives_fw_alone hm hacts he (ha.trans (if_neg hfree)) hfr

/-- And changes nothing while another one runs. -/
theorem gives_update_busy {j : UpdateJob} (hbusy : s.fw.update = 1) (ha : f (s.atTime t) = (s.atTime t).startUpdate j) :
    Gives i s fun u => OnlyChanges [] s u :=
  unit_unchanged hm hacts he (ha.trans (if_pos hbusy))

end Command

/-! ### Boot records (20 R446) -/

theorem Firmware.record_of_both {f : Firmware} {r q : BootRecord} (h0 : f.boot0 = some r) (h1 : f.boot1 = some q) :
    f.record.1 = if wordAfter q.seq r.seq then q else r := by
  unfold Firmware.record
  rw [h0, h1]
  dsimp only
  split <;> rfl

/-- The record in force and the copy it stands in. -/
theorem Firmware.record_cases (f : Firmware) : (f.record.2 = none) ∨
    (f.record.2 = some 0 ∧ f.boot0 = some f.record.1) ∨ (f.record.2 = some 1 ∧ f.boot1 = some f.record.1) := by
  unfold Firmware.record
  split
  · exact .inl rfl
  next h0 _ => exact .inr (.inl ⟨rfl, h0⟩)
  next _ h1 => exact .inr (.inr ⟨rfl, h1⟩)
  next h0 h1 =>
    split
    · exact .inr (.inr ⟨rfl, h1⟩)
    · exact .inr (.inl ⟨rfl, h0⟩)

/-- A change of the record keeps everything but the two copies. -/
theorem Firmware.writeRecord_fields (f : Firmware) (preferred trial : Nat) :
    (f.writeRecord preferred trial).programmed = f.programmed ∧ (f.writeRecord preferred trial).running = f.running := by
  unfold Firmware.writeRecord
  dsimp only
  split <;> exact ⟨rfl, rfl⟩

/-- The record that a change writes, `k` Sequences after the one in force. -/
def Firmware.nextRecord (f : Firmware) (preferred trial : Nat) (k : Word) : BootRecord :=
  { seq := f.record.1.seq + k, preferred, trial }

/-- The copies after a change of the record. -/
theorem Firmware.writeRecord_copies (f : Firmware) (preferred trial : Nat) :
    (f.record.2 = none → (f.writeRecord preferred trial).boot0 = some (f.nextRecord preferred trial 1) ∧
      (f.writeRecord preferred trial).boot1 = some (f.nextRecord preferred trial 2)) ∧
    (f.record.2 = some 0 → (f.writeRecord preferred trial).boot0 = f.boot0 ∧
      (f.writeRecord preferred trial).boot1 = some (f.nextRecord preferred trial 1)) ∧
    (f.record.2 = some 1 → (f.writeRecord preferred trial).boot0 = some (f.nextRecord preferred trial 1) ∧
      (f.writeRecord preferred trial).boot1 = f.boot1) := by
  unfold Firmware.writeRecord
  dsimp only
  refine ⟨fun h => ?_, fun h => ?_, fun h => ?_⟩ <;> rw [h] <;> exact ⟨rfl, rfl⟩

/-- The record written has the next Sequence, so that it is the one in force. -/
theorem Firmware.record_writeRecord (f : Firmware) (preferred trial : Nat) :
    (f.writeRecord preferred trial).record.1.preferred = preferred ∧
      (f.writeRecord preferred trial).record.1.trial = trial := by
  obtain ⟨hneither, hfirst, hsecond⟩ := f.writeRecord_copies preferred trial
  obtain hnone | ⟨hcopy, h0⟩ | ⟨hcopy, h1⟩ := f.record_cases
  · obtain ⟨hnew0, hnew1⟩ := hneither hnone
    rw [Firmware.record_of_both hnew0 hnew1]
    split <;> exact ⟨rfl, rfl⟩
  · obtain ⟨hold, hnew⟩ := hfirst hcopy
    have hafter : wordAfter (f.nextRecord preferred trial 1).seq f.record.1.seq = true := (wordAfter_succ _).1
    rw [Firmware.record_of_both (hold.trans h0) hnew, if_pos hafter]
    exact ⟨rfl, rfl⟩
  · obtain ⟨hnew, hold⟩ := hsecond hcopy
    have hbefore : wordAfter f.record.1.seq (f.nextRecord preferred trial 1).seq = false := (wordAfter_succ _).2
    rw [Firmware.record_of_both hnew (hold.trans h1), if_neg (ne_true_of_eq_false hbefore)]
    exact ⟨rfl, rfl⟩

/-! ### Updates (20 R445, R448) -/

section Update
variable {s : State} {t : Nat} (hm : s.mainOn = true) (hacts : s.unitActs = true)
include hm hacts

theorem confirmImage_confirms (hfree : s.fw.update ≠ 1) (htrial : s.fw.imageState ≠ 0) :
    Gives (.confirmImage t) s fun u => OnlyChanges [.fw] s u ∧ u.fw.update = 2 ∧ u.fw.imageState = 0 ∧
      u.fw.running = s.fw.running ∧ u.fw.programmed = s.fw.programmed := by
  refine (gives_fw hm hacts (exec_confirmImage s) ((if_neg hfree).trans (if_neg htrial)) (by decide)
    (by simp [changesOf])).mono fun u ⟨hl, hu⟩ => ⟨hl, ?_⟩
  obtain ⟨hprogrammed, hrunning⟩ := s.fw.writeRecord_fields s.fw.running s.fw.record.1.trial
  rw [hu]
  exact ⟨rfl, rfl, hrunning, hprogrammed⟩

theorem confirmImage_refuses (hfree : s.fw.update ≠ 1) (hconfirmed : s.fw.imageState = 0) :
    Gives (.confirmImage t) s fun u => OnlyChanges [.fw] s u ∧ u.fw = { s.fw with update := 5 } :=
  gives_fw_alone hm hacts (exec_confirmImage s) ((if_neg hfree).trans (if_pos hconfirmed)) (by decide)

/-- The end of a programming: the result, and what the other slot then holds. -/
def Firmware.programmedWith (f : Firmware) (code : Nat) (ok : Bool) : Firmware :=
  { f with
    job := none, jobImage := []
    update := if code ≠ 0 then 3 else if ok then 2 else 4
    programmed := if code ≠ 0 then f.programmed
      else if ok then mset f.programmed (1 - f.running) f.jobImage else mdel f.programmed (1 - f.running) }

omit hm hacts in
theorem State.finishUpdate_of_program (hjob : s.fw.job = some .program) (image : ImageSlot) (ok : Bool) :
    (s.finishUpdate image ok).fw =
      s.fw.programmedWith (imageCode (imageOf s.fw.vendorHash s.fw.jobImage image) s.fw.fuse) ok := by
  unfold State.finishUpdate Firmware.programmedWith
  dsimp only
  rw [hjob]
  dsimp only
  by_cases hcode : imageCode (imageOf s.fw.vendorHash s.fw.jobImage image) s.fw.fuse ≠ 0
  · rw [if_pos hcode, if_pos hcode, if_pos hcode]
  · rw [if_neg hcode, if_neg hcode, if_neg hcode]
    cases ok <;> rfl

theorem updateComplete_programs (hjob : s.fw.job = some .program) (image : ImageSlot) (ok : Bool) :
    let code := imageCode (imageOf s.fw.vendorHash s.fw.jobImage image) s.fw.fuse
    Gives (.updateComplete t image ok) s fun u => OnlyChanges [.fw] s u ∧ u.fw.job = none ∧
      u.fw.running = s.fw.running ∧ u.fw.boot0 = s.fw.boot0 ∧ u.fw.boot1 = s.fw.boot1 ∧
      u.fw.update = (if code ≠ 0 then 3 else if ok then 2 else 4) ∧
      u.fw.programmed = (if code ≠ 0 then s.fw.programmed
        else if ok then mset s.fw.programmed (1 - s.fw.running) s.fw.jobImage
        else mdel s.fw.programmed (1 - s.fw.running)) := by
  intro code
  refine (gives_fw hm hacts (exec_updateComplete s) rfl (by decide) (by simp [changesOf])).mono
    fun u ⟨hl, hu⟩ => ⟨hl, ?_⟩
  rw [hu, State.finishUpdate_of_program (s := s.atTime t) hjob]
  exact ⟨rfl, rfl, rfl, rfl, rfl, rfl⟩

end Update

/-- Settles O57: a command begins where none runs, and a programming ends with the other slot alone changed. -/
theorem updatesChangeOnlyTheOtherSlot : Obligations.UpdatesChangeOnlyTheOtherSlot := by
  unfold Obligations.UpdatesChangeOnlyTheOtherSlot
  refine ⟨?_, ?_, ?_⟩
  · intro s t hm hacts begins
    refine ⟨fun hfree => ?_, fun hbusy => ?_⟩
    · exact ⟨gives_update_start hm hacts (exec_verifyImage s) hfree rfl (by decide),
        gives_update_start hm hacts (exec_programImage s) hfree rfl (by decide),
        gives_update_start hm hacts (exec_activateTrial s) hfree rfl (by decide)⟩
    · exact ⟨gives_update_busy hm hacts (exec_verifyImage s) hbusy rfl,
        gives_update_busy hm hacts (exec_programImage s) hbusy rfl,
        gives_update_busy hm hacts (exec_activateTrial s) hbusy rfl⟩
  · intro s t hm hacts hfree
    exact ⟨confirmImage_confirms hm hacts hfree, confirmImage_refuses hm hacts hfree⟩
  · intro s t image ok hm hacts hjob
    exact updateComplete_programs hm hacts hjob image ok

end Sys2Proof.Machine
end

section
/-!
SUPPORT. Loads of the firmware, and the fuse count (20 R443, R445, R447, R449).
-/

namespace Sys2Proof.Machine

/-! ### The check of a slot (20 R445) -/

theorem imageCode_le (i : ImageSlot) (fuse : Nat) : imageCode i fuse ≤ 6 := by
  unfold imageCode
  split_ifs <;> omega

theorem State.checkSlot_fields (s : State) (slot : Nat) (i : ImageSlot) :
    (s.checkSlot slot i).1 = imageCode i s.fw.fuse ∧
      (s.checkSlot slot i).2.fw = s.fw.checked slot (imageCode i s.fw.fuse) i ∧ (s.checkSlot slot i).2.cu = s.cu :=
  ⟨rfl, State.raiseIf_fw _ _ _ _ _, State.raiseIf_cu _ _ _ _ _⟩

/-- SlotStatus of slot 0 begins with the result code (20 R454). -/
theorem Firmware.checked_code (f : Firmware) (i : ImageSlot) (fuse : Nat) :
    uAt (f.checked 0 (imageCode i fuse) i).slotStatus 0 1 = imageCode i fuse := by
  have hcode := imageCode_le i fuse
  show uAt (le 1 (imageCode i fuse) ++ le 1 i.securityVersion.toNat ++ [0, 0] ++ le 4 i.firmwareVersion.toNat ++ _) 0 1 = _
  rw [List.append_assoc, List.append_assoc, List.append_assoc, uAt_front]
  exact Nat.mod_eq_of_lt (by omega)

/-! ### A load (20 R443, R447) -/

/-- The signature index resumes at its limit, and nothing else of the unit or of the control units moves (20 R451). -/
theorem State.resumeIndex_keeps (s : State) : s.resumeIndex.cu = s.cu ∧ s.resumeIndex.fw.nor = s.fw.nor ∧
    s.resumeIndex.fw.slotStatus = s.fw.slotStatus ∧ s.resumeIndex.fw.noImage = s.fw.noImage := by
  unfold State.resumeIndex State.signatureEvents
  dsimp only
  split
  · rw [State.raise_cu, State.raise_fw]
    exact ⟨rfl, rfl, rfl, rfl⟩
  · exact ⟨rfl, rfl, rfl, rfl⟩

/-- The state after a load whose image check gave `v`: the first of a reset also resumes the signature index. -/
def State.afterLoad (s v : State) : State := if s.fw.chosen = false ∧ v.cu.holder = none then v.resumeIndex else v

theorem State.afterLoad_cu (s v : State) : (s.afterLoad v).cu = v.cu := by
  unfold State.afterLoad
  split
  · exact (State.resumeIndex_keeps v).1
  · rfl

theorem State.afterLoad_flash (s v : State) : (s.afterLoad v).fw.nor = v.fw.nor ∧
    (s.afterLoad v).fw.slotStatus = v.fw.slotStatus ∧ (s.afterLoad v).fw.noImage = v.fw.noImage := by
  unfold State.afterLoad
  split
  · exact (State.resumeIndex_keeps v).2
  · exact ⟨rfl, rfl, rfl⟩

/-- A later load checks the running slot as the flash gives it, where the part programmed nothing there. -/
theorem State.reloadImage_of_found {s : State} {a b : ImageSlot} (hany : s.fw.noImage = false)
    (hrunning : s.fw.running = 0) (hprogrammed : mget s.fw.programmed 0 = none) :
    s.reloadImage a b = (imageCode a s.fw.fuse == 0, (s.checkSlot 0 a).2) := by
  unfold State.reloadImage Firmware.slotImage
  rw [if_neg (by simp [hany]), hrunning, hprogrammed]
  rfl

theorem State.loadImage_of_chosen {s : State} {flash : NorFlash} {a b : ImageSlot} (hsfdp : flash.sfdp = true)
    (hchosen : s.fw.chosen = true) (hany : s.fw.noImage = false) (hrunning : s.fw.running = 0)
    (hprogrammed : mget s.fw.programmed 0 = none) :
    s.loadImage flash a b = (imageCode a s.fw.fuse == 0, (s.loadImage flash a b).2) ∧
      (s.loadImage flash a b).2.fw =
        { s.fw with nor := norMode flash }.checked 0 (imageCode a s.fw.fuse) a ∧
      (s.loadImage flash a b).2.cu = s.cu := by
  have hnor : (norMode flash).isNone = false := by
    unfold norMode
    rw [hsfdp]
    rfl
  have hload : s.loadImage flash a b = { s with fw := { s.fw with nor := norMode flash } }.reloadImage a b :=
    (if_neg (ne_true_of_eq_false hnor)).trans (if_pos hchosen)
  rw [hload, State.reloadImage_of_found (s := { s with fw := { s.fw with nor := norMode flash } }) hany hrunning
    hprogrammed]
  exact ⟨rfl, (State.checkSlot_fields _ 0 a).2⟩

theorem State.loadImage_of_noFlash {s : State} {flash : NorFlash} {a b : ImageSlot} (hsfdp : flash.sfdp = false) :
    ∃ v, s.loadImage flash a b = (false, v) ∧ v.cu = s.cu ∧ v.fw.nor = none ∧ v.fw.slotStatus = s.fw.slotStatus ∧
      (s.fw.chosen = false → v.fw.noImage = true) := by
  have hnor : norMode flash = none := by
    unfold norMode
    rw [hsfdp]
    rfl
  unfold State.loadImage State.noFlash
  dsimp only
  rw [hnor, if_pos (by rfl)]
  split
  next h => exact ⟨_, rfl, rfl, rfl, rfl, fun hfirst => absurd (h.symm.trans hfirst) (by decide)⟩
  · exact ⟨_, rfl, rfl, rfl, rfl, fun _ => rfl⟩

section Load
variable {s v : State} {n : Nat} {flash : NorFlash} {a b : ImageSlot} {ok : Bool}
  (hload : (s.cu.unit n).state = .loading) (himage : s.loadImage flash a b = (ok, v)) (hcu : v.cu = s.cu)
include hload himage hcu

/-- A unit that boots is ready where its image verified; one that reloads waits for the end of the reload. -/
theorem State.firmwareLoad_fields : (s.firmwareLoad n flash a b).fw = (s.afterLoad v).fw ∧
    ((s.firmwareLoad n flash a b).cu.unit n).state =
      if (s.cu.unit n).reload = false ∧ ok = true then .ready else .loading := by
  have hafter : (s.afterLoad v).cu = s.cu := (State.afterLoad_cu s v).trans hcu
  have hunfold : s.firmwareLoad n flash a b =
      let w := s.afterLoad v
      let x := w.cu.unit n
      let x := if x.reload then { x with loaded := some ok } else if ok then { x with state := .ready, readyAt := w.now } else x
      let c := w.cu.setUnit n x
      { w with cu := { c with verified :=
        if ok && !c.claimed && c.verified.isNone && n == w.regN 0x5C0002 then some w.now else c.verified } } := by
    unfold State.firmwareLoad State.afterLoad
    rw [if_neg (by simp [hload]), himage]
    simp only [Bool.not_eq_true']
  rw [hunfold]
  dsimp only
  refine ⟨rfl, ?_⟩
  rw [hafter]
  refine (congrArg CtrlUnit.state (Cu.unit_setUnit_self s.cu n _)).trans ?_
  cases hreload : (s.cu.unit n).reload <;> cases ok <;> simp [hload]

end Load

section Command
variable {s : State} {t n : Nat} {flash : NorFlash} {a b : ImageSlot} (hm : s.mainOn = true)
  (hload : (s.cu.unit n).state = .loading)
include hm hload

/-- The load of a unit, by its image check. -/
theorem firmwareLoad_gives {v : State} {ok : Bool} (himage : (s.atTime t).loadImage flash a b = (ok, v))
    (hcu : v.cu = s.cu) : Gives (.firmwareLoad t n flash (a, b)) s fun u => OnlyChanges [.cu, .fw, .kpp, .evr] s u ∧
      u.fw = ((s.atTime t).afterLoad v).fw ∧
      (u.cu.unit n).state = if (s.cu.unit n).reload = false ∧ ok = true then .ready else .loading := by
  refine gives_of_command (exec_firmwareLoad s) hm rfl fun u hc hleft => ⟨hc.mono (by simp [changesOf]), ?_⟩
  have hfw := hleft.2.1 .fw (by decide)
  have hunits := hleft.2.1 .cu (by decide)
  dsimp only [sameUnit] at hfw hunits
  rw [← hfw, ← hunits]
  exact State.firmwareLoad_fields (s := s.atTime t) hload himage hcu

theorem firmwareLoad_reads_running (hsfdp : flash.sfdp = true) (hboot : (s.cu.unit n).reload = false)
    (hchosen : s.fw.chosen = true) (hany : s.fw.noImage = false) (hrunning : s.fw.running = 0)
    (hprogrammed : mget s.fw.programmed 0 = none) :
    Gives (.firmwareLoad t n flash (a, b)) s fun u => OnlyChanges [.cu, .fw, .kpp, .evr] s u ∧
      u.fw.nor = norMode flash ∧ (imageCode a s.fw.fuse = 0 → (u.cu.unit n).state = .ready) ∧
      (imageCode a s.fw.fuse ≠ 0 → (u.cu.unit n).state = .loading) ∧ u.fw.running = 0 ∧ u.fw.boot0 = s.fw.boot0 ∧
      (s.fw.slotStatus.length = 16 → uAt u.fw.slotStatus 0 1 = imageCode a s.fw.fuse) := by
  obtain ⟨himage, hfw, hcu⟩ := State.loadImage_of_chosen (s := s.atTime t) (b := b) hsfdp hchosen hany hrunning hprogrammed
  refine (firmwareLoad_gives hm hload himage hcu).mono fun u ⟨hl, hu, hunit⟩ => ⟨hl, ?_⟩
  have hafter : u.fw = _ := (hu.trans (congrArg State.fw (if_neg (by simp [hchosen])))).trans hfw
  rw [hafter, hunit]
  refine ⟨rfl, fun hcode => ?_, fun hcode => ?_, hrunning, rfl, fun _ => Firmware.checked_code _ a _⟩
  · exact if_pos ⟨hboot, by simpa using hcode⟩
  · exact if_neg fun h => hcode (by simpa using h.2)

theorem firmwareLoad_without_flash (hsfdp : flash.sfdp = false) :
    Gives (.firmwareLoad t n flash (a, b)) s fun u => OnlyChanges [.cu, .fw, .kpp, .evr] s u ∧ u.fw.nor = none ∧
      (u.cu.unit n).state = .loading ∧ u.fw.slotStatus = s.fw.slotStatus ∧ (s.fw.chosen = false → u.fw.noImage = true) := by
  obtain ⟨v, himage, hcu, hnor, hstatus, hnone⟩ := State.loadImage_of_noFlash (s := s.atTime t) (a := a) (b := b) hsfdp
  refine (firmwareLoad_gives hm hload himage hcu).mono fun u ⟨hl, hu, hunit⟩ => ⟨hl, ?_⟩
  obtain ⟨hnor', hstatus', hnone'⟩ := State.afterLoad_flash (s.atTime t) v
  rw [hu, hunit]
  exact ⟨hnor'.trans hnor, if_neg (by simp), hstatus'.trans hstatus, fun h => hnone'.trans (hnone h)⟩

end Command

/-! ### The fuse count (20 R449) -/

theorem State.fuseAdvance_fields (s : State) (w : Nat) : ∃ x, s.fuseAdvance w = { s with fw := { s.fw with fuse := x } } ∧
    s.fw.fuse ≤ x ∧ (x = s.fw.fuse ∨ x ≤ s.fw.security) ∧
    (s.fw.imageState = 0 → 0x464100 ≤ w → s.fw.fuse < w - 0x464100 → w - 0x464100 ≤ s.fw.security →
      w - 0x464100 ≤ 64 → x = w - 0x464100) := by
  unfold State.fuseAdvance
  dsimp only
  split
  next h => exact ⟨_, rfl, h.2.2.2.1.le, .inr h.2.2.1, fun _ _ _ _ _ => rfl⟩
  next h => exact ⟨s.fw.fuse, rfl, le_refl _, .inl rfl, fun h1 h2 h3 h4 h5 => absurd ⟨h2, h1, h4, h3, h5⟩ h⟩

theorem fuseAdvance_raises {s : State} {t : Nat} {v : Word} (hm : s.mainOn = true) (hacts : s.unitActs = true) :
    Gives (.fuseAdvance t v) s fun u => OnlyChanges [.fw] s u ∧ u.fw = { s.fw with fuse := u.fw.fuse } ∧
       s.fw.fuse ≤ u.fw.fuse ∧ (u.fw.fuse = s.fw.fuse ∨ u.fw.fuse ≤ s.fw.security) ∧
       (s.fw.imageState = 0 → 0x464100 ≤ v.toNat → s.fw.fuse < v.toNat - 0x464100 → v.toNat - 0x464100 ≤ s.fw.security →
         v.toNat - 0x464100 ≤ 64 → u.fw.fuse = v.toNat - 0x464100) := by
  obtain ⟨x, hx, hup, hbound, hexact⟩ := (s.atTime t).fuseAdvance_fields v.toNat
  refine (gives_fw_alone hm hacts (exec_fuseAdvance s) hx (by decide)).mono fun u ⟨hl, hu⟩ => ⟨hl, ?_⟩
  rw [hu]
  exact ⟨rfl, hup, hbound, hexact⟩

/-- Settles O58: the record written has the next Sequence, and a later load checks the running slot or, with no
flash, nothing. -/
theorem bootRecordsLoadsAndFuses : Obligations.BootRecordsLoadsAndFuses := by
  unfold Obligations.BootRecordsLoadsAndFuses
  refine ⟨?_, ?_, ?_, ?_⟩
  · intro f preferred trial
    obtain ⟨hpreferred, htrial⟩ := f.record_writeRecord preferred trial
    exact ⟨hpreferred, htrial, (f.writeRecord_fields preferred trial).1⟩
  · intro s t n flash a b _ hsfdp hm hload hboot hchosen hany hrunning hprogrammed
    exact firmwareLoad_reads_running hm hload hsfdp hboot hchosen hany hrunning hprogrammed
  · intro s t n flash a b _ hsfdp hm hload
    exact firmwareLoad_without_flash hm hload hsfdp
  · exact fun s t v hm hacts => fuseAdvance_raises hm hacts

end Sys2Proof.Machine
end

section
/-!
SUPPORT. The signature indices and the attestation (20 R450 to R452).
-/

namespace Sys2Proof.Machine

/-! ### Signature indices (20 R451) -/

theorem State.exhausted_fields (s : State) : s.exhausted.fw.attest = s.fw.attest ∧
    s.exhausted.fw.evidence = s.fw.evidence ∧ s.exhausted.fw.nextIndex = s.fw.nextIndex := by
  unfold State.exhausted
  split
  · exact ⟨rfl, rfl, rfl⟩
  · rw [State.raise_fw]
    exact ⟨rfl, rfl, rfl⟩

theorem State.signatureEvents_fields (s : State) : s.signatureEvents.fw.nextIndex = s.fw.nextIndex ∧
    s.signatureEvents.mram = s.mram := by
  unfold State.signatureEvents
  dsimp only
  split
  · rw [State.raise_fw, State.raise_mram]
    exact ⟨rfl, rfl⟩
  · exact ⟨rfl, rfl⟩

/-- The state once the limit covers the next index: where it is reached, 64 indices more are reserved. -/
def State.limitRaised (s : State) : State :=
  if s.signatureLimit ≤ s.fw.nextIndex then { s with mram := { s.mram with
    limit := s.mram.limit.write (s.signatureLimit + 64) true, writes := sat32 s.mram.writes } } else s

theorem State.limitRaised_limit {s : State} (hbelow : s.fw.nextIndex ≤ s.signatureLimit) :
    s.fw.nextIndex + 1 ≤ s.limitRaised.signatureLimit ∧ s.signatureLimit ≤ s.limitRaised.signatureLimit := by
  unfold State.limitRaised
  split
  · have hwritten : (s.mram.limit.write (s.signatureLimit + 64) true).body.getD 0 = s.signatureLimit + 64 := by
      rw [(Slots.write_readBack s.mram.limit (s.signatureLimit + 64)).1]
      rfl
    rw [show ∀ v : State, v.signatureLimit = v.mram.limit.body.getD 0 from fun _ => rfl, hwritten]
    omega
  · omega

/-- While indices are left, a signature takes the next one and never passes the reserved limit. -/
theorem State.reserve_takes {s : State} (hleft : s.fw.nextIndex < 1048576) (hbelow : s.fw.nextIndex ≤ s.signatureLimit) :
    ∃ v, s.reserve = (some s.fw.nextIndex, v) ∧ v.fw.nextIndex = s.fw.nextIndex + 1 ∧
      s.fw.nextIndex + 1 ≤ v.signatureLimit ∧ s.signatureLimit ≤ v.signatureLimit := by
  obtain ⟨hnext, hkept⟩ := State.limitRaised_limit hbelow
  have hreserve : s.reserve = (some s.fw.nextIndex,
      { s.limitRaised with fw := { s.limitRaised.fw with nextIndex := s.fw.nextIndex + 1 } }.signatureEvents) :=
    if_neg (Nat.not_le.2 hleft)
  obtain ⟨hindex, hmram⟩ := State.signatureEvents_fields
    { s.limitRaised with fw := { s.limitRaised.fw with nextIndex := s.fw.nextIndex + 1 } }
  refine ⟨_, hreserve, hindex, ?_⟩
  unfold State.signatureLimit at *
  rw [hmram]
  exact ⟨hnext, hkept⟩

theorem length_timeBytes (x : Time80) : x.bytes.length = 10 := by
  rw [Time80.bytes, List.length_append, length_le, length_le]

/-- The evidence record has 128 bytes (20 R452). -/
theorem State.length_evidenceRecord (s : State) (index : Nat) : (s.evidenceRecord index).length = 128 := by
  unfold State.evidenceRecord zeros
  simp only [List.length_append, length_le, length_fit, length_timeBytes, List.length_replicate]

/-! ### The attestation (20 R452) -/

section Attest
variable {s : State} {t : Nat} (hm : s.mainOn = true) (hacts : s.unitActs = true)
include hm hacts

theorem attestRequest_waits (hidle : s.fw.attest ≠ 1) (hleft : s.fw.nextIndex < 1048576) :
    Gives (.attestRequest t 0x4154) s fun u => OnlyChanges [.fw] s u ∧ u.fw = { s.fw with attest := 1 } := by
  have hmay : ¬ ((0x4154 : Word).toNat ≠ 0x4154 ∨ s.fw.attest = 1) := by simp [hidle]
  exact gives_fw_alone hm hacts (exec_attestRequest s) ((if_neg hmay).trans (if_neg (Nat.not_le.2 hleft))) (by decide)

theorem attestRequest_fails (hidle : s.fw.attest ≠ 1) (hnone : 1048576 ≤ s.fw.nextIndex) :
    Gives (.attestRequest t 0x4154) s fun u => OnlyChanges [.fw, .kpp, .evr] s u ∧ u.fw.attest = 3 ∧
      u.fw.evidence = [] ∧ u.fw.nextIndex = s.fw.nextIndex := by
  have hmay : ¬ ((0x4154 : Word).toNat ≠ 0x4154 ∨ s.fw.attest = 1) := by simp [hidle]
  refine (gives_fw hm hacts (exec_attestRequest s) ((if_neg hmay).trans (if_pos hnone)) (by decide)
    (by simp [changesOf])).mono fun u ⟨hl, hu⟩ => ⟨hl, ?_⟩
  rw [hu]
  exact State.exhausted_fields _

theorem attestComplete_signs (hwaits : s.fw.attest = 1) (hleft : s.fw.nextIndex < 1048576)
    (hbelow : s.fw.nextIndex ≤ s.signatureLimit) :
    Gives (.attestComplete t) s fun u => OnlyChanges [.fw, .mram, .kpp, .evr] s u ∧ u.fw.attest = 2 ∧
      u.fw.nextIndex = s.fw.nextIndex + 1 ∧ u.fw.nextIndex ≤ u.signatureLimit ∧ s.signatureLimit ≤ u.signatureLimit ∧
      u.fw.evidence.length = 5204 := by
  obtain ⟨v, hreserve, hindex, hnext, hkept⟩ := State.reserve_takes (s := s.atTime t) hleft hbelow
  have hdone : (s.atTime t).attestDone = { v with fw := { v.fw with
      attest := 2
      evidence := v.evidenceRecord s.fw.nextIndex ++ signature s.fw.nextIndex (v.evidenceRecord s.fw.nextIndex) } } := by
    unfold State.attestDone
    rw [if_neg (by simp [hwaits]), hreserve]
    rfl
  refine gives_of_unit_command (exec_attestComplete s) hm hacts hdone fun u hc hleft =>
    ⟨hc.mono (by simp [changesOf]), ?_⟩
  have hfw := hleft.2.1 .fw (by decide)
  have hmram := hleft.2.1 .mram (by decide)
  dsimp only [sameUnit] at hfw hmram
  unfold State.signatureLimit at *
  rw [← hfw, ← hmram]
  refine ⟨rfl, hindex, hindex.trans_le hnext, hkept, ?_⟩
  rw [List.length_append, State.length_evidenceRecord, length_signature]

end Attest

/-- Settles O59: a reservation takes the next index and raises the limit first where it is reached. -/
theorem noSignatureIndexIsUsedTwice : Obligations.NoSignatureIndexIsUsedTwice := by
  unfold Obligations.NoSignatureIndexIsUsedTwice
  refine ⟨?_, ?_⟩
  · intro s t hm hacts hidle
    exact ⟨attestRequest_waits hm hacts hidle, attestRequest_fails hm hacts hidle⟩
  · intro s t hm hacts hwaits hleft hbelow
    exact attestComplete_signs hm hacts hwaits hleft hbelow

end Sys2Proof.Machine
end

section
/-!
SUPPORT. The calibration: the boot calibration, drift steps and the delay measurement (21 R456 to R463).
-/

namespace Sys2Proof.Machine

/-! ### Steps of a calibration (21 R456 to R458) -/

theorem getD_mapIdx_of_lt {α : Type} {l : List α} {f : Nat → α → α} {i : Nat} {x d : α} (hi : i < l.length)
    (hf : ∀ m, f i m = x) : (mapIdx l f).getD i d = x := by
  rw [mapIdx, List.getD_eq_getElem?_getD, List.getElem?_mapIdx, List.getElem?_eq_getElem hi]
  exact hf _

/-- The reference depends on the settings and the measurement. -/
theorem State.calReference_raiseIf (s : State) (b : Bool) (c n d : Nat) (m : CalMeas) :
    (s.raiseIf b c n d).calReference m = s.calReference m := by
  unfold State.calReference
  rw [State.regN_congr (State.raiseIf_rw s b c n d) (State.raiseIf_rwp s b c n d) (State.raiseIf_spring s b c n d)]

theorem State.calMeasure_cal (s : State) (m : CalMeas) : (s.calMeasure m).cal = { s.cal with
    reference := s.calReference m, rext := m.rext, vcal := m.vcal
    failures := if s.calReference m = 2 then sat32 s.cal.failures else s.cal.failures } := State.raiseIf_cal _ _ _ _ _

theorem State.calMeasure_now (s : State) (m : CalMeas) : (s.calMeasure m).now = s.now := State.raiseIf_now _ _ _ _ _

/-- What a completed calibration of groups does. -/
theorem State.calDone_cal (s : State) (groups out : List Nat) : (s.calDone groups out).cal.count = sat32 s.cal.count ∧
    (s.calDone groups out).cal.times = mapIdx s.cal.times (fun g x => if groups.contains g then s.now else x) ∧
    (s.calDone groups out).cal.forced = s.cal.forced.filter (fun g => !groups.contains g) ∧
    (s.calDone groups out).cal.stepAt = s.cal.stepAt := ⟨rfl, rfl, rfl, rfl⟩

/-- The units of a burst before the last: the calibration and the feedback index of the channels. -/
theorem State.burst_touches (s : State) (c : Cal) (r : Rfe) : OnlyChanges [.cal, .rfe] s { s with cal := c, rfe := r } :=
  ⟨rfl, fun y hy => by cases y <;> simp_all [sameUnit]⟩

section Calibration
variable {s : State} {t : Nat} {m : CalMeas} (hm : s.mainOn = true) (hacts : s.unitActs = true)

/-! ### The boot calibration (21 R456, R458) -/

/-- The measurements of the boot calibration. -/
def State.bootMeasured (s : State) (m : CalMeas) : State :=
  (s.raiseIf (s.mram.factoryGood == 0) 0x6C03 0x07 0).calMeasure m

theorem State.bootMeasured_cal (s : State) (m : CalMeas) : (s.bootMeasured m).cal.count = s.cal.count ∧
    (s.bootMeasured m).cal.times = s.cal.times ∧ (s.bootMeasured m).cal.reference = s.calReference m ∧
    (s.bootMeasured m).now = s.now := by
  unfold State.bootMeasured
  rw [State.calMeasure_cal, State.calMeasure_now, State.calReference_raiseIf, State.raiseIf_cal, State.raiseIf_now]
  exact ⟨rfl, rfl, rfl, rfl⟩

include hm hacts

theorem bootCalibration_serves (hfill : s.mcx.bootFill = true) (hfirst : s.cal.bootRan = false) :
    Gives (.bootCalibration t m) s fun u => OnlyChanges [.cal, .mram, .kpp, .evr] s u ∧ u.cal.bootRan = true ∧
      u.cal.count = sat32 s.cal.count ∧ (∀ g, g < 32 → g < s.cal.times.length → u.cal.times.getD g 0 = max s.now t) ∧
      u.cal.bootNoRef = (s.calReference m == 2) := by
  have hmay : ¬ (s.cal.bootRan = true ∨ s.mcx.bootFill = false ∨ s.unitActs = false) := by simp [hfirst, hfill, hacts]
  refine gives_of_command (exec_bootCalibration s) hm (if_neg hmay) fun u hc hleft => ⟨hc.mono (by simp [changesOf]), ?_⟩
  obtain ⟨hcount, htimes, hreference, hnow⟩ := State.bootMeasured_cal (s.atTime t) m
  obtain ⟨hdone, hserved, -⟩ := State.calDone_cal ((s.atTime t).bootMeasured m) (List.range 32)
    (if (((s.atTime t).bootMeasured m).cal.reference == 2) = true then [] else m.outOfRange)
  have hcal := hleft.2.1 .cal (by decide)
  dsimp only [sameUnit] at hcal
  rw [← hcal]
  refine ⟨rfl, hdone.trans (congrArg sat32 hcount), fun g hg hlen => ?_, congrArg (· == 2) hreference⟩
  refine (congrArg (List.getD · g 0) hserved).trans ?_
  rw [htimes, hnow]
  exact getD_mapIdx_of_lt hlen fun x => if_pos (by simpa using hg)

/-! ### Drift steps (21 R459, R460) -/

theorem calibrateNow_forces : Gives (.calibrateNow t 0x4341) s fun u => OnlyChanges [.cal] s u ∧
    u.cal = { s.cal with forced := List.range 32 } :=
  gives_of_unit_effect (exec_calibrateNow s) hm hacts (if_pos (by decide)) (State.cal_touches _ _) fun _ hl hleft =>
    ⟨hl, (hleft.2.1 .cal (by decide)).symm⟩

/-- A drift step has served group `g` alone. -/
def ServesGroup (s : State) (t g : Nat) (u : State) : Prop :=
  OnlyChanges [.cal, .mram, .kpp, .evr] s u ∧ u.cal.count = sat32 s.cal.count ∧
      u.cal.stepAt = max s.now t ∧ g ∉ u.cal.forced ∧ (∀ k, k ≠ g → u.cal.times.getD k 0 = s.cal.times.getD k 0) ∧
      (g < s.cal.times.length → u.cal.times.getD g 0 = max s.now t)

/-- The state of a drift step after its measurements. -/
def State.stepMeasured (s : State) (m : CalMeas) : State :=
  { s.calMeasure m with cal := { (s.calMeasure m).cal with stepAt := (s.calMeasure m).now } }

omit hm hacts in
theorem State.stepMeasured_cal (s : State) (m : CalMeas) : (s.stepMeasured m).cal.count = s.cal.count ∧
    (s.stepMeasured m).cal.times = s.cal.times ∧ (s.stepMeasured m).cal.stepAt = s.now ∧
    (s.stepMeasured m).cal.reference = s.calReference m ∧ (s.stepMeasured m).now = s.now := by
  unfold State.stepMeasured
  dsimp only
  rw [State.calMeasure_cal, State.calMeasure_now]
  exact ⟨rfl, rfl, rfl, rfl, rfl⟩

section Step
variable {g : Nat} (hdue : (List.range 32).find? (s.atTime t).calDue = some g) (href : s.calReference m ≠ 2)
include hdue href

omit hm in
theorem State.driftStep_of_due : (s.atTime t).driftStep m = ((s.atTime t).stepMeasured m).calDone [g] m.outOfRange := by
  have hreference : ¬ ((s.atTime t).stepMeasured m).cal.reference = 2 := by
    rw [(State.stepMeasured_cal (s.atTime t) m).2.2.2.1]
    exact href
  refine (if_neg (ne_false_of_eq_true hacts)).trans ?_
  rw [hdue]
  exact if_neg hreference

/-- A command whose effect is a drift step serves the lowest-numbered due group. -/
theorem gives_drift_step {i : Instr} {fr : List UnitId} {f : State → State} (he : exec i s = runMain t fr f s)
    (ha : f (s.atTime t) = (s.atTime t).driftStep m) (hfr : .cal ∉ fr)
    (hl : ∀ x, x ∈ changesOf i → x ∈ [.cal, .mram, .kpp, .evr]) : Gives i s (ServesGroup s t g) := by
  refine gives_of_command he hm (ha.trans (State.driftStep_of_due hacts hdue href)) fun u hc hleft => ⟨hc.mono hl, ?_⟩
  obtain ⟨hcount, htimes, hstep, -, hnow⟩ := State.stepMeasured_cal (s.atTime t) m
  obtain ⟨hdone, hserved, hforced, hkept⟩ := State.calDone_cal ((s.atTime t).stepMeasured m) [g] m.outOfRange
  have hcal := hleft.2.1 .cal hfr
  dsimp only [sameUnit] at hcal
  rw [← hcal]
  refine ⟨hdone.trans (congrArg sat32 hcount), hkept.trans hstep, ?_, fun k hk => ?_, fun hlen => ?_⟩
  · rw [hforced]
    simp
  · rw [hserved, htimes]
    exact getD_mapIdx_fixed 0 fun x => if_neg (by simpa using hk)
  · rw [hserved, htimes, hnow]
    exact getD_mapIdx_of_lt hlen fun x => if_pos (by simp)

theorem driftCalibrationStep_serves (hturn : s.pipe.inTurn = true) (hfrom : s.pipe.turnStart + 1750000 ≤ max s.now t)
    (hto : max s.now t ≤ s.pipe.turnStart + 1850000) (honce : s.cal.stepAt < s.pipe.turnStart) :
    Gives (.driftCalibrationStep t m) s (ServesGroup s t g) := by
  have hmay : (s.pipe.inTurn && decide (s.pipe.turnStart + 1750000 ≤ max s.now t) &&
      decide (max s.now t ≤ s.pipe.turnStart + 1850000) && decide (s.cal.stepAt < s.pipe.turnStart)) = true := by
    rw [hturn, decide_eq_true hfrom, decide_eq_true hto, decide_eq_true honce]
    rfl
  exact gives_drift_step hm hacts hdue href (exec_driftCalibrationStep s) (if_pos hmay) (by decide) (by simp [changesOf])

theorem driftCalibrationTimer_serves (hidle : s.pipe.running = false) (hover : s.cal.stepAt + 40000000 ≤ max s.now t) :
    Gives (.driftCalibrationTimer t m) s (ServesGroup s t g) := by
  have hmay : ¬ (s.pipe.running || decide (max s.now t < s.cal.stepAt + 40000000)) = true := by
    rw [hidle, decide_eq_false (not_lt.2 hover)]
    decide
  exact gives_drift_step hm hacts hdue href (exec_driftCalibrationTimer s) (if_neg hmay) (by decide) (by simp [changesOf])

end Step

/-! ### The delay measurement (21 R463) -/

theorem skewMeasure_starts (hidle : s.cal.skewStatus ≠ 1) :
    Gives (.skewMeasure t 0x534B) s fun u => OnlyChanges [.cal] s u ∧
      u.cal = { s.cal with skewStatus := 1, skewBurst := 0, strobe := [0, 0, 0, 0], sums := [] } := by
  have hmay : ¬ ((0x534B : Word).toNat ≠ 0x534B ∨ s.cal.skewStatus = 1) := by simp [hidle]
  exact gives_of_unit_effect (exec_skewMeasure s) hm hacts (if_neg hmay) (State.cal_touches _ _) fun _ hl hleft =>
    ⟨hl, (hleft.2.1 .cal (by decide)).symm⟩

theorem skewMeasureBurst_counts {x : Int} {times : List (Nat × Nat × Int)} (hturn : s.pipe.inTurn = true)
    (hfrom : s.pipe.turnStart + 664000 ≤ max s.now t) (honce : s.cal.skewAt < s.pipe.turnStart)
    (hruns : s.cal.skewStatus = 1) (hfew : s.cal.skewBurst < 15) :
    Gives (.skewMeasureBurst t x times) s fun u => OnlyChanges [.cal, .rfe] s u ∧
      u.cal.skewBurst = s.cal.skewBurst + 1 ∧ u.cal.skewAt = max s.now t ∧ u.cal.skewStatus = 1 ∧
      u.reg 0x3C0020 = s.reg 0x3C0020 ∧
      u.rfe = { s.rfe with chans := s.rfe.chans.map fun c => { c with fb := s.cal.skewBurst / 4 } } := by
  have hdue : (s.pipe.inTurn && decide (s.pipe.turnStart + 664000 ≤ max s.now t) &&
      decide (s.cal.skewAt < s.pipe.turnStart)) = true := by
    rw [hturn, decide_eq_true hfrom, decide_eq_true honce]
    rfl
  have hmay : ¬ (s.cal.skewStatus ≠ 1 ∨ (s.pipe.inTurn && decide (s.pipe.turnStart + 664000 ≤ max s.now t) &&
      decide (s.cal.skewAt < s.pipe.turnStart)) = false ∨ s.unitActs = false) := by
    rw [hdue, hacts]
    simp [hruns]
  have hlast : ¬ s.cal.skewBurst + 1 = 16 := by omega
  refine gives_of_effect (exec_skewMeasureBurst s) hm ((if_neg hmay).trans (if_neg hlast)) (State.burst_touches _ _ _)
    fun u hl hleft => ⟨hl, ?_⟩
  have hcal := hleft.2.1 .cal (by decide)
  have hrfe := hleft.2.1 .rfe (by decide)
  dsimp only [sameUnit] at hcal hrfe
  have hreg : u.reg 0x3C0020 = s.reg 0x3C0020 := by
    unfold State.reg
    rw [← hl.2 .rwp (by decide), ← hl.2 .rw (by decide), ← hl.2 .spring (by decide)]
  rw [← hcal, ← hrfe]
  exact ⟨rfl, rfl, hruns, hreg, rfl⟩

end Calibration

/-- Settles O60: a completed calibration sets the time of its groups alone; a burst before the last only counts. -/
theorem calibrationsServeTheirGroups : Obligations.CalibrationsServeTheirGroups := by
  unfold Obligations.CalibrationsServeTheirGroups
  refine ⟨?_, ?_, ?_, ?_, ?_⟩
  · intro s t m hm hacts hfill hfirst
    exact bootCalibration_serves hm hacts hfill hfirst
  · exact fun s t hm hacts => calibrateNow_forces hm hacts
  · intro s t g m hm hacts hdue href served
    exact ⟨driftCalibrationStep_serves hm hacts hdue href, driftCalibrationTimer_serves hm hacts hdue href⟩
  · exact fun s t hm hacts hidle => skewMeasure_starts hm hacts hidle
  · intro s t x times hm hacts hturn hfrom honce hruns hfew
    exact skewMeasureBurst_counts hm hacts hturn hfrom honce hruns hfew

end Sys2Proof.Machine
end
